-- ==== Sys2Proof/Word.lean ====
section
/-! DEFINITION. The bit-vector words of the QV8 and the ranges of its unit numbers (R3, R4). -/

namespace Sys2Proof

/-- One byte (R4). -/
abbrev Byte := BitVec 8
/-- A 32-bit lane or field. -/
abbrev W32 := BitVec 32
/-- A 64-bit register value. -/
abbrev W64 := BitVec 64

/-- Cores 0–7; core k belongs to cluster k/2 (R3). -/
abbrev CoreId := Fin 8
/-- Clusters 0–3 (R3). -/
abbrev ClusterId := Fin 4
/-- Engine queues: 0 matrix, 1 vector, 2 core Lift, 3 post-processor (R112). -/
abbrev QueueId := Fin 4
/-- The twelve stores: 0–7 the local stores, 8–11 the cluster stores (endpoint codes of R160). -/
abbrev StoreId := Fin 12
/-- The twelve Lifts: core Lift k as k, cluster Lift c as 8 + c (R201). -/
abbrev LiftId := Fin 12
/-- Prefetch streams of a stage (R169). -/
abbrev StreamNo := Fin 4
/-- Physical tile counters (R177). -/
abbrev CounterId := Fin 64
/-- Context numbers (R193). -/
abbrev CtxId := Fin 1024
/-- Model numbers of a context (R194). -/
abbrev ModelNo := Fin 16
/-- Stage numbers of a model (R211). -/
abbrev StageNo := Fin 16
/-- Sensor ports (R3). -/
abbrev PortId := Fin 16
/-- Image pipes (R3). -/
abbrev PipeId := Fin 2
/-- Stream contexts of a pipe (R248). -/
abbrev StreamId := Fin 16
/-- Store destinations; destination d belongs to pipe d/8 (R270). -/
abbrev DestId := Fin 16
/-- Frame slots of a destination (R270). -/
abbrev SlotNo := Fin 8
/-- Encoder streams: i = 16e + s (R291). -/
abbrev EncId := Fin 32
/-- Ethernet ports (R3). -/
abbrev EthId := Fin 2
/-- DRAM controllers (R3). -/
abbrev DmcId := Fin 8
/-- Channels of a DRAM controller (R292). -/
abbrev ChannelId := Fin 4
/-- Rink ports (R3). -/
abbrev RinkPort := Fin 4
/-- Start-gate slots (R320). -/
abbrev GateSlot := Fin 16

end Sys2Proof
end

