-- ==== Sys2Proof/Syntax.lean ====
section
/-! DEFINITION. The commands of the QV8: one constructor per row of the table of operations and events, with the
operands the row's command carries. What a command's sender supplies and the specification does not fix (a packet, a
sensor reading, an access unit, a flit) is an operand (log 1, log 14). -/

namespace Sys2Proof

/-- Size and half of a BAR0 register access (R397): 4 bytes at the low or the high half of the slot, 8 bytes, or an access of another
size or alignment. BAR2's Resizable BAR control register, in configuration space, has no BAR0 offset (R219). -/
inductive RegAccess where
  | low4 | high4 | full8
  | other (bytes : Nat)
  | resizableBar
deriving DecidableEq, Repr

/-- A read of a register, by the host or the Lodge (R397, R398). -/
structure RegReading where
  size : RegAccess
  lodge : Bool
deriving DecidableEq, Repr

/-- Bytes 0–55 of a 64-byte ring entry as the host wrote them, byte i in bits 8i+7 to 8i; the OPCODE byte is the
constructor's (R228). -/
abbrev RingEntry := BitVec 448

/-- Which write on its way to a store arrives: the n-th of the engines' and Lifts' writes, or the n-th issued row
access of a control core (R119). -/
inductive WriteSource where
  | engine (n : Nat)
  | control (k : CoreId) (n : Nat)
deriving DecidableEq, Repr

/-- The Lift work that faults: the n-th command of a core's Lift queue, or the fill of a core's prefetch stream
(R171). -/
inductive LiftWork where
  | command (k : CoreId) (n : Nat)
  | fill (k : CoreId) (j : StreamNo)
deriving DecidableEq, Repr

/-- Outcome of the CSI-2 header's ECC (R247). -/
inductive EccResult where
  | clean | corrected | uncorrectable
deriving DecidableEq, Repr

/-- A CSI-2 packet as received (R247). A short packet has no payload. -/
structure Csi2Packet where
  /-- virtual channel 0–15 -/
  vc : Nat
  /-- virtual-channel extension -/
  vcx : Nat
  dt : Byte
  ecc : EccResult
  crcOk : Bool
  payload : List Byte
deriving DecidableEq, Repr

/-- A write to a commit register, by the Lodge or by the host (R258, R279, R290). -/
structure PartyWrite (w : Nat) where
  lodge : Bool
  value : BitVec w
deriving DecidableEq, Repr

/-- What else a refused store request was (R151, R154): the steps of its wait refused for a busy bank, and whether it is a read of the
matrix shadow load, which is never promoted. -/
structure RefusedRequest where
  conflicts : Nat
  shadow : Bool
deriving DecidableEq, Repr

/-- A slice, or tile group: the rows of coding blocks that it codes, and its bytes (R278). -/
structure Slice where
  rows : Nat
  bytes : List Byte
deriving DecidableEq, Repr

/-- What an encoder hands over for one frame (R278–R281): the coded bytes are the encoder's own. -/
structure AccessUnit where
  /-- parameter sets before the slices (R278) -/
  params : List Byte
  /-- the slices, or tile groups (R278) -/
  slices : List Slice
  /-- filler data after the slices (R280) -/
  filler : List Byte
  /-- the QP, or qindex, at which the frame is coded (R280) -/
  qp : Nat
  /-- an IDR frame, or a key frame (R278) -/
  idr : Bool
  /-- the stream frame number that the frame references; none in an I frame (R278) -/
  reference : Option W64
  /-- the place of the column of intra blocks in its sweep, where it has one (R278) -/
  column : Option Nat
deriving DecidableEq, Repr

/-- What an access unit's headers say of its stream (R275, R277, R282): the level as level_idc, the coded size, the sample depth
and, in an IDR access unit, the frames of the decoded picture buffer that the parameter sets demand. -/
structure CodedFrame where
  level : Nat
  width : Nat
  height : Nat
  tenBit : Bool
  dpb : Option Nat
deriving DecidableEq, Repr

/-- How the decoder ends a descriptor (R282). -/
inductive DecodeResult where
  /-- decoded without an error: what the headers say, and the rows of luma and of chroma -/
  | done (frame : CodedFrame) (luma chroma : List (List Byte))
  /-- a bitstream error -/
  | concealed
  /-- a profile that the decoder does not have (R275) -/
  | unsupported
deriving DecidableEq, Repr

/-- Body of a PTP message (R284, IEEE 1588). Times are TAI in ns. -/
inductive PtpBody where
  /-- Announce: the master's data set, in the order of the best master clock algorithm, as a number: the lower is the better -/
  | announce (rank : Nat)
  /-- Sync, with its origin time stamp where it is one-step -/
  | sync (origin : Option Nat)
  /-- Follow_Up with the origin time stamp of the Sync before it -/
  | followUp (origin : Nat)
  /-- Delay_Resp with the receive time stamp of the request -/
  | delayResp (received : Nat)
  | pdelayReq
  /-- Pdelay_Resp with the neighbour's receive and transmit time stamps -/
  | pdelayResp (received sent : Nat)
  | other
deriving DecidableEq, Repr

/-- A PTP message addressed to the port or to a PTP group (R283, R284): its transport, domain and source port identity. -/
structure PtpMessage where
  ieee8023 : Bool
  domain : Byte
  source : BitVec 80
  body : PtpBody
deriving DecidableEq, Repr

/-- A received Ethernet frame (R283, R284): a PTP message that the port accepts, or any other frame. -/
inductive EthFrame where
  | ptp (m : PtpMessage)
  | other
deriving DecidableEq, Repr

/-- Service classes of the DRAM controllers (R297). -/
inductive DramClass where
  | rt | ctl | bulk | groom
deriving DecidableEq, Repr

/-- Who requests of the DRAM controllers (R297). -/
inductive DramRequester where
  | pipe | encoder | decoder | ethernet | walk | lodge | lift | modelLoad | bar2 | scrub | initialise
deriving DecidableEq, Repr

/-- A 64-byte request at a DRAM controller's input (R297). -/
structure DramRequest where
  requester : DramRequester
  write : Bool
  addr : Nat
  data : List Byte
  /-- context and job the request belongs to, when a job made it -/
  job : Option (CtxId × BitVec 32)
deriving DecidableEq, Repr

/-- What befell an access in the devices, and the syndrome of its check (R300, R307). -/
structure DramOutcome where
  /-- the symbols of the block and its check code, 0–67, that are in error -/
  bad : List (Fin 68)
  /-- a data pin has failed -/
  pin : Bool
  /-- the access reached the wrong row or column -/
  wrongPlace : Bool
  /-- errors in four bytes or more that the code does not detect -/
  missed : Bool
  syndrome : W32
deriving DecidableEq, Repr

/-- A command to a channel's devices (R307). -/
inductive DramCmd where
  | activate | read | write | refresh | manage | entry | exit | modeRead | calibrate
deriving DecidableEq, Repr

/-- A command of a channel's upkeep that no row of the table shows: a precharge, a clock synchronisation (R307). -/
structure UpkeepCommand where
  channel : Fin 4
  gate : W64
  bits : W32
deriving DecidableEq, Repr

/-- What decides a channel's entry into self-refresh (R304). -/
structure SelfRefreshTry where
  /-- a refresh or a calibration falls due within 1 us -/
  dueSoon : Bool
  /-- a request arrives before the entry command is issued -/
  abandoned : Bool
deriving DecidableEq, Repr

/-- The device found at the other end of a Rink link (R309, R315, R317). -/
structure RinkPeer where
  id : BitVec 12
  enumerated : Bool
  master : Bool
  partnerPrimary : Bool
  takeoverGate : W64
  /-- the partner has heard this device since its own reset (R329) -/
  heard : Bool
deriving DecidableEq, Repr

/-- A received flit as it came over the link (R310): bytes [3:0], the payload, the CRC, and the FEC codewords of it that were
corrected (R335). What the payload says is the command's other operand. -/
structure FlitHeader where
  word : W32
  payload : List Byte
  crc : W32
  fec : Nat
deriving DecidableEq, Repr

/-- What a twin says of itself with its heartbeat (R326, R329): primary or not, since which gate count, and whether it has heard
the other since its own reset. -/
structure TwinState where
  primary : Bool
  since : W64
  heard : Bool
deriving DecidableEq, Repr

/-- Payload of a control flit (R311, R312): acknowledgement, negative acknowledgement, credits, heartbeat. -/
structure ControlFlit where
  header : FlitHeader
  ack : BitVec 12
  nack : Option (BitVec 12)
  credits : List Nat
  heartbeat : Bool
  twin : Option TwinState
  /-- start-gate slots whose broadcast arm a member refused, and accepted, as its acknowledgement says (R321) -/
  refusals : List GateSlot
  accepted : List GateSlot
deriving DecidableEq, Repr

/-- Exchange data (R311). -/
structure ExchangeData where
  source : BitVec 12
  ctx : CtxId
  model : ModelNo
  job : W32
  va : W64
  bytes : List Byte
deriving DecidableEq, Repr

/-- Cascade completion update (R323): the sender, its place among the members, context, model, job count, counter and index. -/
structure Completion where
  source : BitVec 12
  member : Nat
  ctx : CtxId
  model : ModelNo
  job : W32
  counter : Fin 16
  index : W32
deriving DecidableEq, Repr

/-- Synchro signature record (R332). -/
structure Signature where
  ctx : CtxId
  model : ModelNo
  job : W32
  counter : Fin 16
  index : W64
  sig : W64
  slalom : Option (Fin 16 × W32)
deriving DecidableEq, Repr

/-- A broadcast start-gate arm (R321). -/
structure GateArm where
  slot : GateSlot
  gate : W64
  ctx : CtxId
  model : ModelNo
deriving DecidableEq, Repr

/-- What an enumerated device tells its master of its links that are up (R315): its identifier and, the port that leads to the master
first and the others in ascending order, the identifier of an enumerated neighbour, and that the link is one of the tree. -/
structure LinkReport where
  reporter : BitVec 12
  links : List (RinkPort × Option (BitVec 12) × Bool)
deriving DecidableEq, Repr

/-- Enumeration and route table (R315): identifier given, hops, tree link or, where a device only makes itself known to a neighbour,
none, and the parent's gate count. -/
structure Enumeration where
  id : BitVec 12
  hops : Nat
  tree : Bool
  masterElsewhere : Bool
  parentGate : W64
  /-- the port that leads to each device; none where a new master asks the device for its links (R327) -/
  routes : List (BitVec 12 × RinkPort)
  /-- identifiers of the master and of the device that hands the message over the last link -/
  master : BitVec 12
  parent : BitVec 12
  /-- the identifier is for the device behind this port of the destination -/
  forPort : Option RinkPort
  /-- the message is a report to the master -/
  report : Option LinkReport
  /-- the sender's part of the cascade has lost the master (R316, R317) -/
  lost : Bool
deriving DecidableEq, Repr

/-- Pairs takeover notice (R327): sender and the gate count at which it became primary. -/
structure Takeover where
  sender : BitVec 12
  gate : W64
deriving DecidableEq, Repr

/-- The four stamps of a time-stamp exchange in tenths of a nanosecond (R318). -/
structure TimeStamps where
  t1 : Nat
  t2 : Nat
  t3 : Nat
  t4 : Nat
deriving DecidableEq, Repr

/-- Cause of a cascade abort (R325, R368). -/
inductive AbortCause where
  | notInMember | memberNotEnumerated | memberJobEnded | exchangeTranslation | messageDiscarded | laterJob
deriving DecidableEq, Repr

/-- The cascade job of a context that an abort ends (R324, R325): its model, and the count n. -/
structure CascadeJob where
  model : ModelNo
  n : W32
deriving DecidableEq, Repr

/-- Where a cascade abort comes from (R325): this member detects its cause, or it arrives at a port in a flit. `tell` is set by a
device that has discarded a message of the job and is no member: the member that hears of it tells the others. -/
inductive AbortSource where
  | here
  | link (n : RinkPort) (h : FlitHeader) (tell : Bool)
deriving DecidableEq, Repr

/-- A cascade abort (R325). -/
structure AbortNotice where
  cause : AbortCause
  source : AbortSource
deriving DecidableEq, Repr

/-- The steps of a window in which an engine has real work (R64, R357): slices of the matrix engine, and steps of the vector engine
with its window path. -/
structure ActivityOffered where
  matrix : Nat
  vector : Nat
deriving DecidableEq, Repr

/-- Length of a low pulse on POR_N (R388). -/
inductive PorPulse where
  /-- shorter than 1 µs -/
  | short
  /-- between 1 µs and 10 µs: may be either; the flag says which -/
  | between (taken : Bool)
  | long
deriving DecidableEq, Repr

/-- Refresh management of a device (R301): the activates of a bank at which it is due, the most that a bank may take, and how far a
refresh lowers the count. -/
structure RefreshManagement where
  threshold : Nat
  maximum : Nat
  credit : Nat
deriving DecidableEq, Repr

/-- What the board gives at the release of POR_N and what training finds (R294, R343, R389). -/
structure BootInputs where
  masterSel : Bool
  pairRole : Bool
  tbRunning : Bool
  /-- for each controller the highest speed code at which it trains, or none where it fails at 6,400 MT/s too -/
  trained : List (Option (Fin 3))
  /-- for each of the 32 channels, its density per rank in Gb, and whether it has two ranks (R293) -/
  channels : List (Nat × Bool)
  /-- refresh management as the devices' mode registers declare it (R301) -/
  rfm : Option RefreshManagement
  /-- what the board's own path has written to the flash, as runs of bytes -/
  flash : List (Nat × List Byte)
  /-- the links that train, and the enumeration that arrives, after Rink training starts and before STATE is READY (R318, R343) -/
  early : List (RinkPort × RinkPeer)
  earlyEnum : Option (RinkPort × Enumeration)
deriving DecidableEq, Repr

/-- One on-die sensor: tenths of a degree and self-check (R358). -/
structure SensorReading where
  deciC : Int
  passes : Bool
deriving DecidableEq, Repr

/-- Events of the last 2 µs that the power estimator counts (R352): matrix slices by class, spin-fill steps, vector and window steps,
store row accesses, Lift requests, Piste transfers, DRAM commands, pipe and codec pixels, and active SerDes lanes. -/
structure PowerEvents where
  slices : Vector Nat 3
  spin : Nat
  vector : Nat
  window : Nat
  rows : Nat
  lift : Nat
  piste : Nat
  dram : Nat
  pipePixels : Nat
  codecPixels : Nat
  lanes : Nat
deriving DecidableEq, Repr

/-- Whether the regulators of VDD_CORE and VDD_SRAM acknowledge a command in one of three attempts (R354, R384). -/
structure RailAcks where
  core : Bool
  sram : Bool
deriving DecidableEq, Repr

/-- A sample of the sensor hub, and the regulators' answers to what firmware commands on it (R358, R384). -/
structure ThermalReadings where
  sensors : List SensorReading
  acks : RailAcks
deriving DecidableEq, Repr

/-- Reference clocks (R391). -/
inductive RefClock where
  | pcie | tb | aphy | eth
deriving DecidableEq, Repr

/-- The commands: one constructor per row of the table. -/
inductive Instr where
  /-- NOP (R104): Milac NOP issues and does nothing for one step. -/
  | ccNop (k : CoreId) (w : BitVec 56)
  /-- ADD (R104): Milac ADD writes the 64-bit wrapped sum of two registers. -/
  | ccAdd (k : CoreId) (w : BitVec 56)
  /-- ADDI (R104): Milac ADDI writes the wrapped sum of a register and the sign-extended immediate. -/
  | ccAddi (k : CoreId) (w : BitVec 56)
  /-- SUB (R104): Milac SUB writes the 64-bit wrapped difference of two registers. -/
  | ccSub (k : CoreId) (w : BitVec 56)
  /-- MUL (R104): Milac MUL writes the low 64 bits of a product. -/
  | ccMul (k : CoreId) (w : BitVec 56)
  /-- MULHS (R104): Milac MULHS writes the high 64 bits of a signed product. -/
  | ccMulhs (k : CoreId) (w : BitVec 56)
  /-- MULHU (R104): Milac MULHU writes the high 64 bits of an unsigned product. -/
  | ccMulhu (k : CoreId) (w : BitVec 56)
  /-- DIVS (R105): Milac DIVS writes the signed truncated quotient and sets DIVZ on division by zero. -/
  | ccDivs (k : CoreId) (w : BitVec 56)
  /-- DIVU (R105): Milac DIVU writes the unsigned quotient and sets DIVZ on division by zero. -/
  | ccDivu (k : CoreId) (w : BitVec 56)
  /-- REMS (R105): Milac REMS writes the signed remainder with the dividend's sign. -/
  | ccRems (k : CoreId) (w : BitVec 56)
  /-- REMU (R105): Milac REMU writes the unsigned remainder. -/
  | ccRemu (k : CoreId) (w : BitVec 56)
  /-- AND (R104): Milac AND writes the bitwise AND of two registers. -/
  | ccAnd (k : CoreId) (w : BitVec 56)
  /-- ANDI (R104): Milac ANDI writes the AND of a register and the immediate. -/
  | ccAndi (k : CoreId) (w : BitVec 56)
  /-- OR (R104): Milac OR writes the bitwise OR of two registers. -/
  | ccOr (k : CoreId) (w : BitVec 56)
  /-- ORI (R104): Milac ORI writes the OR of a register and the immediate. -/
  | ccOri (k : CoreId) (w : BitVec 56)
  /-- XOR (R104): Milac XOR writes the bitwise XOR of two registers. -/
  | ccXor (k : CoreId) (w : BitVec 56)
  /-- XORI (R104): Milac XORI writes the XOR of a register and the immediate. -/
  | ccXori (k : CoreId) (w : BitVec 56)
  /-- SHL (R105): Milac SHL shifts left by an unmasked count, giving 0 at 64 or more. -/
  | ccShl (k : CoreId) (w : BitVec 56)
  /-- SHLI (R105): Milac SHLI shifts left by the immediate read as u32. -/
  | ccShli (k : CoreId) (w : BitVec 56)
  /-- SHR (R105): Milac SHR shifts right logically by an unmasked count. -/
  | ccShr (k : CoreId) (w : BitVec 56)
  /-- SHRI (R105): Milac SHRI shifts right logically by the immediate. -/
  | ccShri (k : CoreId) (w : BitVec 56)
  /-- SRA (R105): Milac SRA shifts right arithmetically, giving the sign fill for large counts. -/
  | ccSra (k : CoreId) (w : BitVec 56)
  /-- SRAI (R105): Milac SRAI shifts right arithmetically by the immediate. -/
  | ccSrai (k : CoreId) (w : BitVec 56)
  /-- MIN (R104): Milac MIN writes the signed minimum. -/
  | ccMin (k : CoreId) (w : BitVec 56)
  /-- MAX (R104): Milac MAX writes the signed maximum. -/
  | ccMax (k : CoreId) (w : BitVec 56)
  /-- MINU (R104): Milac MINU writes the unsigned minimum. -/
  | ccMinu (k : CoreId) (w : BitVec 56)
  /-- MAXU (R104): Milac MAXU writes the unsigned maximum. -/
  | ccMaxu (k : CoreId) (w : BitVec 56)
  /-- MOVI (R104): Milac MOVI writes the sign-extended immediate. -/
  | ccMovi (k : CoreId) (w : BitVec 56)
  /-- MOVH (R104): Milac MOVH replaces the upper 32 bits of a register with the immediate. -/
  | ccMovh (k : CoreId) (w : BitVec 56)
  /-- MADD (R104): Milac MADD writes the wrapped multiply-add of three registers. -/
  | ccMadd (k : CoreId) (w : BitVec 56)
  /-- SEL (R104): Milac SEL chooses between two registers by a predicate. -/
  | ccSel (k : CoreId) (w : BitVec 56)
  /-- CMP (R104): Milac CMP sets a predicate from a relation between two registers. -/
  | ccCmp (k : CoreId) (w : BitVec 56)
  /-- CMPI (R104): Milac CMPI sets a predicate from a relation between a register and the immediate. -/
  | ccCmpi (k : CoreId) (w : BitVec 56)
  /-- PLOG (R104): Milac PLOG sets a predicate from a truth table of two predicates. -/
  | ccPlog (k : CoreId) (w : BitVec 56)
  /-- RDS (R101): Milac RDS reads a tile-state or feature word by selector. -/
  | ccRds (k : CoreId) (w : BitVec 56)
  /-- LIDX (R107): Milac LIDX reads the index of an active loop level. -/
  | ccLidx (k : CoreId) (w : BitVec 56)
  /-- BR (R106): Milac BR branches relative to the PC, checking partition and loop exit. -/
  | ccBr (k : CoreId) (w : BitVec 56)
  /-- JR (R106): Milac JR jumps to a register address. -/
  | ccJr (k : CoreId) (w : BitVec 56)
  /-- CALL (R106): Milac CALL saves the return address in g31 and branches. -/
  | ccCall (k : CoreId) (w : BitVec 56)
  /-- RET (R106): Milac RET jumps to g31. -/
  | ccRet (k : CoreId) (w : BitVec 56)
  /-- LOOP (R107): Milac LOOP opens a zero-overhead loop level or skips its body. -/
  | ccLoop (k : CoreId) (w : BitVec 56)
  /-- BREAK (R107): Milac BREAK leaves the innermost loop. -/
  | ccBreak (k : CoreId) (w : BitVec 56)
  /-- END (R108): Milac END begins the end of the tile, optionally marking a Slalom gate candidate. -/
  | ccEnd (k : CoreId) (w : BitVec 56)
  /-- HALT (R115): Milac HALT halts the core with reason 0x10 and its detail. -/
  | ccHalt (k : CoreId) (w : BitVec 56)
  /-- TRACE (R108): Milac TRACE posts a trace point to the Lodge. -/
  | ccTrace (k : CoreId) (w : BitVec 56)
  /-- LD (R109): Milac LD loads a 64-bit word from the data partition. -/
  | ccLd (k : CoreId) (w : BitVec 56)
  /-- LW (R109): Milac LW loads a sign-extended 32-bit word. -/
  | ccLw (k : CoreId) (w : BitVec 56)
  /-- LWU (R109): Milac LWU loads a zero-extended 32-bit word. -/
  | ccLwu (k : CoreId) (w : BitVec 56)
  /-- ST (R109): Milac ST stores a 64-bit word to the data partition. -/
  | ccSt (k : CoreId) (w : BitVec 56)
  /-- SW (R109): Milac SW stores a 32-bit word. -/
  | ccSw (k : CoreId) (w : BitVec 56)
  /-- RLD (R110): Milac RLD issues a row read from a store into a data-store slot. -/
  | ccRld (k : CoreId) (w : BitVec 56)
  /-- RST (R110): Milac RST captures a data-store slot and issues its row write to a store. -/
  | ccRst (k : CoreId) (w : BitVec 56)
  /-- AADD (R111): Milac AADD issues an atomic fetch-and-add on a store word. -/
  | ccAadd (k : CoreId) (w : BitVec 56)
  /-- ACAS (R111): Milac ACAS issues an atomic compare-and-swap on a store word. -/
  | ccAcas (k : CoreId) (w : BitVec 56)
  /-- FENCE (R121): Milac FENCE orders the core's row accesses of the kinds in its mask. -/
  | ccFence (k : CoreId) (w : BitVec 56)
  /-- PUSH (R112): Milac PUSH checks a 128-bit descriptor and appends it to an engine queue. -/
  | ccPush (k : CoreId) (w : BitVec 56)
  /-- PUSHD (R112): Milac PUSHD checks and appends a batch of descriptors from the data store. -/
  | ccPushd (k : CoreId) (w : BitVec 56)
  /-- TWAIT (R113): Milac TWAIT waits for a token counter to reach a value and subtracts it. -/
  | ccTwait (k : CoreId) (w : BitVec 56)
  /-- TSIG (R113): Milac TSIG adds to a token counter, halting on overflow. -/
  | ccTsig (k : CoreId) (w : BitVec 56)
  /-- TDEC (R113): Milac TDEC subtracts from a token counter without waiting, halting on underflow. -/
  | ccTdec (k : CoreId) (w : BitVec 56)
  /-- CLAIM (R114): Milac CLAIM requests the next tile index from a bound shared tile counter. -/
  | ccClaim (k : CoreId) (w : BitVec 56)
  /-- TOKEN_WAIT_SATISFIED (R113): A stalled TWAIT finds its counter sufficient, consumes the tokens and completes. -/
  | tokenWaitSatisfied (k : CoreId)
  /-- QUEUE_ROOM_FREED (R112): A PUSH or PUSHD stalled on a full queue finds room and appends. -/
  | queueRoomFreed (k : CoreId)
  /-- ROW_READ_RETURN (R110): The data of a row read or atomic returns and fills its slot or register. -/
  | rowReadReturn (k : CoreId) (n : Nat)
  /-- CLAIM_SERVED (R179): The tile-counter unit serves a waiting claim from the return list or NEXT, or reports exhaustion. -/
  | claimServed (c : CounterId)
  /-- MSTREAM (R128): Matrix MSTREAM streams vectors through the array into accumulator entries, opening or continuing a chain. -/
  | mstream (k : CoreId)
  /-- MLOAD (R47): Matrix MLOAD writes the shadow set and its scales. -/
  | mload (k : CoreId)
  /-- MSWAP (R48): Matrix MSWAP exchanges the stationary and shadow sets through the array. -/
  | mswap (k : CoreId)
  /-- MTWID (R63): Matrix MTWID fills the shadow set from the twiddle ROM. -/
  | mtwid (k : CoreId)
  /-- MREAD (R58): Matrix MREAD converts accumulator entries into local-store rows. -/
  | mread (k : CoreId)
  /-- MSPILL (R59): Matrix MSPILL writes accumulator entries to rows in spill format. -/
  | mspill (k : CoreId)
  /-- MFILL (R59): Matrix MFILL loads accumulator entries from spill rows. -/
  | mfill (k : CoreId)
  /-- MSPIN (R66): Matrix MSPIN raises and holds array activity with spin fill. -/
  | mspin (k : CoreId)
  /-- MPARAM (R129): Matrix MPARAM supplies the stream number and index for the following stochastic MREAD. -/
  | mparam (k : CoreId)
  /-- ACTIVITY_WINDOW_END (R64): A 256-step activity window ends and the next window's spin fill or withheld slices are set by the slope limit. -/
  | activityWindowEnd (k : CoreId) (offered : ActivityOffered)
  /-- VLD (R69): Vector VLD decodes elements from local-store rows into registers. -/
  | vld (k : CoreId)
  /-- VST (R70): Vector VST converts register lanes and writes them to local-store rows. -/
  | vst (k : CoreId)
  /-- VPARAM (R132): Vector VPARAM supplies the stream and index for the following stochastic VST. -/
  | vparam (k : CoreId)
  /-- BCAST (R71): Vector BCAST copies one lane to all lanes. -/
  | vBcast (k : CoreId)
  /-- SHUF (R71): Vector SHUF permutes lanes by an index register. -/
  | vShuf (k : CoreId)
  /-- VEC_ADD (R72): Vector integer ADD in wrap or saturate form. -/
  | vAdd (k : CoreId)
  /-- VEC_SUB (R72): Vector integer SUB in wrap or saturate form. -/
  | vSub (k : CoreId)
  /-- VEC_MUL (R72): Vector integer MUL in wrap or saturate form. -/
  | vMul (k : CoreId)
  /-- MULH (R72): Vector MULH returns the high half of the exact product. -/
  | vMulh (k : CoreId)
  /-- VEC_MIN (R72): Vector integer MIN. -/
  | vMin (k : CoreId)
  /-- VEC_MAX (R72): Vector integer MAX. -/
  | vMax (k : CoreId)
  /-- NEG (R75): Vector integer NEG with wrap or saturate at MIN. -/
  | vNeg (k : CoreId)
  /-- ABS (R75): Vector integer ABS with wrap or saturate at MIN. -/
  | vAbs (k : CoreId)
  /-- VEC_AND (R72): Vector bitwise AND. -/
  | vAnd (k : CoreId)
  /-- VEC_OR (R72): Vector bitwise OR. -/
  | vOr (k : CoreId)
  /-- VEC_XOR (R72): Vector bitwise XOR. -/
  | vXor (k : CoreId)
  /-- NOT (R72): Vector bitwise NOT. -/
  | vNot (k : CoreId)
  /-- VEC_SHL (R74): Vector SHL with unmasked count, wrapping or saturating. -/
  | vShl (k : CoreId)
  /-- VEC_SHR (R74): Vector logical right shift. -/
  | vShr (k : CoreId)
  /-- VEC_SRA (R74): Vector arithmetic right shift. -/
  | vSra (k : CoreId)
  /-- SRAR (R74): Vector rounding arithmetic right shift, ties to even. -/
  | vSrar (k : CoreId)
  /-- NRW (R72): Vector NRW narrows a 32-bit lane to W bits by wrap or saturation. -/
  | vNrw (k : CoreId)
  /-- VEC_CMP (R71): Vector integer CMP writes all ones or zero per lane. -/
  | vCmp (k : CoreId)
  /-- VEC_SEL (R71): Vector SEL chooses lanes by a mask register. -/
  | vSel (k : CoreId)
  /-- DIV (R73): Vector DIV truncates the quotient, never trapping on zero. -/
  | vDiv (k : CoreId)
  /-- REM (R73): Vector REM gives the remainder with the dividend's sign. -/
  | vRem (k : CoreId)
  /-- FADD (R76): Vector FP32 add. -/
  | vFadd (k : CoreId)
  /-- FSUB (R76): Vector FP32 subtract. -/
  | vFsub (k : CoreId)
  /-- FMUL (R76): Vector FP32 multiply. -/
  | vFmul (k : CoreId)
  /-- FMA (R76): Vector FP32 fused multiply-add with one rounding. -/
  | vFma (k : CoreId)
  /-- FMIN (R77): Vector FP32 minimum with NaN propagation. -/
  | vFmin (k : CoreId)
  /-- FMAX (R77): Vector FP32 maximum with NaN propagation. -/
  | vFmax (k : CoreId)
  /-- FNEG (R76): Vector FP32 negate. -/
  | vFneg (k : CoreId)
  /-- FABS (R76): Vector FP32 absolute value. -/
  | vFabs (k : CoreId)
  /-- FCMP (R77): Vector FP32 compare with EQ, NE, LT or LE. -/
  | vFcmp (k : CoreId)
  /-- CVTF (R78): Vector CVTF converts S32 lanes to FP32. -/
  | vCvtf (k : CoreId)
  /-- CVTI (R78): Vector CVTI converts FP32 lanes to S32 with saturation. -/
  | vCvti (k : CoreId)
  /-- FDIV (R76): Vector FP32 divide. -/
  | vFdiv (k : CoreId)
  /-- FSQRT (R76): Vector FP32 square root. -/
  | vFsqrt (k : CoreId)
  /-- RCP (R81): Vector correctly rounded reciprocal. -/
  | vRcp (k : CoreId)
  /-- RSQRT (R81): Vector correctly rounded reciprocal square root. -/
  | vRsqrt (k : CoreId)
  /-- EXP (R81): Vector correctly rounded exponential. -/
  | vExp (k : CoreId)
  /-- EXP2 (R81): Vector correctly rounded base-2 exponential. -/
  | vExp2 (k : CoreId)
  /-- LOG (R81): Vector correctly rounded natural logarithm. -/
  | vLog (k : CoreId)
  /-- LOG2 (R81): Vector correctly rounded base-2 logarithm. -/
  | vLog2 (k : CoreId)
  /-- SIN (R81): Vector correctly rounded sine. -/
  | vSin (k : CoreId)
  /-- COS (R81): Vector correctly rounded cosine. -/
  | vCos (k : CoreId)
  /-- TANH (R81): Vector correctly rounded hyperbolic tangent. -/
  | vTanh (k : CoreId)
  /-- SIGM (R81): Vector correctly rounded sigmoid. -/
  | vSigm (k : CoreId)
  /-- ERF (R81): Vector correctly rounded error function. -/
  | vErf (k : CoreId)
  /-- RSUM (R80): Vector tree sum of 256 lanes into lane 0. -/
  | vRsum (k : CoreId)
  /-- RMAX (R80): Vector tree maximum of 256 lanes into lane 0. -/
  | vRmax (k : CoreId)
  /-- RMIN (R80): Vector tree minimum of 256 lanes into lane 0. -/
  | vRmin (k : CoreId)
  /-- AMAX (R87): Vector AMAX computes largest, smallest and absolute maximum per group or tensor. -/
  | vAmax (k : CoreId)
  /-- DERIVE (R88): Vector DERIVE turns AMAX results into scale codes and values. -/
  | vDerive (k : CoreId)
  /-- WGEOM (R132): Vector WGEOM sets the window geometry for the tile. -/
  | vWgeom (k : CoreId)
  /-- WLOAD (R84): Window WLOAD loads rows into the window weight buffer. -/
  | vWload (k : CoreId)
  /-- DW (R84): Window DW computes a depthwise convolution for a run of positions. -/
  | vDw (k : CoreId)
  /-- GRP (R84): Window GRP computes a grouped convolution for a run of positions. -/
  | vGrp (k : CoreId)
  /-- MAXP (R84): Window MAXP computes max pooling. -/
  | vMaxp (k : CoreId)
  /-- MINP (R84): Window MINP computes min pooling. -/
  | vMinp (k : CoreId)
  /-- SUMP (R84): Window SUMP computes sum pooling. -/
  | vSump (k : CoreId)
  /-- DETECT (R133): Post-processor DETECT decodes, thresholds, sorts, suppresses and writes a box list. -/
  | detect (c : ClusterId)
  /-- LCOPY (R162): Lift LCOPY copies or decodes rows between endpoints. -/
  | lcopy (k : CoreId) (n : Nat)
  /-- LSKEW (R163): Lift LSKEW writes plain vectors in skewed slice form. -/
  | lskew (k : CoreId) (n : Nat)
  /-- LFILL (R162): Lift LFILL writes rows of a 16-bit pattern. -/
  | lfill (k : CoreId) (n : Nat)
  /-- LADDR (R161): Lift LADDR describes the runs of the virtual-address endpoint of the next command. -/
  | laddr (k : CoreId) (n : Nat)
  /-- COMMAND_BEGIN (R125): An engine command at the head of its queue has its token wait satisfied, consumes it and begins, with its begin checks. -/
  | commandBegin (k : CoreId) (q : QueueId)
  /-- COMMAND_COMPLETE (R135): An engine or Lift command completes and posts its tokens. -/
  | commandComplete (k : CoreId) (q : QueueId) (n : Nat)
  /-- HUNG_CORE_HALT (R141): After 20,000 steps without progress the step monitor halts the core with 0x08. -/
  | hungCoreHalt (k : CoreId)
  /-- HALT_RECORD (R115): Once a halted core is idle the Lodge copies its halt registers into an error record and ends the job. -/
  | haltRecord (k : CoreId)
  /-- TILE_COMPLETE (R108): END's waits are done and the tile is reported complete, completing its index and clearing residual tokens. -/
  | tileComplete (k : CoreId)
  /-- TILE_LAUNCH (R209): A core launches the next tile of the highest-priority resident stage with a released index. -/
  | tileLaunch (k : CoreId)
  /-- STORE_REQUEST_PROMOTION (R151): A store request refused in 32 consecutive steps is promoted. -/
  | storeRequestPromotion (st : StoreId) (wait : Nat) (busy : RefusedRequest)
  /-- PISTE_TRANSFER_PROMOTION (R153): A Piste transfer waiting 128 slots at a router output is promoted. -/
  | pisteTransferPromotion (wait : Nat)
  /-- ROW_WRITE_ARRIVAL (R185): A row write reaches its store and is performed, accumulated or dropped by epoch. -/
  | rowWriteArrival (src : WriteSource)
  /-- LIFT_FAULT (R171): A Lift request finds no translation and its command or fill stops with a saved position. -/
  | liftFault (work : LiftWork)
  /-- LIFT_RESUME (R172): A Lodge write of RESUME reissues every stopped command of the context from its saved position. -/
  | liftResume (l : LiftId)
  /-- STREAM_CLAIM (R170): A prefetch stream holding fewer than DEPTH+1 indices claims the next index. -/
  | streamClaim (k : CoreId)
  /-- STREAM_FILL (R170): A prefetch stream fills the next free slot for a claimed index. -/
  | streamFill (k : CoreId) (j : StreamNo)
  /-- JOB_LAUNCH (R177): A job binds its tile counters, copies its arguments and launches. -/
  | jobLaunch (ctx : CtxId) (job : BitVec 32)
  /-- PREEMPTION (R186): The Lodge takes a core from a stage, raising its epoch and returning held indices. -/
  | preemption (k : CoreId)
  /-- ABANDONMENT (R186): A tile stopped on a fault beyond ABANDON is abandoned and its index returned. -/
  | abandonment (k : CoreId)
  /-- STAGE_STARVATION_RETURN (R209): A stage kept off a core beyond ABANDON has its held indices returned. -/
  | stageStarvationReturn (k : CoreId) (ctx : CtxId) (model : ModelNo) (stage : StageNo)
  /-- RING_DOORBELL (R227): A write to HIF_RING_TAIL moves TAIL or is ignored with RING_ERR. -/
  | ringDoorbell (v : BitVec 64)
  /-- RING_ENABLE (R225): Writing ENABLE 1 starts consumption, the status block and heartbeat timing. -/
  | ringEnable (clearErr : Bool)
  /-- RING_DISABLE (R227): Writing ENABLE 0 stops consumption after the entry in progress. -/
  | ringDisable (clearErr : Bool)
  /-- RING_BASE_WRITE (R227): A write to HIF_RING_BASE or HIF_RING_SIZE while disabled sets HEAD and TAIL to 0. -/
  | ringBaseWrite (size : Bool) (v : BitVec 64)
  /-- VERSION_CHECK (R226): A write to HIF_DRV_VERSION runs the major and minor version check. -/
  | versionCheck (v : BitVec 32)
  /-- RING_NOP (R231): Ring NOP completes at consumption. -/
  | ringNop (e : RingEntry)
  /-- BARRIER (R231): Ring BARRIER completes when every earlier command has completed. -/
  | barrier (e : RingEntry)
  /-- FENCE_REGISTER (R234): Ring FENCE_REGISTER registers a fence and writes its initial value. -/
  | fenceRegister (e : RingEntry)
  /-- FENCE_RELEASE (R234): Ring FENCE_RELEASE frees a fence index and discards a pending raise. -/
  | fenceRelease (e : RingEntry)
  /-- CTX_CREATE (R194): Ring CTX_CREATE creates a context with its root and attributes. -/
  | ctxCreate (e : RingEntry)
  /-- CTX_SET (R194): Ring CTX_SET changes context attributes or unparks the context. -/
  | ctxSet (e : RingEntry)
  /-- CTX_DESTROY (R240): Ring CTX_DESTROY starts the destruction sequence of a context. -/
  | ctxDestroy (e : RingEntry)
  /-- CTX_INVALIDATE (R199): Ring CTX_INVALIDATE invalidates the context's cached translations. -/
  | ctxInvalidate (e : RingEntry)
  /-- CTX_FAULT (R202): Ring CTX_FAULT resumes or refuses the context's stopped Lift faults. -/
  | ctxFault (e : RingEntry)
  /-- MODEL_REGISTER (R233): Ring MODEL_REGISTER occupies a model number and starts verification. -/
  | modelRegister (e : RingEntry)
  /-- MODEL_UNREGISTER (R231): Ring MODEL_UNREGISTER frees a model once it has no job and is non-resident. -/
  | modelUnregister (e : RingEntry)
  /-- MODEL_HINT (R207): Ring MODEL_HINT sets a residence hint of PIN, KEEP, LOAD or DROP. -/
  | modelHint (e : RingEntry)
  /-- JOB_SUBMIT (R232): Ring JOB_SUBMIT queues a job and returns its job number. -/
  | jobSubmit (e : RingEntry)
  /-- STANDING_BIND (R270): Ring STANDING_BIND binds a store destination to a model as a standing job. -/
  | standingBind (e : RingEntry)
  /-- STANDING_UNBIND (R231): Ring STANDING_UNBIND ends a standing binding. -/
  | standingUnbind (e : RingEntry)
  /-- BARRIER_COMPLETE (R231): A pending BARRIER completes and raises its fence. -/
  | barrierComplete (n : Nat)
  /-- CTX_SET_COMPLETE (R231): A CTX_SET completes once every core of the context passes a tile boundary. -/
  | ctxSetComplete (n : Nat)
  /-- INVALIDATION_COMPLETE (R199): An invalidation completes once old translations are no longer in use. -/
  | invalidationComplete (n : Nat)
  /-- MODEL_VERIFICATION_COMPLETE (R210): Model verification ends, its state is written and the fence raised. -/
  | modelVerificationComplete (ctx : CtxId) (model : ModelNo)
  /-- MODEL_UNREGISTER_COMPLETE (R231): A model becomes free after its jobs end and it is non-resident. -/
  | modelUnregisterComplete (ctx : CtxId) (model : ModelNo)
  /-- STANDING_UNBIND_COMPLETE (R231): The last bound frame's record is written and the unbind fence raised. -/
  | standingUnbindComplete (d : DestId)
  /-- CTX_DESTROY_COMPLETE (R240): After drains the context's models and resources are freed and the destroy fence raised. -/
  | ctxDestroyComplete (ctx : CtxId)
  /-- JOB_COMPLETE (R236): A job's completion record is written and its fence raised. -/
  | jobComplete (ctx : CtxId) (job : BitVec 32)
  /-- MODEL_LOAD_COMPLETE (R208): A parked model's sections finish loading and its waiting jobs may launch. -/
  | modelLoadComplete (ctx : CtxId) (model : ModelNo)
  /-- FAULT_SLOT_WRITE (R201): The Lodge writes the context fault slot for a Lift fault. -/
  | faultSlotWrite (ctx : CtxId)
  /-- FAULT_WAIT_TIMEOUT (R202): FAULT_WAIT expires and the Lodge refuses the context's stopped commands. -/
  | faultWaitTimeout (ctx : CtxId)
  /-- SLALOM_GATE_EVALUATE (R215): The Lodge evaluates a Slalom gate whose index range has completed. -/
  | slalomGateEvaluate (ctx : CtxId) (job : BitVec 32)
  /-- FALLBACK_LAUNCH (R216): Once the primary tiles end the fall-back launches at ENTRY. -/
  | fallbackLaunch (ctx : CtxId) (job : BitVec 32)
  /-- STATUS_BLOCK_WRITE (R238): The periodic host status block write of at least once per millisecond. -/
  | statusBlockWrite
  /-- HOST_HEARTBEAT (R242): A write to HIF_HEARTBEAT restarts the host-loss timeout. -/
  | hostHeartbeat (acc : RegAccess) (v : BitVec 64)
  /-- HOST_LOSS (R243): The heartbeat lapses and host loss stops mastering into host memory and parks contexts. -/
  | hostLoss
  /-- PERST_N_ASSERT (R223): PERST_N asserted resets the PCI Express interface and may start host loss. -/
  | perstNAssert
  /-- FUNCTION_LEVEL_RESET (R223): A Function Level Reset resets the interface and may start host loss. -/
  | functionLevelReset
  /-- BUS_MASTER_ENABLE_CLEAR (R223): Bus Master Enable cleared stops requests and may start host loss. -/
  | busMasterEnableClear
  /-- D3HOT_ENTRY (R223): Entry to D3hot stops requests and may start host loss. -/
  | d3hotEntry
  /-- BAR2_ACCESS (R221): A host BAR2 access is performed in reachable DRAM byte by byte or dropped. -/
  | bar2Access (write : Bool) (offset : Nat) (bytes : List Byte)
  /-- REGISTER_WRITE (R397): A host or Lodge write to a register with no row of its own updates its fields. -/
  | registerWrite (lodge : Bool) (offset : Nat) (acc : RegAccess) (v : BitVec 64)
  /-- CSI2_PACKET (R247): A CSI-2 packet is received, checked and matched to a stream or discarded. -/
  | csi2Packet (port : PortId) (pkt : Csi2Packet)
  /-- FRAME_START (R255): A frame start opens a frame, closing any open one and applying pending sets. -/
  | frameStart (p : PipeId) (st : StreamId)
  /-- FRAME_END (R255): A frame end closes the frame, filling missing lines. -/
  | frameEnd (p : PipeId) (st : StreamId)
  /-- LINE_PACKET (R255): A long packet line is placed, truncated, padded or discarded. -/
  | linePacket (p : PipeId) (st : StreamId)
  /-- FRAME_TIMEOUT (R255): FRAME_TIMEOUT expires and the open frame is closed with fill lines. -/
  | frameTimeout (p : PipeId) (st : StreamId)
  /-- FRAME_FIRST_LINE_OUT (R14): A frame's first line leaves the pipe and takes a free slot or is skipped at the destination. -/
  | frameFirstLineOut (p : PipeId) (st : StreamId)
  /-- SLOT_DESCRIPTOR_WRITE (R270): After all slot rows are performed the descriptor row is written and the frame's job launches. -/
  | slotDescriptorWrite (d : DestId)
  /-- SLOT_RELEASE (R271): The Lodge releases a frame slot once DONE_LOW passes its index or the job completes. -/
  | slotRelease (d : DestId) (slot : SlotNo)
  /-- ISP_COMMIT (R258): A write to ISP_COMMIT makes a stream's shadow parameter set pending. -/
  | ispCommit (p : PipeId) (v : PartyWrite 16)
  /-- CCM_GO (R249): Writing GO starts a camera control-master list at once. -/
  | ccmGo (port : PortId) (lodge : Bool) (v : BitVec 32)
  /-- CCM_ARM (R404): Writing ARM arms a control-master list to start at CAM_CCM_GATE. -/
  | ccmArm (port : PortId) (lodge : Bool) (v : BitVec 32)
  /-- CCM_ARMED_START (R249): The gate count reaches the armed value and the list starts. -/
  | ccmArmedStart (port : PortId)
  /-- CCM_TRANSACTION_COMPLETE (R249): An I2C transaction ends, advancing, stopping on NACK or completing the list. -/
  | ccmTransactionComplete (port : PortId) (nack : Bool) (data : BitVec 64)
  /-- CCM_STRETCH_TIMEOUT (R249): Clock stretching beyond 10 ms stops the list. -/
  | ccmStretchTimeout (port : PortId)
  /-- FRAME_SYNC_TRIGGER (R250): A port issues a frame-sync trigger at its scheduled gate count. -/
  | frameSyncTrigger (port : PortId)
  /-- POC_ENABLE (R252): Writing ENABLE 1 switches on power over coax and clears RETRIES. -/
  | pocEnable (port : PortId) (v : BitVec 32)
  /-- POC_DISABLE (R252): Writing ENABLE 0 switches power over coax off into OFF. -/
  | pocDisable (port : PortId) (v : BitVec 32)
  /-- POC_TRIP (R252): Sensed current above the trip level switches the port off and enters RETRY_WAIT. -/
  | pocTrip (port : PortId) (mA : Nat)
  /-- POC_RETRY (R252): RETRY_DELAY expires and the supervisor retries or latches. -/
  | pocRetry (port : PortId)
  /-- POC_BLANKING_END (R251): The blanking time ends and the programmed trip level applies. -/
  | pocBlankingEnd (port : PortId)
  /-- POC_OPEN (R251): Current below 5 mA for 10 ms sets OPEN. -/
  | pocOpen (port : PortId) (mA : Nat)
  /-- ENC_COMMIT (R279): A write to VC_ENC_COMMIT makes a stream's shadow block pending. -/
  | encCommit (v : PartyWrite 32)
  /-- ENCODE_FRAME_COMPLETE (R281): An encoder finishes a frame and writes its access unit to the ring and Ethernet. -/
  | encodeFrameComplete (n : EncId) (unit : AccessUnit)
  /-- RING_READ_POINTER_WRITE (R281): A host write to VC_ENC_RPTR consumes bitstream ring bytes or is ignored. -/
  | ringReadPointerWrite (n : EncId) (v : BitVec 64)
  /-- DECODER_DOORBELL (R282): A write to VC_DEC_TAIL announces decoder descriptors. -/
  | decoderDoorbell (v : BitVec 16)
  /-- DECODE_COMPLETE (R282): The decoder finishes a descriptor, writes STATUS and advances HEAD. -/
  | decodeComplete (r : DecodeResult)
  /-- POOL_SIZE_WRITE (R277): A write to VC_POOL_SIZE sets the codec region or is ignored. -/
  | poolSizeWrite (v : BitVec 32)
  /-- SA_OWNER_WRITE (R290): A write to VC_SA_OWNER hands ports between host and Lodge at their next frame start. -/
  | saOwnerWrite (v : BitVec 16)
  /-- RTCP_SENDER_REPORT (R287): Each RTP stream sends an RTCP sender report every second. -/
  | rtcpSenderReport (n : EncId)
  /-- ETH_LINK_CHANGE (R283): An Ethernet link goes up or down. -/
  | ethLinkChange (p : EthId) (up : Bool)
  /-- ETH_FRAME_RECEIVE (R283): A received Ethernet frame is taken as PTP or discarded. -/
  | ethFrameReceive (p : EthId) (f : EthFrame)
  /-- PTP_LOCK (R284): Offset within 1 us for 10 s sets LOCKED. -/
  | ptpLock
  /-- PTP_LOCK_LOSS (R284): 3 s without Sync clears LOCKED and holds the offset. -/
  | ptpLockLoss
  /-- STANDALONE_START (R288): With AUTOSTART the Lodge brings up profiled ports and Ethernet. -/
  | standaloneStart
  /-- DRAM_REQUEST (R297): A request is accepted into a DRAM channel queue by class. -/
  | dramRequest (r : DramRequest)
  /-- DRAM_REQUEST_SERVED (R298): A channel issues a queued request, correcting or detecting errors. -/
  | dramRequestServed (d : DmcId) (ch : ChannelId) (o : DramOutcome)
  /-- DRAM_AGE_PROMOTION (R298): A queued request waiting AGE_LIMIT is promoted. -/
  | dramAgePromotion (d : DmcId) (ch : ChannelId) (n : Nat)
  /-- DRAM_PORT_PROMOTION (R297): A request waiting 128 slots at the controller input is promoted. -/
  | dramPortPromotion (d : DmcId) (n : Nat)
  /-- REFRESH_DUE (R301): A per-bank refresh or refresh management falls due. -/
  | refreshDue (d : DmcId) (ch : ChannelId) (rfm : Bool)
  /-- CALIBRATION_DUE (R298): Periodic ZQ latching or WCK-to-DQ tracking falls due. -/
  | calibrationDue (d : DmcId) (ch : ChannelId) (tracking : Bool) (inLimits : Bool)
  /-- SCRUB_READ (R303): The Groomer issues the next scrub read, so many nanoseconds after the block's last one. -/
  | scrubRead (d : DmcId) (o : Nat)
  /-- INIT_BLOCK (R295): The Groomer initialises the block at the mark and raises it. -/
  | initBlock (d : DmcId)
  /-- SELF_REFRESH_ENTRY (R304): After SR_IDLE a channel enters self-refresh. -/
  | selfRefreshEntry (d : DmcId) (ch : ChannelId) (abandoned : SelfRefreshTry)
  /-- SELF_REFRESH_EXIT (R304): A waiting request brings a channel out of self-refresh. -/
  | selfRefreshExit (d : DmcId) (ch : ChannelId)
  /-- MODE_REGISTER_CHECK (R305): The Groomer compares a mode-register readback every millisecond. -/
  | modeRegisterCheck (d : DmcId) (ch : ChannelId) (readback : Byte)
  /-- DRAM_FREEZE (R305): An uncorrectable error or mismatch freezes the controller and captures its state. -/
  | dramFreeze (d : DmcId) (hist : List UpkeepCommand)
  /-- FROZEN_REQUEST (R305): A request arriving at a frozen controller is answered or its job ended. -/
  | frozenRequest (r : DramRequest)
  /-- DRAM_THAW (R306): Writing THAW resumes a frozen controller by retry or zeroing. -/
  | dramThaw (d : DmcId) (lodge : Bool) (v : BitVec 32) (again : DramOutcome) (hist : List UpkeepCommand)
  /-- LINK_TRAINING_COMPLETE (R309): A Rink port completes training and sets LINKUP. -/
  | linkTrainingComplete (n : RinkPort) (peer : RinkPeer)
  /-- LINK_SIGNAL_LOSS (R309): Signal lost for 1 us restarts training. -/
  | linkSignalLoss (n : RinkPort)
  /-- LINK_FEC_FAILURE (R309): Uncorrectable codewords above 1 % over 1 ms restart training. -/
  | linkFecFailure (n : RinkPort)
  /-- CONTROL_FLIT (R312): A control flit carrying acks, credits, time stamps or heartbeat is received. -/
  | controlFlit (n : RinkPort) (f : ControlFlit)
  /-- CONTROL_FLIT_SEND (R312): A control flit falls due and is sent. -/
  | controlFlitSend (n : RinkPort)
  /-- EXCHANGE_DATA_FLIT (R323): An exchange data flit is received and its write performed. -/
  | exchangeDataFlit (n : RinkPort) (h : FlitHeader) (x : ExchangeData)
  /-- COMPLETION_UPDATE (R323): A cascade completion update is received and applied. -/
  | completionUpdate (n : RinkPort) (h : FlitHeader) (u : Completion)
  /-- SIGNATURE_RECORD (R332): A Synchro signature record is received and matched. -/
  | signatureRecord (n : RinkPort) (h : FlitHeader) (r : Signature)
  /-- START_GATE_ARM_FLIT (R321): A broadcast start-gate arm is received and accepted or refused. -/
  | startGateArmFlit (n : RinkPort) (h : FlitHeader) (a : GateArm)
  /-- ENUMERATION_FLIT (R315): An enumeration and route table flit is received. -/
  | enumerationFlit (n : RinkPort) (h : FlitHeader) (m : Enumeration)
  /-- TAKEOVER_NOTICE (R327): A Pairs takeover notice is received and the partner becomes standby. -/
  | takeoverNotice (n : RinkPort) (h : FlitHeader) (t : Takeover)
  /-- TAI_OFFSET_FLIT (R319): A TAI offset flit from the master is copied into ETH_PTP_OFFSET. -/
  | taiOffsetFlit (n : RinkPort) (h : FlitHeader) (offset : BitVec 64)
  /-- TIME_STAMP_EXCHANGE (R318): The 10 us time-stamp exchange on each link falls due. -/
  | timeStampExchange (n : RinkPort) (stamps : TimeStamps)
  /-- TAI_OFFSET_SEND (R319): The master sends its TAI offset down the tree every 10 ms. -/
  | taiOffsetSend
  /-- TREE_REBUILD (R316): The master rebuilds the tree over a spare link after a tree link goes down. -/
  | treeRebuild
  /-- START_GATE_ARM (R320): Writing ARM arms a start-gate slot, optionally broadcasting it. -/
  | startGateArm (slot : GateSlot) (v : BitVec 32)
  /-- START_GATE_DISARM (R320): Writing DISARM frees the held job. -/
  | startGateDisarm (slot : GateSlot)
  /-- START_GATE_FIRE (R320): The gate count reaches G and the held job launches. -/
  | startGateFire (slot : GateSlot)
  /-- CASCADE_ABORT (R325): A cascade abort is propagated and every member ends its job. -/
  | cascadeAbort (ctx : CtxId) (job : CascadeJob) (notice : AbortNotice)
  /-- PAIRS_HEARTBEAT_SEND (R326): The always-on domain sends the Pairs heartbeat every millisecond. -/
  | pairsHeartbeatSend
  /-- PAIRS_TAKEOVER (R327): HB_LOSS expires without a heartbeat and the standby takes over. -/
  | pairsTakeover
  /-- SYNCHRO_PENDING_TIMEOUT (R332): A pending signature unmatched within TIMEOUT is discarded. -/
  | synchroPendingTimeout (n : Nat)
  /-- POR_ASSERT (R388): POR_N low ramps activity down and holds the device in reset. -/
  | porAssert (pulse : PorPulse)
  /-- POR_RELEASE (R343): POR_N release samples straps and starts the boot sequence. -/
  | porRelease (b : BootInputs)
  /-- BOOT_RETRY (R343): With boot FAILED the ROM rereads the directory every 10 s. -/
  | bootRetry (flash : List (Nat × List Byte))
  /-- PATROL_RESET (R346): 50 ms without a firmware heartbeat makes Patrol reset the Lodge or halt compute. -/
  | patrolReset
  /-- LODGE_RESTORE (R347): The rebooted kernel restores state, writes a record and releases the cap. -/
  | lodgeRestore
  /-- PATROL_RESTART (R348): Writing RESTART in HALTED reboots from step 2 with DRAM retrained. -/
  | patrolRestart
  /-- ROLLBACK_ADVANCE (R342): After 600 s RUNNING firmware with ADVANCE blows rollback fuses. -/
  | rollbackAdvance
  /-- FLASH_ERASE (R345): LDG_FLASH_CMD OP 1 erases a flash range. -/
  | flashErase (units : BitVec 32)
  /-- FLASH_PROGRAM (R345): LDG_FLASH_CMD OP 2 programs a flash range from DRAM. -/
  | flashProgram (units : BitVec 32)
  /-- FLASH_COMPARE (R345): LDG_FLASH_CMD OP 3 compares a flash range with DRAM. -/
  | flashCompare (units : BitVec 32)
  /-- FLASH_OPERATION_COMPLETE (R345): A flash operation ends and RESULT is set. -/
  | flashOperationComplete (ok : Bool)
  /-- LOG_SELECT (R349): A write to LDG_LOG_SEL loads a log entry into LDG_LOG_DATA. -/
  | logSelect (seq : BitVec 64)
  /-- TRACE_RECORD_WRITE (R351): Firmware writes a queued trace point into the trace ring. -/
  | traceRecordWrite
  /-- EVENT_QUEUE_SCAN (R364): After an event queue overrun firmware scans the cluster's latched state. -/
  | eventQueueScan (c : ClusterId)
  /-- POWER_ESTIMATE (R352): The estimator forms a package power estimate every 2 us. -/
  | powerEstimate (events : PowerEvents)
  /-- POWER_CONTROL_TICK (R354): Every 100 us firmware adjusts VDD_CORE against the cap. -/
  | powerControlTick (acked : RailAcks)
  /-- POWER_MODE_WRITE (R353): A write to PWR_CTRL selects mode and cap, applied within 1 ms. -/
  | powerModeWrite (v : BitVec 32)
  /-- THERMAL_SAMPLE (R358): The sensor hub samples the sensors and firmware throttles on the hot figure. -/
  | thermalSample (readings : ThermalReadings)
  /-- SUPPLY_FAULT (R387): A rail outside its window for 2 us stops the device. -/
  | supplyFault
  /-- REFERENCE_CLOCK_LOSS (R392): A stopped or off-frequency reference clock takes its consumers down. -/
  | referenceClockLoss (c : RefClock)
  /-- COUNTER_DELTA_TRANSFER (R363): A counted source sends its delta to the clocked register. -/
  | counterDeltaTransfer (offset : Nat)
  /-- ERROR_REPORT_ACCEPT (R369): The recorder accepts a report, counts, latches and writes it to the error ring. -/
  | errorReportAccept
  /-- ERR_RPTR_WRITE (R370): A host write to ERR_RPTR consumes error records or is ignored. -/
  | errRptrWrite (v : BitVec 64)
  /-- FIRST_ERROR_REARM (R371): Writing 1 to an ERR_FIRST_VALID bit re-arms the class's first-error latch. -/
  | firstErrorRearm (v : BitVec 32)
  /-- ILLEGAL_OPCODE (R104): The control core meets an instruction word whose opcode is not in the map and halts with reason 0x01. -/
  | illegalOpcode (k : CoreId) (word : BitVec 64)
  /-- UNKNOWN_RING_OPCODE (R231): A ring entry with an opcode not in the table is consumed with RESULT 0x01 and HEAD moves past it. -/
  | unknownRingOpcode (opcode : Byte) (e : RingEntry)
  /-- RC_FIELD_READ (R7): A read covering an RC field returns its value and clears it, holding events that arrive during the read for the next read. -/
  | rcFieldRead (offset : Nat) (acc : RegReading)
  /-- PATROL_HEARTBEAT (R346): Firmware writes the Patrol heartbeat at least every 10 ms, restarting Patrol's 50 ms timer. -/
  | patrolHeartbeat
  /-- REFERENCE_CLOCK_RETURN (R392): A lost reference clock returns and is used again at once, with its links training afresh and a waiting boot step proceeding. -/
  | referenceClockReturn (c : RefClock)
  /-- PERST_N_RELEASE (R390): Release of PERST_N lets the PCI Express interface leave reset and start answering configuration requests. -/
  | perstNRelease
  /-- BUS_MASTER_ENABLE_SET (R244): The host sets Bus Master Enable, allowing the QV8 to master requests on the link again. -/
  | busMasterEnableSet
  /-- VDD_AON_LOSS (R365): Loss of VDD_AON resets the always-on domain, including PWR_SHUTDOWN_CAUSE and PWR_TRIP_COUNT. -/
  | vddAonLoss
deriving DecidableEq, Repr

end Sys2Proof
end

