-- ==== Sys2Proof/Decode.lean ====
section
/-! DEFINITION. Decoding words of the command table: no row of the table gives its command any bits, so no word spells a
command. Beside it, what the 64-bit words of Milac spell (R102, R104). -/

namespace Sys2Proof

/-- The command that a word spells by the bits of the table: none, since no row gives bits. -/
def decodeTableWord (_nbits _w : Nat) : Option Instr := none

/-- The instruction of an opcode of the map, with the low 56 bits of its word (R104). -/
def milacInstr (k : CoreId) (w : BitVec 56) (op : Nat) : Option Instr :=
  match op with
  | 0x01 => some (.ccNop k w)
  | 0x10 => some (.ccAdd k w)
  | 0x11 => some (.ccAddi k w)
  | 0x12 => some (.ccSub k w)
  | 0x13 => some (.ccMul k w)
  | 0x14 => some (.ccMulhs k w)
  | 0x15 => some (.ccMulhu k w)
  | 0x16 => some (.ccDivs k w)
  | 0x17 => some (.ccDivu k w)
  | 0x18 => some (.ccRems k w)
  | 0x19 => some (.ccRemu k w)
  | 0x1A => some (.ccAnd k w)
  | 0x1B => some (.ccAndi k w)
  | 0x1C => some (.ccOr k w)
  | 0x1D => some (.ccOri k w)
  | 0x1E => some (.ccXor k w)
  | 0x1F => some (.ccXori k w)
  | 0x20 => some (.ccShl k w)
  | 0x21 => some (.ccShli k w)
  | 0x22 => some (.ccShr k w)
  | 0x23 => some (.ccShri k w)
  | 0x24 => some (.ccSra k w)
  | 0x25 => some (.ccSrai k w)
  | 0x26 => some (.ccMin k w)
  | 0x27 => some (.ccMax k w)
  | 0x28 => some (.ccMinu k w)
  | 0x29 => some (.ccMaxu k w)
  | 0x2A => some (.ccMovi k w)
  | 0x2B => some (.ccMovh k w)
  | 0x2C => some (.ccMadd k w)
  | 0x2D => some (.ccSel k w)
  | 0x30 => some (.ccCmp k w)
  | 0x31 => some (.ccCmpi k w)
  | 0x32 => some (.ccPlog k w)
  | 0x38 => some (.ccRds k w)
  | 0x39 => some (.ccLidx k w)
  | 0x40 => some (.ccBr k w)
  | 0x41 => some (.ccJr k w)
  | 0x42 => some (.ccCall k w)
  | 0x43 => some (.ccRet k w)
  | 0x44 => some (.ccLoop k w)
  | 0x45 => some (.ccBreak k w)
  | 0x46 => some (.ccEnd k w)
  | 0x47 => some (.ccHalt k w)
  | 0x48 => some (.ccTrace k w)
  | 0x50 => some (.ccLd k w)
  | 0x51 => some (.ccLw k w)
  | 0x52 => some (.ccLwu k w)
  | 0x53 => some (.ccSt k w)
  | 0x54 => some (.ccSw k w)
  | 0x58 => some (.ccRld k w)
  | 0x59 => some (.ccRst k w)
  | 0x5A => some (.ccAadd k w)
  | 0x5B => some (.ccAcas k w)
  | 0x5C => some (.ccFence k w)
  | 0x60 => some (.ccPush k w)
  | 0x61 => some (.ccPushd k w)
  | 0x64 => some (.ccTwait k w)
  | 0x65 => some (.ccTsig k w)
  | 0x66 => some (.ccTdec k w)
  | 0x68 => some (.ccClaim k w)
  | _ => none

/-- The instruction that core k executes for a 64-bit word, by its OP; none for an illegal opcode (R102–R104). -/
def decodeMilac (k : CoreId) (word : BitVec 64) : Option Instr :=
  milacInstr k (word.extractLsb' 0 56) (word.extractLsb' 56 8).toNat

end Sys2Proof
end

