-- ==== Sys2Proof/Machine/Bits.lean ====
section
/-! DEFINITION. Bit fields, byte order and sparse maps: the helpers every other file of the machine uses (R4). -/

namespace Sys2Proof.Machine

/-- The field [hi:lo] of a word, as a number; both end bits are in it (R4). -/
def field {n : Nat} (w : BitVec n) (hi lo : Nat) : Nat := (w.toNat >>> lo) % 2 ^ (hi + 1 - lo)

/-- Bit i of a word. -/
def bit {n : Nat} (w : BitVec n) (i : Nat) : Bool := w.getLsbD i

/-- A word with its field [hi:lo] replaced by the low bits of v. -/
def setField {n : Nat} (w : BitVec n) (hi lo v : Nat) : BitVec n :=
  let m := 2 ^ (hi + 1 - lo)
  BitVec.ofNat n (w.toNat - ((w.toNat >>> lo) % m) * 2 ^ lo + (v % m) * 2 ^ lo)

/-- A word with bit i set to b. -/
def setBit {n : Nat} (w : BitVec n) (i : Nat) (b : Bool) : BitVec n := setField w i i (if b then 1 else 0)

/-- The signed value of the low n bits of v. -/
def sext (n v : Nat) : Int :=
  let u := v % 2 ^ n
  if 2 * u < 2 ^ n then (u : Int) else (u : Int) - (2 ^ n : Nat)

/-- The low n bits of an integer, as a number (wrap). -/
def wrapNat (n : Nat) (v : Int) : Nat := (v % (2 ^ n : Nat)).toNat

/-- Sum that stops at the largest n-bit value: how counters saturate. -/
def satAdd (n a b : Nat) : Nat := min (a + b) (2 ^ n - 1)

/-- Ceiling of a quotient. -/
def cdiv (a b : Nat) : Nat := (a + b - 1) / b

/-- The n low bytes of a number, lowest first (R4). -/
def leBytes : Nat → Nat → List Byte
  | 0, _ => []
  | n + 1, v => BitVec.ofNat 8 v :: leBytes n (v / 256)

/-- The number that little-endian bytes spell (R4). -/
def ofLe : List Byte → Nat
  | [] => 0
  | b :: r => b.toNat + 256 * ofLe r

/-- The field of n bytes from byte o of a byte list (missing bytes read 0). -/
def leAt (l : List Byte) (o n : Nat) : Nat := ofLe ((l.drop o).take n)

/-- All of a list of bytes are zero. -/
def allZero (l : List Byte) : Bool := l.all (· == 0)

/-- Insert before the first entry it precedes. -/
def insertWith {α : Type} (lt : α → α → Bool) (a : α) : List α → List α
  | [] => [a]
  | b :: r => if lt a b then a :: b :: r else b :: insertWith lt a r

/-- Sort; equals keep their order. -/
def sortWith {α : Type} (lt : α → α → Bool) (l : List α) : List α := l.foldl (fun s a => insertWith lt a s) []

/-! ## Sparse maps: strictly rising keys, no entry equal to what an unlisted key reads as -/

/-- The entry at a, or d. -/
def lookupD {α : Type} (d : α) : List (Nat × α) → Nat → α
  | [], _ => d
  | (b, v) :: r, a => if a = b then v else lookupD d r a

/-- Replace the n consecutive entries from key a by the listed new ones. -/
def splice {α : Type} (m : List (Nat × α)) (a n : Nat) (new : List (Nat × α)) : List (Nat × α) :=
  m.filter (fun c => decide (c.1 < a)) ++ new ++ m.filter (fun c => decide (a + n ≤ c.1))

/-- Consecutive values paired with keys from a. -/
def keyed {α : Type} : Nat → List α → List (Nat × α)
  | _, [] => []
  | a, v :: r => (a, v) :: keyed (a + 1) r

/-- Write consecutive values from key a; values equal to d are not listed. -/
def writeRun {α : Type} [DecidableEq α] (d : α) (m : List (Nat × α)) (a : Nat) (vs : List α) : List (Nat × α) :=
  splice m a vs.length ((keyed a vs).filter (fun c => decide (c.2 ≠ d)))

/-- Write one value. -/
def writeOne {α : Type} [DecidableEq α] (d : α) (m : List (Nat × α)) (a : Nat) (v : α) : List (Nat × α) :=
  writeRun d m a [v]

/-- Read n consecutive values from key a. -/
def readRun {α : Type} (d : α) (m : List (Nat × α)) (a n : Nat) : List α :=
  let w := m.filter (fun c => decide (a ≤ c.1) && decide (c.1 < a + n))
  (List.range n).map (fun i => lookupD d w (a + i))

/-- Canonical form: keys strictly rise and no listed value is d. -/
def canonical {α : Type} [DecidableEq α] (d : α) : List (Nat × α) → Bool
  | [] => true
  | [(_, v)] => decide (v ≠ d)
  | (a, v) :: (b, u) :: r => decide (v ≠ d) && decide (a < b) && canonical d ((b, u) :: r)

end Sys2Proof.Machine
end

