-- ==== Sys2Proof/Machine/Crypto.lean ====
section
/-! DEFINITION. SHA-384 and ECDSA on P-384, which verify Folfen images (R339–R341). The specification names both and gives
neither; they are taken from FIPS 180-4 and FIPS 186-5 (log 12). -/

namespace Sys2Proof.Machine

/-! ## SHA-384 (FIPS 180-4) -/

/-- The 80 round constants: the first 64 fraction bits of the cube roots of the first 80 primes. -/
def shaK : List W64 :=
  [0x428a2f98d728ae22, 0x7137449123ef65cd, 0xb5c0fbcfec4d3b2f, 0xe9b5dba58189dbbc] ++
  [0x3956c25bf348b538, 0x59f111f1b605d019, 0x923f82a4af194f9b, 0xab1c5ed5da6d8118] ++
  [0xd807aa98a3030242, 0x12835b0145706fbe, 0x243185be4ee4b28c, 0x550c7dc3d5ffb4e2] ++
  [0x72be5d74f27b896f, 0x80deb1fe3b1696b1, 0x9bdc06a725c71235, 0xc19bf174cf692694] ++
  [0xe49b69c19ef14ad2, 0xefbe4786384f25e3, 0x0fc19dc68b8cd5b5, 0x240ca1cc77ac9c65] ++
  [0x2de92c6f592b0275, 0x4a7484aa6ea6e483, 0x5cb0a9dcbd41fbd4, 0x76f988da831153b5] ++
  [0x983e5152ee66dfab, 0xa831c66d2db43210, 0xb00327c898fb213f, 0xbf597fc7beef0ee4] ++
  [0xc6e00bf33da88fc2, 0xd5a79147930aa725, 0x06ca6351e003826f, 0x142929670a0e6e70] ++
  [0x27b70a8546d22ffc, 0x2e1b21385c26c926, 0x4d2c6dfc5ac42aed, 0x53380d139d95b3df] ++
  [0x650a73548baf63de, 0x766a0abb3c77b2a8, 0x81c2c92e47edaee6, 0x92722c851482353b] ++
  [0xa2bfe8a14cf10364, 0xa81a664bbc423001, 0xc24b8b70d0f89791, 0xc76c51a30654be30] ++
  [0xd192e819d6ef5218, 0xd69906245565a910, 0xf40e35855771202a, 0x106aa07032bbd1b8] ++
  [0x19a4c116b8d2d0c8, 0x1e376c085141ab53, 0x2748774cdf8eeb99, 0x34b0bcb5e19b48a8] ++
  [0x391c0cb3c5c95a63, 0x4ed8aa4ae3418acb, 0x5b9cca4f7763e373, 0x682e6ff3d6b2b8a3] ++
  [0x748f82ee5defb2fc, 0x78a5636f43172f60, 0x84c87814a1f0ab72, 0x8cc702081a6439ec] ++
  [0x90befffa23631e28, 0xa4506cebde82bde9, 0xbef9a3f7b2c67915, 0xc67178f2e372532b] ++
  [0xca273eceea26619c, 0xd186b8c721c0c207, 0xeada7dd6cde0eb1e, 0xf57d4f7fee6ed178] ++
  [0x06f067aa72176fba, 0x0a637dc5a2c898a6, 0x113f9804bef90dae, 0x1b710b35131c471b] ++
  [0x28db77f523047d84, 0x32caab7b40c72493, 0x3c9ebe0a15c9bebc, 0x431d67c49c100d4c] ++
  [0x4cc5d4becb3e42b6, 0x597f299cfc657e2a, 0x5fcb6fab3ad6faec, 0x6c44198c4a475817]

/-- The initial hash value of SHA-384: the first 64 fraction bits of the square roots of the ninth to sixteenth primes. -/
def shaInit : List W64 :=
  [0xcbbb9d5dc1059ed8, 0x629a292a367cd507, 0x9159015a3070dd17, 0x152fecd8f70e5939, 0x67332667ffc00b31, 0x8eb44a8768581511, 0xdb0c2e0d64f98fa7, 0x47b5481dbefa4fa4]

/-- The small sigma functions of the message schedule. -/
def shaSmall (r1 r2 sh : Nat) (x : W64) : W64 := x.rotateRight r1 ^^^ x.rotateRight r2 ^^^ (x >>> sh)

/-- The big sigma functions of the rounds. -/
def shaBig (r1 r2 r3 : Nat) (x : W64) : W64 := x.rotateRight r1 ^^^ x.rotateRight r2 ^^^ x.rotateRight r3

/-- The next word of the message schedule from the last sixteen, newest first. -/
def shaNext (w : List W64) : W64 :=
  shaSmall 19 61 6 (w.getD 1 0) + w.getD 6 0 + shaSmall 1 8 7 (w.getD 14 0) + w.getD 15 0

/-- The message schedule of a block, newest word first. -/
def shaSchedule : Nat → List W64 → List W64
  | 0, w => w
  | n + 1, w => shaSchedule n (shaNext w :: w)

/-- One round on the working variables a to h. -/
def shaRound (v : List W64) (kw : W64) : List W64 :=
  match v with
  | [a, b, c, d, e, f, g, h] =>
    let t1 := h + shaBig 14 18 41 e + ((e &&& f) ^^^ (~~~e &&& g)) + kw
    let t2 := shaBig 28 34 39 a + ((a &&& b) ^^^ (a &&& c) ^^^ (b &&& c))
    [t1 + t2, a, b, c, d + t1, e, f, g]
  | _ => v

/-- The number that big-endian bytes spell. -/
def ofBe (l : List Byte) : Nat := l.foldl (fun a b => 256 * a + b.toNat) 0

/-- One block of 128 bytes. -/
def shaBlock (h : List W64) (bs : List Byte) : List W64 :=
  let w0 := (List.range 16).map (fun i => BitVec.ofNat 64 (ofBe ((bs.drop (8 * i)).take 8)))
  let ws := (shaSchedule 64 w0.reverse).reverse
  let v := (List.zipWith (· + ·) shaK ws).foldl shaRound h
  List.zipWith (· + ·) h v

/-- All blocks of a padded message. -/
def shaBlocks : Nat → List W64 → List Byte → List W64
  | 0, h, _ => h
  | n + 1, h, bs => shaBlocks n (shaBlock h (bs.take 128)) (bs.drop 128)

/-- SHA-384 of a byte string: 48 bytes. -/
def sha384 (m : List Byte) : List Byte :=
  let z := (240 - (m.length + 1) % 128) % 128
  let p := m ++ [(0x80 : Byte)] ++ List.replicate z 0 ++ (leBytes 16 (8 * m.length)).reverse
  (((shaBlocks (p.length / 128) shaInit p).take 6).map (fun x => (leBytes 8 x.toNat).reverse)).flatten

/-! ## P-384 (FIPS 186-5) -/

/-- The field prime. -/
def p384P : Nat := 2 ^ 384 - 2 ^ 128 - 2 ^ 96 + 2 ^ 32 - 1
/-- The order of the base point. -/
def p384N : Nat := 0xffffffffffffffffffffffffffffffffffffffffffffffffc7634d81f4372ddf581a0db248b0a77aecec196accc52973
/-- The constant b of the curve y² = x³ − 3x + b. -/
def p384B : Nat := 0xb3312fa7e23ee7e4988e056be3f82d19181d9c6efe8141120314088f5013875ac656398d8a2ed19d2a85c8edd3ec2aef
/-- The base point. -/
def p384G : Nat × Nat := (0xaa87ca22be8b05378eb1c71ef320ad746e1d3b628ba79b9859f741e082542a385502f25dbf55296c3a545e3872760ab7,
  0x3617de4a96262c6f5d9e98bf9292dc29f8f41dbd289a147ce9da3113b5f0b8c00a60b1ce1d7e819d7a431d7c90ea0e5f)

/-- a to the power e modulo m, by e's low bits. -/
def powMod (m : Nat) : Nat → Nat → Nat → Nat
  | 0, _, _ => 1 % m
  | n + 1, a, e => let h := powMod m n (a * a % m) (e / 2); if e % 2 = 1 then h * a % m else h

/-- The inverse modulo a prime. -/
def invMod (m a : Nat) : Nat := powMod m 384 (a % m) (m - 2)

/-- Sum of two points of the curve; none is the point at infinity. -/
def ecAdd (a b : Option (Nat × Nat)) : Option (Nat × Nat) :=
  match a, b with
  | none, q => q
  | q, none => q
  | some (x1, y1), some (x2, y2) =>
    if x1 = x2 ∧ (y1 + y2) % p384P = 0 then none
    else
      let l := if x1 = x2 then (3 * x1 * x1 + p384P - 3) * invMod p384P (2 * y1) % p384P
        else (y2 + p384P - y1) * invMod p384P (x2 + p384P - x1) % p384P
      let x := (l * l + 2 * p384P - x1 - x2) % p384P
      some (x, (l * (x1 + p384P - x) + p384P - y1) % p384P)

/-- A multiple of a point, by the multiplier's bits. -/
def ecMul : Nat → Nat → Option (Nat × Nat) → Option (Nat × Nat)
  | 0, _, _ => none
  | n + 1, k, q => let h := ecMul n (k / 2) (ecAdd q q); if k % 2 = 1 then ecAdd h q else h

/-- ECDSA verification of a hash z: public key (x, y), signature (r, s). -/
def ecdsaOk (x y r s z : Nat) : Bool :=
  if x < p384P ∧ y < p384P ∧ y * y % p384P = (x * x * x + (p384P - 3) * x + p384B) % p384P ∧ 0 < r ∧ r < p384N ∧ 0 < s ∧
      s < p384N then
    let w := invMod p384N s
    match ecAdd (ecMul 384 (z * w % p384N) (some p384G)) (ecMul 384 (r * w % p384N) (some (x, y))) with
    | some q => q.1 % p384N == r
    | none => false
  else false

end Sys2Proof.Machine
end

