-- ==== Sys2Proof/Config.lean ====
section
/-! DEFINITION. What the specification leaves open: free values, opaque constants with no body. A free value is applied
to a plain counter of the state (`draws`), or to the address it belongs to, so that a claim holds whatever it is. -/

namespace Sys2Proof.Config

/-- The n-th free byte: contents the specification calls undefined (R115, R205, R388; log 9). -/
opaque freeByte : Nat → Byte

/-- The n-th free 64-bit value (log 9). -/
opaque freeWord : Nat → W64

/-- What host memory holds at a bus address that the QV8 has not written (log 7). -/
opaque hostByte : Nat → Byte

/-- Whether a cross-lane reduction descriptor reads its lanes as FP32: the specification gives RSUM, RMAX and RMIN an
FP32 and an integer form (R80) and no field that tells them apart (log 22). -/
opaque crossLaneFloat : BitVec 128 → Bool

/-- Where a local 64-byte block of a controller lies in its devices, in the layout of DMC_FRZ_LOC: the specification leaves
the placement to the controller (R300, R307; log 34). -/
opaque dramPlace : Nat → Nat → W64

/-- Command and address bits of a command to a place, as the memory standard encodes it (R307; log 34). -/
opaque dramCommand : DramCmd → W64 → W32

/-- How many nanoseconds a PTP master may be silent before another is chosen: an attribute of an IEEE 1588 clock that the specification
does not give (R284; log 64). -/
opaque announceTimeout : Nat

/-- Over how many nanoseconds of BITRATE the rate of VBR may stray from its long-term mean (R280; log 115). -/
opaque vbrWindow : Nat

/-- How many of a frame's requests to the codec region reach a controller: where a frame buffer lies in the region is not given (R277;
log 131). -/
opaque codecRequests : Nat → Nat

/-- How many refreshes the memory standard lets a channel postpone (R301; log 34). -/
opaque refreshPostpone : Nat

/-- Energies per event of R352 in pJ at the calibration voltage, in the order of the events, and the leakage datum: calibrated at test
and held in fuses (R352; log 71). -/
opaque powerFuses : List Nat × Nat

/-- Energy of an event at a VDD_CORE in mV, from its fused energy (R352; log 71). -/
opaque scaledEnergy : Nat → Nat → Nat

/-- Static power in mW at a VDD_CORE in mV and a hottest sensor in tenths of a degree, from the fused leakage datum (R352; log 71). -/
opaque staticPower : Nat → Int → Nat → Nat

/-- What a controller writes to a channel's mode register at training (R294; log 34). -/
opaque modeRegister : Nat → Nat → Byte

/-- The hash in fuse slot 0, programmed at the factory (R340; log 39). -/
opaque factoryKeyHash : List Byte

/-- The SHA-384 of the rest of a firmware payload that its part 1 carries; its place in part 1 is not given (R339; log 39). -/
opaque restDigest : List Byte → List Byte

/-- Speed code and interleave mode of a DRAM configuration record in part 1 of a firmware payload, by its index; the table's
layout is not given (R292, R296, R339; log 39). -/
opaque dramRecord : List Byte → Nat → Fin 3 × Fin 3

/-- A port profile of a sensor profile set (R288): the stream context it uses, its CAM_POC_CTRL value, the CAM_CCM_CTRL value and
words of its control-master list, its trigger schedule, its parameter set and, where it has one, its encoder block. -/
structure PortProfile where
  port : Nat
  pipe : Nat
  stream : Nat
  poc : W32
  ccm : W32
  list : List W64
  trigWidth : Nat
  trigStart : W64
  trigPeriod : Nat
  set : List Byte
  encoder : Option (List Byte)
deriving DecidableEq, Repr

/-- An Ethernet port of a sensor profile set (R288). The first octet of `mac` is in bits [47:40] (log 56). -/
structure EthProfile where
  port : Nat
  ip : W32
  mac : BitVec 48
  fec : BitVec 2
deriving DecidableEq, Repr

/-- A sensor profile set (R288). -/
structure ProfileSet where
  autostart : Bool
  pool : Nat
  eth : List EthProfile
  ports : List PortProfile
deriving DecidableEq, Repr

/-- What a sensor profile set's payload says; its layout is not given (R288; log 56). -/
opaque profileSet : List Byte → Option ProfileSet

/-- LEVEL of a stream whose profile has no encoder block: the specification gives none (R289; log 56). -/
opaque defaultLevel : Fin 184

/-- SRC_PORT of such a stream (R289; log 56). -/
opaque defaultSource : BitVec 16

/-- QP_I and QP_P of such a stream, which CBR does not use (R280, R289; log 56). -/
opaque defaultQp : Fin 52

end Sys2Proof.Config
end

