-- ==== Sys2Proof/Machine/State.lean ====
section
/-! DEFINITION. The state of the QV8 as plain data: memories, the register map, and for every unit what the
specification gives it beyond its registers. Registers live in `State.regs`, keyed by BAR0 offset (R397–R408). -/

namespace Sys2Proof.Machine

/-- Why the model stops. -/
inductive Fault where
  /-- Raised by DRAM_REQUEST and FROZEN_REQUEST for an address that lies in no DRAM of the device (R293, R296). Safe:
  the model stops where no behaviour exists. -/
  | noSuchMemory (addr : Nat)
deriving DecidableEq, Repr

/-- Why the model gives no meaning. -/
inductive Refusal where
  /-- Raised by an arm of `exec` whose command has no meaning yet. Safe: nothing is claimed of it. -/
  | notModelled (mnemonic : String)
deriving DecidableEq, Repr

/-- Bytes by address: strictly rising addresses, no entry equal to what an unlisted address reads as. -/
abbrev Mem := List Host.Cell

/-! ## The control core and its engines -/

/-- One level of the loop stack (R97, R107). -/
structure LoopLevel where
  first : BitVec 18
  last : BitVec 18
  n : W32
  i : W32
deriving DecidableEq, Repr

/-- What every store write of a tile carries (R184). -/
structure Tag where
  ctx : CtxId
  model : ModelNo
  stage : StageNo
  core : CoreId
  epoch : W32
deriving DecidableEq, Repr

/-- Kinds of row access a control core issues, and the FENCE marks between them (R110, R111, R121). -/
inductive AccessKind where
  /-- RLD into the data-store slot at this address -/
  | load (slot : Nat)
  /-- RST of captured bytes -/
  | store (data : List Byte)
  /-- AADD: byte offset in the row, destination register, addend -/
  | add (offset : Nat) (d : BitVec 5) (b : W64)
  /-- ACAS: byte offset, destination register, new value, expected value -/
  | cas (offset : Nat) (d : BitVec 5) (b c : W64)
  /-- FENCE with its mask -/
  | fence (mask : BitVec 5)
deriving DecidableEq, Repr

/-- An issued row access not yet performed (R119). -/
structure Access where
  row : Nat
  kind : AccessKind
  tag : Tag
deriving DecidableEq, Repr

/-- Phases of a queued command (R125). -/
inductive CmdPhase where
  | waiting | begun | executed | stopped
deriving DecidableEq, Repr

/-- A command in an engine queue: its descriptor, the PUSH or PUSHD that appended it and the position in the batch
(R115), its position in the tile's sequence (R171), the parameter or LADDR descriptor before it (R129, R132, R160) and the
number of its first vector in its skew sequence (R163). -/
structure Cmd where
  desc : BitVec 128
  pc : BitVec 18
  pos : Nat
  seq : Nat
  phase : CmdPhase
  before : Option (BitVec 128)
  v0 : Nat
  /-- how far a command has come that cannot act at once: bytes written at a virtual-address destination before a fault (R171),
  entries that a Lift command has delivered to the direct port, or slices that a stream has taken from it (R164) -/
  resumeAt : Nat
  /-- the parameter row of a DETECT, as it was read when the command began (R133) -/
  row : List Byte
  /-- the source bytes that a Lift command has read and keeps (R164, R171), or the rows that a load has taken from the direct port
  (R47) -/
  got : List Byte
deriving DecidableEq, Repr

/-- A stationary or shadow set (R47). Elements at position c × depth + k, scales at c × groups + g, as codes. -/
structure MatrixSet where
  shape : Nat
  cls : Nat
  stat : Bool
  fmt : Nat
  sc : Nat
  grp : Nat
  elems : List Nat
  scales : List Nat
deriving DecidableEq, Repr

/-- One accumulator (R54, R56). -/
inductive Acc where
  | int (low : BitVec 40) (w : BitVec 4)
  | fp (bits : W32)
deriving DecidableEq, Repr

/-- A vector of the open chain whose last slice has not entered (R50, R52). -/
structure OwedVector where
  entry : Nat
  clear : Bool
  desc : BitVec 128
  set : MatrixSet
  scales : List Nat
  /-- position of its command in the tile's sequence -/
  seq : Nat
deriving DecidableEq, Repr

/-- The open chain (R50): shape and class, the source of its last MSTREAM, the slices kept, the vectors owed, and the slices of its
tail that have entered. -/
structure Chain where
  shape : Nat
  cls : Nat
  last : Cmd
  slices : List (List Nat)
  owed : List OwedVector
  tailIn : Nat
deriving DecidableEq, Repr

/-- What an entry of the matrix direct port holds (R164). -/
inductive PortData where
  | row (bytes : List Byte)
  | slice (elems : List Nat) (last : Bool)
deriving DecidableEq, Repr

/-- An entry on its way through the direct port, with the position of the Lift command that delivers it. -/
structure PortEntry where
  data : PortData
  seq : Nat
  /-- the bytes it takes of the port's buffer (R164) -/
  bytes : Nat
deriving DecidableEq, Repr

/-- An open skew sequence: the first command's descriptor and the vectors appended (R163). -/
structure SkewSeq where
  desc : BitVec 128
  vectors : Nat
deriving DecidableEq, Repr

/-- Activity control of an engine (R64–R66, R355). -/
structure Activity where
  count : Nat
  spinLevel : Nat
  spinWindows : Option Nat
  ceiling : Nat
deriving DecidableEq, Repr

/-- The tile a core runs (R98, R99, R184). `claimed` lists the physical counter and index of every CLAIM served. -/
structure Tile where
  ctx : CtxId
  model : ModelNo
  stage : StageNo
  job : W32
  counter : Nat
  index : W64
  epoch : W32
  strict : Bool
  ibase : Nat
  ipart : Nat
  dbase : Nat
  dpart : Nat
  /-- the context's ABANDON in µs, FAULT_WAIT in ms and AUTONOMOUS as they were at the last tile boundary (R194) -/
  abandon : Nat
  faultWait : Nat
  autonomous : Bool
  claimed : List (Nat × Nat)
  conv : Nat
  clip : Nat
  nan : Nat
  sig : W64
  appended : Nat
deriving DecidableEq, Repr

/-- What a control core is doing (R100, R108, R115, R118). -/
inductive Phase where
  | idle
  | running
  /-- stalled in TWAIT on counter t for n tokens -/
  | waitToken (t : Fin 32) (n : Nat)
  /-- stalled in PUSH (false) or PUSHD (true); the instruction's low 56 bits -/
  | waitRoom (batch : Bool) (w : BitVec 56)
  /-- stalled in AADD or ACAS until it returns -/
  | waitAtomic
  /-- stalled in CLAIM on a physical counter: destination and predicate -/
  | waitClaim (c : CounterId) (d : BitVec 5) (p : BitVec 3)
  /-- END executed, with its Slalom mark -/
  | ending (gate : Bool)
  /-- halted, the error record not yet written -/
  | halted
  /-- halted and recorded -/
  | recorded
  /-- stopped by the Lodge with no halt recorded (R186, R240, R305, R325, R348) -/
  | stopped
deriving DecidableEq, Repr

/-- A tile index a stage holds on a core (R170): its job, counter, epoch, slot number and the streams filled. -/
structure Held where
  job : W32
  counter : Nat
  index : Nat
  epoch : W32
  slot : Nat
  filled : List Nat
  /-- source bytes that a stream read before its fill was stopped, by stream (R171) -/
  got : List (Nat × List Byte)
deriving DecidableEq, Repr

/-- A prefetch-stream descriptor (R169). -/
structure StreamDesc where
  base : Nat
  stride : Nat
  rows : Nat
  slot0 : Nat
  depth : Nat
  counter : Nat
  pk : Bool
deriving DecidableEq, Repr

/-- A stage resident on a core: partitions, local-store runs, streams, held indices, epoch (R98, R184, R203, R204). -/
structure Seat where
  ctx : CtxId
  model : ModelNo
  stage : StageNo
  ibase : Nat
  ipart : Nat
  dbase : Nat
  dpart : Nat
  epoch : W32
  streams : List StreamDesc
  held : List Held
  claims : Nat
  launcherStopped : Bool
  lastLaunch : Nat
  /-- the job whose arguments each argument block holds (R209, R211) -/
  argOwner : List (Nat × W32)
  /-- since when a tile of another stage has kept it off the core while it holds indices there (R209) -/
  keptSince : Option W64
  /-- its epoch would pass the largest: the stage is to be made non-resident and resident again (R184) -/
  restart : Bool
  /-- its context's ABANDON in µs and FAULT_WAIT in ms as they were at the core's last tile boundary (R194) -/
  abandon : Nat
  faultWait : Nat
deriving DecidableEq, Repr

/-- One core: its control core (R97), engines and core Lift. `vregs` is keyed by 256 × register + lane, `acc` by
accumulator, `wbuf` by 512 × row + byte; unlisted entries are zero. -/
structure Core where
  g : Vector W64 32
  p : BitVec 8
  pc : BitVec 18
  loops : List LoopLevel
  istore : Mem
  dstore : Mem
  phase : Phase
  tile : Option Tile
  seats : List Seat
  accesses : List Access
  tokens : Vector (BitVec 16) 32
  queues : Vector (List Cmd) 4
  lastAppended : Vector (Option (BitVec 128)) 4
  stationary : Option MatrixSet
  shadow : Option MatrixSet
  acc : List (Nat × Acc)
  chain : Option Chain
  port : List PortEntry
  vregs : List (Nat × W32)
  wbuf : List (Nat × Byte)
  wrows : List Nat
  wgeom : Option W64
  skew : Vector (Option SkewSeq) 2
  skewTail : Vector (List (List Nat)) 2
  matrixActivity : Activity
  /-- activity of the vector engine and its window path (R355, R357) -/
  vectorActivity : Activity
  haltGate : W64
  /-- program-order key of the halt recorded, and the commands in progress when the core halted, by queue (R117) -/
  haltKey : Nat
  halting : Vector (List Cmd) 4
  /-- shape and class of the chain open after the last appended matrix command (R50, R128), and the geometry after the last
  appended WGEOM (R132): what the step charges at append depend on -/
  chainAppended : Option (Nat × Nat)
  geomAppended : Option W64
deriving DecidableEq, Repr

/-- A stopped command or fill of a Lift (R171). `seq` is a command's position in its tile's sequence, or the stream. -/
structure Stopped where
  lift : Nat
  work : LiftWork
  ctx : CtxId
  va : W64
  cause : Nat
  level : Nat
  seq : Nat
  destination : Bool
  offset : Nat
  gate : W64
  /-- the stage of a fill (R169) -/
  stage : Option (ModelNo × StageNo)
  /-- the tile index that a fill is for, as (counter, index) (R170) -/
  index : Option (Nat × Nat)
  /-- the source bytes read before the stop -/
  got : List Byte
deriving DecidableEq, Repr

/-- A row write on its way to its store, from an engine, a Lift, a post-processor or an image pipe (R119, R147). A `part`
write replaces 64 bytes of its row, from byte `offset`. -/
structure RowWrite where
  row : Nat
  part : Bool
  offset : Nat
  data : List Byte
  tag : Option Tag
  /-- the core and queue position of the command, when a command made it -/
  owner : Option (CoreId × QueueId × Nat)
  /-- the tile that made it still runs, and its signature takes the write (R331) -/
  signs : Bool
deriving DecidableEq, Repr

/-! ## Stores, counters, epochs -/

/-- An entry of a store's epoch table (R185). -/
structure EpochEntry where
  ctx : CtxId
  model : ModelNo
  stage : StageNo
  floors : Vector W32 8
deriving DecidableEq, Repr

/-- A release segment (R178). -/
structure Segment where
  first : Nat
  src : Nat
  num : Nat
  den : Nat
  need0 : Nat
deriving DecidableEq, Repr

/-- Who waits at a tile counter (R179): a core's launcher or stream, or a CLAIM of its control core. -/
inductive Claimer where
  | launcher (k : CoreId) (stage : StageNo)
  | control (k : CoreId)
deriving DecidableEq, Repr

/-- A physical tile counter bound to a job (R177–R180). `remote` lists the cascade completions of other members and the
exchanges performed, as (member, index) (R323). -/
structure Counter where
  job : W32
  number : Nat
  limit : Nat
  next : Nat
  returns : List Nat
  outstanding : List Nat
  done : List Nat
  doneLow : Nat
  segs : List Segment
  waiting : List Claimer
  /-- the first waiting claim has begun service and waits for a release -/
  blocked : Bool
  members : List Nat
  remote : List (Nat × Nat)
deriving DecidableEq, Repr

/-! ## Contexts, models, jobs -/

/-- A context (R193, R194, R201, R239, R240). -/
structure Context where
  id : CtxId
  root : W64
  status : W64
  priority : BitVec 8
  autonomous : Bool
  faultWait : Nat
  abandon : Nat
  parked : Bool
  destroying : Bool
  jobsDone : W64
  nextJob : W32
  faultSeq : W64
  /-- the last fault reported, and the sequence that the fault slot shows (R201) -/
  lastFault : Option Stopped
  slotSeq : W64
deriving DecidableEq, Repr

/-- A stage of a model image (R212). -/
structure Stage where
  launch : Nat
  migratable : Bool
  cluster : Bool
  cores : Nat
  entry : Nat
  ipart : Nat
  dpart : Nat
  isect : Nat
  dsect : Nat
  localLo : Nat
  localHi : Nat
  clusterLo : Nat
  clusterHi : Nat
  writes : BitVec 16
  argBlk : Nat
  argStride : Nat
  streams : List StreamDesc
  windows : List (Nat × Nat)
deriving DecidableEq, Repr

/-- A section of a model image (R212). -/
structure Section where
  ofs : Nat
  length : Nat
  kind : Nat
  stage : Nat
  hi : Bool
  pk : Bool
  row : Nat
  size : Nat
deriving DecidableEq, Repr

/-- A relocation entry (R212). -/
structure Reloc where
  stage : Nat
  run : Nat
  word : Nat
deriving DecidableEq, Repr

/-- The input entry of a model image (R212). -/
structure InputEntry where
  slots : Nat
  counter : Nat
  stage : Nat
  slotRows : Nat
  index : Nat
  argWord : Nat
deriving DecidableEq, Repr

/-- A Slalom gate of a model image (R213). -/
structure SlalomGate where
  counter : Nat
  entry : Nat
  index : Nat
  remain : Nat
deriving DecidableEq, Repr

/-- An exchange of a cascade entry (R322). -/
structure Exchange where
  sbase : Nat
  sstride : Nat
  bytes : Nat
  dbase : Nat
  dstride : Nat
  srcMask : BitVec 16
  dstMask : BitVec 16
deriving DecidableEq, Repr

/-- A cascade entry (R322). -/
structure CascadeEntry where
  counter : Nat
  members : List Nat
  exchanges : List Exchange
deriving DecidableEq, Repr

/-- The verified header and tables of a model image, kept at registration (R211, R212, R233). -/
structure Image where
  strictForm : Bool
  windows : Bool
  fallback : Nat
  argBytes : Nat
  stages : List Stage
  counters : List (Nat × List Segment)
  sections : List Section
  relocs : List Reloc
  input : Option InputEntry
  slalomTotal : Nat
  slalom : List SlalomGate
  entries : List Nat
  cascade : List CascadeEntry
deriving DecidableEq, Repr

/-- Where a stage of a resident model sits: its cores and the first row of its run in each half of a store, by store
(R204). -/
structure Place where
  cores : List CoreId
  runs : List (StoreId × Bool × Nat × Nat)
deriving DecidableEq, Repr

/-- Residence of a model (R203, R207, R208). -/
inductive Residence where
  | parked
  /-- sections are loading, since a gate count, by the clusters whose Lifts have taken the Lodge's command (R156) -/
  | loading (places : List Place) (began : W64) (taken : List ClusterId)
  | resident (places : List Place)
deriving DecidableEq, Repr

/-- A registered model (R194, R207, R233, R239). `state` is the byte of R239. -/
structure Model where
  ctx : CtxId
  number : ModelNo
  va : W64
  length : Nat
  state : Nat
  image : Option Image
  hint : Nat
  residence : Residence
  lastDone : W64
  jobsSinceReg : W32
  jobsSinceEnrol : W32
  unregistering : Option Nat
  /-- it waits for a place, and the log says so (R207, R350) -/
  waiting : Bool
deriving DecidableEq, Repr

/-- How far a job has come (R177, R216, R236, R240). -/
inductive JobState where
  | queued | running | switching | ended
deriving DecidableEq, Repr

/-- A job (R209, R214, R232, R236, R334). `status` is the completion status it will report. -/
structure Job where
  uid : W32
  ctx : CtxId
  model : ModelNo
  number : W32
  state : JobState
  strict : Bool
  absolute : Bool
  margin : Nat
  fallback : Nat
  limit : Nat
  args : W64
  record : W64
  seed : W64
  deadline : W64
  fvalue : W64
  work : Option Nat
  standing : Option (DestId × W64 × Nat)
  launch : W64
  status : Nat
  haltReason : Nat
  haltSource : Nat
  haltCore : Nat
  haltPc : Nat
  haltGate : W64
  conv : Nat
  clip : Nat
  nan : Nat
  bindings : List (Nat × Nat)
  /-- Slalom gate candidates that an END has marked, as (counter, index), and table entries already evaluated (R215) -/
  marks : List (Nat × Nat)
  gatesSeen : List Nat
  switched : Option (Nat × Nat)
  entryStage : Nat
  runsFallback : Bool
  parkedDuring : Bool
  diverged : Bool
  uncompared : Bool
  nModel : W32
  nEnrol : W32
  compared : Bool
  /-- its copy of ARGS, and the first row of its frame slot (R209, R211, R212) -/
  argData : List Byte
  slotRow : Option Nat
deriving DecidableEq, Repr

/-- A registered fence (R234): owner context, or none for a device-owned fence. -/
structure Fence where
  index : Nat
  owner : Option CtxId
  addr : W64
  shadow : W64
deriving DecidableEq, Repr

/-- A raise in ring order (R234). -/
structure Raise where
  work : Nat
  fence : Nat
  value : W64
  ready : Bool
deriving DecidableEq, Repr

/-- A write of the Lodge that waits because a table on the way to its address, or a record's place, lies behind a frozen controller
(R305, R376): a fence word, or a completion record with the command's work and the standing job's frame that are over after it. -/
structure HeldWrite where
  ctx : CtxId
  va : Nat
  bytes : List Byte
  fence : Option Nat
  work : Option Nat
  frame : Option (DestId × W64)
deriving DecidableEq, Repr

/-- A consumed ring command whose work continues (R229, R231). -/
structure RingWork where
  id : Nat
  opcode : Nat
  ctx : Option CtxId
  arg : Nat
  /-- the tiles that ran when the command was consumed: core, job, counter, index, epoch -/
  tiles : List (CoreId × W32 × Nat × W64 × W32)
deriving DecidableEq, Repr

/-- A standing binding of a store destination (R16, R232, R270, R271). -/
structure Standing where
  ctx : CtxId
  model : ModelNo
  strict : Bool
  margin : Nat
  fallback : Nat
  recLog2 : Nat
  args : W64
  record : W64
  seed : W64
  deadline : Nat
  fence : Option Nat
  seqNo : W64
  finished : List W64
  finishedLow : W64
  slots : Nat
  slotRows : Nat
  held : BitVec 8
  lastSlot : Nat
  slotJobs : List (Nat × W32)
  unbinding : Option Nat
  /-- a frame of the binding has launched (R205) -/
  launched : Bool
  /-- which part of the run that holds the model's slots is the binding's, where several destinations are bound to it (R270) -/
  part : Nat
deriving DecidableEq, Repr

/-! ## Host interface -/

/-- The PCI Express side beyond the HIF registers (R219, R223, R225, R243). -/
structure HostIf where
  perst : Bool
  d3hot : Bool
  busMaster : Bool
  mastering : Bool
  answering : Bool
  heartbeatGate : W64
  heartbeatTimer : Bool
  statusSeq : W64
  heartbeat : W64
  readData : List Byte
  /-- HIF_DRV_VERSION was written while the Lodge was in reset, and its check waits for the restore (R226, R347) -/
  versionWaits : Bool
deriving DecidableEq, Repr

/-! ## Sensor ports and pipes -/

/-- A long packet in a port's input buffer: the port, and its number there. Streams that share it hold it once (R257). -/
structure PacketNo where
  port : Nat
  no : Nat
deriving DecidableEq, Repr

/-- A matched packet waiting at a port (R247, R248, R255); exposures are numbered by the set's virtual channels. -/
inductive Arrived where
  | frameStart (exposure : Nat)
  | frameEnd (exposure : Nat)
  | line (exposure : Nat) (crcOk : Bool) (bytes : List Byte) (no : PacketNo)
  | embedded (crcOk : Bool) (bytes : List Byte) (no : PacketNo)
  /-- a long packet lost to its header (true) or to the input buffer (false) -/
  | lost (header : Bool)
deriving DecidableEq, Repr

/-- A frame under assembly or assembled (R255, R258, R273): the parameter set it runs under, its lines as (exposure, pixels)
in arrival order, the exposures whose frame end has come, and what its branches hold of it. -/
structure Frame where
  set : List Byte
  flags : BitVec 16
  lines : List (Nat × List Nat)
  crcFails : Nat
  embedded : List Byte
  ended : List Nat
  startGate : W64
  endGate : W64
  /-- its first line has left the pipe -/
  firstOut : Bool
  /-- its number in the binding of its destination and the slot it holds (R270) -/
  slot : Option (W64 × Nat)
  /-- the context of that binding -/
  slotCtx : CtxId
  /-- its number at its encoder, where it holds an input buffer (R276) -/
  coded : Option W64
  /-- lines that the pipe has not taken, as (exposure, packet, bytes in the input buffer): other exposures of the line have not
  come (R257) -/
  held : List (Nat × PacketNo × Nat)
  /-- the encoder block active since its frame start (R258, R279) -/
  block : List Byte
deriving DecidableEq, Repr

/-- A stream context of a pipe (R248, R255, R258): packets waiting, the open frame, and closed frames not yet delivered. -/
structure Stream where
  stopped : Bool
  arrived : List Arrived
  frame : Option Frame
  out : List Frame
  /-- PORT to DT of the set by which packets are matched: the set applied last that names a port and a channel (R248, R259) -/
  known : List Byte
deriving DecidableEq, Repr

/-- A sensor port beyond its registers (R246, R249–R252, R290, R404). `trigHigh` is the gate count up to which CAMn_TRIG is
high, `ownerPending` the owner that its next frame start brings. -/
structure Port where
  pocPin : Bool
  blanking : Bool
  ccmArmed : Bool
  ccmRunning : Bool
  ccmIndex : Nat
  trigNext : Nat
  /-- the gate count for which a trigger was issued last (R250, R404) -/
  trigLast : Option Nat
  trigHigh : Nat
  ownerPending : Option Bool
  /-- gate counts of the trigger messages sent over A-PHY, oldest first (R250) -/
  trigSent : List W64
  /-- long packets that its input buffer has taken (R257) -/
  packets : Nat
deriving DecidableEq, Repr

/-! ## Codecs and Ethernet -/

/-- A frame in an encoder input buffer (R268, R276): its stream frame number, start gate count, the Y′CbCr samples once its
last line is in, and what its access unit will carry. -/
structure EncInput where
  number : W64
  start : W64
  picture : Option (List Nat)
  idr : Bool
  dropBefore : Bool
  /-- the parameter block that its frame runs under (R258, R279) -/
  block : List Byte
deriving DecidableEq, Repr

/-- An encoder stream (R276–R281, R286). `bufferBytes` is the size of each of its four frame buffers. -/
structure EncStream where
  active : Bool
  /-- OUTW, OUTH and CFMT that its buffers were taken for -/
  geometry : Nat × Nat × Nat
  bufferBytes : Nat
  inputs : List EncInput
  frameNo : W64
  sinceIdr : Nat
  dropBefore : Bool
  ringGap : Bool
  /-- the next frame coded is an IDR frame: after a loss from the ring, or at the stream's start (R278) -/
  forceIdr : Bool
  /-- the next frame taken is an IDR frame: a set has changed (R278), or the port has returned to its profile (R290) -/
  idrNext : Bool
  rtpSeq : Nat
  packets : Nat
  octets : Nat
  /-- the stream frame number of the frame coded last (R278) -/
  lastCoded : Option W64
  /-- fill of the reference decoder's buffer, in units of 10⁻⁶ bit, at the frame start of the frame coded last (R280) -/
  hrdLevel : Nat
  hrdAt : Option W64
  /-- what the stream has coded since its start, and what BITRATE gave it, in the same units (R280) -/
  meanCoded : Nat
  meanDue : Nat
deriving DecidableEq, Repr

/-- PTP messages that the device sends (R284). -/
inductive PtpSent where
  | delayReq | pdelayReq
  /-- the times at which the request arrived and this answer left -/
  | pdelayResp (received sent : W64)
deriving DecidableEq, Repr

/-- What an Ethernet port has sent (R283, R284, R286, R287), with the port's own MAC and IPv4 address: RTP packets and sender
reports, with the fields of the parameter block that address them, and PTP messages with transport and domain. -/
inductive EthPacket where
  | rtp (port stream : Nat) (mac ip : W64) (addressing : List Byte) (seq : Nat) (ts : Nat) (marker : Bool) (payload : List Byte)
  | senderReport (port stream : Nat) (mac ip : W64) (addressing : List Byte) (ntp : W64) (ts packets octets : Nat)
  | ptp (port : Nat) (mac ip : W64) (ieee8023 : Bool) (domain : Byte) (m : PtpSent)
deriving DecidableEq, Repr

/-- Decoder, Ethernet and PTP beyond the registers (R277, R282–R287): since when the offset has been within 1 µs, the last
Sync, the decoder's share of the codec region, the last decoded frame, and the packets sent. -/
structure Net where
  withinSince : Option W64
  lastSync : W64
  decBytes : Nat
  reference : List (List Byte) × List (List Byte)
  sent : List EthPacket
  /-- the coded size, and sample depth, that the decoder's share was taken for (R277) -/
  decShape : Option (Nat × Nat × Bool)
  /-- a bitstream error has occurred since the last IDR frame (R282) -/
  decError : Bool
  /-- the best master heard, with the port that hears it: its rank and source port identity (R284) -/
  best : Option (EthId × Nat × BitVec 80)
  /-- when it announced itself last (R284) -/
  bestAt : W64
  /-- a two-step Sync that waits for its Follow_Up: source, and the own TAI at which it arrived (R284) -/
  syncWaits : Option (BitVec 80 × W64)
  /-- origin and arrival of the last Sync, and the own TAI at which the last delay request left (R284) -/
  syncPair : Option (Nat × W64)
  requestAt : Option W64
  /-- mean path delay in ns (R284) -/
  meanDelay : Int
deriving DecidableEq, Repr

/-! ## DRAM -/

/-- A request accepted into a channel queue, or waiting at the input (R297, R298). -/
structure Queued where
  req : DramRequest
  promoted : Bool
  passed : Nat
  since : W64
  /-- the context in which the Lodge made a write that waits for a thaw (R199, R305) -/
  posted : Option CtxId
deriving DecidableEq, Repr

/-- A command that a channel has issued (R305, R307). -/
structure DramIssued where
  gate : W64
  bits : W32
deriving DecidableEq, Repr

/-- What a controller is about to freeze on, or froze on (R305, R307). -/
structure Failing where
  cause : Nat
  addr : Nat
  loc : W64
  syndrome : W32
deriving DecidableEq, Repr

/-- A controller beyond its registers (R294–R305). `openRows` lists (bank key, row), `rolling` (bank key, activates), where a
bank key is channel × 32 + rank × 16 + bank; `initialised` the blocks above the mark that a write has initialised. -/
structure Dmc where
  input : List Queued
  queues : Vector (List Queued) 4
  postponed : Vector Nat 4
  openRows : List (Nat × Nat)
  rolling : List (Nat × Nat)
  activates : Vector Nat 4
  selfRefresh : Vector Bool 4
  modeReg : Vector Byte 4
  initialised : List Nat
  scrubBlock : Nat
  failing : Option Failing
  /-- rows, with their bank keys, that neighbour refresh is to activate before the bank's next activate (R302) -/
  neighbours : List (Nat × Nat)
  /-- the last 64 commands of each channel, the most recent first (R305) -/
  history : Vector (List DramIssued) 4
  /-- DMCn_RESET_N is driven low (R385, R388) -/
  resetLow : Bool
deriving DecidableEq, Repr

/-! ## Rink, start gates, Pairs, Synchro -/

/-- What a device sends another over the Rink (R311). -/
inductive RinkMsg where
  | exchange (x : ExchangeData)
  | completion (u : Completion)
  | signature (r : Signature)
  | arm (a : GateArm)
  | enumerate (m : Enumeration)
  | takeover (t : Takeover)
  | tai (offset : W64)
  /-- the abort of a cascade job: context, model, n, cause, and that the member that receives it is to tell the others (R325) -/
  | abort (ctx : CtxId) (model : ModelNo) (n : W32) (cause : AbortCause) (tell : Bool)
deriving DecidableEq, Repr

/-- A control flit as sent (R311, R312): its destination and contents. -/
structure ControlSent where
  dest : BitVec 12
  ack : BitVec 12
  nack : Option (BitVec 12)
  credits : List Nat
  heartbeat : Bool
  twin : Option TwinState
  refusals : List GateSlot
  accepted : List GateSlot
  /-- when it left, in tenths of a nanosecond (R318) -/
  stamp : Nat
deriving DecidableEq, Repr

/-- One Rink port beyond its registers (R309–R313). `retry` holds the flits sent and not acknowledged, oldest first, with
their destinations; the newest has sequence number `nextSeq` − 1. `waiting` holds what has not been granted, oldest first, with its
source: another port, or 4 for the device itself. `credits` is what the other end last advertised per class (R312, R313). -/
structure Link where
  retry : List (BitVec 12 × RinkMsg)
  nextSeq : BitVec 12
  expectSeq : BitVec 12
  nackDue : Bool
  resends : Nat
  credits : List Nat
  received : List Nat
  heldDown : Bool
  /-- the path delay measured last, in tenths of a nanosecond (R318) -/
  pathDelay : Int
  /-- Pairs heartbeats sent on the link (R326) -/
  beats : Nat
  waiting : List (Nat × BitVec 12 × RinkMsg)
  /-- the source granted last in each class, and the BULK flits granted since the last of class CTL (R313) -/
  turns : List Nat
  bulkRun : Nat
  /-- answers to broadcast arms that are due: destination, slot, accepted (R321) -/
  answers : List (BitVec 12 × GateSlot × Bool)
  /-- the control flit sent last (R312) -/
  sent : Option ControlSent
deriving DecidableEq, Repr

/-- A start-gate slot beyond its registers (R320). -/
structure GateSlotState where
  armed : Bool
  gate : W64
  ctx : CtxId
  model : ModelNo
deriving DecidableEq, Repr

/-- The Rink engine: held cascade updates for the next job (R324), Pairs (R326–R329; `dropped` when Patrol drops
the heartbeat), pending signatures (R332), and the port that leads to each device (R315). -/
structure Rink where
  heldUpdates : List Completion
  heartbeatAt : W64
  primarySince : W64
  dropped : Bool
  pendingOwn : List Signature
  pendingPeer : List Signature
  routes : List (BitVec 12 × RinkPort)
  /-- the next identifier a master gives (R315) -/
  nextId : Nat
  /-- a heartbeat of the partner has arrived since reset (R329) -/
  heard : Bool
  /-- since when the alignment bound has held (R319) -/
  boundSince : Option W64
  /-- the master's identifier (R315, R327), and this device's hops from it (R319) -/
  masterId : BitVec 12
  hops : Nat
  /-- at the master: links behind which no device is known yet, the identifier offered to the device behind one of them, and
  spare links as the two devices and the first one's port (R315, R316) -/
  todo : List (BitVec 12 × RinkPort)
  offer : Option (BitVec 12 × RinkPort × BitVec 12)
  spares : List (BitVec 12 × RinkPort × BitVec 12)
  /-- at the master: the links of the tree, each from both ends where both have told it (R315) -/
  tree : List (BitVec 12 × RinkPort × BitVec 12)
  /-- at a device that has become master: those whose links it waits to hear of (R327) -/
  awaited : List (BitVec 12)
  /-- the loss of the master has been told since a path led to it last (R317) -/
  awayTold : Bool
  /-- cascade jobs that were aborted before they were submitted here (R324, R325) -/
  aborted : List (CtxId × ModelNo × W32)
deriving DecidableEq, Repr

/-! ## Lodge, power, errors -/

/-- A fuse key slot (R340). -/
structure KeySlot where
  hash : List Byte
  usage : Byte
  revoked : Bool
deriving DecidableEq, Repr

/-- A log entry: gate count, source, level, code, arguments (R349, R350). -/
structure LogEntry where
  gate : W64
  source : Nat
  level : Nat
  code : Nat
  args : List W64
deriving DecidableEq, Repr

/-- What an event-queue entry tells the Lodge (R364). -/
inductive Note where
  | halt (k : CoreId)
  /-- a Lift's fault: the command or fill, and its position or stream -/
  | fault (l : LiftId) (work : LiftWork) (seq : Nat)
  | trace
  /-- END of a core's tile, and a Slalom gate candidate that it marks -/
  | ended (k : CoreId) | gate (k : CoreId)
deriving DecidableEq, Repr

/-- A trace point in flight (R108, R351). -/
structure TracePoint where
  gate : W64
  core : CoreId
  index : W64
  pc : BitVec 18
  imm : BitVec 16
  ctx : CtxId
deriving DecidableEq, Repr

/-- The Lodge beyond its registers (R336–R351, R364). -/
structure Lodge where
  flash : Mem
  slots : List KeySlot
  provLock : Bool
  rollback : Nat
  bootImage : Option (Nat × Nat × Nat)
  advance : Nat
  running600 : Option W64
  patrolBeat : W64
  resets : List W64
  patrolCap : Bool
  inReset : Bool
  log : List LogEntry
  traces : List TracePoint
  /-- notifications waiting in each cluster's event queue, oldest first (R364) -/
  events : Vector (List Note) 4
  /-- notifications that a cluster's event queue has not taken since the last scan (R364) -/
  overruns : Vector Nat 4
  /-- the flash operation under way: OP, offset, bytes, source (R345) -/
  flashPending : Option (Nat × Nat × Nat × Nat)
  profile : List Byte
  /-- the profiled ports have been brought up since the boot (R288) -/
  autoStarted : Bool
  board : List Byte
  /-- what the Lodge's last register read gave (R398) -/
  readData : List Byte
deriving DecidableEq, Repr

/-- Power and heat (R352–R358). Voltages in mV, estimates in mW, caps in W, temperatures in tenths of a degree. -/
structure Power where
  /-- the last 500 estimates, newest last -/
  estimates : List Nat
  /-- event counts of the last 2 µs, in the order of R352, and the fused energies and leakage datum -/
  events : List Nat
  fuses : List Nat × Nat
  /-- the hottest sensor of the last sample -/
  hottest : Int
  vddCore : Nat
  vddSram : Nat
  effectiveCap : Nat
  limiter : Bool
  /-- the regulators that have failed to acknowledge (R354) -/
  silent : RailAcks
  hotThrottle : Bool
  hotCap : Bool
  fewSensors : Bool
  /-- sensors that read at the trip temperature in the last sample (R359) -/
  tripSensors : List Nat
  tripped : Bool
  stopped : Bool
  thermtripLow : Bool
  matrixLimit : Nat
  vectorLimit : Nat
  /-- CAP as PWR_CTRL was written while the Lodge was in reset, which firmware has yet to apply (R347, R350, R353) -/
  capWritten : Option Nat
deriving DecidableEq, Repr

/-- A report waiting for the recorder (R366, R367, R369). -/
structure Report where
  cls : Nat
  severity : Nat
  unit : Nat
  gate : W64
  ctx : Nat
  cause : Nat
  detail : W32
  addr : W64
  /-- the second record of a Synchro pair follows at once (R368) -/
  pair : Option (W32 × W64)
  firmware : Bool
  reserved : Bool
deriving DecidableEq, Repr

/-- Board facts (R1, R219, R293, R389). -/
structure Board where
  dramBytes : Nat
  bar0 : Nat
  bar2 : Nat
  bar2Log2 : Nat
  features : List W64
  masterSel : Bool
  pairRole : Bool
  porLow : Bool
  clocksLost : List RefClock
  /-- what the board gave at the last release of POR_N, and that a boot waits for TB_REFCLK (R388) -/
  inputs : Option BootInputs
  bootWaits : Bool
  /-- refresh management of the devices fitted (R301) -/
  rfm : Option RefreshManagement
  /-- HIF_HANDSHAKE has read READY since the last release of POR_N (R318) -/
  readySeen : Bool
deriving DecidableEq, Repr

/-- The whole state. -/
structure State where
  pending : List Instr
  gate : W64
  draws : Nat
  uids : W32
  mem : Mem
  hostMem : Mem
  regs : List (Nat × W64)
  cores : Vector Core 8
  writes : List RowWrite
  dppTurn : Vector Bool 4
  /-- the source whose turn is next at a cluster's Lift: the even core, the odd core, the Lodge (R156) -/
  liftTurn : Vector (Fin 3) 4
  stopped : List Stopped
  epochTable : Vector (List EpochEntry) 12
  counters : Vector (Option Counter) 64
  contexts : List Context
  models : List Model
  jobs : List Job
  fences : List Fence
  raises : List Raise
  heldWrites : List HeldWrite
  ringWork : List RingWork
  ringIds : Nat
  standing : Vector (Option Standing) 16
  /-- bindings that a destruction has withdrawn and whose frames are not all over, with their destinations (R240) -/
  withdrawn : List (DestId × Standing)
  host : HostIf
  ports : Vector Port 16
  streams : Vector (Vector Stream 16) 2
  /-- the stream of each pipe whose line it took last (R257) -/
  pipeTurn : Vector StreamId 2
  enc : Vector EncStream 32
  /-- for each encoder, the streams of its complete inputs, in the order in which last lines left (R276) -/
  encOrder : Vector (List StreamId) 2
  net : Net
  dmc : Vector Dmc 8
  links : Vector Link 4
  gates : Vector GateSlotState 16
  rink : Rink
  lodge : Lodge
  power : Power
  reports : List Report
  /-- report buffers (unit × 16 + class) whose reserved place has served since the class was last cleared (R369) -/
  reservedUsed : List Nat
  deltas : List (Nat × Nat)
  board : Board
deriving DecidableEq, Repr

/-! ## Reset values -/

/-- An engine at rest. DESIGN CHOICE: the specification gives neither the count with which the first window after reset is compared
nor the ceiling there; both are 0, as a reset in operation leaves them (R388), and no spin is pending (log 6). -/
def Activity.reset : Activity := ⟨0, 0, none, 0⟩

/-- A core with nothing loaded (R99, R137, R174; log 4, log 5). -/
def Core.reset : Core where
  g := Vector.replicate 32 0
  p := 1
  pc := 0
  loops := []
  istore := []
  dstore := []
  phase := .idle
  tile := none
  seats := []
  accesses := []
  tokens := Vector.replicate 32 0
  queues := Vector.replicate 4 []
  lastAppended := Vector.replicate 4 none
  stationary := none
  shadow := none
  acc := []
  chain := none
  port := []
  vregs := []
  wbuf := []
  wrows := []
  wgeom := none
  skew := Vector.replicate 2 none
  skewTail := Vector.replicate 2 []
  matrixActivity := Activity.reset
  vectorActivity := Activity.reset
  haltGate := 0
  haltKey := 0
  halting := Vector.replicate 4 []
  chainAppended := none
  geomAppended := none

/-- A controller before training (R294). -/
def Dmc.reset : Dmc where
  input := []
  queues := Vector.replicate 4 []
  postponed := Vector.replicate 4 0
  openRows := []
  rolling := []
  activates := Vector.replicate 4 0
  selfRefresh := Vector.replicate 4 false
  modeReg := Vector.replicate 4 0
  initialised := []
  scrubBlock := 0
  failing := none
  neighbours := []
  history := Vector.replicate 4 []
  resetLow := true

/-- Context 0, which belongs to the Lodge (R193). -/
def Context.lodge : Context :=
  ⟨0, 0, 0, 0, true, 0, 0, false, false, 0, 1, 0, none, 0⟩

/-- A link that is down and has sent nothing. -/
def Link.reset : Link := ⟨[], 0, 0, false, 0, [], [], false, 0, 0, [], [4, 4, 4], 15, [], none⟩

/-- An encoder stream that is not active. -/
def EncStream.idle : EncStream := ⟨false, (0, 0, 0), 0, [], 0, 0, false, false, true, false, 0, 0, 0, none, 0, none, 0, 0⟩

/-- The state right after reset: POR_N low, every register at its reset value (the map lists none), memories unlisted,
no context but the Lodge's, the gate count 0 (R335, R388). -/
def State.reset : State where
  pending := []
  gate := 0
  draws := 0
  uids := 1
  mem := []
  hostMem := []
  regs := []
  cores := Vector.replicate 8 Core.reset
  writes := []
  dppTurn := Vector.replicate 4 false
  liftTurn := Vector.replicate 4 0
  stopped := []
  epochTable := Vector.replicate 12 []
  counters := Vector.replicate 64 none
  contexts := [Context.lodge]
  models := []
  jobs := []
  fences := []
  raises := []
  heldWrites := []
  ringWork := []
  ringIds := 1
  standing := Vector.replicate 16 none
  withdrawn := []
  host := ⟨true, false, false, false, false, 0, false, 0, 0, [], false⟩
  ports := Vector.replicate 16 ⟨false, false, false, false, 0, 0, none, 0, none, [], 0⟩
  streams := Vector.replicate 2 (Vector.replicate 16 ⟨false, [], none, [], []⟩)
  pipeTurn := Vector.replicate 2 15
  enc := Vector.replicate 32 EncStream.idle
  encOrder := Vector.replicate 2 []
  net := ⟨none, 0, 0, ([], []), [], none, false, none, 0, none, none, none, 0⟩
  dmc := Vector.replicate 8 Dmc.reset
  links := Vector.replicate 4 Link.reset
  gates := Vector.replicate 16 ⟨false, 0, 0, 0⟩
  rink := ⟨[], 0, 0, false, [], [], [], 1, false, none, 0, 0, [], none, [], [], [], false, []⟩
  lodge := ⟨[], ⟨Config.factoryKeyHash, 1, false⟩ :: List.replicate 3 ⟨[], 0, false⟩, false, 0, none, 0, none, 0, [], false, true,
    [], [], Vector.replicate 4 [], Vector.replicate 4 0, none, [], false, [], []⟩
  power := ⟨[], [], Config.powerFuses, 0, 750, 800, 220, false, ⟨false, false⟩, false, false, false, [], false, false, false, 10, 16, none⟩
  reports := []
  reservedUsed := []
  deltas := []
  board := ⟨8 * 2 ^ 30, 0xF000000000, 0xF100000000, 28,
    [0x0100, 0x3F, 0xFF, 32768, 98304, 7680, 32, 0x10804040], false, false, true, [], none, false, none, false⟩

end Sys2Proof.Machine
end

