-- ==== Sys2Proof/Machine/Folfen.lean ====
section
/-! DEFINITION. Folfen images: the header and its verification (R339–R342). -/

namespace Sys2Proof.Machine

/-- Type codes of Folfen images (R339). -/
inductive FolfenType where
  | firmware | profiles | model | board | provision | revoke
deriving DecidableEq, Repr

/-- The TYPE byte (R339). -/
def FolfenType.code : FolfenType → Nat
  | .firmware => 1
  | .profiles => 2
  | .model => 3
  | .board => 4
  | .provision => 5
  | .revoke => 6

/-- Check 1 of R340: MAGIC, TYPE, reserved fields, LENGTH and PART1. ADVANCE is reserved but for firmware. -/
def folfenShape (t : FolfenType) (bs : List Byte) : Bool :=
  let len := leAt bs 16 8
  let part1 := leAt bs 12 4
  let fw := t == .firmware
  leAt bs 0 4 == 0x4E464C46 && leAt bs 4 1 == t.code && allZero ((bs.drop 264).take 248) &&
  decide (leAt bs 7 1 < (if fw then 2 else 1)) && decide (512 + len ≤ bs.length) &&
  (if fw then decide (4096 ≤ part1) && decide (part1 ≤ 393216) && decide (part1 ≤ len) && decide (len - part1 ≤ 32 * 2 ^ 20)
   else part1 == 0)

/-- Check 2 of R340: the slot is programmed, not revoked, and may sign the type. -/
def slotSigns (slots : List KeySlot) (t : FolfenType) (n : Nat) : Bool :=
  match slots[n]? with
  | some k => !allZero k.hash && !k.revoked && bit k.usage (t.code - 1)
  | none => false

/-- Check 3 of R340. -/
def slotHolds (slots : List KeySlot) (n : Nat) (pub : List Byte) : Bool :=
  match slots[n]? with
  | some k => k.hash == sha384 pub
  | none => false

/-- The public key of an image. -/
def folfenKey (bs : List Byte) : List Byte := (bs.drop 72).take 96

/-- Check 4 of R340. -/
def folfenSigned (bs : List Byte) : Bool :=
  let at48 := fun (o : Nat) => ofBe ((bs.drop o).take 48)
  ecdsaOk (at48 72) (at48 120) (at48 168) (at48 216) (ofBe (sha384 (bs.take 168)))

/-- Payload bytes that DIGEST covers. -/
def folfenCovered (t : FolfenType) (bs : List Byte) : Nat := if t = .firmware then leAt bs 12 4 else leAt bs 16 8

/-- The cause code of the first check that fails, or none: the image verifies (R340, R341). -/
def folfenCause (slots : List KeySlot) (rollback : Nat) (t : FolfenType) (bs : List Byte) : Option Nat :=
  if !folfenShape t bs then some 1
  else if t != .provision && !slotSigns slots t (leAt bs 5 1) then some 2
  else if t != .provision && !slotHolds slots (leAt bs 5 1) (folfenKey bs) then some 3
  else if !folfenSigned bs then some 4
  else if (bs.drop 24).take 48 != sha384 ((bs.drop 512).take (folfenCovered t bs)) then some 5
  else if t = .firmware ∧ leAt bs 6 1 < rollback then some 6
  else none

/-- The payload of an image (R339). -/
def folfenPayload (bs : List Byte) : List Byte := (bs.drop 512).take (leAt bs 16 8)

end Sys2Proof.Machine
end

