-- ==== Sys2Proof/Machine/RegMap.lean ====
section
/-! DEFINITION. The register map of BAR0 (R397–R408): where each register lies, its fields, their access codes (R7) and
reset values, one list per block, in the order of the chapter. -/

namespace Sys2Proof.Machine

/-- Access codes (R7). `rwWide` is the part in one slot of a RW field that no 4 aligned bytes hold whole (R397). -/
inductive AccessCode where
  | ro | rw | rw1c | wo | rc | rwWide
deriving DecidableEq, Repr

/-- A register field: high bit, low bit, access code, reset value. Bits of no field are reserved: they read 0 and
ignore writes (R5). -/
structure FieldDesc where
  hi : Nat
  lo : Nat
  access : AccessCode
  reset : Nat
deriving DecidableEq, Repr

/-- A run of `count` equal registers from offset `start` of its block, one per 8-byte slot (R397). -/
structure RegRun where
  start : Nat
  count : Nat
  fields : List FieldDesc
deriving DecidableEq, Repr

/-- HIF registers (R400, R245). -/
def hifRegs : List RegRun := [
  ⟨0x0, 1, [⟨31, 16, .ro, 8⟩, ⟨7, 0, .ro, 1⟩]⟩,
  ⟨0x8, 8, [⟨63, 0, .ro, 0⟩]⟩,
  ⟨0x80, 1, [⟨31, 16, .ro, 1⟩, ⟨15, 0, .ro, 0⟩]⟩,
  ⟨0x88, 1, [⟨31, 16, .rw, 0⟩, ⟨15, 0, .rw, 0⟩]⟩,
  ⟨0x90, 1, [⟨15, 8, .ro, 0⟩, ⟨3, 0, .ro, 0⟩]⟩,
  ⟨0xA0, 1, [⟨63, 12, .rw, 0⟩]⟩,
  ⟨0xA8, 1, [⟨4, 0, .rw, 4⟩]⟩,
  ⟨0xB0, 1, [⟨1, 1, .rw1c, 0⟩, ⟨0, 0, .rw, 0⟩]⟩,
  ⟨0xB8, 1, [⟨15, 0, .rw, 0⟩]⟩,
  ⟨0xC0, 1, [⟨15, 0, .ro, 0⟩]⟩,
  ⟨0xC8, 1, [⟨63, 6, .rw, 0⟩]⟩,
  ⟨0xD0, 1, [⟨63, 0, .wo, 0⟩]⟩,
  ⟨0xD8, 1, [⟨13, 0, .rw, 500⟩]⟩,
  ⟨0xE0, 1, [⟨31, 0, .ro, 0⟩]⟩,
  ⟨0x100, 16, [⟨63, 0, .ro, 0⟩]⟩,
  ⟨0x180, 1, [⟨47, 28, .rw, 0⟩]⟩,
  ⟨0x188, 1, [⟨31, 0, .ro, 0⟩]⟩,
  ⟨0x190, 1, [⟨31, 0, .ro, 0⟩]⟩,
  ⟨0x198, 1, [⟨63, 0, .ro, 0⟩]⟩,
  ⟨0x1A0, 1, [⟨31, 0, .ro, 0⟩]⟩]

/-- LDG registers (R400, R218, R365). -/
def ldgRegs : List RegRun := [
  ⟨0x0, 1, [⟨47, 16, .rw, 0⟩]⟩,
  ⟨0x8, 1, [⟨18, 0, .rw, 0⟩]⟩,
  ⟨0x10, 1, [⟨31, 0, .ro, 0⟩]⟩,
  ⟨0x18, 1, [⟨31, 0, .ro, 0⟩]⟩,
  ⟨0x20, 1, [⟨31, 0, .ro, 0⟩]⟩,
  ⟨0x28, 1, [⟨31, 0, .ro, 0⟩]⟩,
  ⟨0x30, 1, [⟨31, 0, .ro, 0⟩]⟩,
  ⟨0x100, 1, [⟨26, 26, .ro, 0⟩, ⟨25, 25, .ro, 0⟩, ⟨24, 24, .ro, 0⟩, ⟨23, 16, .ro, 0⟩, ⟨15, 8, .ro, 0⟩, ⟨7, 4, .ro, 0⟩, ⟨3, 0, .ro, 0⟩]⟩,
  ⟨0x108, 1, [⟨31, 0, .ro, 0⟩]⟩,
  ⟨0x110, 1, [⟨15, 12, .ro, 0⟩, ⟨11, 8, .ro, 0⟩, ⟨7, 7, .ro, 0⟩, ⟨6, 0, .ro, 0⟩]⟩,
  ⟨0x200, 1, [⟨31, 0, .rw, 0⟩]⟩,
  ⟨0x208, 1, [⟨63, 0, .rw, 0⟩]⟩,
  ⟨0x210, 1, [⟨63, 32, .wo, 0⟩, ⟨7, 0, .wo, 0⟩]⟩,
  ⟨0x218, 1, [⟨8, 8, .ro, 0⟩, ⟨7, 0, .ro, 0⟩]⟩,
  ⟨0x300, 1, [⟨1, 0, .ro, 0⟩]⟩,
  ⟨0x308, 1, [⟨0, 0, .wo, 0⟩]⟩,
  ⟨0x310, 1, [⟨31, 0, .ro, 0⟩]⟩,
  ⟨0x400, 1, [⟨63, 0, .ro, 0⟩]⟩,
  ⟨0x408, 1, [⟨63, 0, .rw, 0⟩]⟩,
  ⟨0x440, 8, [⟨63, 0, .ro, 0⟩]⟩,
  ⟨0x500, 1, [⟨15, 11, .rw, 8⟩, ⟨10, 1, .rw, 0⟩, ⟨0, 0, .rw, 0⟩]⟩,
  ⟨0x508, 1, [⟨63, 0, .rw, 0⟩]⟩,
  ⟨0x510, 1, [⟨63, 0, .ro, 0⟩]⟩,
  ⟨0x518, 1, [⟨31, 0, .ro, 0⟩]⟩,
  ⟨0x600, 1, [⟨3, 0, .rw1c, 0⟩]⟩,
  ⟨0x608, 1, [⟨31, 0, .ro, 0⟩]⟩]

/-- PWR registers (R400, R365). -/
def pwrRegs : List RegRun := [
  ⟨0x0, 1, [⟨10, 2, .rw, 220⟩, ⟨1, 0, .rw, 1⟩]⟩,
  ⟨0x8, 1, [⟨0, 0, .rw1c, 0⟩]⟩,
  ⟨0x10, 1, [⟨31, 0, .ro, 0⟩]⟩]

/-- GTB and SYN registers (R401, R335). -/
def gtbRegs : List RegRun := [
  ⟨0x0, 1, [⟨63, 0, .ro, 0⟩]⟩,
  ⟨0x8, 1, [⟨15, 8, .ro, 0⟩, ⟨1, 1, .ro, 0⟩, ⟨0, 0, .ro, 0⟩]⟩,
  ⟨0x100, 16, [⟨31, 24, .ro, 0⟩, ⟨23, 14, .rw, 0⟩, ⟨13, 10, .rw, 0⟩, ⟨4, 4, .rw1c, 0⟩, ⟨3, 3, .rw1c, 0⟩, ⟨2, 2, .rw, 0⟩, ⟨1, 1, .wo, 0⟩, ⟨0, 0, .wo, 0⟩]⟩,
  ⟨0x180, 16, [⟨63, 0, .rw, 0⟩]⟩,
  ⟨0x200, 4, [⟨63, 0, .rw, 0⟩]⟩,
  ⟨0x1000, 1, [⟨27, 16, .rw, 0⟩, ⟨15, 2, .rw, 1000⟩, ⟨1, 1, .rw, 0⟩, ⟨0, 0, .rw, 0⟩]⟩,
  ⟨0x1040, 8, [⟨31, 31, .rw, 0⟩, ⟨9, 0, .rw, 0⟩]⟩,
  ⟨0x1080, 1, [⟨1, 1, .rw1c, 0⟩, ⟨0, 0, .rw1c, 0⟩]⟩,
  ⟨0x1088, 1, [⟨63, 54, .ro, 0⟩, ⟨53, 50, .ro, 0⟩, ⟨49, 18, .ro, 0⟩, ⟨17, 14, .ro, 0⟩]⟩,
  ⟨0x1090, 1, [⟨63, 0, .ro, 0⟩]⟩,
  ⟨0x1098, 1, [⟨63, 0, .ro, 0⟩]⟩,
  ⟨0x10A0, 1, [⟨63, 0, .ro, 0⟩]⟩,
  ⟨0x10A8, 1, [⟨63, 0, .ro, 0⟩]⟩,
  ⟨0x10B0, 1, [⟨31, 0, .ro, 0⟩]⟩,
  ⟨0x10B8, 1, [⟨31, 0, .ro, 0⟩]⟩,
  ⟨0x10C0, 1, [⟨31, 0, .ro, 0⟩]⟩,
  ⟨0x10C8, 1, [⟨31, 0, .ro, 0⟩]⟩]

/-- RNK registers of every port (R401, R335). -/
def rnkRegs : List RegRun := [
  ⟨0x0, 1, [⟨27, 16, .ro, 0⟩, ⟨2, 2, .ro, 0⟩, ⟨1, 1, .ro, 0⟩, ⟨0, 0, .ro, 0⟩]⟩,
  ⟨0x8, 1, [⟨15, 0, .rw, 0⟩]⟩,
  ⟨0x10, 1, [⟨31, 0, .ro, 0⟩]⟩,
  ⟨0x18, 1, [⟨63, 0, .ro, 0⟩]⟩,
  ⟨0x20, 1, [⟨63, 0, .ro, 0⟩]⟩,
  ⟨0x28, 1, [⟨31, 0, .ro, 0⟩]⟩]

/-- RNK registers of port 0's copy only (R401, R335). -/
def rnk0Regs : List RegRun := [
  ⟨0x100, 1, [⟨27, 16, .ro, 0⟩, ⟨4, 4, .rw1c, 0⟩, ⟨3, 3, .rw1c, 0⟩, ⟨2, 2, .rw1c, 0⟩, ⟨1, 1, .ro, 0⟩, ⟨0, 0, .ro, 0⟩]⟩,
  ⟨0x108, 1, [⟨31, 0, .ro, 0⟩]⟩,
  ⟨0x110, 1, [⟨31, 0, .ro, 0⟩]⟩,
  ⟨0x118, 1, [⟨27, 16, .rw, 0⟩, ⟨11, 8, .rw, 8⟩, ⟨1, 1, .rw, 0⟩, ⟨0, 0, .rw, 0⟩]⟩,
  ⟨0x120, 1, [⟨4, 4, .rw1c, 0⟩, ⟨3, 3, .rw1c, 0⟩, ⟨2, 2, .ro, 0⟩, ⟨0, 0, .ro, 0⟩]⟩,
  ⟨0x128, 1, [⟨31, 0, .ro, 0⟩]⟩,
  ⟨0x200, 16, [⟨63, 0, .rw, 0⟩]⟩]

/-- DMC registers (R402, R307). -/
def dmcRegs : List RegRun := [
  ⟨0x0, 1, [⟨11, 8, .ro, 0⟩, ⟨7, 7, .ro, 0⟩, ⟨6, 5, .ro, 0⟩, ⟨1, 0, .ro, 0⟩]⟩,
  ⟨0x8, 1, [⟨3, 3, .ro, 0⟩, ⟨2, 0, .ro, 0⟩]⟩,
  ⟨0x10, 1, [⟨23, 20, .rw, 8⟩, ⟨19, 10, .rw, 20⟩, ⟨7, 0, .rw, 8⟩]⟩,
  ⟨0x18, 1, [⟨7, 0, .rw, 24⟩]⟩,
  ⟨0x20, 1, [⟨63, 0, .rw, 0⟩]⟩,
  ⟨0x28, 1, [⟨1, 1, .wo, 0⟩, ⟨0, 0, .wo, 0⟩]⟩,
  ⟨0x30, 1, [⟨31, 0, .ro, 0⟩]⟩,
  ⟨0x100, 1, [⟨7, 0, .ro, 0⟩]⟩,
  ⟨0x108, 1, [⟨47, 6, .ro, 0⟩]⟩,
  ⟨0x110, 1, [⟨48, 32, .ro, 0⟩, ⟨28, 24, .ro, 0⟩, ⟨19, 16, .ro, 0⟩, ⟨12, 12, .ro, 0⟩, ⟨9, 8, .ro, 0⟩]⟩,
  ⟨0x118, 1, [⟨31, 0, .ro, 0⟩]⟩,
  ⟨0x120, 1, [⟨63, 0, .ro, 0⟩]⟩,
  ⟨0x200, 1, [⟨63, 0, .ro, 0⟩]⟩,
  ⟨0x208, 1, [⟨31, 0, .ro, 0⟩]⟩,
  ⟨0x210, 1, [⟨31, 0, .ro, 0⟩]⟩,
  ⟨0x218, 1, [⟨31, 0, .ro, 0⟩]⟩,
  ⟨0x220, 1, [⟨63, 0, .ro, 0⟩]⟩,
  ⟨0x228, 1, [⟨63, 48, .rc, 0⟩, ⟨47, 32, .rc, 0⟩, ⟨31, 16, .rc, 0⟩, ⟨15, 0, .rc, 0⟩]⟩,
  ⟨0x230, 1, [⟨63, 0, .ro, 0⟩]⟩,
  ⟨0x238, 1, [⟨63, 0, .ro, 0⟩]⟩,
  ⟨0x240, 1, [⟨31, 0, .ro, 0⟩]⟩,
  ⟨0x248, 1, [⟨63, 0, .ro, 0⟩]⟩,
  ⟨0x250, 1, [⟨63, 0, .ro, 0⟩]⟩,
  ⟨0x800, 256, [⟨63, 32, .ro, 0⟩, ⟨31, 0, .ro, 0⟩]⟩]

/-- CAM_POC registers, ports 0–11 (R403, R253). -/
def pocRegs : List RegRun := [
  ⟨0x0, 1, [⟨30, 28, .rw, 3⟩, ⟨27, 18, .rw, 100⟩, ⟨17, 11, .rw, 20⟩, ⟨10, 4, .rw, 30⟩, ⟨0, 0, .rw, 0⟩]⟩,
  ⟨0x8, 1, [⟨15, 8, .ro, 0⟩, ⟨5, 5, .rw1c, 0⟩, ⟨4, 4, .rw1c, 0⟩, ⟨3, 2, .ro, 0⟩]⟩,
  ⟨0x10, 1, [⟨31, 0, .ro, 0⟩]⟩]

/-- CAM registers of every port (R403, R256, R404). -/
def camRegs : List RegRun := [
  ⟨0x100, 1, [⟨31, 0, .ro, 0⟩]⟩,
  ⟨0x108, 1, [⟨31, 0, .ro, 0⟩]⟩,
  ⟨0x110, 1, [⟨31, 0, .ro, 0⟩]⟩,
  ⟨0x118, 1, [⟨31, 0, .ro, 0⟩]⟩,
  ⟨0x120, 1, [⟨31, 0, .ro, 0⟩]⟩,
  ⟨0x128, 1, [⟨31, 0, .ro, 0⟩]⟩,
  ⟨0x130, 1, [⟨31, 0, .ro, 0⟩]⟩,
  ⟨0x138, 1, [⟨31, 0, .ro, 0⟩]⟩,
  ⟨0x140, 1, [⟨31, 0, .ro, 0⟩]⟩,
  ⟨0x148, 1, [⟨31, 0, .ro, 0⟩]⟩,
  ⟨0x150, 1, [⟨31, 0, .ro, 0⟩]⟩,
  ⟨0x200, 1, [⟨13, 8, .rw, 0⟩, ⟨5, 4, .rw, 1⟩, ⟨1, 1, .wo, 0⟩, ⟨0, 0, .wo, 0⟩]⟩,
  ⟨0x208, 1, [⟨15, 8, .ro, 0⟩, ⟨5, 4, .ro, 0⟩, ⟨1, 1, .rw1c, 0⟩, ⟨0, 0, .ro, 0⟩]⟩,
  ⟨0x210, 1, [⟨63, 0, .rw, 0⟩]⟩,
  ⟨0x300, 1, [⟨19, 10, .rw, 10⟩, ⟨0, 0, .rw, 0⟩]⟩,
  ⟨0x308, 1, [⟨63, 0, .rw, 0⟩]⟩,
  ⟨0x310, 1, [⟨31, 0, .rw, 33333333⟩]⟩,
  ⟨0x400, 128, [⟨63, 32, .rw, 0⟩, ⟨31, 0, .rw, 0⟩]⟩]

/-- ISP registers, parameter sets and the static defect table (R405, R274). -/
def ispRegs : List RegRun := [
  ⟨0x0, 1, [⟨15, 0, .wo, 0⟩]⟩,
  ⟨0x8, 1, [⟨15, 0, .ro, 0⟩]⟩,
  ⟨0x10, 1, [⟨15, 0, .rw1c, 0⟩]⟩,
  ⟨0x18, 1, [⟨63, 0, .ro, 0⟩]⟩,
  ⟨0x40, 8, [⟨31, 0, .ro, 0⟩]⟩,
  ⟨0x80, 1, [⟨63, 0, .ro, 0⟩]⟩,
  ⟨0x88, 1, [⟨63, 0, .ro, 0⟩]⟩,
  ⟨0x90, 1, [⟨0, 0, .rw1c, 0⟩]⟩,
  ⟨0x10000, 8192, [⟨63, 32, .rw, 0⟩, ⟨31, 0, .rw, 0⟩]⟩,
  ⟨0x20000, 8192, [⟨63, 0, .ro, 0⟩]⟩,
  ⟨0x30000, 8192, [⟨63, 32, .rw, 0⟩, ⟨31, 0, .rw, 0⟩]⟩]

/-- VC registers and parameter blocks (R406, R291). -/
def vcRegs : List RegRun := [
  ⟨0x0, 1, [⟨31, 0, .wo, 0⟩]⟩,
  ⟨0x8, 1, [⟨31, 0, .ro, 0⟩]⟩,
  ⟨0x10, 1, [⟨31, 0, .rw1c, 0⟩]⟩,
  ⟨0x20, 2, [⟨31, 0, .ro, 0⟩]⟩,
  ⟨0x30, 2, [⟨31, 0, .ro, 0⟩]⟩,
  ⟨0x40, 2, [⟨31, 0, .ro, 0⟩]⟩,
  ⟨0x80, 1, [⟨63, 12, .rw, 0⟩, ⟨3, 0, .rw, 4⟩]⟩,
  ⟨0x88, 1, [⟨15, 0, .rw, 0⟩]⟩,
  ⟨0x90, 1, [⟨15, 0, .ro, 0⟩]⟩,
  ⟨0x98, 1, [⟨15, 0, .rw, 0⟩]⟩,
  ⟨0xA0, 1, [⟨11, 0, .rw, 0⟩]⟩,
  ⟨0x100, 32, [⟨63, 0, .ro, 0⟩]⟩,
  ⟨0x200, 32, [⟨63, 0, .rw, 0⟩]⟩,
  ⟨0x10000, 1024, [⟨63, 32, .rw, 0⟩, ⟨31, 0, .rw, 0⟩]⟩,
  ⟨0x12000, 1024, [⟨63, 0, .ro, 0⟩]⟩]

/-- ETH registers (R406, R291). -/
def ethRegs : List RegRun := [
  ⟨0x0, 1, [⟨3, 2, .rw, 2⟩, ⟨0, 0, .rw, 0⟩]⟩,
  ⟨0x8, 1, [⟨0, 0, .ro, 0⟩]⟩,
  ⟨0x10, 1, [⟨31, 0, .rw, 0⟩]⟩,
  ⟨0x18, 1, [⟨47, 0, .rw, 0⟩]⟩,
  ⟨0x20, 1, [⟨63, 0, .ro, 0⟩]⟩,
  ⟨0x28, 1, [⟨31, 0, .ro, 0⟩]⟩,
  ⟨0x30, 1, [⟨31, 0, .ro, 0⟩]⟩]

/-- ETH_PTP registers, port 0's copy only (R406, R291). -/
def ptpRegs : List RegRun := [
  ⟨0x40, 1, [⟨15, 8, .rw, 0⟩, ⟨4, 4, .rw, 0⟩, ⟨3, 3, .rw, 0⟩, ⟨2, 1, .rw, 0⟩, ⟨0, 0, .rw, 0⟩]⟩,
  ⟨0x48, 1, [⟨0, 0, .ro, 0⟩]⟩,
  ⟨0x50, 1, [⟨63, 0, .ro, 0⟩]⟩]

/-- STO registers of a store (R407, R154, R192). -/
def stoRegs : List RegRun := [
  ⟨0x0, 1, [⟨63, 0, .ro, 0⟩]⟩,
  ⟨0x8, 1, [⟨63, 0, .ro, 0⟩]⟩,
  ⟨0x10, 1, [⟨31, 0, .ro, 0⟩]⟩,
  ⟨0x18, 1, [⟨15, 0, .rc, 0⟩]⟩,
  ⟨0x20, 1, [⟨63, 0, .ro, 0⟩]⟩,
  ⟨0x28, 1, [⟨63, 0, .ro, 0⟩]⟩]

/-- LFT registers of a Lift (R407, R172). -/
def lftRegs : List RegRun := [
  ⟨0x0, 1, [⟨28, 16, .ro, 0⟩, ⟨12, 8, .ro, 0⟩, ⟨2, 2, .ro, 0⟩, ⟨1, 1, .ro, 0⟩, ⟨0, 0, .ro, 0⟩]⟩,
  ⟨0x8, 1, [⟨47, 0, .ro, 0⟩]⟩,
  ⟨0x10, 1, [⟨63, 63, .ro, 0⟩, ⟨62, 61, .ro, 0⟩, ⟨60, 60, .ro, 0⟩, ⟨59, 32, .ro, 0⟩, ⟨31, 0, .ro, 0⟩]⟩,
  ⟨0x18, 1, [⟨0, 0, .wo, 0⟩]⟩,
  ⟨0x20, 1, [⟨63, 0, .ro, 0⟩]⟩,
  ⟨0x28, 1, [⟨63, 0, .ro, 0⟩]⟩,
  ⟨0x30, 1, [⟨63, 0, .ro, 0⟩]⟩]

/-- DPP registers of a cluster (R407, R96). -/
def dppRegs : List RegRun := [
  ⟨0x0, 1, [⟨3, 3, .rw1c, 0⟩, ⟨2, 2, .rw1c, 0⟩, ⟨1, 1, .rw1c, 0⟩, ⟨0, 0, .ro, 0⟩]⟩,
  ⟨0x8, 1, [⟨63, 0, .ro, 0⟩]⟩,
  ⟨0x10, 1, [⟨31, 0, .ro, 0⟩]⟩]

/-- CC registers of a core (R407, R118, R144). -/
def ccRegs : List RegRun := [
  ⟨0x0, 1, [⟨2, 2, .rw1c, 0⟩, ⟨1, 1, .ro, 0⟩, ⟨0, 0, .ro, 0⟩]⟩,
  ⟨0x8, 1, [⟨15, 12, .ro, 0⟩, ⟨7, 0, .ro, 0⟩]⟩,
  ⟨0x10, 1, [⟨7, 0, .ro, 0⟩]⟩,
  ⟨0x18, 1, [⟨17, 0, .ro, 0⟩]⟩,
  ⟨0x20, 1, [⟨63, 0, .ro, 0⟩]⟩,
  ⟨0x28, 1, [⟨47, 32, .ro, 0⟩, ⟨31, 16, .ro, 0⟩, ⟨15, 0, .ro, 0⟩]⟩,
  ⟨0x30, 1, [⟨0, 0, .rw1c, 0⟩]⟩,
  ⟨0x38, 1, [⟨31, 0, .ro, 0⟩]⟩]

/-- MXE registers of a core (R407, R61). -/
def mxeRegs : List RegRun := [
  ⟨0x0, 1, [⟨3, 3, .rw1c, 0⟩, ⟨2, 2, .rw1c, 0⟩, ⟨1, 1, .rw1c, 0⟩, ⟨0, 0, .rw1c, 0⟩]⟩,
  ⟨0x8, 1, [⟨63, 0, .ro, 0⟩]⟩]

/-- VXE registers of a core (R407, R37, R96). -/
def vxeRegs : List RegRun := [
  ⟨0x0, 1, [⟨63, 0, .ro, 0⟩]⟩,
  ⟨0x8, 1, [⟨63, 0, .ro, 0⟩]⟩,
  ⟨0x10, 1, [⟨63, 0, .ro, 0⟩]⟩,
  ⟨0x18, 1, [⟨3, 3, .ro, 0⟩, ⟨2, 2, .rw1c, 0⟩, ⟨1, 1, .rw1c, 0⟩, ⟨0, 0, .rw1c, 0⟩]⟩,
  ⟨0x20, 1, [⟨5, 5, .rw1c, 0⟩, ⟨4, 4, .rw1c, 0⟩, ⟨3, 3, .rw1c, 0⟩, ⟨2, 2, .rw1c, 0⟩, ⟨1, 1, .rw1c, 0⟩, ⟨0, 0, .rw1c, 0⟩]⟩]

/-- PST registers (R408, R154, R192). -/
def pstRegs : List RegRun := [
  ⟨0x0, 1, [⟨63, 0, .ro, 0⟩]⟩,
  ⟨0x8, 1, [⟨15, 0, .rc, 0⟩]⟩,
  ⟨0x100, 1, [⟨63, 0, .ro, 0⟩]⟩,
  ⟨0x108, 1, [⟨63, 0, .ro, 0⟩]⟩,
  ⟨0x110, 1, [⟨31, 0, .ro, 0⟩]⟩]

/-- ERR registers (R408, R377). -/
def errRegs : List RegRun := [
  ⟨0x0, 1, [⟨63, 0, .ro, 0⟩]⟩,
  ⟨0x8, 1, [⟨63, 0, .rw, 0⟩]⟩,
  ⟨0x10, 1, [⟨15, 1, .rw, 32767⟩]⟩,
  ⟨0x18, 1, [⟨15, 1, .rw1c, 0⟩]⟩,
  ⟨0x20, 1, [⟨15, 1, .rw1c, 0⟩]⟩,
  ⟨0x28, 1, [⟨31, 0, .ro, 0⟩]⟩,
  ⟨0x30, 1, [⟨31, 0, .ro, 0⟩]⟩,
  ⟨0x108, 15, [⟨31, 0, .ro, 0⟩]⟩,
  ⟨0x1020, 4, [⟨63, 0, .ro, 0⟩]⟩,
  ⟨0x1040, 4, [⟨63, 0, .ro, 0⟩]⟩,
  ⟨0x1060, 4, [⟨63, 0, .ro, 0⟩]⟩,
  ⟨0x1080, 4, [⟨63, 0, .ro, 0⟩]⟩,
  ⟨0x10A0, 4, [⟨63, 0, .ro, 0⟩]⟩,
  ⟨0x10C0, 4, [⟨63, 0, .ro, 0⟩]⟩,
  ⟨0x10E0, 4, [⟨63, 0, .ro, 0⟩]⟩,
  ⟨0x1100, 4, [⟨63, 0, .ro, 0⟩]⟩,
  ⟨0x1120, 4, [⟨63, 0, .ro, 0⟩]⟩,
  ⟨0x1140, 4, [⟨63, 0, .ro, 0⟩]⟩,
  ⟨0x1160, 4, [⟨63, 0, .ro, 0⟩]⟩,
  ⟨0x1180, 4, [⟨63, 0, .ro, 0⟩]⟩,
  ⟨0x11A0, 4, [⟨63, 0, .ro, 0⟩]⟩,
  ⟨0x11C0, 4, [⟨63, 0, .ro, 0⟩]⟩,
  ⟨0x11E0, 4, [⟨63, 0, .ro, 0⟩]⟩,
  ⟨0x8000, 4096, [⟨63, 0, .ro, 0⟩]⟩]

/-- Base of a cluster's registers (R399). -/
def clusterBase (c : Nat) : Nat := 0x1800000 + c * 0x100000
/-- Base of a core's registers (R399). -/
def coreBase (k : Nat) : Nat := clusterBase (k / 2) + 0x40000 + (k % 2) * 0x40000
/-- Base of a Lift's registers: core Lift k as k, cluster Lift c as 8 + c (R399, R407). -/
def liftBase (l : Nat) : Nat := if l < 8 then coreBase l + 0x3000 else clusterBase (l - 8) + 0x1000
/-- Base of a store's registers: local store k as k, cluster store c as 8 + c (R399, R407). -/
def storeBase (t : Nat) : Nat := if t < 8 then coreBase t + 0x4000 else clusterBase (t - 8)

/-! ## BAR0 offsets by register name (R400–R408) -/

namespace Reg

def hifId : Nat := 0x0
def hifFeature (j : Nat) : Nat := 0x8 + 8 * j
def hifFwVersion : Nat := 0x80
def hifDrvVersion : Nat := 0x88
def hifHandshake : Nat := 0x90
def hifRingBase : Nat := 0xA0
def hifRingSize : Nat := 0xA8
def hifRingCtrl : Nat := 0xB0
def hifRingTail : Nat := 0xB8
def hifRingHead : Nat := 0xC0
def hifStatusAddr : Nat := 0xC8
def hifHeartbeat : Nat := 0xD0
def hifHbTimeout : Nat := 0xD8
def hifHostlossCount : Nat := 0xE0
def hifCtxLive (j : Nat) : Nat := 0x100 + 8 * j
def hifBar2Window : Nat := 0x180
def hifBar2DropCount : Nat := 0x188
def hifFenceDropCount : Nat := 0x190
def hifTxStallCount : Nat := 0x198
def hifRecordDropCount : Nat := 0x1A0
def ldgXltRegionBase : Nat := 0x100000
def ldgXltRegionSize : Nat := 0x100008
def ldgXltFaultCount : Nat := 0x100010
def ldgResLoadCount : Nat := 0x100018
def ldgResEvictCount : Nat := 0x100020
def ldgSlalomSwitchCount : Nat := 0x100028
def ldgSlalomMissCount : Nat := 0x100030
def ldgBootStatus : Nat := 0x100100
def ldgFwBuild : Nat := 0x100108
def ldgFuseStatus : Nat := 0x100110
def ldgFlashOfs : Nat := 0x100200
def ldgFlashSrc : Nat := 0x100208
def ldgFlashCmd : Nat := 0x100210
def ldgFlashStatus : Nat := 0x100218
def ldgPatrolStatus : Nat := 0x100300
def ldgPatrolCtrl : Nat := 0x100308
def ldgPatrolResetCount : Nat := 0x100310
def ldgLogHead : Nat := 0x100400
def ldgLogSel : Nat := 0x100408
def ldgLogData (j : Nat) : Nat := 0x100440 + 8 * j
def ldgTraceCtrl : Nat := 0x100500
def ldgTraceBase : Nat := 0x100508
def ldgTraceWptr : Nat := 0x100510
def ldgTraceDropCount : Nat := 0x100518
def ldgEvqStatus : Nat := 0x100600
def ldgEvqOverrunCount : Nat := 0x100608
def pwrCtrl : Nat := 0x200000
def pwrShutdownCause : Nat := 0x200008
def pwrTripCount : Nat := 0x200010
def gtbCount : Nat := 0x300000
def gtbAlignStatus : Nat := 0x300008
def gtbSgCtrl (j : Nat) : Nat := 0x300100 + 8 * j
def gtbSgGate (j : Nat) : Nat := 0x300180 + 8 * j
def gtbSgMembers (j : Nat) : Nat := 0x300200 + 8 * j
def synCtrl : Nat := 0x301000
def synCtx (j : Nat) : Nat := 0x301040 + 8 * j
def synStatus : Nat := 0x301080
def synFirstKey : Nat := 0x301088
def synFirstIndex : Nat := 0x301090
def synFirstSigLocal : Nat := 0x301098
def synFirstSigPeer : Nat := 0x3010A0
def synMatchCount : Nat := 0x3010A8
def synDivCount : Nat := 0x3010B0
def synUnmatchedCount : Nat := 0x3010B8
def synSlalomSkewCount : Nat := 0x3010C0
def synSkipCount : Nat := 0x3010C8
def rnkPortStatus (n : Nat) : Nat := 0x400000 + n * 0x10000
def rnkAsym (n : Nat) : Nat := 0x400008 + n * 0x10000
def rnkLinkdownCount (n : Nat) : Nat := 0x400010 + n * 0x10000
def rnkRetryCount (n : Nat) : Nat := 0x400018 + n * 0x10000
def rnkFecCorrCount (n : Nat) : Nat := 0x400020 + n * 0x10000
def rnkBadFlitCount (n : Nat) : Nat := 0x400028 + n * 0x10000
def rnkDev : Nat := 0x400100
def rnkRouteDropCount : Nat := 0x400108
def rnkCascadeAbortCount : Nat := 0x400110
def rnkPairCtrl : Nat := 0x400118
def rnkPairStatus : Nat := 0x400120
def rnkTakeoverCount : Nat := 0x400128
def rnkPairCtx (j : Nat) : Nat := 0x400200 + 8 * j
def dmcCfg (d : Nat) : Nat := 0x800000 + d * 0x10000
def dmcStatus (d : Nat) : Nat := 0x800008 + d * 0x10000
def dmcCtrl (d : Nat) : Nat := 0x800010 + d * 0x10000
def dmcScrubCtrl (d : Nat) : Nat := 0x800018 + d * 0x10000
def dmcNrSeed (d : Nat) : Nat := 0x800020 + d * 0x10000
def dmcFreezeCtrl (d : Nat) : Nat := 0x800028 + d * 0x10000
def dmcInitMark (d : Nat) : Nat := 0x800030 + d * 0x10000
def dmcFrzCause (d : Nat) : Nat := 0x800100 + d * 0x10000
def dmcFrzAddr (d : Nat) : Nat := 0x800108 + d * 0x10000
def dmcFrzLoc (d : Nat) : Nat := 0x800110 + d * 0x10000
def dmcFrzSynd (d : Nat) : Nat := 0x800118 + d * 0x10000
def dmcFrzGate (d : Nat) : Nat := 0x800120 + d * 0x10000
def dmcCeCount (d : Nat) : Nat := 0x800200 + d * 0x10000
def dmcFreezeCount (d : Nat) : Nat := 0x800208 + d * 0x10000
def dmcFrzDiscardCount (d : Nat) : Nat := 0x800210 + d * 0x10000
def dmcZeroCount (d : Nat) : Nat := 0x800218 + d * 0x10000
def dmcPromoteCount (d : Nat) : Nat := 0x800220 + d * 0x10000
def dmcMaxWait (d : Nat) : Nat := 0x800228 + d * 0x10000
def dmcNrCount (d : Nat) : Nat := 0x800230 + d * 0x10000
def dmcRfmCount (d : Nat) : Nat := 0x800238 + d * 0x10000
def dmcScrubPassCount (d : Nat) : Nat := 0x800240 + d * 0x10000
def dmcSrEntryCount (d : Nat) : Nat := 0x800248 + d * 0x10000
def dmcSrAbandonCount (d : Nat) : Nat := 0x800250 + d * 0x10000
def dmcFrzHist (d j : Nat) : Nat := 0x800800 + d * 0x10000 + 8 * j
def camPocCtrl (n : Nat) : Nat := 0x1000000 + n * 0x10000
def camPocStatus (n : Nat) : Nat := 0x1000008 + n * 0x10000
def camPocTripCount (n : Nat) : Nat := 0x1000010 + n * 0x10000
def camCntFrames (n : Nat) : Nat := 0x1000100 + n * 0x10000
def camCntEccFix (n : Nat) : Nat := 0x1000108 + n * 0x10000
def camCntHdrErr (n : Nat) : Nat := 0x1000110 + n * 0x10000
def camCntCrc (n : Nat) : Nat := 0x1000118 + n * 0x10000
def camCntDiscard (n : Nat) : Nat := 0x1000120 + n * 0x10000
def camCntUnmatched (n : Nat) : Nat := 0x1000128 + n * 0x10000
def camCntOverrun (n : Nat) : Nat := 0x1000130 + n * 0x10000
def camCntShort (n : Nat) : Nat := 0x1000138 + n * 0x10000
def camCntLong (n : Nat) : Nat := 0x1000140 + n * 0x10000
def camCntLinelen (n : Nat) : Nat := 0x1000148 + n * 0x10000
def camCntOrphan (n : Nat) : Nat := 0x1000150 + n * 0x10000
def camCcmCtrl (n : Nat) : Nat := 0x1000200 + n * 0x10000
def camCcmStatus (n : Nat) : Nat := 0x1000208 + n * 0x10000
def camCcmGate (n : Nat) : Nat := 0x1000210 + n * 0x10000
def camTrigCtrl (n : Nat) : Nat := 0x1000300 + n * 0x10000
def camTrigStart (n : Nat) : Nat := 0x1000308 + n * 0x10000
def camTrigPeriod (n : Nat) : Nat := 0x1000310 + n * 0x10000
def camCcmList (n j : Nat) : Nat := 0x1000400 + n * 0x10000 + 8 * j
def ispCommit (p : Nat) : Nat := 0x1200000 + p * 0x40000
def ispPending (p : Nat) : Nat := 0x1200008 + p * 0x40000
def ispStreamErr (p : Nat) : Nat := 0x1200010 + p * 0x40000
def ispDestStatus (p : Nat) : Nat := 0x1200018 + p * 0x40000
def ispDestSkipCount (p j : Nat) : Nat := 0x1200040 + p * 0x40000 + 8 * j
def ispConvCount (p : Nat) : Nat := 0x1200080 + p * 0x40000
def ispClipCount (p : Nat) : Nat := 0x1200088 + p * 0x40000
def ispConvStatus (p : Nat) : Nat := 0x1200090 + p * 0x40000
def vcEncCommit : Nat := 0x1400000
def vcEncPending : Nat := 0x1400008
def vcEncErr : Nat := 0x1400010
def vcEncDropCount (j : Nat) : Nat := 0x1400020 + 8 * j
def vcRingDropCount (j : Nat) : Nat := 0x1400030 + 8 * j
def vcHrdViolCount (j : Nat) : Nat := 0x1400040 + 8 * j
def vcDecQbase : Nat := 0x1400080
def vcDecTail : Nat := 0x1400088
def vcDecHead : Nat := 0x1400090
def vcSaOwner : Nat := 0x1400098
def vcPoolSize : Nat := 0x14000A0
def vcEncWptr (j : Nat) : Nat := 0x1400100 + 8 * j
def vcEncRptr (j : Nat) : Nat := 0x1400200 + 8 * j
def ethCtrl (p : Nat) : Nat := 0x1600000 + p * 0x10000
def ethStatus (p : Nat) : Nat := 0x1600008 + p * 0x10000
def ethIpv4 (p : Nat) : Nat := 0x1600010 + p * 0x10000
def ethMac (p : Nat) : Nat := 0x1600018 + p * 0x10000
def ethTxPktCount (p : Nat) : Nat := 0x1600020 + p * 0x10000
def ethTxDiscardCount (p : Nat) : Nat := 0x1600028 + p * 0x10000
def ethRxDiscardCount (p : Nat) : Nat := 0x1600030 + p * 0x10000
def ethPtpCtrl (p : Nat) : Nat := 0x1600040 + p * 0x10000
def ethPtpStatus (p : Nat) : Nat := 0x1600048 + p * 0x10000
def ethPtpOffset (p : Nat) : Nat := 0x1600050 + p * 0x10000
def stoRefuseCount (t : Nat) : Nat := storeBase t + 0x0
def stoConflictCount (t : Nat) : Nat := storeBase t + 0x8
def stoPromoteCount (t : Nat) : Nat := storeBase t + 0x10
def stoMaxWait (t : Nat) : Nat := storeBase t + 0x18
def stoEpochDropCount (t : Nat) : Nat := storeBase t + 0x20
def stoAccumCount (t : Nat) : Nat := storeBase t + 0x28
def lftStatus (l : Nat) : Nat := liftBase l + 0x0
def lftFaultVa (l : Nat) : Nat := liftBase l + 0x8
def lftFaultPos (l : Nat) : Nat := liftBase l + 0x10
def lftFaultCtrl (l : Nat) : Nat := liftBase l + 0x18
def lftReqCount (l : Nat) : Nat := liftBase l + 0x20
def lftPkIn (l : Nat) : Nat := liftBase l + 0x28
def lftPkOut (l : Nat) : Nat := liftBase l + 0x30
def dppStatus (c : Nat) : Nat := clusterBase c + 0x2000
def dppImageCount (c : Nat) : Nat := clusterBase c + 0x2008
def dppTruncCount (c : Nat) : Nat := clusterBase c + 0x2010
def ccStatus (k : Nat) : Nat := coreBase k + 0x0
def ccHaltStatus (k : Nat) : Nat := coreBase k + 0x8
def ccHaltDetail (k : Nat) : Nat := coreBase k + 0x10
def ccHaltPc (k : Nat) : Nat := coreBase k + 0x18
def ccHaltAddr (k : Nat) : Nat := coreBase k + 0x20
def ccTileCharge (k : Nat) : Nat := coreBase k + 0x28
def ccTokenStatus (k : Nat) : Nat := coreBase k + 0x30
def ccTokenResidueCount (k : Nat) : Nat := coreBase k + 0x38
def mxeAccStatus (k : Nat) : Nat := coreBase k + 0x1000
def mxeWrapCount (k : Nat) : Nat := coreBase k + 0x1008
def vxeConvCount (k : Nat) : Nat := coreBase k + 0x2000
def vxeClipCount (k : Nat) : Nat := coreBase k + 0x2008
def vxeNanCount (k : Nat) : Nat := coreBase k + 0x2010
def vxeConvStatus (k : Nat) : Nat := coreBase k + 0x2018
def vxeArithStatus (k : Nat) : Nat := coreBase k + 0x2020
def pstPromoteCount : Nat := 0x1C00000
def pstMaxWait : Nat := 0x1C00008
def pstTcBound : Nat := 0x1C00100
def pstTcClaimCount : Nat := 0x1C00108
def pstTcReturnCount : Nat := 0x1C00110
def errWptr : Nat := 0x1D00000
def errRptr : Nat := 0x1D00008
def errRecMask : Nat := 0x1D00010
def errFirstValid : Nat := 0x1D00018
def errOvfStatus : Nat := 0x1D00020
def errOvfCount : Nat := 0x1D00028
def errLostCount : Nat := 0x1D00030
def errClassCount (c : Nat) : Nat := 0x1D00100 + 8 * c
def errFirst (c w : Nat) : Nat := 0x1D01000 + 0x20 * c + 8 * w
def errRing (j : Nat) : Nat := 0x1D08000 + 8 * j
/-- Active parameter set of a stream (R405). -/
def ispActive (p st : Nat) : Nat := 0x1220000 + p * 0x40000 + st * 0x1000
/-- Shadow parameter set of a stream (R405). -/
def ispShadow (p st : Nat) : Nat := 0x1210000 + p * 0x40000 + st * 0x1000
/-- Static defect table of a pipe (R405). -/
def ispDefects (p : Nat) : Nat := 0x1230000 + p * 0x40000
/-- Shadow parameter block of an encoder stream (R406). -/
def vcShadow (i : Nat) : Nat := 0x1410000 + i * 0x100
/-- Active parameter block of an encoder stream (R406). -/
def vcActive (i : Nat) : Nat := 0x1412000 + i * 0x100

end Reg

/-- The fields of the register at a block offset. -/
def findRun (rs : List RegRun) (o : Nat) : Option (List FieldDesc) :=
  match rs.find? (fun r => decide (r.start ≤ o) && decide (o < r.start + 8 * r.count)) with
  | some r => some r.fields
  | none => none

/-- A list word of a control master: even words hold the transaction, odd ones its data bytes (R404). -/
def listFields (j : Nat) : List FieldDesc :=
  if j % 2 = 0 then [⟨63, 57, .rw, 0⟩, ⟨56, 56, .rw, 0⟩, ⟨55, 55, .rw, 0⟩, ⟨54, 52, .rw, 0⟩, ⟨51, 16, .rw, 0⟩, ⟨15, 0, .rw, 0⟩]
  else [⟨63, 32, .rw, 0⟩, ⟨31, 0, .rw, 0⟩]

/-- The bytes that a run of ranges (first byte, length) lists. -/
def listed (rs : List (Nat × Nat)) (b : Nat) : Bool := rs.any (fun r => decide (r.1 ≤ b) && decide (b < r.1 + r.2))

/-- The bytes of a parameter set that R259 lists: all others, and the upper byte of SKIPMASK, are reserved. -/
def setBytes : List (Nat × Nat) := [(0, 0x19), (0x1A, 6), (0x40, 396), (0x1D0, 24), (0x200, 128), (0x280, 12), (0x290, 80), (0x2E0, 16),
  (0x2F0, 48), (0x320, 16), (0x340, 802), (0x680, 14), (0x700, 21), (0x800, 1536)]

/-- The bytes of a parameter block that R279 lists. -/
def blockBytes : List (Nat × Nat) := [(0, 0x21), (0x24, 0x1A)]

/-- A set or a block with its reserved bytes 0 (R5, R259, R279). -/
def cleanBytes (rs : List (Nat × Nat)) (l : List Byte) : List Byte := (l.zipIdx).map (fun b => if listed rs b.2 then b.1 else 0)

/-- The listed bytes of a slot as fields: no field of R259 or R279 but those named below crosses 4 aligned bytes. -/
def byteFields (rs : List (Nat × Nat)) (o : Nat) : List FieldDesc :=
  (((List.range 8).filter (fun i => listed rs (o + i))).map (fun i => ⟨8 * i + 7, 8 * i, .rw, 0⟩)).reverse

/-- The fields of a slot of a shadow set (R259): FILL and CFA cross its middle. -/
def setFields (o : Nat) : List FieldDesc :=
  if o = 0x008 then [⟨63, 56, .rw, 0⟩, ⟨55, 48, .rw, 0⟩, ⟨47, 16, .rw, 0⟩, ⟨15, 0, .rw, 0⟩]
  else if o = 0x010 then [⟨63, 0, .rw, 0⟩]
  else byteFields setBytes o

/-- The fields of a slot of a shadow block (R279): RING_BASE fills its slot, and DST_MAC lies in two. -/
def blockFields (o : Nat) : List FieldDesc :=
  if o = 0x18 then [⟨63, 0, .rw, 0⟩]
  else if o = 0x28 then [⟨63, 32, .rwWide, 0⟩, ⟨31, 16, .rw, 0⟩, ⟨15, 0, .rw, 0⟩]
  else if o = 0x30 then byteFields [(0x32, 6)] 0x30 ++ [⟨15, 0, .rwWide, 0⟩]
  else byteFields blockBytes o

/-- The registers of a sensor port, by offset from its base (R403). -/
def portRegs (poc : Bool) (o : Nat) : Option (List FieldDesc) :=
  if 0x400 ≤ o ∧ o < 0x800 then some (listFields ((o - 0x400) / 8)) else findRun (if poc then pocRegs ++ camRegs else camRegs) o

/-- The registers of a pipe, by offset from its base (R405): a 4-byte write changes the fields of a parameter set that lie in the
bytes written (R397). -/
def pipeRegs (o : Nat) : Option (List FieldDesc) :=
  if 0x10000 ≤ o ∧ o < 0x20000 ∧ o % 8 = 0 then some (setFields (o % 0x1000)) else findRun ispRegs o

/-- The registers of the codecs, by offset (R406, R279). -/
def codecRegs (o : Nat) : Option (List FieldDesc) :=
  if 0x10000 ≤ o ∧ o < 0x12000 ∧ o % 8 = 0 then some (blockFields (o % 0x100)) else findRun vcRegs o

/-- The registers of a core, by offset from its base (R399). -/
def coreRegs (o : Nat) : Option (List FieldDesc) :=
  if o < 0x1000 then findRun ccRegs o
  else if o < 0x2000 then findRun mxeRegs (o - 0x1000)
  else if o < 0x3000 then findRun vxeRegs (o - 0x2000)
  else if o < 0x4000 then findRun lftRegs (o - 0x3000)
  else findRun stoRegs (o - 0x4000)

/-- The registers of a cluster, by offset from its base (R399). -/
def clusterRegs (o : Nat) : Option (List FieldDesc) :=
  if o < 0x1000 then findRun stoRegs o
  else if o < 0x2000 then findRun lftRegs (o - 0x1000)
  else if o < 0x40000 then findRun dppRegs (o - 0x2000)
  else if o < 0x80000 then coreRegs (o - 0x40000)
  else if o < 0xC0000 then coreRegs (o - 0x80000)
  else none

/-- The fields of the register in the 8-byte slot at a BAR0 offset, or none where there is no register (R399). -/
def regFields (off : Nat) : Option (List FieldDesc) :=
  if off < 0x100000 then findRun hifRegs off
  else if off < 0x200000 then findRun ldgRegs (off - 0x100000)
  else if off < 0x300000 then findRun pwrRegs (off - 0x200000)
  else if off < 0x400000 then findRun gtbRegs (off - 0x300000)
  else if off < 0x440000 then
    let o := (off - 0x400000) % 0x10000
    if off < 0x410000 then findRun (rnkRegs ++ rnk0Regs) o else findRun rnkRegs o
  else if off < 0x800000 then none
  else if off < 0x880000 then findRun dmcRegs ((off - 0x800000) % 0x10000)
  else if off < 0x1000000 then none
  else if off < 0x1100000 then
    let o := (off - 0x1000000) % 0x10000
    portRegs (off < 0x10C0000) o
  else if off < 0x1200000 then none
  else if off < 0x1280000 then pipeRegs ((off - 0x1200000) % 0x40000)
  else if off < 0x1400000 then none
  else if off < 0x1600000 then codecRegs (off - 0x1400000)
  else if off < 0x1610000 then findRun (ethRegs ++ ptpRegs) (off - 0x1600000)
  else if off < 0x1620000 then findRun ethRegs (off - 0x1610000)
  else if off < 0x1800000 then none
  else if off < 0x1C00000 then clusterRegs ((off - 0x1800000) % 0x100000)
  else if off < 0x1D00000 then findRun pstRegs (off - 0x1C00000)
  else if off < 0x1E00000 then findRun errRegs (off - 0x1D00000)
  else none

/-- A register value put together from its fields' reset values. -/
def resetOf : List FieldDesc → Nat
  | [] => 0
  | f :: r => f.reset * 2 ^ f.lo + resetOf r

/-- The reset value of the register in the slot at a BAR0 offset; 0 where there is none (R5, R400–R408). -/
def regReset (off : Nat) : W64 :=
  match regFields off with
  | some fs => BitVec.ofNat 64 (resetOf fs)
  | none => 0

end Sys2Proof.Machine
end

