-- ==== Sys2Proof/Machine/Ops.lean ====
section
/-! DEFINITION. The named operations over memory, registers, cores and error reports that the meanings share. -/

namespace Sys2Proof.Machine

/-- What a meaning answers. -/
abbrev Out := Host.Outcome State Fault Refusal

/-! ## Registers (R7, R397) -/

/-- The value of the register at a BAR0 offset. -/
def State.reg (s : State) (off : Nat) : W64 := lookupD (regReset off) s.regs off

/-- The register file with one register written; a value equal to the reset value is not listed. -/
def putReg (rs : List (Nat × W64)) (off : Nat) (v : W64) : List (Nat × W64) :=
  splice rs off 1 (if v = regReset off then [] else [(off, v)])

/-- Write a register. -/
def State.setReg (s : State) (off : Nat) (v : W64) : State := { s with regs := putReg s.regs off v }

/-- A field of a register. -/
def State.fld (s : State) (off hi lo : Nat) : Nat := field (s.reg off) hi lo

/-- One bit of a register. -/
def State.flag (s : State) (off i : Nat) : Bool := bit (s.reg off) i

/-- Write a field of a register. -/
def State.setFld (s : State) (off hi lo v : Nat) : State := s.setReg off (setField (s.reg off) hi lo v)

/-- Set or clear one bit of a register. -/
def State.setFlag (s : State) (off i : Nat) (b : Bool) : State := s.setReg off (setBit (s.reg off) i b)

/-- A clocked count rises by n and saturates at its width. -/
def State.inc (s : State) (off width n : Nat) : State :=
  s.setReg off (BitVec.ofNat 64 (satAdd width (s.reg off).toNat n))

/-- Width of the count that fills a register (R365, R377). -/
def regWidth (off : Nat) : Nat :=
  match regFields off with
  | some (f :: _) => f.hi + 1 - f.lo
  | _ => 64

/-- The core whose conversion count lies at an offset (R37). -/
def convCore (off : Nat) : Option Nat :=
  (List.range 8).find? (fun k => off == Reg.vxeConvCount k || off == Reg.vxeClipCount k || off == Reg.vxeNanCount k)

/-- A source's delta joins the register's count; a conversion count that saturates sets SAT (R37, R363). -/
def State.transfer (s : State) (off n : Nat) : State :=
  let s1 := s.inc off (regWidth off) n
  match convCore off with
  | some k => if (s1.reg off).toNat = 2 ^ 64 - 1 then s1.setFlag (Reg.vxeConvStatus k) 3 true else s1
  | none => s1

/-- A clockless count rises by n: the delta waits at its source for a transfer, and the source sends each 4,096 that it reaches
(R363). -/
def State.bump (s : State) (off n : Nat) : State :=
  if n = 0 then s
  else
    let t := lookupD 0 s.deltas off + n
    let s1 := { s with deltas := writeOne 0 s.deltas off (t % 4096) }
    if t < 4096 then s1 else s1.transfer off (t / 4096 * 4096)

/-- The longest wait since the last read (R154). -/
def State.maxWait (s : State) (off width n : Nat) : State :=
  s.setReg off (BitVec.ofNat 64 (max (s.reg off).toNat (min n (2 ^ width - 1))))

/-- The device does nothing: POR_N is low, or a thermal trip or a supply fault has stopped it (R359, R387, R388). -/
def State.off (s : State) : Bool := s.board.porLow || s.power.stopped

/-- The QV8 masters requests on a link that is up (R243, R392). -/
def State.masters (s : State) : Bool := s.host.mastering && !s.board.clocksLost.contains .pcie

/-! ## Memory -/

/-- The canonical form of the device's memory. -/
def Memory.wf (m : Mem) : Bool := canonical 0 m

/-- n bytes of device memory from a physical address. What no write has touched reads 0 (R295; log 4). -/
def State.rd (s : State) (a n : Nat) : List Byte := readRun 0 s.mem a n

/-- Write bytes to device memory. -/
def State.wr (s : State) (a : Nat) (bs : List Byte) : State := { s with mem := writeRun 0 s.mem a bs }

/-- One byte of device memory. -/
def State.byteAt (s : State) (a : Nat) : Byte := lookupD 0 s.mem a

/-- One byte of host memory: what the QV8 wrote, else a free value (log 7). -/
def State.hostByteAt (s : State) (a : Nat) : Byte := lookupD (Config.hostByte a) s.hostMem a

/-- n bytes of host memory. -/
def State.hostRd (s : State) (a n : Nat) : List Byte := (List.range n).map (fun i => s.hostByteAt (a + i))

/-- Write bytes to host memory (posted writes, in order). Every byte written is listed. -/
def State.hostWr (s : State) (a : Nat) (bs : List Byte) : State :=
  { s with hostMem := splice s.hostMem a bs.length (keyed a bs) }

/-- Write n free bytes to device memory: contents the specification calls undefined (log 9). -/
def State.undefine (s : State) (a n : Nat) : State :=
  let bs := (List.range n).map (fun i => Config.freeByte (s.draws + i))
  { s.wr a bs with draws := s.draws + n }

/-- The next free 64-bit value. -/
def State.drawWord (s : State) : W64 × State := (Config.freeWord s.draws, { s with draws := s.draws + 1 })

/-! ## Store rows (R145, R146) -/

/-- Rows of a store. -/
def storeRows (st : Nat) : Nat := if st < 8 then 32768 else 98304

/-- Physical address of row r of a store (R146): stores 0–7 are the local stores, 8–11 the cluster stores. -/
def rowAddr (st r : Nat) : Nat :=
  if st < 8 then 0x030000000000 + st * 0x02000000 + 512 * r
  else 0x020000000000 + (st - 8) * 0x10000000 + 512 * r

/-- The store and row that hold a physical address, where there is one (R146). -/
def storeOf (pa : Nat) : Option (Nat × Nat) :=
  let pick := fun (base size first count : Nat) =>
    if base ≤ pa ∧ pa < base + count * size then
      let st := first + (pa - base) / size
      let r := ((pa - base) % size) / 512
      if r < storeRows st then some (st, r) else none
    else none
  match pick 0x030000000000 0x02000000 0 8 with
  | some x => some x
  | none => pick 0x020000000000 0x10000000 8 4

/-- The 512 bytes of a row. -/
def State.row (s : State) (st r : Nat) : List Byte := s.rd (rowAddr st r) 512

/-- Consecutive rows as one byte list. -/
def State.rowsFrom (s : State) (st r n : Nat) : List Byte := s.rd (rowAddr st r) (512 * n)

/-- Bytes cut or padded with zeros to one row. -/
def padRow (bs : List Byte) : List Byte := (bs ++ List.replicate 512 0).take 512

/-- Byte list cut into rows of 512, the last padded with zeros. -/
def rowsOf (bs : List Byte) : List (List Byte) :=
  (List.range (cdiv bs.length 512)).map (fun i => padRow ((bs.drop (512 * i)).take 512))

/-! ## Cores -/

/-- Core k. -/
def State.core (s : State) (k : CoreId) : Core := s.cores[k]

/-- Replace core k. -/
def State.setCore (s : State) (k : CoreId) (c : Core) : State := { s with cores := s.cores.set k c }

/-- The value of a g register; g0 reads 0 (R97). -/
def Core.gr (c : Core) (i : BitVec 5) : W64 := if i = 0 then 0 else c.g[i.toFin]

/-- Write a g register; a write to g0 is discarded (R97). -/
def Core.setG (c : Core) (i : BitVec 5) (v : W64) : Core := if i = 0 then c else { c with g := c.g.set i.toFin v }

/-- The value of a predicate; p0 reads 1 (R97). -/
def Core.pr (c : Core) (i : Nat) : Bool := i % 8 == 0 || bit c.p (i % 8)

/-- Write a predicate; a write to p0 is discarded (R97). -/
def Core.setP (c : Core) (i : Nat) (b : Bool) : Core := if i % 8 = 0 then c else { c with p := setBit c.p (i % 8) b }

/-- The token counter t (R97). -/
def Core.token (c : Core) (t : Fin 32) : BitVec 16 := c.tokens[t]

/-- Write a token counter. -/
def Core.setToken (c : Core) (t : Fin 32) (v : BitVec 16) : Core := { c with tokens := c.tokens.set t v }

/-- The queue q of the core. -/
def Core.queue (c : Core) (q : QueueId) : List Cmd := c.queues[q]

/-- Replace a queue. -/
def Core.setQueue (c : Core) (q : QueueId) (l : List Cmd) : Core := { c with queues := c.queues.set q l }

/-- Cluster of a core (R3). -/
def clusterOf (k : CoreId) : Nat := k.val / 2

/-- A list with its n-th entry changed. -/
def modifyNth {α : Type} (f : α → α) : Nat → List α → List α
  | _, [] => []
  | 0, a :: r => f a :: r
  | n + 1, a :: r => a :: modifyNth f n r

/-- A list without its n-th entry. -/
def removeNth {α : Type} : Nat → List α → List α
  | _, [] => []
  | 0, _ :: r => r
  | n + 1, a :: r => a :: removeNth n r

/-! ## Error reports (R366–R371) -/

/-- A report with no fields set but its class, severity, unit, cause and the gate count of detection. -/
def mkReport (s : State) (cls severity unit cause : Nat) : Report :=
  ⟨cls, severity, unit, s.gate, 0xFFFF, cause, 0, 0, none, false, false⟩

/-- Unit number of R367: block type and instance. -/
def unitNo (block inst : Nat) : Nat := block * 256 + inst

/-- A unit raises a report: it waits in the unit's buffer for its class, or in the reserved place when it is the first to
find the buffer full since the class was last cleared, or it is lost and only counted (R369, R371). Firmware waits for its
buffer, so its reports are never lost there. -/
def State.report (s : State) (r : Report) : State :=
  let key := r.unit * 16 + r.cls
  let full := s.reports.any (fun x => x.unit == r.unit && x.cls == r.cls && !x.reserved)
  if r.firmware || !full then { s with reports := s.reports ++ [r] }
  else if s.reservedUsed.contains key then
    (s.inc (Reg.errClassCount r.cls) 32 1).inc Reg.errLostCount 32 1
  else { s with reports := s.reports ++ [{ r with reserved := true }], reservedUsed := s.reservedUsed ++ [key] }

/-! ## The event log and notifications -/

/-- Firmware makes a log entry (R349): number `LDG_LOG_HEAD` + 1. -/
def State.logEntry (s : State) (source level code : Nat) (args : List W64) : State :=
  let n := (s.reg Reg.ldgLogHead).toNat + 1
  { s.setReg Reg.ldgLogHead (BitVec.ofNat 64 n) with
    lodge := { s.lodge with log := s.lodge.log ++ [⟨s.gate, source, level, code, args⟩] } }

/-- A notification enters the event queue of a cluster, or overruns it (R364). The answer says whether it was queued. -/
def State.notify (s : State) (c : ClusterId) (n : Note) : State × Bool :=
  let q := s.lodge.events[c]
  if q.length < 256 then ({ s with lodge := { s.lodge with events := s.lodge.events.set c (q ++ [n]) } }, true)
  else
    let s1 := (s.setFlag Reg.ldgEvqStatus c.val true).inc Reg.ldgEvqOverrunCount 32 1
    ({ s1 with lodge := { s1.lodge with overruns := s1.lodge.overruns.set c (s1.lodge.overruns[c] + 1) } }, false)

/-- The Lodge takes the first such notification from a cluster's queue, where it is queued. -/
def State.takeNote (s : State) (c : ClusterId) (n : Note) : State :=
  { s with lodge := { s.lodge with events := s.lodge.events.set c (s.lodge.events[c].erase n) } }

/-- The cluster of a Lift: core Lifts as their cores, cluster Lifts as 8 + their cluster (R155). -/
def liftCluster (l : Nat) : ClusterId := Fin.ofNat 4 (if l < 8 then l / 2 else l - 8)

/-- What the Lodge is told of a stopped command or fill (R171, R364). -/
def Stopped.note (x : Stopped) : Note := .fault (Fin.ofNat 12 x.lift) x.work x.seq

/-- Stopped work leaves the list, and its notification the event queue (R171, R364). -/
def State.dropStopped (s : State) (p : Stopped → Bool) : State :=
  (s.stopped.filter p).foldl (fun s x => s.takeNote (liftCluster x.lift) x.note)
    { s with stopped := s.stopped.filter (fun x => !p x) }

/-- The cluster of a core, as an index. -/
def clusterFin (k : CoreId) : ClusterId := ⟨k.val / 2, by omega⟩

end Sys2Proof.Machine
end

