-- ==== Sys2Proof/Machine/Flags.lean ====
section
/-! DEFINITION. Status flags, conversion counts and step charges: every flag computation the engines and the control
core share (R36, R37, R61, R96, R105, R137, R140). -/

namespace Sys2Proof.Machine

/-- Set the sticky bits of a status register that the mask names (R7). -/
def State.stick (s : State) (off mask : Nat) : State :=
  if mask = 0 then s else s.setReg off ((s.reg off) ||| BitVec.ofNat 64 mask)

/-- What a batch of conversions adds: converted, clipped, NaN sources, overflows to infinity (R36, R37). -/
structure ConvTally where
  conv : Nat
  clip : Nat
  nan : Nat
  ovf : Nat
deriving DecidableEq, Repr

/-- No conversion. -/
def ConvTally.zero : ConvTally := ⟨0, 0, 0, 0⟩

/-- Two batches together. -/
def ConvTally.add (a b : ConvTally) : ConvTally := ⟨a.conv + b.conv, a.clip + b.clip, a.nan + b.nan, a.ovf + b.ovf⟩

/-- The core's conversion counts and flags after a batch; the tile keeps its own totals for the job (R36–R38). -/
def State.countConv (s : State) (k : CoreId) (t : ConvTally) : State :=
  let s1 := ((s.bump (Reg.vxeConvCount k) t.conv).bump (Reg.vxeClipCount k) t.clip).bump (Reg.vxeNanCount k) t.nan
  let s2 := s1.stick (Reg.vxeConvStatus k)
    ((if 0 < t.clip then 1 else 0) + (if 0 < t.nan then 2 else 0) + (if 0 < t.ovf then 4 else 0))
  let c := s2.core k
  s2.setCore k { c with tile := c.tile.map (fun x =>
    { x with conv := x.conv + t.conv, clip := x.clip + t.clip, nan := x.nan + t.nan }) }

/-- The engine of a step charge (R140). -/
inductive ChargeUnit where
  | ctl | mtx | vec
deriving DecidableEq, Repr

/-- Low bit of a charge in CC_TILE_CHARGE (R144). -/
def ChargeUnit.lo : ChargeUnit → Nat
  | .ctl => 0
  | .mtx => 16
  | .vec => 32

/-- A charge of the core's step monitor. -/
def State.charge (s : State) (k : CoreId) (u : ChargeUnit) : Nat := s.fld (Reg.ccTileCharge k) (u.lo + 15) u.lo

/-- Add to a charge, or none where it would pass 20,000 (R140). -/
def State.addCharge (s : State) (k : CoreId) (u : ChargeUnit) (n : Nat) : Option State :=
  let v := s.charge k u + n
  if 20000 < v then none else some (s.setFld (Reg.ccTileCharge k) (u.lo + 15) u.lo v)

/-- DIVZ of CC_STATUS (R105, R118). -/
def State.setDivz (s : State) (k : CoreId) : State := s.stick (Reg.ccStatus k) 4

/-- Bits of VXE_ARITH_STATUS (R96). -/
structure ArithFlags where
  iwrap : Bool := false
  isat : Bool := false
  divz : Bool := false
  finv : Bool := false
  fovf : Bool := false
  ldovf : Bool := false
deriving DecidableEq, Repr

/-- No flag. -/
def ArithFlags.none : ArithFlags := {}

/-- Either. -/
def ArithFlags.or (a b : ArithFlags) : ArithFlags :=
  ⟨a.iwrap || b.iwrap, a.isat || b.isat, a.divz || b.divz, a.finv || b.finv, a.fovf || b.fovf, a.ldovf || b.ldovf⟩

/-- The flags as bits of the register. -/
def ArithFlags.mask (a : ArithFlags) : Nat :=
  a.iwrap.toNat + 2 * a.isat.toNat + 4 * a.divz.toNat + 8 * a.finv.toNat + 16 * a.fovf.toNat + 32 * a.ldovf.toNat

/-- Set vector flags of a core. -/
def State.stickArith (s : State) (k : CoreId) (a : ArithFlags) : State := s.stick (Reg.vxeArithStatus k) a.mask

end Sys2Proof.Machine
end

