-- ==== Sys2Proof/Machine/Numeric.lean ====
section
/-! DEFINITION. The twelve number formats, their packing, conversion with one rounding, group scales and seeded
stochastic rounding (R17–R40). -/

namespace Sys2Proof.Machine

/-! ## Codes and widths (R17, R20, R27) -/

/-- Bits of an element of a format code; 0 for a reserved code. -/
def fmtBits (f : Nat) : Nat :=
  match f with
  | 0 => 4 | 1 => 8 | 2 => 8 | 3 => 16 | 4 => 8 | 5 => 8 | 6 => 6 | 7 => 6 | 8 => 4 | 9 => 16 | 10 => 16 | 11 => 32
  | _ => 0

/-- A format code is one of the twelve. -/
def fmtOk (f : Nat) : Bool := decide (f < 12)

/-- Integer formats. -/
def fmtInt (f : Nat) : Bool := decide (f < 4)

/-- Elements per row for an element width (R20). -/
def perRow (b : Nat) : Nat := if b = 6 then 640 else if b = 0 then 1 else 4096 / b

/-- Group size of a group code (R17). -/
def groupSize (g : Nat) : Nat := 32 * 2 ^ g

/-- Scale codes a format may carry (R27). -/
def scalePermitted (f sc : Nat) : Bool :=
  match sc with
  | 0 => true
  | 1 => f == 1 || (decide (4 ≤ f) && decide (f ≤ 8))
  | 2 => f == 0 || f == 1 || f == 2
  | _ => false

/-- Scales per row of a scale code (R20). -/
def scalesPerRow (sc : Nat) : Nat := if sc = 1 then 512 else 256

/-- Bytes of one scale. -/
def scaleBytes (sc : Nat) : Nat := if sc = 0 then 0 else if sc = 1 then 1 else 2

/-- Little-endian 16-bit elements. -/
def elems16 : List Byte → List Nat
  | a :: b :: r => (a.toNat + 256 * b.toNat) :: elems16 r
  | _ => []

/-- Little-endian 32-bit elements. -/
def elems32 : List Byte → List Nat
  | a :: b :: c :: d :: r => ofLe [a, b, c, d] :: elems32 r
  | _ => []

/-- Four 6-bit elements to three bytes. -/
def elems6 : List Byte → List Nat
  | a :: b :: c :: r =>
    let v := ofLe [a, b, c]
    v % 64 :: v / 64 % 64 :: v / 4096 % 64 :: v / 262144 :: elems6 r
  | _ => []

/-- The element codes of one row (R20). -/
def rowElems (b : Nat) (bs : List Byte) : List Nat :=
  if b = 4 then bs.flatMap (fun x => [x.toNat % 16, x.toNat / 16])
  else if b = 6 then elems6 (bs.take 480)
  else if b = 8 then bs.map (·.toNat)
  else if b = 16 then elems16 bs
  else elems32 bs

/-- The element codes of consecutive rows held as one byte list. -/
def unpackRows (b : Nat) (bs : List Byte) : List Nat := (rowsOf bs).flatMap (rowElems b)

/-- Pairs of 4-bit codes as bytes. -/
def pack4 : List Nat → List Byte
  | a :: b :: r => BitVec.ofNat 8 (a % 16 + 16 * (b % 16)) :: pack4 r
  | [a] => [BitVec.ofNat 8 (a % 16)]
  | [] => []

/-- Fours of 6-bit codes as bytes. -/
def pack6 : List Nat → List Byte
  | a :: b :: c :: d :: r => leBytes 3 (a % 64 + 64 * (b % 64) + 4096 * (c % 64) + 262144 * (d % 64)) ++ pack6 r
  | [a, b, c] => leBytes 3 (a % 64 + 64 * (b % 64) + 4096 * (c % 64))
  | [a, b] => leBytes 3 (a % 64 + 64 * (b % 64))
  | [a] => leBytes 3 (a % 64)
  | [] => []

/-- Element codes as bytes, without row padding. -/
def packBytes (b : Nat) (es : List Nat) : List Byte :=
  if b = 4 then pack4 es else if b = 6 then pack6 es else es.flatMap (leBytes (b / 8))

/-- Element codes as rows, the last one filled with the pad code (R20, R163). -/
def packRows (b pad : Nat) (es : List Nat) : List (List Byte) :=
  let e := perRow b
  (List.range (cdiv es.length e)).map (fun i =>
    let part := (es.drop (e * i)).take e
    padRow (packBytes b (part ++ List.replicate (e - part.length) pad)))

/-! ## Extended rationals -/

/-- An exact value: NaN, an infinity, or a signed rational (the sign of zero is kept, R19). -/
inductive XR where
  | nan
  | inf (neg : Bool)
  | fin (neg : Bool) (num den : Nat)
deriving DecidableEq, Repr

/-- n × 2^e with a sign. -/
def XR.dyadic (neg : Bool) (n : Nat) (e : Int) : XR :=
  if 0 ≤ e then .fin neg (n * 2 ^ e.toNat) 1 else .fin neg n (2 ^ (-e).toNat)

/-- An integer. -/
def XR.ofInt (v : Int) : XR := .fin (decide (v < 0)) v.natAbs 1

/-- +0. -/
def XR.zero : XR := .fin false 0 1

/-- The numerator with its sign. -/
def signed (neg : Bool) (n : Nat) : Int := if neg then -(n : Int) else n

/-- Negation. -/
def XR.neg : XR → XR
  | .nan => .nan
  | .inf s => .inf (!s)
  | .fin s n d => .fin (!s) n d

/-- Exact sum; exact zero sums are +0 except (−0) + (−0) (R76). -/
def XR.add : XR → XR → XR
  | .nan, _ => .nan
  | _, .nan => .nan
  | .inf a, .inf b => if a = b then .inf a else .nan
  | .inf a, _ => .inf a
  | _, .inf b => .inf b
  | .fin a n d, .fin b m e =>
    let v := signed a n * e + signed b m * d
    if v = 0 then .fin (a && b && n == 0 && m == 0) 0 1 else .fin (decide (v < 0)) v.natAbs (d * e)

/-- Exact product. -/
def XR.mul : XR → XR → XR
  | .nan, _ => .nan
  | _, .nan => .nan
  | .inf a, .inf b => .inf (a != b)
  | .inf a, .fin b n _ => if n = 0 then .nan else .inf (a != b)
  | .fin a n _, .inf b => if n = 0 then .nan else .inf (a != b)
  | .fin a n d, .fin b m e => .fin (a != b) (n * m) (d * e)

/-- Exact quotient: a finite non-zero value by zero is an infinity, 0/0 and ∞/∞ are NaN. -/
def XR.div : XR → XR → XR
  | .nan, _ => .nan
  | _, .nan => .nan
  | .inf _, .inf _ => .nan
  | .inf a, .fin b _ _ => .inf (a != b)
  | .fin a _ _, .inf b => .fin (a != b) 0 1
  | .fin a n d, .fin b m e =>
    if m = 0 then (if n = 0 then .nan else .inf (a != b)) else .fin (a != b) (n * e) (d * m)

/-- NaN. -/
def XR.isNan : XR → Bool
  | .nan => true
  | _ => false

/-- An infinity. -/
def XR.isInf : XR → Bool
  | .inf _ => true
  | _ => false

/-- Zero of either sign. -/
def XR.isZero : XR → Bool
  | .fin _ 0 _ => true
  | _ => false

/-- The sign is set. -/
def XR.isNeg : XR → Bool
  | .nan => false
  | .inf s => s
  | .fin s _ _ => s

/-- Strictly below, −0 and +0 equal; false with a NaN. -/
def XR.lt : XR → XR → Bool
  | .nan, _ => false
  | _, .nan => false
  | .inf a, .inf b => a && !b
  | .inf a, _ => a
  | _, .inf b => !b
  | .fin a n d, .fin b m e => decide (signed a n * e < signed b m * d)

/-- Equal in value; false with a NaN. -/
def XR.eqv : XR → XR → Bool
  | .nan, _ => false
  | _, .nan => false
  | .inf a, .inf b => a == b
  | .fin a n d, .fin b m e => decide (signed a n * e = signed b m * d)
  | _, _ => false

/-! ## Rounding -/

/-- Quotient rounded to nearest, ties to even (R22). -/
def rneDiv (n d : Nat) : Nat :=
  let q := n / d
  let r := n % d
  if 2 * r < d then q else if d < 2 * r then q + 1 else q + q % 2

/-- floor(log2(n / d)) for positive n and d. -/
def log2Floor (n d : Nat) : Int :=
  let e := (n.log2 : Int) - d.log2
  if 0 ≤ e then (if n < d * 2 ^ e.toNat then e - 1 else e)
  else (if n * 2 ^ (-e).toNat < d then e - 1 else e)

/-- n / d in units of 2^u, as a fraction. -/
def inUnits (n d : Nat) (u : Int) : Nat × Nat := if 0 ≤ u then (n, d * 2 ^ u.toNat) else (n * 2 ^ (-u).toNat, d)

/-- A float format (R18): mantissa bits, bias, largest finite code without the sign, bit of the sign, code of NaN. -/
structure FloatFmt where
  m : Nat
  bias : Nat
  maxFinite : Nat
  sign : Nat
  inf : Option Nat
  nan : Option Nat
deriving DecidableEq, Repr

/-- The float formats of R18 by code; FP32 for any other code. -/
def floatFmt (f : Nat) : FloatFmt :=
  match f with
  | 4 => ⟨3, 7, 0x7E, 7, none, some 0x7F⟩
  | 5 => ⟨2, 15, 0x7B, 7, some 0x7C, some 0x7E⟩
  | 6 => ⟨3, 1, 0x1F, 5, none, none⟩
  | 7 => ⟨2, 3, 0x1F, 5, none, none⟩
  | 8 => ⟨1, 1, 0x7, 3, none, none⟩
  | 9 => ⟨7, 127, 0x7F7F, 15, some 0x7F80, some 0x7FC0⟩
  | 10 => ⟨10, 15, 0x7BFF, 15, some 0x7C00, some 0x7E00⟩
  | _ => ⟨23, 127, 0x7F7FFFFF, 31, some 0x7F800000, some 0x7FC00000⟩

/-- Exponent of the smallest subnormal. -/
def FloatFmt.umin (f : FloatFmt) : Int := 1 - (f.bias : Int) - f.m

/-- The exponent of the unit in the last place at the magnitude n / d (n positive), subnormals included. -/
def FloatFmt.unit (f : FloatFmt) (n d : Nat) : Int := max (log2Floor n d - f.m) f.umin

/-- The code, without sign, of q units of 2^u: the fields follow one another, so a carry moves the exponent on. -/
def FloatFmt.codeOf (f : FloatFmt) (u : Int) (q : Nat) : Nat := (u - f.umin).toNat * 2 ^ f.m + q

/-- A magnitude rounded to nearest, ties to even, with the exponent unbounded above: the code without sign (R22). -/
def FloatFmt.rne (f : FloatFmt) (n d : Nat) : Nat :=
  if n = 0 then 0 else
  let u := f.unit n d
  let x := inUnits n d u
  f.codeOf u (rneDiv x.1 x.2)

/-- A magnitude rounded up (toward +∞), as R34 and R35 derive scales. -/
def FloatFmt.roundUp (f : FloatFmt) (n d : Nat) : Nat :=
  if n = 0 then 0 else
  let u := f.unit n d
  let x := inUnits n d u
  f.codeOf u (cdiv x.1 x.2)

/-- Stochastic choice between the neighbours of a magnitude inside the finite range, for a value of a sign (R40). -/
def FloatFmt.stochastic (f : FloatFmt) (neg : Bool) (n d draw : Nat) : Nat :=
  if n = 0 then 0 else
  let u := f.unit n d
  let x := inUnits n d u
  let q := x.1 / x.2
  let r := x.1 % x.2
  if r = 0 then f.codeOf u q
  else if neg then (if draw < (x.2 - r) * 2 ^ 24 / x.2 then f.codeOf u q else f.codeOf u (q + 1))
  else (if draw < r * 2 ^ 24 / x.2 then f.codeOf u (q + 1) else f.codeOf u q)

/-- The value of a float code (R18, R19). -/
def decodeFloat (f : FloatFmt) (code : Nat) : XR :=
  let s := code / 2 ^ f.sign % 2 == 1
  let mag := code % 2 ^ f.sign
  match f.inf with
  | some i =>
    if mag = i then .inf s else if i < mag then .nan
    else
      let e := mag / 2 ^ f.m
      if e = 0 then .dyadic s mag f.umin else .dyadic s (2 ^ f.m + mag % 2 ^ f.m) (f.umin + e - 1)
  | none =>
    if f.nan = some mag then .nan
    else
      let e := mag / 2 ^ f.m
      if e = 0 then .dyadic s mag f.umin else .dyadic s (2 ^ f.m + mag % 2 ^ f.m) (f.umin + e - 1)

/-- The value of an element code of a format, with the zero point of a U8 tensor (R18, R29). -/
def decodeElem (f zp code : Nat) : XR :=
  match f with
  | 0 => .ofInt (sext 4 code)
  | 1 => .ofInt (sext 8 code)
  | 2 => .ofInt ((code % 256 : Nat) - (zp : Int))
  | 3 => .ofInt (sext 16 code)
  | _ => decodeFloat (floatFmt f) code

/-- The value of a scale code (R29): E8M0, BF16, or 1 where there is none. -/
def decodeScale (sc code : Nat) : XR :=
  match sc with
  | 1 => if code = 255 then .nan else .dyadic false 1 ((code : Int) - 127)
  | 2 => decodeFloat (floatFmt 9) code
  | _ => .fin false 1 1

/-- What a scale of the code multiplies an element of the format by, beside the scale itself: 2^−6 for S8 with E8M0
(R29). -/
def impliedScale (f sc : Nat) : XR := if f = 1 ∧ sc = 1 then .fin false 1 64 else .fin false 1 1

/-- The value of an element in a group with scale s (R29). -/
def scaledElem (f sc zp code : Nat) (s : XR) : XR := ((decodeElem f zp code).mul (impliedScale f sc)).mul s

/-! ## Conversion (R21–R26, R36, R40) -/

/-- Rounding an exact value to an integer: to nearest, or by a 24-bit draw (R22, R40). -/
def roundInt (neg : Bool) (n d : Nat) (draw : Option Nat) : Int :=
  match draw with
  | none => signed neg (rneDiv n d)
  | some r =>
    let q := n / d
    let k := n % d
    if k = 0 then signed neg q
    else if neg then (if r < (d - k) * 2 ^ 24 / d then signed neg q else signed neg (q + 1))
    else (if r < k * 2 ^ 24 / d then (q : Int) + 1 else q)

/-- A conversion into a format is counted (R36). -/
def counted (f : Nat) (sat : Bool) : Bool :=
  decide (fmtBits f ≤ 8) || f == 3 || ((f == 9 || f == 10) && sat)

/-- The tally of one conversion. -/
def tally (f : Nat) (sat clip nan ovf : Bool) : ConvTally :=
  ⟨(counted f sat).toNat, clip.toNat, nan.toNat, ovf.toNat⟩

/-- Conversion to an integer range lo..hi of the value plus z (z is 0 but for U8); codes are wrapped to the width. -/
def convertInt (f : Nat) (lo hi z : Int) (draw : Option Nat) (x : XR) : Nat × ConvTally :=
  let w := fmtBits f
  match x with
  | .nan => (wrapNat w z, tally f false false true false)
  | .inf s => (wrapNat w (if s then lo else hi), tally f false true false false)
  | .fin s n d =>
    let within := decide ((lo - z) * d ≤ signed s n) && decide (signed s n ≤ (hi - z) * d)
    let v := roundInt s n d (if within then draw else none) + z
    if v < lo then (wrapNat w lo, tally f false true false false)
    else if hi < v then (wrapNat w hi, tally f false true false false)
    else (wrapNat w v, tally f false false false false)

/-- The code with a sign. -/
def FloatFmt.withSign (f : FloatFmt) (neg : Bool) (c : Nat) : Nat := if neg then 2 ^ f.sign + c else c

/-- Conversion to a float format. FP32 always rounds to nearest (R24; log 16). -/
def convertFloat (f : Nat) (sat : Bool) (draw : Option Nat) (x : XR) : Nat × ConvTally :=
  let ff := floatFmt f
  let clips := decide (fmtBits f ≤ 8) || ((f == 9 || f == 10) && sat)
  match x with
  | .nan => ((ff.nan.getD 0), tally f sat false true false)
  | .inf s =>
    if clips then (ff.withSign s ff.maxFinite, tally f sat true false false)
    else (ff.withSign s (ff.inf.getD 0), tally f sat false false false)
  | .fin s n d =>
    let r := ff.rne n d
    let within := !(XR.lt (decodeFloat ff ff.maxFinite) (.fin false n d))
    let c := match draw with
      | some g => if within && f != 11 then ff.stochastic s n d g else r
      | none => r
    if c ≤ ff.maxFinite then (ff.withSign s c, tally f sat false false false)
    else if clips then (ff.withSign s ff.maxFinite, tally f sat true false false)
    else (ff.withSign s (ff.inf.getD 0), tally f sat false false (f == 9 || f == 10))

/-- One conversion of an exact value to a format: saturate bit, zero point of a U8 target, draw of a stochastic
rounding; the code and what it adds to the counts (R21–R26, R36, R40). -/
def convert (f : Nat) (sat : Bool) (zp : Nat) (draw : Option Nat) (x : XR) : Nat × ConvTally :=
  match f with
  | 0 => convertInt 0 (-8) 7 0 draw x
  | 1 => convertInt 1 (-128) 127 0 draw x
  | 2 => convertInt 2 0 255 zp draw x
  | 3 => convertInt 3 (-32768) 32767 0 draw x
  | _ => convertFloat f sat draw x

/-- The clipped code of R23 with a sign, for the read-out of a wrapped entry (R58): the largest finite code of every
target. -/
def clippedCode (f : Nat) (neg : Bool) : Nat :=
  match f with
  | 0 => if neg then 8 else 7
  | 1 => if neg then 128 else 127
  | 2 => if neg then 0 else 255
  | 3 => if neg then 32768 else 32767
  | _ => (floatFmt f).withSign neg (floatFmt f).maxFinite

/-! ## Seeded stochastic rounding (R39) -/

/-- The mixing function of R39. -/
def mix (z : W64) : W64 :=
  let z1 := (z ^^^ (z >>> 30)) * 0xBF58476D1CE4E5B9
  let z2 := (z1 ^^^ (z1 >>> 27)) * 0x94D049BB133111EB
  z2 ^^^ (z2 >>> 31)

/-- The draw of a seed, stream number and element index (R39). -/
def draw24 (seed : W64) (stream index : Nat) : Nat :=
  let c := BitVec.ofNat 64 (stream % 2 ^ 16 * 2 ^ 48 + index % 2 ^ 48)
  field (mix (seed ^^^ mix c)) 63 40

/-- The n-th next draw of a parameter command, or none for rounding to nearest. -/
def drawAt (seed : W64) (param : Option (Nat × Nat)) (n : Nat) : Option Nat :=
  param.map (fun p => draw24 seed p.1 (p.2 + n))

/-- Convert a list of values, the n-th with its own draw. -/
def convertAll (f : Nat) (sat : Bool) (zp : Nat) (seed : W64) (param : Option (Nat × Nat)) (xs : List XR) :
    List Nat × ConvTally :=
  let rs := (xs.zipIdx).map (fun p => convert f sat zp (drawAt seed param p.2) p.1)
  (rs.map (·.1), rs.foldl (fun a r => a.add r.2) .zero)

/-! ## Deriving scales (R32–R35) -/

/-- Exponent of the largest normal value (R33). -/
def emax (f : Nat) : Int :=
  match f with
  | 4 => 8 | 5 => 15 | 6 => 2 | 7 => 4 | 8 => 2 | _ => 0

/-- The largest finite value of an element format, S8 with its implied 2^−6 (R33). -/
def largestFinite (f : Nat) : XR :=
  if f = 1 then .fin false 127 64 else decodeFloat (floatFmt f) (floatFmt f).maxFinite

/-- The smallest integer x with n / d ≤ 2^x × p / q. -/
def ceilLog2 (n d p q : Nat) : Int :=
  let a := n * q
  let b := d * p
  let e := log2Floor a b
  let x := inUnits a b e
  if x.1 = x.2 then e else e + 1

/-- The E8M0 scale code of an amax (R32, R33). -/
def deriveE8M0 (f : Nat) (noClip : Bool) (amax : XR) : Nat :=
  match amax with
  | .nan => 255
  | .inf _ => 254
  | .fin _ 0 _ => 0
  | .fin _ n d =>
    let x := if noClip then (match largestFinite f with
        | .fin _ p q => ceilLog2 n d p q
        | _ => 0)
      else log2Floor n d - emax f
    (max (-127) (min x 127) + 127).toNat

/-- A positive quotient rounded up to BF16, as its code; overflow keeps the largest finite code. -/
def bf16Up (n d : Nat) : Nat := min ((floatFmt 9).roundUp n d) 0x7F7F

/-- The BF16 scale code of an amax for S4 or S8 (R32, R34). -/
def deriveBF16 (f : Nat) (amax : XR) : Nat :=
  match amax with
  | .nan => 0x7FC0
  | .inf _ => 0x7F7F
  | .fin _ 0 _ => 0x3F80
  | .fin _ n d => bf16Up n (d * (if f = 0 then 7 else 127))

/-- The scale code and zero point of a U8 tensor from its largest and smallest values (R32, R35). -/
def deriveU8 (largest smallest : XR) : Nat × Nat :=
  let hi := if XR.lt largest .zero then XR.zero else largest
  let lo := if XR.lt .zero smallest then XR.zero else smallest
  match hi.add lo.neg with
  | .nan => (0x7FC0, 0)
  | .inf _ => (0x7F7F, match lo with
      | .inf _ => 255
      | _ => (convert 2 false 0 none (lo.neg.div (decodeFloat (floatFmt 9) 0x7F7F))).1)
  | .fin _ 0 _ => (0x3F80, (convert 2 false 0 none lo.neg).1)
  | .fin _ n d =>
    let s := bf16Up n (d * 255)
    (s, (convert 2 false 0 none (lo.neg.div (decodeFloat (floatFmt 9) s))).1)

end Sys2Proof.Machine
end

