-- ==== Sys2Proof/Machine/Halts.lean ====
section
/-! DEFINITION. Halting a core: the one operation every halt takes (R115–R118). -/

namespace Sys2Proof.Machine

/-- Where a halt comes from (CC_HALT_STATUS.SOURCE, R118). -/
inductive HaltSource where
  | control | matrix | vector | lift | post | monitor
deriving DecidableEq, Repr

/-- The code of a source (R118). -/
def HaltSource.code : HaltSource → Nat
  | .control => 0
  | .matrix => 1
  | .vector => 2
  | .lift => 3
  | .post => 4
  | .monitor => 5

/-- The source of a halt an engine raises for a command of a queue. -/
def queueSource (q : QueueId) : HaltSource :=
  if q = 0 then .matrix else if q = 1 then .vector else if q = 2 then .lift else .post

/-- A write on its way belongs to a command of core k. -/
def RowWrite.ownedBy (w : RowWrite) (k : CoreId) : Bool :=
  match w.owner with
  | some o => o.1 == k
  | none => false

/-- The writes of the core's abandoned commands never arrive, and the rows they had partly written are undefined
(R115). -/
def State.abandonWrites (s : State) (k : CoreId) : State :=
  (s.writes.filter (fun w => w.ownedBy k)).foldl (fun s w => s.undefine w.row 512)
    { s with writes := s.writes.filter (fun w => !w.ownedBy k) }

/-- A stopped Lift command of core k. -/
def Stopped.isCommandOf (x : Stopped) (k : CoreId) : Bool :=
  match x.work with
  | .command j _ => j == k
  | .fill _ _ => false

/-- The core has work that a halt can stop. -/
def Phase.active : Phase → Bool
  | .idle | .halted | .recorded | .stopped => false
  | _ => true

/-- Empty the core's queues and drop its engines' work (R115). -/
def State.abandonEngines (s : State) (k : CoreId) : State :=
  let s1 := s.abandonWrites k
  let s2 := s1.setCore k { s1.core k with queues := Vector.replicate 4 [] }
  { s2 with stopped := s2.stopped.filter (fun x => !x.isCommandOf k) }

/-- Write the halt registers (R118). -/
def State.writeHaltRegs (s : State) (k : CoreId) (src : HaltSource) (reason detail pc addr : Nat) : State :=
  (((s.setReg (Reg.ccHaltStatus k) (BitVec.ofNat 64 (src.code * 2 ^ 12 + reason % 256))).setReg
    (Reg.ccHaltDetail k) (BitVec.ofNat 64 (detail % 256))).setReg
    (Reg.ccHaltPc k) (BitVec.ofNat 64 (pc % 2 ^ 18))).setReg
    (Reg.ccHaltAddr k) (BitVec.ofNat 64 addr)

/-- A core halts (R115), for an instruction whose place in program order the key gives. One that is not active keeps what it
has. -/
def State.haltAt (s : State) (k : CoreId) (key : Nat) (src : HaltSource) (reason detail pc addr : Nat) : State :=
  if (s.core k).phase.active then
    let s1 := (s.abandonEngines k).writeHaltRegs k src reason detail pc addr
    let s2 := s1.setCore k { s1.core k with phase := .halted, haltGate := s.gate, haltKey := key, halting := (s.core k).queues }
    (s2.notify (clusterFin k) (.halt k)).1
  else s

/-- Place in program order of the instruction that the control core has reached: after every command appended so far. -/
def Core.reached (c : Core) : Nat :=
  match c.tile with
  | some t => t.appended
  | none => 0

/-- The control core or the step monitor halts the core (R115, R117). -/
def State.halt (s : State) (k : CoreId) (src : HaltSource) (reason detail pc addr : Nat) : State :=
  s.haltAt k (s.core k).reached src reason detail pc addr

/-- An engine halts the core for a command (R115): the address of its PUSH or PUSHD, its position in the batch. -/
def State.haltFor (s : State) (k : CoreId) (q : QueueId) (c : Cmd) (reason addr : Nat) : State :=
  s.haltAt k c.seq (queueSource q) reason c.pos c.pc.toNat addr

/-- Copy the halt registers of a core from another state. -/
def State.takeHaltRegs (s t : State) (k : CoreId) : State :=
  [Reg.ccHaltStatus k, Reg.ccHaltDetail k, Reg.ccHaltPc k, Reg.ccHaltAddr k].foldl (fun s o => s.setReg o (t.reg o)) s

/-- An engine's event on a core. On a core that has halted and is not yet idle it is the last step of a command in progress: it
has no effect but that a halt it raises is the one recorded where its instruction comes earlier in program order (R115, R117). -/
def State.engineEvent (s : State) (k : CoreId) (f : State → State) : State :=
  if (s.core k).phase = .halted then
    let c := s.core k
    let t := f (s.setCore k { c with phase := .running, queues := c.halting })
    if (t.core k).phase = .halted ∧ (t.core k).haltKey < c.haltKey then
      (s.takeHaltRegs t k).setCore k { c with haltKey := (t.core k).haltKey, haltGate := s.gate }
    else s
  else f s

end Sys2Proof.Machine
end

