-- ==== Sys2Proof/Machine/Xlt.lean ====
section
/-! DEFINITION. Address spaces: contexts, reservations, the table walk and the store view (R193–R204, R277). -/

namespace Sys2Proof.Machine

/-- Bytes of usable DRAM, as RDS selector 0x105 gives it (R101, R197). -/
def State.usable (s : State) : Nat := (s.board.features.getD 5 0).toNat * 2 ^ 20

/-! ## Interleave (R294, R296) -/

/-- Controllers of an interleave group (R296). -/
def State.groupSize (s : State) : Nat :=
  match s.fld (Reg.dmcCfg 0) 6 5 with
  | 1 => 4
  | 2 => 2
  | _ => 8

/-- STATE of a controller (R307): 0 TRAINING, 1 RUNNING, 2 FROZEN, 3 FAILED. -/
def State.dmcState (s : State) (d : Nat) : Nat := s.fld (Reg.dmcStatus d) 2 0

/-- The interleave groups that hold no failed controller, in ascending order (R294). -/
def State.liveGroups (s : State) : List Nat :=
  (List.range (8 / s.groupSize)).filter (fun g => !(List.range s.groupSize).any (fun c => s.dmcState (g * s.groupSize + c) == 3))

/-- Exclusive or of the w-bit fields of a number, lowest n of them. -/
def xorFields (w : Nat) : Nat → Nat → Nat
  | 0, _ => 0
  | n + 1, v => (v % 2 ^ w) ^^^ xorFields w n (v >>> w)

/-- log2 of the controllers of a group. -/
def groupBits (n : Nat) : Nat := if n = 8 then 3 else if n = 4 then 2 else 1

/-- The controller and the address within it of a device physical address in DRAM (R296). -/
def State.dramAt (s : State) (a : Nat) : Option (DmcId × Nat) :=
  let groups := s.liveGroups
  let size := s.usable / groups.length
  match groups[a / size]? with
  | some g =>
    if size = 0 then none
    else
      let n := s.groupSize
      let w := groupBits n
      let b := (a % size) / 4096
      some (Fin.ofNat 8 (g * n + xorFields w 30 (b % 2 ^ 30)), (b >>> w) * 4096 + a % 4096)
  | none => none

/-- An address lies behind a frozen controller (R305). -/
def State.frozenAt (s : State) (a : Nat) : Bool :=
  match s.dramAt a with
  | some x => s.dmcState x.1.val == 2
  | none => false

/-! ## Initialisation (R295) -/

/-- Replace a controller. -/
def State.setDmc (s : State) (d : DmcId) (x : Dmc) : State := { s with dmc := s.dmc.set d x }

/-- Bytes of DRAM behind each controller of a live group (R293, R296). -/
def State.dmcBytes (s : State) : Nat := s.usable / (s.liveGroups.length * s.groupSize)

/-- The initialisation mark of a controller (R295). -/
def State.initMark (s : State) (d : DmcId) : Nat := (s.reg (Reg.dmcInitMark d.val)).toNat

/-- The mark rises past every block that a test names. -/
def markUp (p : Nat → Bool) : Nat → Nat → Nat
  | 0, m => m
  | n + 1, m => if p m then markUp p n (m + 1) else m

/-- A block becomes initialised, and the mark rises to the lowest that is not; at the top INIT_DONE is set (R295). -/
def State.initialise (s : State) (d : DmcId) (block : Nat) : State :=
  if block < s.initMark d then s
  else
    let l := (s.dmc[d].initialised.erase block) ++ [block]
    let top := s.dmcBytes / 64
    let m := markUp (fun b => decide (b < top) && l.contains b) l.length (s.initMark d)
    let s1 := (s.setDmc d { s.dmc[d] with initialised := l.filter (fun b => decide (m ≤ b)) }).setReg
      (Reg.dmcInitMark d.val) (BitVec.ofNat 64 m)
    if top ≤ m then s1.setFlag (Reg.dmcStatus d.val) 3 true else s1

/-- The blocks of DRAM that a range touches become initialised: BAR2 alone writes less than 64 bytes, so every other requester's
write writes whole blocks (R295, R300; log 35). -/
def State.initRange (s : State) (a n : Nat) : State :=
  if n = 0 then s
  else (List.range (cdiv (a % 64 + n) 64)).foldl (fun s i =>
    match s.dramAt (a / 64 * 64 + 64 * i) with
    | some x => s.initialise x.1 (x.2 / 64)
    | none => s) s

/-- A unit of the device writes bytes to a physical address: in DRAM the blocks are then initialised (R295). -/
def State.put (s : State) (a : Nat) (bs : List Byte) : State := (s.wr a bs).initRange a bs.length

/-- First byte of the Lodge region, the highest 512 MiB of usable DRAM (R197). -/
def State.lodgeBase (s : State) : Nat := s.usable - 512 * 2 ^ 20

/-- First byte of the codec region, directly below the Lodge region (R277). -/
def State.codecBase (s : State) : Nat := s.lodgeBase - s.fld Reg.vcPoolSize 11 0 * 64 * 2 ^ 20

/-- First byte and length of the table region (R197, R218). -/
def State.tableRegion (s : State) : Nat × Nat :=
  ((s.reg Reg.ldgXltRegionBase).toNat, s.fld Reg.ldgXltRegionSize 18 0 * 65536)

/-- Two byte ranges meet: an empty range meets none. -/
def overlaps (a n b m : Nat) : Bool := decide (0 < n) && decide (0 < m) && decide (a < b + m) && decide (b < a + n)

/-- A range lies in DRAM that tables and ordinary pages may use: usable, outside the Lodge and codec regions (R197). -/
def State.plainDram (s : State) (a n : Nat) : Bool := decide (a + n ≤ s.codecBase)

/-- A range a context may reach: plain DRAM outside the table region (R197). -/
def State.reachable (s : State) (a n : Nat) : Bool :=
  s.plainDram a n && !overlaps a n s.tableRegion.1 s.tableRegion.2

/-- A table of n bytes at an address is one the walker may read (R197). -/
def State.goodTable (s : State) (a n : Nat) : Bool :=
  decide (a % n = 0) && decide (s.tableRegion.1 ≤ a) && decide (a + n ≤ s.tableRegion.1 + s.tableRegion.2) &&
  s.plainDram a n

/-- The context of a number, where it exists. -/
def State.ctx? (s : State) (c : CtxId) : Option Context := s.contexts.find? (fun x => x.id == c)

/-- Replace a context. -/
def State.setCtx (s : State) (x : Context) : State :=
  { s with contexts := s.contexts.map (fun y => if y.id = x.id then x else y) }

/-- The model of a number in a context. -/
def State.model? (s : State) (c : CtxId) (m : ModelNo) : Option Model :=
  s.models.find? (fun x => x.ctx == c && x.number == m)

/-- Replace a model. -/
def State.setModel (s : State) (x : Model) : State :=
  { s with models := s.models.map (fun y => if y.ctx = x.ctx ∧ y.number = x.number then x else y) }

/-- The places of a model, resident or loading. -/
def Model.places (m : Model) : List Place :=
  match m.residence with
  | .parked => []
  | .loading ps _ _ => ps
  | .resident ps => ps

/-- A row lies in a run. -/
def inRun (st r : Nat) (run : StoreId × Bool × Nat × Nat) : Bool :=
  run.1.val == st && decide (run.2.2.1 ≤ r) && decide (r < run.2.2.1 + run.2.2.2)

/-- A row lies in the reservation of a resident model of the context (R203). -/
def State.reserved (s : State) (c : CtxId) (st r : Nat) : Bool :=
  s.models.any (fun m => m.ctx == c && (match m.residence with
    | .resident ps => ps.any (fun p => p.runs.any (inRun st r))
    | _ => false))

/-- The row that a number within a stage's runs of one store names: the low run first, then the high run (R204). -/
def runRow (runs : List (StoreId × Bool × Nat × Nat)) (st n : Nat) : Option Nat :=
  let lo := runs.find? (fun x => x.1.val == st && !x.2.1)
  let hi := runs.find? (fun x => x.1.val == st && x.2.1)
  let nlo := match lo with
    | some x => x.2.2.2
    | none => 0
  if n < nlo then lo.map (fun x => x.2.2.1 + n)
  else match hi with
    | some x => if n - nlo < x.2.2.2 then some (x.2.2.1 + (n - nlo)) else none
    | none => none

/-- Where an access goes. -/
inductive Target where
  | dev (pa : Nat)
  | host (ba : Nat)
  | row (st r off : Nat)
deriving DecidableEq, Repr

/-- What the walk answers: a target, or a fault with its cause and the level at which it stopped (R200, R201). -/
inductive Xlt where
  | ok (t : Target)
  | fault (cause level : Nat)
deriving DecidableEq, Repr

/-- The store-view virtual address of a row (R198). -/
def storeView (st r : Nat) : Nat :=
  if st < 8 then 0xFD0000000000 + st * 0x02000000 + 512 * r
  else 0xFC0000000000 + (st - 8) * 0x10000000 + 512 * r

/-- The store view (R198). -/
def State.xltStore (s : State) (c : CtxId) (va : Nat) : Xlt :=
  match storeOf (va - 0xFA0000000000) with
  | some (st, r) => if s.reserved c st r then .ok (.row st r (va % 512)) else .fault 0 0
  | none => .fault 0 0

/-- The 8-byte table entry at an address. -/
def State.entry (s : State) (a : Nat) : BitVec 64 := BitVec.ofNat 64 (ofLe (s.rd a 8))

/-- Reserved fields of a table entry are 0 (R196). -/
def entryClean (e : BitVec 64) : Bool := field e 15 8 == 0 && !bit e 5 && field e 3 2 == 0

/-- A non-leaf entry that names a table of n bytes: its conditions but for the target's place (R196). -/
def pointerOk (e : BitVec 64) : Bool := entryClean e && !bit e 1 && field e 7 6 == 0 && !bit e 4

/-- A host bus range that is the QV8's own BAR0 or BAR2 (R197). -/
def State.ownBar (s : State) (a n : Nat) : Bool :=
  overlaps a n s.board.bar0 (32 * 2 ^ 20) || overlaps a n s.board.bar2 (2 ^ s.board.bar2Log2)

/-- A leaf entry read at a level, for a page of n bytes: its translation (R196, R197, R200). DESIGN CHOICE: R200 gives no order
where a write through a host-bus leaf without WR is made after host loss; it is cause 3 (log 122). So is a
request while PCIE_REFCLK is lost: the link is down (R392; log 128). -/
def State.leaf (s : State) (e : BitVec 64) (va n level : Nat) (write : Bool) : Xlt :=
  let page := (e.toNat >>> 16) <<< 16
  let off := va % n
  if !entryClean e || decide (page % n ≠ 0) || decide (2 ≤ field e 7 6) then .fault 2 level
  else if field e 7 6 = 0 then
    if !s.reachable page n then .fault 2 level
    else if write && !bit e 4 then .fault 1 level
    else .ok (.dev (page + off))
  else if s.ownBar (page + off / 64 * 64) 64 then .fault 2 level
  else if !s.masters then .fault 3 level
  else if write && !bit e 4 then .fault 1 level
  else .ok (.host (page + off))

/-- The table walk of a context's root (R195–R197). -/
def State.walk (s : State) (root va : Nat) (write : Bool) : Xlt :=
  if !s.goodTable root 512 then .fault 2 1
  else
    let e1 := s.entry (root + 8 * (va >>> 42))
    if !bit e1 0 then .fault 0 1
    else if !pointerOk e1 || !s.goodTable ((e1.toNat >>> 16) <<< 16) 65536 then .fault 2 1
    else
      let e2 := s.entry ((e1.toNat >>> 16) <<< 16 + 8 * ((va >>> 29) % 8192))
      if !bit e2 0 then .fault 0 2
      else if bit e2 1 then s.leaf e2 va (2 ^ 29) 2 write
      else if !pointerOk e2 || !s.goodTable ((e2.toNat >>> 16) <<< 16) 65536 then .fault 2 2
      else
        let e3 := s.entry ((e2.toNat >>> 16) <<< 16 + 8 * ((va >>> 16) % 8192))
        if !bit e3 0 then .fault 0 3
        else if !bit e3 1 then .fault 2 3
        else s.leaf e3 va 65536 3 write

/-- Translation of a virtual address of a context for a read or a write (R193, R195, R198, R200). Context 0 addresses
device physical memory directly; the registers at its 0x0400_0000_0000 are no memory, and the Lodge's accesses to them are
REGISTER_WRITE and RC_FIELD_READ (R398). -/
def State.xlt (s : State) (c : CtxId) (va : Nat) (write : Bool) : Xlt :=
  if c = 0 then (match storeOf va with
    | some (st, r) => .ok (.row st r (va % 512))
    | none => if 0x040000000000 ≤ va then .fault 0 0 else .ok (.dev va))
  else if 2 ^ 48 ≤ va then .fault 0 1
  else if 0xFC0000000000 ≤ va then s.xltStore c va
  else match s.ctx? c with
    | none => .fault 0 1
    | some x => s.walk x.root.toNat va write

/-- The table entries a walk reads (R195). -/
def State.walkReads (s : State) (root va : Nat) : List Nat :=
  let a1 := root + 8 * (va >>> 42)
  let e1 := s.entry a1
  let a2 := ((e1.toNat >>> 16) <<< 16) + 8 * ((va >>> 29) % 8192)
  let e2 := s.entry a2
  let a3 := ((e2.toNat >>> 16) <<< 16) + 8 * ((va >>> 16) % 8192)
  if !bit e1 0 then [a1] else if !bit e2 0 || bit e2 1 then [a1, a2] else [a1, a2, a3]

/-- A table on the way to a virtual address lies behind a frozen controller (R296, R305). -/
def State.walkFrozen (s : State) (c : CtxId) (va : Nat) : Bool :=
  c != 0 && decide (va < 0xFC0000000000) && (match s.ctx? c with
    | some x => (s.walkReads x.root.toNat va).any s.frozenAt
    | none => false)

/-- An access to a virtual address meets a frozen controller, in its walk or at its target (R296, R305). -/
def State.meetsFrozen (s : State) (c : CtxId) (va : Nat) : Bool :=
  (match s.xlt c va false with
   | .ok (.dev pa) => s.frozenAt pa
   | _ => false) || s.walkFrozen c va

/-- No controller is frozen. -/
def State.noneFrozen (s : State) : Bool := (List.range 8).all (fun d => s.dmcState d != 2)

/-- The frozen controller that an access to a virtual address meets first (R296, R305). -/
def State.frozenMet (s : State) (c : CtxId) (va : Nat) : Option DmcId :=
  let walked := if c = 0 then [] else match s.ctx? c with
    | some x => if va < 0xFC0000000000 then s.walkReads x.root.toNat va else []
    | none => []
  let at_ := walked ++ (match s.xlt c va false with
    | .ok (.dev pa) => [pa]
    | _ => [])
  ((at_.filter s.frozenAt).filterMap (fun a => (s.dramAt a).map (·.1))).head?

/-- The first address of a range, taken 64-byte unit by unit, at which an access meets a frozen controller (R305). -/
def State.frozenIn (s : State) (c : CtxId) (va n : Nat) : Option Nat :=
  if s.noneFrozen then none
  else ((List.range (cdiv (va % 64 + n) 64)).map (fun i => if i = 0 then va else va / 64 * 64 + 64 * i)).find? (s.meetsFrozen c)

/-- A write of at most one unit in a context: performed at once, or waiting at the input of a frozen controller until thaw (R158,
R305). -/
def State.post (s : State) (c : CtxId) (pa : Nat) (bs : List Byte) : State :=
  if s.noneFrozen then s.put pa bs
  else match s.dramAt pa with
    | some x => if s.dmcState x.1.val = 2 then
        { s with dmc := s.dmc.set x.1 { s.dmc[x.1] with
            input := s.dmc[x.1].input ++ [⟨⟨.lodge, true, pa, bs, none⟩, false, 0, s.gate, some c⟩] } }
      else s.put pa bs
    | none => s.put pa bs

/-- Read n bytes at virtual addresses of a context, 64-byte unit by unit: the bytes, or the first fault with its
address. -/
def State.vread (s : State) (c : CtxId) : Nat → Nat → Nat → Except (Nat × Nat × Nat) (List Byte)
  | 0, _, _ => .ok []
  | fuel + 1, va, n =>
    if n = 0 then .ok []
    else
      let m := min n (64 - va % 64)
      match s.xlt c va false with
      | .fault cause level => .error (va, cause, level)
      | .ok t =>
        let bs := match t with
          | .dev pa => s.rd pa m
          | .host ba => s.hostRd ba m
          | .row st r off => s.rd (rowAddr st r + off) m
        match s.vread c fuel (va + m) (n - m) with
        | .ok rest => .ok (bs ++ rest)
        | .error e => .error e

/-- Read n bytes at a virtual address, or the first fault. -/
def State.readVa (s : State) (c : CtxId) (va n : Nat) : Except (Nat × Nat × Nat) (List Byte) :=
  s.vread c (n / 64 + 2) va n

/-- Write bytes at virtual addresses of a context (DRAM and host memory, and store bytes), unit by unit; stops at the first
fault. -/
def State.vwrite (s : State) (c : CtxId) : Nat → Nat → List Byte → Except (Nat × Nat × Nat) State
  | 0, _, _ => .ok s
  | fuel + 1, va, bs =>
    if bs = [] then .ok s
    else
      let m := min bs.length (64 - va % 64)
      match s.xlt c va true with
      | .fault cause level => .error (va, cause, level)
      | .ok t =>
        let s' := match t with
          | .dev pa => s.post c pa (bs.take m)
          | .host ba => s.hostWr ba (bs.take m)
          | .row st r off => s.wr (rowAddr st r + off) (bs.take m)
        s'.vwrite c fuel (va + m) (bs.drop m)

/-- Write bytes at a virtual address, or the first fault. -/
def State.writeVa (s : State) (c : CtxId) (va : Nat) (bs : List Byte) : Except (Nat × Nat × Nat) State :=
  s.vwrite c (bs.length / 64 + 2) va bs

end Sys2Proof.Machine
end

