-- ==== Sys2Proof/Machine/Operands.lean ====
section
/-! DEFINITION. Operand forms: the fields of Milac instructions, the guard, issue and what follows it (R102, R103,
R106, R107, R409). A command carries the low 56 bits of the instruction word; its opcode is the constructor. -/

namespace Sys2Proof.Machine

/-- Destination field D (R102). -/
def fD (w : BitVec 56) : BitVec 5 := w.extractLsb' 47 5
/-- Field A. -/
def fA (w : BitVec 56) : BitVec 5 := w.extractLsb' 42 5
/-- Field B, and X of format B. -/
def fB (w : BitVec 56) : BitVec 5 := w.extractLsb' 37 5
/-- Field C. -/
def fC (w : BitVec 56) : BitVec 5 := w.extractLsb' 32 5
/-- IMM as 32 bits. -/
def fImm (w : BitVec 56) : BitVec 32 := w.extractLsb' 0 32
/-- IMM sign-extended to 64 bits. -/
def immS (w : BitVec 56) : W64 := (fImm w).signExtend 64

/-- Mask of bits hi..lo. -/
def bits (hi lo : Nat) : Nat := (2 ^ (hi + 1 - lo) - 1) * 2 ^ lo
/-- Mask of field D. -/
def mD : Nat := bits 51 47
/-- Mask of field A. -/
def mA : Nat := bits 46 42
/-- Mask of field B (X of format B). -/
def mB : Nat := bits 41 37
/-- Mask of field C. -/
def mC : Nat := bits 36 32
/-- Mask of IMM. -/
def mImm : Nat := bits 31 0

/-- A bit outside the guard and the used fields is set (R103). -/
def reservedSet (w : BitVec 56) (used : Nat) : Bool := w.toNat &&& (2 ^ 56 - 1 - bits 55 52 - used) != 0

/-- The guard: p[PP], negated by PN (R103). -/
def guardTrue (c : Core) (w : BitVec 56) : Bool := (c.pr (field w 54 52)) != bit w 55

/-- Where the control goes after an instruction that does not branch, with the loop levels left (R107). -/
def sequel : List LoopLevel → BitVec 18 → List LoopLevel × Nat
  | [], pc => ([], pc.toNat + 8)
  | l :: r, pc =>
    if pc = l.last then
      if l.i.toNat + 1 < l.n.toNat then ({ l with i := l.i + 1 } :: r, l.first.toNat) else sequel r pc
    else (l :: r, pc.toNat + 8)

/-- An address lies inside the tile's instruction partition and is a multiple of 8 (R106). -/
def inPartition (t : Tile) (a : Nat) : Bool := decide (a < t.ipart * 4096) && a % 8 == 0

/-- What the effect of an instruction is. -/
inductive Effect where
  /-- done; the control goes on -/
  | next (s : State)
  /-- done; the control goes to the target; the flag says whether the loop-exit check of R106 applies -/
  | jump (s : State) (target : Nat) (loopCheck : Bool)
  /-- the instruction waits; the state carries the phase -/
  | wait (s : State)
  /-- stalled before its checks: nothing is charged until it goes on -/
  | stall (s : State)
  /-- a halt: reason, DETAIL, ADDR -/
  | halt (reason detail addr : Nat)
  /-- a row access or atomic halts: reason, ADDR; a missing translation is counted (R200, R218) -/
  | rowFault (reason addr : Nat)
  /-- the step monitor halts: a charge of a descriptor would pass 20,000 (R140) -/
  | overrun
  /-- the tile ends -/
  | stop (s : State)
  /-- stalled with nothing changed; issued again later (R100) -/
  | retry

/-- A branch leaves the body of the innermost active loop (R106). -/
def leavesLoop (ls : List LoopLevel) (pc : BitVec 18) (target : Nat) : Bool :=
  match ls with
  | [] => false
  | l :: _ => decide (l.first.toNat ≤ pc.toNat) && decide (pc.toNat ≤ l.last.toNat) &&
      !(decide (l.first.toNat ≤ target) && decide (target ≤ l.last.toNat))

/-- Add the issue charge, or halt with 0x08; s0 is the state before the instruction (R140, R409). -/
def charged (s0 s1 : State) (k : CoreId) (pc : Nat) (steps : Nat) : State :=
  match s1.addCharge k .ctl steps with
  | some s2 => s2
  | none => s0.halt k .monitor 0x08 0 pc 0

/-- Carry out an effect from the state s0 in which the instruction issued. DESIGN CHOICE: the halt 0x11 shows the branch target in
CC_HALT_ADDR (log 108). -/
def conclude (s0 : State) (k : CoreId) (t : Tile) (steps : Nat) (e : Effect) : State :=
  let c0 := s0.core k
  let pc := c0.pc.toNat
  match e with
  | .retry => s0
  | .stall s => s
  | .halt reason detail addr => s0.halt k .control reason detail pc addr
  | .rowFault reason addr =>
    (if reason = 0x07 then s0.inc Reg.ldgXltFaultCount 32 1 else s0).halt k .control reason 0 pc addr
  | .overrun => s0.halt k .monitor 0x08 0 pc 0
  | .stop s => charged s0 s k pc steps
  | .next s =>
    let q := sequel (s.core k).loops c0.pc
    if inPartition t q.2 then
      charged s0 (s.setCore k { s.core k with loops := q.1, pc := BitVec.ofNat 18 q.2 }) k pc steps
    else s0.halt k .control 0x0C 0 pc q.2
  | .wait s =>
    let q := sequel (s.core k).loops c0.pc
    if inPartition t q.2 then charged s0 s k pc steps
    else s0.halt k .control 0x0C 0 pc q.2
  | .jump s target loopCheck =>
    if !inPartition t target then s0.halt k .control 0x0C 0 pc target
    else if loopCheck && leavesLoop c0.loops c0.pc target then s0.halt k .control 0x11 0 pc target
    else charged s0 (s.setCore k { s.core k with pc := BitVec.ofNat 18 target }) k pc steps

/-- A stalled instruction completes: the control goes on (R100). -/
def State.resume (s : State) (k : CoreId) : State :=
  let c := s.core k
  let q := sequel c.loops c.pc
  s.setCore k { c with loops := q.1, pc := BitVec.ofNat 18 q.2, phase := .running }

/-- Issue an instruction on a running core: the checks made whatever the guard, then the guard, then the effect
(R103, R409). A core that is not running issues nothing (log 2). `always` is for LOOP, whose effect sees the guard. -/
def issueWith (always : Bool) (k : CoreId) (w : BitVec 56) (used : Nat) (badCode : Bool) (steps : Nat)
    (body : State → Core → Tile → Effect) (s : State) : State :=
  let c := s.core k
  match c.phase, c.tile with
  | .running, some t =>
    if reservedSet w used || badCode then s.halt k .control 0x02 0 c.pc.toNat 0
    else if always then conclude s k t steps (body s c t)
    else if guardTrue c w then conclude s k t steps (body s c t)
    else conclude s k t 1 (.next s)
  | _, _ => s

/-- Issue an instruction that a false guard leaves without effect. -/
def issue (k : CoreId) (w : BitVec 56) (used : Nat) (badCode : Bool) (steps : Nat)
    (body : State → Core → Tile → Effect) (s : State) : State := issueWith false k w used badCode steps body s

/-- An instruction whose only effect is a new value of gD. -/
def writesG (k : CoreId) (w : BitVec 56) (used steps : Nat) (f : Core → Tile → W64) (s : State) : State :=
  issue k w used false steps (fun s c t => .next (s.setCore k (c.setG (fD w) (f c t)))) s

/-- gD := f(a, b), format A. -/
def alu (k : CoreId) (w : BitVec 56) (steps : Nat) (f : W64 → W64 → W64) (s : State) : State :=
  writesG k w (mD + mA + mB) steps (fun c _ => f (c.gr (fA w)) (c.gr (fB w))) s

/-- gD := f(a, IMM), format B. -/
def aluImm (k : CoreId) (w : BitVec 56) (f : W64 → W64 → W64) (s : State) : State :=
  writesG k w (mD + mA + mImm) 1 (fun c _ => f (c.gr (fA w)) (immS w)) s

/-- gD := shift of a by IMM read as u32. -/
def shiftImm (k : CoreId) (w : BitVec 56) (f : W64 → Nat → W64) (s : State) : State :=
  writesG k w (mD + mA + mImm) 1 (fun c _ => f (c.gr (fA w)) (fImm w).toNat) s

/-- Left shift by an unmasked count (R105). -/
def shl64 (a : W64) (n : Nat) : W64 := if 64 ≤ n then 0 else a <<< n
/-- Logical right shift by an unmasked count (R105). -/
def shr64 (a : W64) (n : Nat) : W64 := if 64 ≤ n then 0 else a >>> n
/-- Arithmetic right shift by an unmasked count (R105). -/
def sra64 (a : W64) (n : Nat) : W64 := a.sshiftRight (min n 64)

/-- Signed quotient with its edges (R105). -/
def quotS (a b : W64) : W64 :=
  if b = 0 then (if a.toInt < 0 then BitVec.ofNat 64 (2 ^ 63) else BitVec.ofNat 64 (2 ^ 63 - 1))
  else BitVec.ofInt 64 (a.toInt.tdiv b.toInt)
/-- Signed remainder: the dividend's sign; the dividend on division by zero (R105). -/
def remS (a b : W64) : W64 := if b = 0 then a else BitVec.ofInt 64 (a.toInt.tmod b.toInt)
/-- Unsigned quotient (R105). -/
def quotU (a b : W64) : W64 := if b = 0 then BitVec.allOnes 64 else a / b
/-- Unsigned remainder (R105). -/
def remU (a b : W64) : W64 := if b = 0 then a else a % b

/-- A division: the result, and DIVZ on a zero divisor (R105). -/
def divide (k : CoreId) (w : BitVec 56) (f : W64 → W64 → W64) (s : State) : State :=
  issue k w (mD + mA + mB) false 34 (fun s c _ =>
    let s1 := s.setCore k (c.setG (fD w) (f (c.gr (fA w)) (c.gr (fB w))))
    .next (if c.gr (fB w) = 0 then s1.setDivz k else s1)) s

/-- The relation of a condition code (R104). -/
def relation (code : Nat) (a b : W64) : Bool :=
  match code with
  | 0 => a == b
  | 1 => a != b
  | 2 => decide (a.toInt < b.toInt)
  | 3 => decide (b.toInt ≤ a.toInt)
  | 4 => decide (a.toNat < b.toNat)
  | _ => decide (b.toNat ≤ a.toNat)

/-! ## The data store (R98, R109, R110) -/

/-- An address range lies in the tile's data partition, at an address that is a multiple of n. -/
def dataOk (t : Tile) (a n len : Nat) : Bool := decide (a + len ≤ t.dpart * 4096) && a % n == 0

/-- A 512-byte slot with an RLD pending is touched by len bytes at an address (R110). -/
def slotPending (c : Core) (a len : Nat) : Bool :=
  c.accesses.any (fun x => match x.kind with
    | .load slot => decide (slot < a + len) && decide (a < slot + 512)
    | _ => false)

/-- Bytes of the data partition. -/
def readData (c : Core) (t : Tile) (a n : Nat) : List Byte := readRun 0 c.dstore (t.dbase * 4096 + a) n

/-- Write bytes of the data partition. -/
def writeData (c : Core) (t : Tile) (a : Nat) (bs : List Byte) : Core :=
  { c with dstore := writeRun 0 c.dstore (t.dbase * 4096 + a) bs }

/-- Effective address: wrap(a + IMM, 64). -/
def dataAddr (c : Core) (w : BitVec 56) : Nat := (c.gr (fA w) + immS w).toNat

/-- A load of n bytes into gD through f (R109). -/
def dataLoad (k : CoreId) (w : BitVec 56) (n : Nat) (f : Nat → W64) (s : State) : State :=
  issue k w (mD + mA + mImm) false 2 (fun s c t =>
    let a := dataAddr c w
    if !dataOk t a n n then .halt 0x0D 0 a
    else if slotPending c a n then .retry
    else .next (s.setCore k (c.setG (fD w) (f (ofLe (readData c t a n)))))) s

/-- A store of the low n bytes of gD (R109). -/
def dataStore (k : CoreId) (w : BitVec 56) (n : Nat) (s : State) : State :=
  issue k w (mD + mA + mImm) false 1 (fun s c t =>
    let a := dataAddr c w
    if !dataOk t a n n then .halt 0x0D 0 a
    else if slotPending c a n then .retry
    else .next (s.setCore k (writeData c t a (leBytes n (c.gr (fD w)).toNat)))) s

/-- The tag a tile's writes carry (R184). -/
def Tile.tag (t : Tile) (k : CoreId) : Tag := ⟨t.ctx, t.model, t.stage, k, t.epoch⟩

/-- The store row that a control-core address names, or the halt it takes: alignment, translation, kind of memory
(R110, R111, R409). -/
def rowOf (s : State) (t : Tile) (a n : Nat) (write : Bool) : Except Nat (Nat × Nat) :=
  if a % n ≠ 0 then .error 0x06
  else match s.xlt t.ctx a write with
    | .fault _ _ => .error 0x07
    | .ok (.row st r off) => .ok (rowAddr st r, off)
    | .ok _ => .error 0x12

end Sys2Proof.Machine
end

