-- ==== Sys2Proof/Machine/Descriptors.lean ====
section
/-! DEFINITION. The 128-bit engine command descriptors: header, fields, and the checks made when one is appended
(R126–R133, R160–R163), in the order of R127. -/

namespace Sys2Proof.Machine

/-- A descriptor. -/
abbrev Desc := BitVec 128

/-- Command code. -/
def Desc.cmd (d : Desc) : Nat := field d 127 120
/-- Tokens waited for, and their counter. -/
def Desc.wcnt (d : Desc) : Nat := field d 114 103
/-- Token counter waited on. -/
def Desc.wctr (d : Desc) : Fin 32 := Fin.ofNat 32 (field d 119 115)
/-- Tokens posted. -/
def Desc.pcnt (d : Desc) : Nat := field d 97 86
/-- Token counter posted. -/
def Desc.pctr (d : Desc) : Fin 32 := Fin.ofNat 32 (field d 102 98)
/-- Kind of post: 0 adds, 1 subtracts. -/
def Desc.pkind (d : Desc) : Nat := field d 85 84

/-- The header breaks R126. -/
def badHeader (d : Desc) : Bool :=
  (d.wcnt == 0 && field d 119 115 != 0) || (d.pcnt == 0 && (field d 102 98 != 0 || d.pkind != 0)) || decide (2 ≤ d.pkind)

/-- An engine field bit outside the used ones is set. -/
def engineReserved (d : Desc) (used : Nat) : Bool := (d.toNat % 2 ^ 84) &&& (2 ^ 84 - 1 - used) != 0

/-- Reasons to refuse a descriptor, in the order of R127, each with the address that CC_HALT_ADDR reports: a misaligned virtual
address (R118), and last a row, as a store-view address. -/
def firstReason (r02 : Bool) (r06 : Option Nat) (r09 r0B : Bool) (row : Option Nat) : Option (Nat × Nat) :=
  if r02 then some (0x02, 0)
  else match r06 with
  | some a => some (0x06, a)
  | none => if r09 then some (0x09, 0) else if r0B then some (0x0B, 0) else row.map (fun a => (0x07, a))

/-- The lowest offending row of a store among ranges (first, count), as its store-view address (R127). -/
def badRow (s : State) (c : CtxId) (st : Nat) (ranges : List (Nat × Nat)) : Option Nat :=
  let bad := ranges.filterMap (fun g =>
    ((List.range g.2).find? (fun i => !(decide (g.1 + i < storeRows st) && s.reserved c st (g.1 + i)))).map (g.1 + ·))
  match bad with
  | [] => none
  | a :: r => some (storeView st (r.foldl min a))

/-- The row reported of a source and a destination: the source store's before the destination store's, and the lower one where
both lie in one store (R127). -/
def orRow (same : Bool) (a b : Option Nat) : Option Nat :=
  match a, b with
  | some x, some y => some (if same then min x y else x)
  | some x, none => some x
  | none, y => y

/-! ## Matrix commands (R128, R129) -/

/-- Columns of a shape and class (R45). -/
def mxCols (sh cl : Nat) : Nat := if cl = 2 then 128 / 2 ^ sh else 256 / 2 ^ sh
/-- Depth of a shape and class (R45). -/
def mxDepth (sh cl : Nat) : Nat := if cl = 0 then 512 * 2 ^ sh else if cl = 1 then 256 * 2 ^ sh else 128 * 2 ^ sh
/-- Accumulator entries of a shape and class (R45). -/
def mxEntries (sh cl : Nat) : Nat := if cl = 2 then 512 * 2 ^ sh else 256 * 2 ^ sh
/-- A shape and class of the table of R45. -/
def mxSupported (sh cl : Nat) : Bool := decide (sh < 3) || cl == 1

/-- Formats an operand may have at all in a class of pairs: S4, S8, U8, S16, narrow floats, BF16, FP16 (R42). -/
def narrowFloat (f : Nat) : Bool := decide (4 ≤ f) && decide (f ≤ 8)

/-- The class of a weight and activation pair, or none where R42 has no such pair. -/
def pairClass (w a : Nat) : Option Nat :=
  if w = 0 ∧ a = 0 then some 0
  else if (w = 0 ∨ w = 1) ∧ a < 3 then some 1
  else if w = 3 ∧ a < 4 then some 2
  else if (w = 0 ∨ w = 1) ∧ a = 3 then some 2
  else if w = 8 ∧ a = 8 then some 0
  else if narrowFloat w && narrowFloat a then some 1
  else if (w = 9 ∧ a = 9) ∨ (w = 10 ∧ a = 10) then some 2
  else none

/-- A format can be the weight of some pair of a class. -/
def weightOf (cl f : Nat) : Bool := (List.range 12).any (fun a => pairClass f a == some cl)
/-- A format can be the activation of some pair of a class. -/
def activationOf (cl f : Nat) : Bool := (List.range 12).any (fun w => pairClass w f == some cl)

/-- Bits of an element as the array streams it: 2 bytes in the 16-bit class (R45). -/
def streamBits (cl f : Nat) : Nat := if cl = 2 then 16 else fmtBits f

/-- Scale rows of columns × depth elements (R47). -/
def scaleRows (n grp sc : Nat) : Nat := if sc = 0 then 0 else cdiv (cdiv n (groupSize grp)) (scalesPerRow sc)

/-- Fields SHAPE and CLASS. -/
def Desc.shape (d : Desc) : Nat := field d 83 82
/-- Field CLASS. -/
def Desc.cls (d : Desc) : Nat := field d 81 80
/-- Streaming format of an MSTREAM: activations with weights stationary, weights with activations stationary. -/
def Desc.streamFmt (d : Desc) : Nat := if bit d 79 then field d 63 60 else field d 59 56
/-- Stationary format of an MSTREAM. -/
def Desc.statFmt (d : Desc) : Nat := if bit d 79 then field d 59 56 else field d 63 60

/-- Slices an MSTREAM reads from its source rows: its own, and the tail when it is a chain of its own (R50; log 17). -/
def streamSlices (d : Desc) : Nat := field d 14 0 + (if bit d 76 then 0 else mxDepth d.shape d.cls - 1)

/-- A streaming width that the table of R45 marks as unsupported, or, for a pair of R42, has a dash for: the combination is
absent from the table (R45, R127; log 18). A pair that R42 does not list is no combination of the table, and its dash halts
nothing here. -/
def absentWidth (sh cl wf af f : Nat) : Bool :=
  (cl == 1 && sh == 3 && (fmtBits f == 6 || fmtBits f == 8)) ||
  ((pairClass wf af).isSome && (match cl with
    | 0 => fmtBits f != 4
    | 1 => fmtBits f == 16
    | _ => false))

/-- Rows an MLOAD takes (R47): data, then scales. -/
def mloadRows (sh cl f grp sc : Nat) : Nat × Nat :=
  let n := mxCols sh cl * mxDepth sh cl
  (cdiv n (perRow (streamBits cl f)), scaleRows n grp sc)

/-- Parameter rows of an MREAD: multiplier rows, then bias rows (R128). -/
def mreadParamRows (d : Desc) : Nat × Nat :=
  let n := cdiv (mxCols d.shape d.cls) 128
  let mult := field d 75 74
  (if mult = 0 then 0 else if mult = 1 then 1 else n, if bit d 76 then n else 0)

/-- Rows an MREAD writes. -/
def mreadRows (d : Desc) : Nat := cdiv (field d 22 11 * mxCols d.shape d.cls) (perRow (fmtBits (field d 71 68)))

/-- Rows of a spill or fill, and the charge of one: with 32 columns and an odd N the quotient of R128 is no whole number, and
the rows the command takes are charged (R59, R128; log 101). -/
def spillRows (d : Desc) : Nat := cdiv (field d 22 11 * mxCols d.shape d.cls) 64

/-- Rows of the local store, as (first, count), that a matrix command reads: its data and its scales, its parameters, or what
it fills from (R46, R47, R58, R59, R128). -/
def mxReads (d : Desc) : List (Nat × Nat) :=
  let depth := mxDepth d.shape d.cls
  let grp := field d 75 74
  let sc := field d 73 72
  match d.cmd with
  | 1 =>
    (if bit d 78 then [] else [(field d 55 41, cdiv (streamSlices d * depth) (perRow (streamBits d.cls d.streamFmt)))]) ++
    (if sc = 0 then [] else [(field d 40 26, cdiv (field d 14 0 * (depth / groupSize grp)) (scalesPerRow sc))])
  | 2 => if bit d 78 then [] else
      let n := mloadRows d.shape d.cls (field d 71 68) grp sc
      [(field d 55 41, n.1), (field d 40 26, n.2)]
  | 5 => let p := mreadParamRows d
    [(field d 48 34, p.1 + p.2)]
  | 7 => [(field d 63 49, spillRows d)]
  | _ => []

/-- Rows of the local store that a matrix command writes (R58, R59). -/
def mxWrites (d : Desc) : List (Nat × Nat) :=
  match d.cmd with
  | 5 => [(field d 63 49, mreadRows d)]
  | 6 => [(field d 63 49, spillRows d)]
  | _ => []

/-- Checks of MSTREAM (R45, R46, R127–R129). -/
def checkMstream (s : State) (c : CtxId) (k : CoreId) (d : Desc) : Option (Nat × Nat) :=
  let sh := d.shape
  let cl := d.cls
  let wf := field d 63 60
  let af := field d 59 56
  let grp := field d 75 74
  let ssc := field d 73 72
  let sf := d.streamFmt
  let depth := mxDepth sh cl
  let m := field d 14 0
  let r02 := cl == 3 || !fmtOk wf || !fmtOk af || grp == 3 || ssc == 3 || m == 0 ||
    (bit d 78 && field d 55 41 != 0) || (ssc == 0 && field d 40 26 != 0)
  let demand := depth / groupSize grp * scaleBytes ssc
  let r09 := !mxSupported sh cl || absentWidth sh cl wf af sf || decide (64 < demand)
  let r0B := pairClass wf af != some cl || !scalePermitted sf ssc
  firstReason r02 none r09 r0B (badRow s c k.val (mxReads d))

/-- Checks of MLOAD. -/
def checkMload (s : State) (c : CtxId) (k : CoreId) (d : Desc) : Option (Nat × Nat) :=
  let sh := d.shape
  let cl := d.cls
  let grp := field d 75 74
  let sc := field d 73 72
  let f := field d 71 68
  let row := field d 55 41
  let srow := field d 40 26
  let src := bit d 78
  let r02 := engineReserved d (bits 83 78 + bits 75 68 + bits 55 26) || cl == 3 || grp == 3 || sc == 3 || !fmtOk f ||
    (src && (row != 0 || srow != 0)) || (sc == 0 && srow != 0)
  let r0B := !(if bit d 79 then activationOf cl f else weightOf cl f) || !scalePermitted f sc
  firstReason r02 none (!mxSupported sh cl) r0B (badRow s c k.val (mxReads d))

/-- Checks of MTWID (R63). -/
def checkMtwid (d : Desc) : Option (Nat × Nat) :=
  let f := field d 71 68
  let r02 := engineReserved d (bits 83 80 + bits 71 68 + bits 63 60) || d.cls == 3 || !fmtOk f ||
    (!bit d 63 && field d 61 60 != 0)
  firstReason r02 none (d.shape != 0 || d.cls != 2 || !(f == 9 || f == 10)) false none

/-- Checks of MREAD; `before` is the descriptor appended before it. -/
def checkMread (s : State) (c : CtxId) (k : CoreId) (before : Option Desc) (d : Desc) : Option (Nat × Nat) :=
  let f := field d 71 68
  let e := mxEntries d.shape d.cls
  let n := field d 22 11
  let r02 := engineReserved d (bits 83 74 + bits 71 68 + bits 63 3) || d.cls == 3 || field d 75 74 == 3 || !fmtOk f ||
    n == 0 || decide (e < n)
  let noParam := match before with
    | some b => b.cmd != 0x09
    | none => true
  let r0B := decide (e ≤ field d 33 23) || (bit d 78 && noParam)
  firstReason r02 none (!mxSupported d.shape d.cls) r0B (badRow s c k.val (mxReads d ++ mxWrites d))

/-- Checks of MSPILL and MFILL. -/
def checkSpill (s : State) (c : CtxId) (k : CoreId) (d : Desc) : Option (Nat × Nat) :=
  let e := mxEntries d.shape d.cls
  let n := field d 22 11
  let r02 := engineReserved d (bits 83 80 + bits 63 49 + bits 33 11) || d.cls == 3 || n == 0 || decide (e < n)
  firstReason r02 none (!mxSupported d.shape d.cls) (decide (e ≤ field d 33 23))
    (badRow s c k.val (mxReads d ++ mxWrites d))

/-- Checks of a matrix descriptor. -/
def checkMatrix (s : State) (c : CtxId) (k : CoreId) (before : Option Desc) (d : Desc) : Option (Nat × Nat) :=
  if badHeader d then some (0x02, 0)
  else match d.cmd with
  | 1 => checkMstream s c k d
  | 2 => checkMload s c k d
  | 3 => firstReason (engineReserved d 0) none false false none
  | 4 => checkMtwid d
  | 5 => checkMread s c k before d
  | 6 => checkSpill s c k d
  | 7 => checkSpill s c k d
  | 8 => firstReason (engineReserved d (bits 63 39) || decide (256 < field d 63 55)) none false false none
  | 9 => firstReason (engineReserved d (bits 63 0)) none false false none
  | _ => some (0x02, 0)

/-- The chain open after a matrix command, by shape and class (R50, R129). -/
def chainAfter (open? : Option (Nat × Nat)) (d : Desc) : Option (Nat × Nat) :=
  match d.cmd with
  | 1 => if bit d 76 then some (d.shape, d.cls) else none
  | 4 => none
  | _ => open?

/-- An MSTREAM continues the open chain (R50). -/
def continuesChain (open? : Option (Nat × Nat)) (d : Desc) : Bool := bit d 76 && open? == some (d.shape, d.cls)

/-- Charge of a matrix descriptor (R128). -/
def matrixCharge (open? : Option (Nat × Nat)) (d : Desc) : Nat :=
  let cols := mxCols d.shape d.cls
  let depth := mxDepth d.shape d.cls
  match d.cmd with
  | 1 => field d 14 0 * cdiv (depth * streamBits d.cls d.streamFmt / 8) (if bit d 78 then 512 else 1024) +
      (if continuesChain open? d then 0 else depth + cols + 4)
  | 2 => let n := mloadRows d.shape d.cls (field d 71 68) (field d 75 74) (field d 73 72); n.1 + n.2
  | 3 => 1
  | 4 => 64
  | 5 => mreadRows d
  | 6 => spillRows d
  | 7 => spillRows d
  | _ => 0

/-! ## Vector commands (R130–R132) -/

/-- Register fields VD, VA, VB, VC. -/
def Desc.vd (d : Desc) : Nat := field d 83 79
/-- VA. -/
def Desc.va (d : Desc) : Nat := field d 78 74
/-- VB. -/
def Desc.vb (d : Desc) : Nat := field d 73 69
/-- VC. -/
def Desc.vc (d : Desc) : Nat := field d 68 64
/-- Run length n. -/
def Desc.run (d : Desc) : Nat := field d 63 59 + 1

/-- How many sources an operation of the common layout has: 1 unary, 2 binary, 3 with VC; 0 for another layout or a
reserved code (R130, R131). -/
def vecSources (code : Nat) : Nat :=
  if code = 0x04 then 1
  else if code = 0x05 then 2
  else if 0x10 ≤ code ∧ code ≤ 0x24 then
    (if code = 0x16 ∨ code = 0x17 ∨ code = 0x1B ∨ code = 0x20 then 1 else if code = 0x22 then 3 else 2)
  else if 0x30 ≤ code ∧ code ≤ 0x3C then
    (if code = 0x33 then 3
     else if code = 0x36 ∨ code = 0x37 ∨ code = 0x39 ∨ code = 0x3A ∨ code = 0x3C then 1 else 2)
  else if 0x40 ≤ code ∧ code ≤ 0x4A then 1
  else if 0x50 ≤ code ∧ code ≤ 0x52 then 1
  else 0

/-- The operation uses W, SGN and SATF: the integer operations, and the reductions (R130). -/
def vecInteger (code : Nat) : Bool :=
  (decide (0x10 ≤ code) && decide (code ≤ 0x24)) || (decide (0x50 ≤ code) && decide (code ≤ 0x52))

/-- Engine-field bits an operation of the common layout uses. DESIGN CHOICE: SCAL, TRUNC and SCALAR are reserved in operations
that do not use them, as R130 says of W, SGN, SATF and REL; VB with SCAL 1 and SCALAR with SCAL 0 are fields of an operation that
uses them in its other form, and take any value (log 105). -/
def vecUsed (code : Nat) : Nat :=
  let n := vecSources code
  bits 83 74 + (if 2 ≤ n then bits 73 69 else 0) + (if n = 3 then bits 68 64 else 0) + bits 63 59 +
  (if vecInteger code then bits 58 55 else 0) + (if 2 ≤ n then bits 54 54 + bits 31 0 else if code = 0x04 then bits 31 0 else 0) +
  (if code = 0x21 ∨ code = 0x38 then bits 53 52 else 0) + (if code = 0x3A then bits 51 51 else 0)

/-- Cost per register (R71). -/
def vecCost (code : Nat) : Nat :=
  if code = 0x23 ∨ code = 0x24 then 16
  else if code = 0x3B ∨ code = 0x3C then 8
  else if 0x40 ≤ code then 8
  else 1

/-- Checks of an operation of the common layout. -/
def checkCommon (d : Desc) : Option (Nat × Nat) :=
  let code := d.cmd
  let n := vecSources code
  let r02 := engineReserved d (vecUsed code) || (vecInteger code && field d 58 57 == 3)
  let past := fun (r : Nat) => decide (31 < r + d.run - 1)
  let scal := bit d 54
  let r0B := past d.vd || past d.va || (decide (2 ≤ n) && !scal && past d.vb) || (n == 3 && past d.vc)
  firstReason r02 none false r0B none

/-- Rows n registers of a format take (R69, R70). -/
def vecRows (f n : Nat) : Nat := cdiv (256 * n) (perRow (fmtBits f))

/-- n registers of a format fill whole rows (R69). -/
def wholeRows (f n : Nat) : Bool := 256 * n % perRow (fmtBits f) == 0

/-- Checks of VLD and VST. DESIGN CHOICE: VA with scale code none and VB with ZSRC 0 take any value, as VA does in AMAX
(log 105). -/
def checkVldVst (s : State) (c : CtxId) (k : CoreId) (store : Bool) (before : Option Desc) (d : Desc) :
    Option (Nat × Nat) :=
  let f := field d 37 34
  let sc := field d 33 32
  let used := bits 83 69 + bits 63 42 + bits 39 39 + bits 37 15 + (if store then bits 41 40 + bits 38 38 else 0)
  let r02 := engineReserved d used || !fmtOk f || sc == 3 || field d 31 30 == 3
  let noParam := match before with
    | some b => b.cmd != 0x03
    | none => true
  let r0B := decide (31 < d.vd + d.run - 1) || !wholeRows f d.run || !scalePermitted f sc || (bit d 39 && f != 11) ||
    (store && bit d 41 && noParam)
  firstReason r02 none false r0B (badRow s c k.val [(field d 29 15, vecRows f d.run)])

/-- Groups an AMAX covers. -/
def amaxGroups (d : Desc) : Nat := field d 14 0 * perRow (fmtBits (field d 37 34)) / groupSize (field d 31 30)

/-- Checks of AMAX. DESIGN CHOICE: R87 speaks of CONT in whole-tensor mode alone; outside it the bit may have either value and is
ignored (log 119). -/
def checkAmax (s : State) (c : CtxId) (k : CoreId) (d : Desc) : Option (Nat × Nat) :=
  let f := field d 37 34
  let sc := field d 33 32
  let n := field d 14 0
  let r02 := engineReserved d (bits 83 74 + bits 55 38 + bits 37 0) || !fmtOk f || sc == 3 || field d 31 30 == 3 || n == 0
  let r0B := decide (31 < d.vd + 2) || !scalePermitted f sc || (!bit d 55 && decide (256 < amaxGroups d))
  firstReason r02 none false r0B (badRow s c k.val [(field d 29 15, n)])

/-- Checks of DERIVE (R88). DESIGN CHOICE: EFMT, which the U8 mode does not use, may be any format code there (log 119). -/
def checkDerive (d : Desc) : Option (Nat × Nat) :=
  let mode := field d 63 62
  let f := field d 60 57
  let r02 := engineReserved d (bits 83 74 + bits 63 57) || mode == 3 || !fmtOk f
  let r0B := decide (31 < d.vd + 1) || decide (31 < d.va + 2) || (mode == 0 && !scalePermitted f 1) ||
    (mode == 1 && !(f == 0 || f == 1))
  firstReason r02 none false r0B none

/-- Kernel field of a geometry is out of range (R83, R132). -/
def badKernel (n : Nat) : Bool := n == 0 || decide (12 ≤ n)

/-- Checks of WGEOM (R85, R132). -/
def checkWgeom (d : Desc) : Option (Nat × Nat) :=
  let r02 := engineReserved d (bits 63 11) || badKernel (field d 63 60) || badKernel (field d 59 56) ||
    field d 14 11 == 0 || !fmtOk (field d 47 44) || !fmtOk (field d 43 40)
  firstReason r02 none false false none

/-- Checks of WLOAD. -/
def checkWload (s : State) (c : CtxId) (k : CoreId) (d : Desc) : Option (Nat × Nat) :=
  let cnt := field d 63 57 + 1
  firstReason (engineReserved d (bits 63 50 + bits 29 15)) none false (decide (128 < field d 56 50 + cnt))
    (badRow s c k.val [(field d 29 15, cnt)])

/-- Checks of a vector descriptor. What depends on the geometry in use is checked when the command begins (R127). -/
def checkVector (s : State) (c : CtxId) (k : CoreId) (before : Option Desc) (d : Desc) : Option (Nat × Nat) :=
  if badHeader d then some (0x02, 0)
  else match d.cmd with
  | 0x01 => checkVldVst s c k false before d
  | 0x02 => checkVldVst s c k true before d
  | 0x03 => firstReason (engineReserved d (bits 63 0)) none false false none
  | 0x58 => checkAmax s c k d
  | 0x59 => checkDerive d
  | 0x60 => checkWgeom d
  | 0x61 => checkWload s c k d
  | 0x62 => firstReason (engineReserved d (bits 83 79 + bits 63 36 + bits 29 15)) none false false none
  | 0x63 => firstReason (engineReserved d (bits 83 79 + bits 63 36 + bits 29 15)) none false false none
  | 0x64 => firstReason (engineReserved d (bits 83 79 + bits 63 36 + bits 29 15)) none false false none
  | 0x65 => firstReason (engineReserved d (bits 83 79 + bits 63 36 + bits 29 15)) none false false none
  | 0x66 => firstReason (engineReserved d (bits 83 79 + bits 63 36 + bits 29 15)) none false false none
  | _ => if vecSources d.cmd = 0 then some (0x02, 0) else checkCommon d

/-- Input channels per group of a geometry: 1 for none (R132). -/
def geomGi (g : W64) : Nat := 2 ^ field g 39 38

/-- Charge of a vector descriptor (R71, R86, R131). DESIGN CHOICE: a window command appended with no WGEOM since the launch, which
will halt when it begins, charges 0 (log 106). -/
def vectorCharge (geom : Option W64) (d : Desc) : Nat :=
  let taps := match geom with
    | some g => field g 63 60 * field g 59 56
    | none => 0
  let gi := match geom with
    | some g => geomGi g
    | none => 1
  match d.cmd with
  | 0x01 => d.run
  | 0x02 => vecRows (field d 37 34) d.run
  | 0x03 => 0
  | 0x58 => cdiv (field d 14 0) 2
  | 0x59 => 1
  | 0x60 => 0
  | 0x61 => field d 63 57 + 1
  | 0x62 => (field d 63 60 + 1) * cdiv taps 2
  | 0x63 => (field d 63 60 + 1) * cdiv (taps * gi) 2
  | 0x64 => (field d 63 60 + 1) * cdiv taps 2
  | 0x65 => (field d 63 60 + 1) * cdiv taps 2
  | 0x66 => (field d 63 60 + 1) * cdiv taps 2
  | code => vecCost code * d.run

/-! ## Lift commands (R160–R163) -/

/-- UNIT: the cluster Lift runs the command. -/
def Desc.unit (d : Desc) : Bool := bit d 83
/-- SRC endpoint. -/
def Desc.src (d : Desc) : Nat := field d 82 79
/-- DST endpoint. -/
def Desc.dst (d : Desc) : Nat := field d 78 75

/-- Index of the skew sequence a command belongs to: the core Lift's or the cluster Lift's. -/
def Desc.lane (d : Desc) : Fin 2 := if bit d 83 then 1 else 0

/-- Depth of an LSKEW. -/
def skewDepth (d : Desc) : Nat := mxDepth (field d 71 70) (field d 69 68)

/-- Elements per row of an LSKEW source. -/
def skewSrcPerRow (d : Desc) : Nat := perRow (fmtBits (field d 67 64))
/-- Elements per row of an LSKEW destination: 2 bytes in the 16-bit class (R163). -/
def skewDstPerRow (d : Desc) : Nat := perRow (streamBits (field d 69 68) (field d 67 64))

/-- Slices an LSKEW writes (R163). -/
def skewSlices (d : Desc) : Nat := field d 29 15 + (if bit d 72 then skewDepth d - 1 else 0)

/-- Rows an LSKEW writes. -/
def skewDstRows (d : Desc) : Nat := cdiv (skewSlices d * skewDepth d) (skewDstPerRow d)

/-- Rows of the source of a Lift command; a packed source occupies what its chunks do, at least its first row. -/
def liftSrcRows (d : Desc) : Nat :=
  if bit d 74 then 1
  else if d.cmd = 1 then field d 29 13
  else cdiv (field d 29 15 * skewDepth d) (skewSrcPerRow d)

/-- Rows of the destination of a Lift command. -/
def liftDstRows (d : Desc) : Nat := if d.cmd = 2 then skewDstRows d else field d 29 13

/-- A streaming combination of R45 for a Lift's skew: shape, class and format. -/
def skewCombination (sh cl f : Nat) : Bool :=
  mxSupported sh cl && (weightOf cl f || activationOf cl f) && (sh != 3 || fmtBits f == 4)

/-- The command has an endpoint coded 0xC. -/
def usesVa (d : Desc) : Bool := (d.cmd != 3 && d.cmd != 4 && d.src == 12) || (d.cmd != 4 && d.dst == 12)

/-- Bytes of a run of an LADDR (R161). -/
def laddrRun (a : Desc) : Nat := (field a 63 58 + 1) * 64

/-- The byte count at the virtual-address endpoint breaks the runs of its LADDR (R161). -/
def badRuns (a d : Desc) : Bool :=
  if d.cmd != 3 && d.src == 12 then
    (if bit d 74 then field a 83 64 != 0 else liftSrcRows d * 512 % laddrRun a != 0)
  else liftDstRows d * 512 % laddrRun a != 0

/-- The source and destination rows of a command overlap in one store (R157). -/
def selfOverlap (d : Desc) : Bool :=
  d.cmd != 3 && decide (d.src < 12) && d.src == d.dst &&
  overlaps (field d 63 47) (liftSrcRows d) (field d 46 30) (liftDstRows d)

/-- The descriptor fields that must agree along a skew sequence: SHAPE, CLASS, FMT, ZP, PK, DST (R163). -/
def sameSequence (a d : Desc) : Bool :=
  field a 71 64 == field d 71 64 && field a 14 7 == field d 14 7 && bit a 74 == bit d 74 && a.dst == d.dst

/-- The halts 0x0B of an LSKEW (R163). -/
def badSkew (seq : Option SkewSeq) (d : Desc) : Bool :=
  (!bit d 72 && field d 29 15 * skewDepth d % skewDstPerRow d != 0) ||
  (match seq with
   | none => bit d 73
   | some q => !bit d 73 || !sameSequence q.desc d)

/-- Checks of a Lift descriptor; `before` is the descriptor appended before it, `seq` the skew sequence open. -/
def checkLift (s : State) (c : CtxId) (before : Option Desc) (seq : Option SkewSeq) (d : Desc) : Option (Nat × Nat) :=
  if badHeader d then some (0x02, 0)
  else
    let addr := match before with
      | some b => if b.cmd = 4 then some b else none
      | none => none
    let orphan := addr.isSome && !usesVa d
    match d.cmd with
    | 4 => firstReason (engineReserved d (bits 83 58 + bits 47 0) || d.wcnt != 0 || d.pcnt != 0)
        (if field d 5 0 = 0 then none else some (field d 47 0)) false orphan none
    | code =>
      if code = 0 ∨ 4 < code then some (0x02, 0)
      else
        let fill := code == 3
        let used := if code = 1 then bits 83 74 + bits 63 13 else if code = 2 then bits 83 64 + bits 63 7
          else bits 83 83 + bits 78 75 + bits 63 48 + bits 46 13
        let noRow := fun (e : Nat) => e == 12 || e == 13
        let count := if code = 2 then field d 29 15 else field d 29 13
        let r02 := engineReserved d used || (!fill && decide (14 ≤ d.src)) || decide (14 ≤ d.dst) || count == 0 ||
          (code != 2 && decide (98304 < count)) || (code == 2 && (field d 69 68 == 3 || !fmtOk (field d 67 64))) ||
          (!fill && noRow d.src && field d 63 47 != 0) || (noRow d.dst && field d 46 30 != 0)
        let r09 := code == 2 && !skewCombination (field d 71 70) (field d 69 68) (field d 67 64)
        let r0B := (!fill && d.src == 12 && d.dst == 12) || (!fill && d.src == 13) || (d.dst == 13 && d.unit) ||
          (d.dst == 13 && fill) || orphan || (usesVa d && addr.isNone) || selfOverlap d || (code == 2 && badSkew seq d) ||
          (match addr with
           | some a => badRuns a d
           | none => false)
        let src := if !fill && decide (d.src < 12) then badRow s c d.src [(field d 63 47, liftSrcRows d)] else none
        let dst := if d.dst < 12 then badRow s c d.dst [(field d 46 30, liftDstRows d)] else none
        firstReason r02 none r09 r0B (orRow (!fill && d.src == d.dst) src dst)

/-- Checks of a DETECT descriptor (R133); its parameter row is checked when it begins. -/
def checkDetect (d : Desc) : Option (Nat × Nat) :=
  if badHeader d || d.cmd != 1 || engineReserved d (bits 83 82 + bits 16 0) || field d 83 82 == 3 then some (0x02, 0)
  else none

/-! ## Appending -/

/-- What appending depends on and moves along a batch: the descriptor before, the open skew sequences, the open chain,
the geometry, the charges and the commands gathered. -/
structure Append where
  before : Option Desc
  skew : Vector (Option SkewSeq) 2
  chain : Option (Nat × Nat)
  geom : Option W64
  charge : Nat
  cmds : List Cmd

/-- Queue depths (R124). -/
def queueDepth (q : QueueId) : Nat := if q = 2 then 128 else if q = 3 then 16 else 64

/-- The skew sequence after an LSKEW (R163). -/
def skewAfter (seq : Option SkewSeq) (d : Desc) : Option SkewSeq :=
  if bit d 72 then none
  else match seq with
    | some q => some { q with vectors := q.vectors + field d 29 15 }
    | none => some ⟨d, field d 29 15⟩

/-- The command needs a unit that the feature word shows absent: the window path, or the twiddle ROM (R101). -/
def unitAbsent (s : State) (q : QueueId) (d : Desc) : Bool :=
  let present := fun (i : Nat) => bit (s.board.features.getD 1 0) i
  (q == 1 && (d.cmd == 0x58 || (decide (0x60 ≤ d.cmd) && decide (d.cmd ≤ 0x66))) && !present 2) ||
  (q == 0 && d.cmd == 4 && !present 5)

/-- One descriptor joins the batch, or the reason and address that refuse it. -/
def appendOne (s : State) (k : CoreId) (t : Tile) (q : QueueId) (pc : BitVec 18) (pos : Nat) (a : Append) (d : Desc) :
    Except (Nat × Nat) Append :=
  let lane := d.lane
  let fail := if unitAbsent s q d then some (0x03, 0)
    else if q = 0 then checkMatrix s t.ctx k a.before d
    else if q = 1 then checkVector s t.ctx k a.before d
    else if q = 2 then checkLift s t.ctx a.before a.skew[lane] d
    else checkDetect d
  match fail with
  | some e => .error e
  | none =>
    let v0 := match a.skew[lane] with
      | some x => if q = 2 ∧ d.cmd = 2 then x.vectors else 0
      | none => 0
    let cmd : Cmd := ⟨d, pc, pos, t.appended + a.cmds.length, .waiting, a.before, v0, 0, [], []⟩
    .ok { before := some d
          skew := if q = 2 ∧ d.cmd = 2 then a.skew.set lane (skewAfter a.skew[lane] d) else a.skew
          chain := if q = 0 then chainAfter a.chain d else a.chain
          geom := if q = 1 ∧ d.cmd = 0x60 then some (d.extractLsb' 0 64) else a.geom
          charge := a.charge + (if q = 0 then matrixCharge a.chain d else if q = 1 then vectorCharge a.geom d else 0)
          cmds := a.cmds ++ [cmd] }

/-- A batch in order; the position of the first descriptor that fails. -/
def appendAll (s : State) (k : CoreId) (t : Tile) (q : QueueId) (pc : BitVec 18) :
    Nat → List Desc → Append → Except (Nat × Nat × Nat) Append
  | _, [], a => .ok a
  | pos, d :: r, a =>
    match appendOne s k t q pc pos a d with
    | .error e => .error (e.1, e.2, pos)
    | .ok a' => appendAll s k t q pc (pos + 1) r a'

/-- Stores and atomics before the last FENCE with SP are all performed (R121). -/
def spClear (c : Core) : Bool :=
  let rec go : List Access → Bool → Bool
    | [], _ => true
    | x :: r, pending =>
      match x.kind with
      | .fence m => !(bit m 4 && pending) && go r pending
      | .load _ => go r pending
      | _ => go r true
  go c.accesses false

/-- Entries of a queue in use: the commands its engine has not taken (R112, R124; log 23). -/
def Core.occupied (c : Core) (q : QueueId) : Nat := ((c.queue q).filter (fun x => x.phase == .waiting)).length

/-- What appending a batch at the core's PC gives: the state with the commands appended and charged, or a halt. -/
inductive Appended where
  | ok (s : State)
  | noRoom
  | halt (src : HaltSource) (reason detail addr : Nat)

/-- Append a batch to a queue (R112, R124, R127, R140). -/
def appendBatch (s : State) (k : CoreId) (t : Tile) (q : QueueId) (ds : List Desc) : Appended :=
  let c := s.core k
  if queueDepth q < c.occupied q + ds.length || !spClear c then .noRoom
  else match appendAll s k t q c.pc 0 ds ⟨c.lastAppended[q], c.skew, c.chainAppended, c.geomAppended, 0, []⟩ with
    | .error e => .halt .control e.1 e.2.2 e.2.1
    | .ok a =>
      let unit := if q = 0 then ChargeUnit.mtx else .vec
      match s.addCharge k unit a.charge with
      | none => .halt .monitor 0x08 0 0
      | some s1 =>
        let c1 := s1.core k
        .ok (s1.setCore k { c1.setQueue q (c1.queue q ++ a.cmds) with
          lastAppended := c1.lastAppended.set q a.before, skew := a.skew, chainAppended := a.chain,
          geomAppended := a.geom, tile := c1.tile.map (fun x => { x with appended := x.appended + ds.length }) })

/-- The wait of the command at the head of an engine queue: counter and tokens, none for a command that waits for none
(R135). -/
def Core.headWait (c : Core) (q : QueueId) : Option (Fin 32 × Nat) :=
  ((c.queue q).find? (fun x => x.phase == .waiting)).bind (fun x =>
    if Desc.wcnt x.desc = 0 then none else some (Desc.wctr x.desc, Desc.wcnt x.desc))

/-- What a counter has left for a unit once the waits tested before its own have been: those of the matrix, vector, Lift and
post-processor queues, units 0 to 3, in that order, each taking its tokens where they are there (R136). Unit 4 is TWAIT. -/
def Core.tokensFor (c : Core) (unit : Nat) (t : Fin 32) : Nat :=
  ((List.finRange 4).filter (fun q => decide (q.val < unit))).foldl (fun v q =>
    match c.headWait q with
    | some w => if w.1 = t ∧ w.2 ≤ v then v - w.2 else v
    | none => v) (c.token t).toNat

end Sys2Proof.Machine
end

