-- ==== Sys2Proof/Machine/Packed.lean ====
section
/-! DEFINITION. Packed weight streams: chunks, code tables, payload (R165–R168). -/

namespace Sys2Proof.Machine

/-- Header of a chunk (R165): type, decoded rows, bytes, and whether a reserved type or field is met. -/
structure ChunkHead where
  kind : Nat
  rows : Nat
  len : Nat
  reserved : Bool
deriving DecidableEq, Repr

/-- The header that the first bytes of a chunk hold. -/
def chunkHead (bs : List Byte) : ChunkHead :=
  let h := BitVec.ofNat 32 (leAt bs 0 4)
  ⟨field h 1 0, field h 8 2 + 1, field h 25 9, field h 1 0 == 3 || field h 31 26 != 0⟩

/-- The 271 code lengths of a coded chunk (R166). -/
def codeLengths (bs : List Byte) : List Nat :=
  let v := leAt bs 4 136
  (List.range 271).map (fun i => v / 16 ^ i % 16)

/-- One length of the canonical assignment: codewords of that length, and the next code doubled (R166). -/
def assignLength (lens : List Nat) (st : Nat × List (Nat × Nat × Nat)) (len : Nat) : Nat × List (Nat × Nat × Nat) :=
  let r := (lens.zipIdx).foldl (fun (a : Nat × List (Nat × Nat × Nat)) (x : Nat × Nat) =>
    if x.1 = len then (a.1 + 1, a.2 ++ [(len, a.1, x.2)]) else a) st
  (2 * r.1, r.2)

/-- The final code and the codewords, as (length, code, symbol) (R166). -/
def assignCodes (lens : List Nat) : Nat × List (Nat × Nat × Nat) :=
  ((List.range 15).map (· + 1)).foldl (assignLength lens) (0, [])

/-- The table is valid: the code is complete, or one symbol alone has a length, and it is 1 (R166). -/
def validTable (lens : List Nat) : Bool :=
  (assignCodes lens).1 == 65536 || ((lens.filter (· != 0)) == [1])

/-- The bits of a byte, lowest first. -/
def byteBits (b : Byte) : List Bool := (List.range 8).map (fun i => bit b i)

/-- Decode a payload: codeword so far (length, code), or the extra bits of a zero run still to read (bits left, shift,
value so far, symbol offset); the output is gathered in reverse (R166, R167). -/
def decodePayload (table : List (Nat × Nat × Nat)) : List Bool → Nat → Nat → Nat → Option (Nat × Nat × Nat × Nat) → List Byte →
    Option (List Byte)
  | [], need, _, _, _, out => if need = 0 then some out else none
  | b :: r, need, len, code, ex, out =>
    if need = 0 then some out
    else match ex with
    | some (left, shift, v, j) =>
      let v' := v + b.toNat * 2 ^ shift
      if 1 < left then decodePayload table r need 0 0 (some (left - 1, shift + 1, v', j)) out
      else
        let run := 2 ^ (j + 1) + v'
        if need < run then none else decodePayload table r (need - run) 0 0 none (List.replicate run 0 ++ out)
    | none =>
      let code' := 2 * code + b.toNat
      match table.find? (fun e => e.1 == len + 1 && e.2.1 == code') with
      | some e =>
        if e.2.2 < 256 then decodePayload table r (need - 1) 0 0 none (BitVec.ofNat 8 e.2.2 :: out)
        else decodePayload table r need 0 0 (some (e.2.2 - 256 + 1, 0, 0, e.2.2 - 256)) out
      | none => if 15 ≤ len + 1 then none else decodePayload table r need (len + 1) code' none out

/-- The bytes a coded chunk decodes to, or none for its faults (R166, R167). -/
def decodeCoded (bs : List Byte) (rows : Nat) : Option (List Byte) :=
  let lens := codeLengths bs
  if validTable lens then
    (decodePayload (assignCodes lens).2 (((bs.drop 139).flatMap byteBits).drop 4) (512 * rows) 0 0 none []).map List.reverse
  else none

/-- How a Lift's requests stop: a missing translation at a byte offset, a halt, a request that waits for the outstanding ones
(R155), or one that meets a frozen controller (R305). -/
inductive LiftStop where
  | fault (offset va cause level : Nat)
  | halt (reason addr : Nat)
  | wait (offset : Nat)
  | frozen (va : Nat)
deriving DecidableEq, Repr

/-- What requests for a stretch of a source give: the bytes read, the 64-byte requests made, and what stopped them. -/
structure Fetched where
  bytes : List Byte
  reqs : Nat
  stop : Option LiftStop
deriving DecidableEq, Repr

/-- What a source gives: plain bytes, the source bytes behind them as far as they are kept, packed bytes consumed and decoded bytes
produced now, 64-byte requests made now, and what stopped the reading (R171, R172). -/
structure LiftRead where
  bytes : List Byte
  raw : List Byte
  packed : Nat
  decoded : Nat
  reqs : Nat
  stop : Option LiftStop
deriving DecidableEq, Repr

/-- A source that gives nothing more. -/
def LiftRead.ended (reqs : Nat) (stop : Option LiftStop) : LiftRead := ⟨[], [], 0, 0, reqs, stop⟩

/-- A plain source. -/
def Fetched.plain (f : Fetched) : LiftRead := ⟨f.bytes, f.bytes, 0, 0, f.reqs, f.stop⟩

/-- The bytes that a chunk decodes to, or none for its faults (R165–R167). -/
def decodeChunk (h : ChunkHead) (bs : List Byte) : Option (List Byte) :=
  if h.kind = 1 then (if h.len = 4 + 512 * h.rows then some (bs.drop 4) else none)
  else if h.kind = 2 then (if h.len = 4 then some (List.replicate (512 * h.rows) 0) else none)
  else decodeCoded bs h.rows

/-- Decode the chunks of a stream of `rows` rows from byte offset o until `need` rows are out (R165–R167). `get` reads bytes of the
source, of which the first `kept` have been read and decoded before. -/
def decodeChunks (get : Nat → Nat → Fetched) (kept : Nat) : Nat → Nat → Nat → Nat → LiftRead
  | 0, _, _, _ => .ended 0 none
  | fuel + 1, o, rows, need =>
    if need = 0 ∨ rows = 0 then .ended 0 none
    else
      let first := get o 64
      let h := chunkHead first.bytes
      if first.stop.isSome then .ended first.reqs first.stop
      else if h.reserved then .ended first.reqs (some (.halt 0x02 0))
      else if rows < h.rows || (h.rows != 128 && h.rows != rows) then .ended first.reqs (some (.halt 0x0B 0))
      else
        let all := get o h.len
        match all.stop, decodeChunk h all.bytes with
        | some (.fault _ va cause level), _ => .ended all.reqs (some (.fault o va cause level))
        | some e, _ => .ended all.reqs (some e)
        | none, none => .ended all.reqs (some (.halt 0x0B 0))
        | none, some data =>
          let r := decodeChunks get kept fuel (o + cdiv h.len 64 * 64) (rows - h.rows) (need - h.rows)
          let raw := all.bytes ++ List.replicate (cdiv h.len 64 * 64 - h.len) 0
          if o < kept then ⟨data ++ r.bytes, raw ++ r.raw, r.packed, r.decoded, r.reqs, r.stop⟩
          else ⟨data ++ r.bytes, raw ++ r.raw, h.len + r.packed, data.length + r.decoded, all.reqs + r.reqs, r.stop⟩

end Sys2Proof.Machine
end

