-- ==== Sys2Proof/Machine/Image.lean ====
section
/-! DEFINITION. Model images: the tables of the payload and the checks of registration (R169, R178, R210–R213, R322). -/

namespace Sys2Proof.Machine

/-! ## Reading the tables -/

/-- A prefetch-stream descriptor (R169). -/
def parseStream (p : List Byte) (o : Nat) : StreamDesc :=
  ⟨leAt p o 8, leAt p (o + 8) 8, leAt p (o + 16) 2, leAt p (o + 18) 2, leAt p (o + 20) 1, leAt p (o + 21) 1, leAt p (o + 22) 1 % 2 == 1⟩

/-- A stage-table entry (R212). -/
def parseStage (p : List Byte) (o : Nat) : Stage where
  launch := leAt p (o + 1) 1
  migratable := leAt p (o + 2) 1 % 2 == 1
  cluster := leAt p (o + 2) 1 / 2 % 2 == 1
  cores := leAt p (o + 3) 1
  entry := leAt p (o + 8) 4
  ipart := leAt p (o + 12) 2
  dpart := leAt p (o + 14) 2
  isect := leAt p (o + 16) 2
  dsect := leAt p (o + 18) 2
  localLo := leAt p (o + 20) 1
  localHi := leAt p (o + 21) 1
  clusterLo := leAt p (o + 22) 1
  clusterHi := leAt p (o + 23) 1
  writes := BitVec.ofNat 16 (leAt p (o + 24) 2)
  argBlk := leAt p (o + 26) 2
  argStride := leAt p (o + 28) 2
  streams := (List.range (leAt p (o + 4) 1)).map (fun i => parseStream p (leAt p (o + 32) 4 + 32 * i))
  windows := (List.range (leAt p (o + 5) 1)).map (fun i =>
    let w := leAt p (o + 36) 4 + 8 * i
    (leAt p w 4, leAt p (w + 4) 4))

/-- A release segment (R178). -/
def parseSegment (p : List Byte) (o : Nat) : Segment :=
  ⟨leAt p o 4, leAt p (o + 4) 1, leAt p (o + 6) 2, leAt p (o + 8) 2, leAt p (o + 10) 4⟩

/-- Counter entries from an offset, each with its offset, LIMIT and segments (R178, R212). -/
def parseCounters (p : List Byte) : Nat → Nat → List (Nat × Nat × List Segment)
  | 0, _ => []
  | n + 1, o =>
    let k := leAt p (o + 4) 1
    (o, leAt p o 4, (List.range k).map (fun i => parseSegment p (o + 16 + 16 * i))) :: parseCounters p n (o + 16 + 16 * k)

/-- A section-table entry (R212). -/
def parseSection (p : List Byte) (o : Nat) : Section where
  ofs := leAt p o 8
  length := leAt p (o + 8) 4
  kind := leAt p (o + 12) 1
  stage := leAt p (o + 13) 1
  hi := leAt p (o + 14) 1 % 2 == 1
  pk := leAt p (o + 14) 1 / 2 % 2 == 1
  row := leAt p (o + 16) 4
  size := leAt p (o + 20) 4

/-- An exchange (R322). -/
def parseExchange (p : List Byte) (o : Nat) : Exchange where
  sbase := leAt p o 8
  sstride := leAt p (o + 8) 4
  bytes := leAt p (o + 12) 4
  dbase := leAt p (o + 16) 8
  dstride := leAt p (o + 24) 4
  srcMask := BitVec.ofNat 16 (leAt p (o + 28) 2)
  dstMask := BitVec.ofNat 16 (leAt p (o + 30) 2)

/-- Cascade entries from an offset, each with its offset (R322). -/
def parseCascade (p : List Byte) : Nat → Nat → List (Nat × CascadeEntry)
  | 0, _ => []
  | n + 1, o =>
    let k := leAt p (o + 2) 1
    (o, ⟨leAt p o 1, (List.range (leAt p (o + 1) 1)).map (fun i => leAt p (o + 4 + 2 * i) 2),
      (List.range k).map (fun i => parseExchange p (o + 48 + 40 * i))⟩) :: parseCascade p n (o + 48 + 40 * k)

/-- Offset of the i-th table that the header names: stage, counter, section, relocation, input, Slalom, entry, cascade
(R211). -/
def tableOfs (p : List Byte) (i : Nat) : Nat := leAt p (16 + 4 * i) 4

/-- The image that a payload describes. -/
def parseImage (p : List Byte) : Image where
  strictForm := leAt p 6 1 % 2 == 1
  windows := leAt p 6 1 / 2 % 2 == 1
  fallback := leAt p 7 1
  argBytes := leAt p 8 4
  stages := (List.range (leAt p 3 1)).map (fun i => parseStage p (tableOfs p 0 + 64 * i))
  counters := (parseCounters p (leAt p 4 1) (tableOfs p 1)).map (·.2)
  sections := (List.range (leAt p 5 1)).map (fun i => parseSection p (tableOfs p 2 + 24 * i))
  relocs := (List.range (leAt p 12 4)).map (fun i =>
    let o := tableOfs p 3 + 8 * i
    ⟨leAt p o 1, leAt p (o + 1) 1, leAt p (o + 4) 4⟩)
  input := let o := tableOfs p 4
    if o = 0 then none
    else some ⟨leAt p o 1, leAt p (o + 1) 1, leAt p (o + 2) 1, leAt p (o + 4) 4, leAt p (o + 8) 8, leAt p (o + 16) 4⟩
  slalomTotal := if tableOfs p 5 = 0 then 0 else leAt p (tableOfs p 5 + 8) 8
  slalom := let o := tableOfs p 5
    if o = 0 then []
    else (List.range (leAt p o 2)).map (fun i =>
      let e := o + 16 + 16 * i
      ⟨leAt p e 1, leAt p (e + 1) 1, leAt p (e + 4) 4, leAt p (e + 8) 8⟩)
  entries := let o := tableOfs p 6
    if o = 0 then [] else (List.range (leAt p 3 1)).map (fun i => leAt p (o + 16 * i + 8) 8)
  cascade := let o := tableOfs p 7
    if o = 0 then [] else (parseCascade p (leAt p o 1) (o + 8)).map (·.2)

/-! ## Where the tables lie (R211) -/

/-- A table's byte range, where it has bytes. -/
def span (o n : Nat) : List (Nat × Nat) := if n = 0 then [] else [(o, n)]

/-- The byte ranges of all tables, stream and window lists among them. -/
def imageSpans (p : List Byte) : List (Nat × Nat) :=
  let ns := leAt p 3 1
  let cs := parseCounters p (leAt p 4 1) (tableOfs p 1)
  let ca := if tableOfs p 7 = 0 then [] else parseCascade p (leAt p (tableOfs p 7) 1) (tableOfs p 7 + 8)
  span (tableOfs p 0) (64 * ns) ++ span (tableOfs p 1) ((cs.map (fun c => 16 + 16 * c.2.2.length)).sum) ++
  span (tableOfs p 2) (24 * leAt p 5 1) ++ span (tableOfs p 3) (8 * leAt p 12 4) ++
  (if tableOfs p 4 = 0 then [] else span (tableOfs p 4) 32) ++
  (if tableOfs p 5 = 0 then [] else span (tableOfs p 5) (16 + 16 * leAt p (tableOfs p 5) 2)) ++
  (if tableOfs p 6 = 0 then [] else span (tableOfs p 6) (16 * ns)) ++
  (if tableOfs p 7 = 0 then [] else span (tableOfs p 7) (8 + (ca.map (fun c => 48 + 40 * c.2.exchanges.length)).sum)) ++
  (List.range ns).flatMap (fun i =>
    let o := tableOfs p 0 + 64 * i
    span (leAt p (o + 32) 4) (32 * leAt p (o + 4) 1) ++ span (leAt p (o + 36) 4) (8 * leAt p (o + 5) 1))

/-- No two ranges of a list meet. -/
def disjointSpans : List (Nat × Nat) → Bool
  | [] => true
  | a :: r => r.all (fun b => !overlaps a.1 a.2 b.1 b.2) && disjointSpans r

/-- The tables are aligned, inside the payload, behind the header and apart (R211). -/
def spansOk (p : List Byte) : Bool :=
  (imageSpans p).all (fun t => t.1 % 8 == 0 && decide (128 ≤ t.1) && decide (t.1 + t.2 ≤ p.length)) &&
  disjointSpans (imageSpans p)

/-! ## Checks of the header and each table -/

/-- The model header (R211); `milac` is the QV8's Milac major version. -/
def headerOk (milac : Nat) (p : List Byte) : Bool :=
  let u := leAt p
  decide (128 ≤ p.length) && u 0 1 == 1 && u 1 1 == 0 && u 2 1 == milac &&
  decide (1 ≤ u 3 1) && decide (u 3 1 ≤ 16) && decide (1 ≤ u 4 1) && decide (u 4 1 ≤ 16) && decide (1 ≤ u 5 1) &&
  decide (u 6 1 < 4) && (decide (u 7 1 < 16) || u 7 1 == 0xFF) && u 8 4 % 8 == 0 && decide (u 8 4 ≤ 4096) &&
  decide (u 12 4 ≤ 1024) && (u 12 4 == 0) == (tableOfs p 3 == 0) &&
  tableOfs p 0 != 0 && tableOfs p 1 != 0 && tableOfs p 2 != 0 && allZero ((p.drop 64).take 64)

/-- Rows of a unit (R204). -/
def unitRows (cluster : Bool) : Nat := if cluster then 768 else 256

/-- A row range counted within a low and a high run of so many units lies wholly in one (R204). -/
def inRuns (lo hi per first n : Nat) : Bool :=
  decide (first + n ≤ lo * per) || (decide (lo * per ≤ first) && decide (first + n ≤ (lo + hi) * per))

/-- Argument blocks of a stage (R170). -/
def Stage.blocks (g : Stage) : List Nat :=
  (List.range (match g.streams with
    | [] => 1
    | d :: _ => d.depth + 1)).map (fun b => g.argBlk + b * g.argStride)

/-- A prefetch stream (R169). -/
def streamOk (nc : Nat) (g : Stage) (p : List Byte) (o : Nat) : Bool :=
  let d := parseStream p o
  d.base % 64 == 0 && decide (d.base < 2 ^ 48) && d.stride % 64 == 0 && decide (1 ≤ d.rows) && decide (d.rows ≤ 8192) &&
  decide (1 ≤ d.depth) && decide (d.depth ≤ 4) && decide (d.counter < nc) && decide (leAt p (o + 22) 1 < 2) &&
  allZero ((p.drop (o + 23)).take 9) &&
  (List.range (d.depth + 1)).all (fun i => inRuns g.localLo g.localHi 256 (d.slot0 + i * d.rows) d.rows)

/-- A stage-table entry (R212). -/
def stageOk (p : List Byte) (im : Image) (i : Nat) : Bool :=
  let o := tableOfs p 0 + 64 * i
  let g := parseStage p o
  let u := fun (a n : Nat) => leAt p (o + a) n
  let nc := im.counters.length
  u 0 1 == i && decide (g.launch < nc) && decide (u 2 1 < 4) && decide (1 ≤ g.cores) && decide (g.cores ≤ 8) &&
  (!g.cluster || g.cores % 2 == 0) && decide (u 4 1 ≤ 4) && decide (u 5 1 ≤ 4) && u 6 2 == 0 && g.entry % 8 == 0 &&
  decide (g.entry < g.ipart * 4096) && decide (1 ≤ g.ipart) && decide (g.ipart ≤ 64) && decide (1 ≤ g.dpart) &&
  decide (g.dpart ≤ 16) && [g.localLo, g.localHi, g.clusterLo, g.clusterHi].all (fun x => decide (x ≤ 64)) &&
  (g.cluster || (g.clusterLo == 0 && g.clusterHi == 0)) && g.writes.getLsbD i && g.argBlk % 8 == 0 &&
  g.argStride % 8 == 0 && (!g.streams.isEmpty || g.argStride == 0) && u 30 2 == 0 && allZero ((p.drop (o + 40)).take 24) &&
  (u 4 1 == 0 || u 32 4 != 0) && (u 5 1 == 0 || u 36 4 != 0) &&
  (List.range (u 4 1)).all (fun j => streamOk nc g p (u 32 4 + 32 * j)) &&
  (match g.streams with
   | [] => true
   | d :: r => r.all (fun e => e.depth == d.depth)) &&
  g.windows.all (fun w => inRuns g.clusterLo g.clusterHi 768 w.1 w.2) &&
  g.blocks.all (fun b => decide (b + im.argBytes ≤ g.dpart * 4096)) &&
  (match im.sections[g.isect]? with
   | some x => x.kind == 0 && x.stage == i
   | none => false) &&
  (g.dsect == 0xFFFF || (match im.sections[g.dsect]? with
   | some x => x.kind == 1 && x.stage == i
   | none => false))

/-- FIRST values strictly ascend (R178). -/
def firstsAscend : List Segment → Bool
  | a :: b :: r => decide (a.first < b.first) && firstsAscend (b :: r)
  | _ => true

/-- A counter entry and its segments (R178). -/
def counterOk (p : List Byte) (nc j : Nat) (c : Nat × Nat × List Segment) : Bool :=
  let o := c.1
  decide (leAt p (o + 4) 1 ≤ 32) && allZero ((p.drop (o + 5)).take 11) && firstsAscend c.2.2 &&
  (List.range c.2.2.length).all (fun i =>
    let a := o + 16 + 16 * i
    leAt p (a + 5) 1 == 0 && leAt p (a + 14) 2 == 0) &&
  c.2.2.all (fun g => decide (g.src < nc) && decide (1 ≤ g.den) &&
    (g.src != j || (decide (g.num ≤ g.den) &&
      decide ((if c.2.1 = 0 then g.need0 else min c.2.1 g.need0) ≤ g.first))))

/-- Counters left after removing, n times, those that wait on none of the rest (R178). -/
def cyclic (srcs : Nat → List Nat) : Nat → List Nat → List Nat
  | 0, l => l
  | n + 1, l => cyclic srcs n (l.filter (fun j => (srcs j).any (fun k => k != j && l.contains k)))

/-- Waiting links of distinct counters form no cycle (R178). -/
def linksAcyclic (cs : List (Nat × List Segment)) : Bool :=
  let srcs := fun (j : Nat) => match cs[j]? with
    | some c => c.2.map Segment.src
    | none => []
  (cyclic srcs cs.length (List.range cs.length)).isEmpty

/-- Rows of the run that a section of kind 2 or 3 loads into. -/
def sectionRun (g : Stage) (x : Section) : Nat :=
  if x.kind = 2 then (if x.hi then g.localHi else g.localLo) * 256 else (if x.hi then g.clusterHi else g.clusterLo) * 768

/-- A section-table entry (R212). -/
def sectionOk (p : List Byte) (im : Image) (i : Nat) (x : Section) : Bool :=
  let o := tableOfs p 2 + 24 * i
  decide (x.kind < 4) && decide (leAt p (o + 14) 1 < 4) && leAt p (o + 15) 1 == 0 && x.ofs % 64 == 0 &&
  decide (x.ofs + x.length ≤ p.length) && (x.length == 0 || decide (128 ≤ x.ofs)) &&
  (imageSpans p).all (fun t => !overlaps x.ofs x.length t.1 t.2) &&
  (match im.stages[x.stage]? with
   | none => false
   | some g =>
     if x.kind < 2 then
       !x.hi && x.row == 0 && decide (x.size ≤ (if x.kind = 0 then g.ipart else g.dpart) * 4096) &&
       (x.pk || decide (x.size ≤ x.length))
     else decide (x.row + x.size ≤ sectionRun g x) && (x.pk || decide (512 * x.size ≤ x.length)))

/-- Two sections load overlapping rows or bytes (R212). -/
def sectionsMeet (a b : Section) : Bool :=
  a.stage == b.stage && a.kind == b.kind && a.hi == b.hi && overlaps a.row a.size b.row b.size

/-- No two sections overlap. -/
def sectionsApart : List Section → Bool
  | [] => true
  | a :: r => r.all (fun b => !sectionsMeet a b) && sectionsApart r

/-- A relocation entry (R212). -/
def relocOk (p : List Byte) (im : Image) (i : Nat) (r : Reloc) : Bool :=
  match im.stages[r.stage]? with
  | none => false
  | some g => decide (r.run < 4) && leAt p (tableOfs p 3 + 8 * i + 2) 2 == 0 && r.word % 4 == 0 &&
      decide (r.word + 4 ≤ g.dpart * 4096) && g.blocks.all (fun b => !overlaps r.word 4 b im.argBytes)

/-- The input entry (R212): its slots lie in a cluster-store run of its stage. -/
def inputOk (p : List Byte) (im : Image) (x : InputEntry) : Bool :=
  let o := tableOfs p 4
  decide (2 ≤ x.slots) && decide (x.slots ≤ 8) && decide (x.counter < im.counters.length) &&
  (match im.stages[x.stage]? with
   | some g => g.cluster
   | none => false) &&
  leAt p (o + 3) 1 == 0 && decide (2 ≤ x.slotRows) && decide (x.slotRows ≤ 49152) && allZero ((p.drop (o + 20)).take 12) &&
  x.argWord % 4 == 0 && decide (im.argBytes ≤ x.argWord) &&
  im.stages.all (fun g => decide (g.argBlk + x.argWord + 4 ≤ g.dpart * 4096))

/-- No two Slalom entries name one gate (R213). -/
def gatesApart : List SlalomGate → Bool
  | [] => true
  | a :: r => r.all (fun b => a.counter != b.counter || a.index != b.index) && gatesApart r

/-- The Slalom table (R212, R213). An entry stage needs a fall-back to enter. -/
def slalomOk (p : List Byte) (im : Image) : Bool :=
  let o := tableOfs p 5
  o == 0 || (decide (1 ≤ leAt p o 2) && decide (leAt p o 2 ≤ 256) && allZero ((p.drop (o + 2)).take 6) &&
    (List.range im.slalom.length).all (fun i => leAt p (o + 16 + 16 * i + 2) 2 == 0) &&
    im.slalom.all (fun e => decide (e.counter < im.counters.length) &&
      (e.entry == 0xFF || (decide (e.entry < 16) && im.fallback != 0xFF)) && decide (e.remain < im.slalomTotal)) &&
    gatesApart im.slalom)

/-- The entry table (R212). -/
def entriesOk (p : List Byte) (im : Image) : Bool :=
  let o := tableOfs p 6
  o == 0 || (List.range im.stages.length).all (fun i => leAt p (o + 16 * i) 1 == i && allZero ((p.drop (o + 16 * i + 1)).take 7))

/-- Some number below n has a property. -/
def anyBelow (f : Nat → Bool) : Nat → Bool
  | 0 => false
  | n + 1 => f n || anyBelow f n

/-- Some index below `lim` puts a run of `m` bytes from `y` + index × `st` onto the `n` bytes from `x`. -/
def runMeets (x n y m st lim : Nat) : Bool :=
  let j := if x < y + m then 0 else if st = 0 then lim else (x - y - m) / st + 1
  decide (j < lim) && overlaps x n (y + j * st) m

/-- Two exchanges overlap at a member (R322). -/
def exchangesMeet (n lim : Nat) (a b : Exchange) : Bool :=
  (List.range n).any (fun q => a.dstMask.getLsbD q && b.dstMask.getLsbD q &&
    (List.range n).any (fun m1 => a.srcMask.getLsbD m1 && m1 != q &&
      (List.range n).any (fun m2 => b.srcMask.getLsbD m2 && m2 != q &&
        anyBelow (fun i => runMeets (a.dbase + i * a.dstride + m1 * a.bytes) a.bytes (b.dbase + m2 * b.bytes) b.bytes
          b.dstride lim) lim)))

/-- No two exchanges of an entry overlap. -/
def exchangesApart (n lim : Nat) : List Exchange → Bool
  | [] => true
  | a :: r => r.all (fun b => !exchangesMeet n lim a b) && exchangesApart n lim r

/-- An exchange's ranges (R322). -/
def exchangeOk (p : List Byte) (o : Nat) (x : Exchange) : Bool :=
  x.sbase % 64 == 0 && decide (x.sbase < 2 ^ 48) && x.sstride % 64 == 0 && decide (64 ≤ x.bytes) &&
  decide (x.bytes ≤ 16 * 2 ^ 20) && x.bytes % 64 == 0 && x.dbase % 64 == 0 && decide (x.dbase < 2 ^ 48) &&
  x.dstride % 64 == 0 && allZero ((p.drop (o + 32)).take 8)

/-- The cascade table (R212, R322). -/
def cascadeOk (p : List Byte) (im : Image) : Bool :=
  let o := tableOfs p 7
  o == 0 || (decide (1 ≤ leAt p o 1) && decide (leAt p o 1 ≤ 4) && allZero ((p.drop (o + 1)).take 7) &&
    (parseCascade p (leAt p o 1) (o + 8)).all (fun c =>
      let nm := leAt p (c.1 + 1) 1
      let lim := match im.counters[c.2.counter]? with
        | some x => if x.1 = 0 then 2 ^ 32 else x.1
        | none => 0
      decide (c.2.counter < im.counters.length) && decide (2 ≤ nm) && decide (nm ≤ 16) && decide (leAt p (c.1 + 2) 1 ≤ 8) &&
      leAt p (c.1 + 3) 1 == 0 && c.2.members.all (fun m => decide (m < 4095)) &&
      ((p.drop (c.1 + 4 + 2 * nm)).take (32 - 2 * nm)).all (· == 0xFF) && allZero ((p.drop (c.1 + 36)).take 12) &&
      (c.2.exchanges.zipIdx).all (fun x => exchangeOk p (c.1 + 48 + 40 * x.2) x.1) &&
      exchangesApart nm lim c.2.exchanges))

/-- Everything that R210 refuses with state 4. -/
def imageOk (milac : Nat) (p : List Byte) : Bool :=
  let im := parseImage p
  headerOk milac p && spansOk p && (List.range im.stages.length).all (stageOk p im) &&
  ((parseCounters p (leAt p 4 1) (tableOfs p 1)).zipIdx).all (fun c => counterOk p im.counters.length c.2 c.1) &&
  linksAcyclic im.counters && (im.sections.zipIdx).all (fun x => sectionOk p im x.2 x.1) && sectionsApart im.sections &&
  (im.relocs.zipIdx).all (fun x => relocOk p im x.2 x.1) &&
  (match im.input with
   | some x => inputOk p im x
   | none => true) &&
  slalomOk p im && entriesOk p im && cascadeOk p im && im.windows == im.stages.any (fun g => !g.windows.isEmpty)

/-- A fall-back image serves an image (R211). -/
def fallbackOk (im fb : Image) : Bool :=
  !fb.entries.isEmpty && fb.argBytes == im.argBytes && fb.input.isSome == im.input.isSome &&
  im.slalom.all (fun e => e.entry == 0xFF || decide (e.entry < fb.stages.length))

/-! ## Verification (R210, R233) -/

/-- The Milac major version, bits [15:8] of RDS selector 0x100 (R101, R211). -/
def State.milacMajor (s : State) : Nat := field (s.board.features.getD 0 0) 15 8

/-- The verdict on a model image: the state byte of R239, and the image where it is registered. -/
def State.verifyModel (s : State) (m : Model) : Nat × Option Image :=
  match s.readVa m.ctx m.va.toNat m.length with
  | .error _ => (6, none)
  | .ok bs =>
    if (folfenCause s.lodge.slots s.lodge.rollback .model bs).isSome then (3, none)
    else
      let p := folfenPayload bs
      let im := parseImage p
      if !imageOk s.milacMajor p then (4, none)
      else if im.fallback = 0xFF then (2, some im)
      else match (s.model? m.ctx (Fin.ofNat 16 im.fallback)) with
        | some f => (match f.state, f.image with
          | 2, some fi => if fallbackOk im fi then (2, some im) else (5, none)
          | _, _ => (5, none))
        | none => (5, none)

end Sys2Proof.Machine
end

