-- ==== Sys2Proof/Machine/Fences.lean ====
section
/-! DEFINITION. What the QV8 tells its host: the status block, context status blocks, fences and raises (R229, R234,
R235, R238, R239). -/

namespace Sys2Proof.Machine

/-- Write host memory where the QV8 masters it (R243, R392). -/
def State.hostPost (s : State) (a : Nat) (bs : List Byte) : State := if s.masters then s.hostWr a bs else s

/-- STATE of HIF_HANDSHAKE (R245). -/
def State.hifState (s : State) : Nat := s.fld Reg.hifHandshake 3 0

/-- The ring is enabled. -/
def State.ringOn (s : State) : Bool := s.flag Reg.hifRingCtrl 0

/-- The 64 bytes of the status block with a sequence number (R238). -/
def State.statusBytes (s : State) (seq : W64) : List Byte :=
  leBytes 8 seq.toNat ++ leBytes 2 (s.fld Reg.hifRingHead 15 0) ++ leBytes 1 s.hifState ++
  leBytes 1 (s.fld Reg.hifRingCtrl 1 1) ++ leBytes 4 0 ++ leBytes 8 s.host.heartbeat.toNat ++ leBytes 8 s.gate.toNat ++
  leBytes 8 (s.reg Reg.errWptr).toNat ++ leBytes 16 0 ++ leBytes 8 seq.toNat

/-- Write the status block: SEQ rises by one (R238). -/
def State.writeStatus (s : State) : State :=
  let seq := s.host.statusSeq + 1
  let s1 := { s with host := { s.host with statusSeq := seq } }
  s1.hostPost (s.reg Reg.hifStatusAddr).toNat (s.statusBytes seq)

/-- Since when STATE has been RUNNING (R342). -/
def State.markRunning (s : State) (on : Bool) : State :=
  { s with lodge := { s.lodge with running600 := if on then some (s.lodge.running600.getD s.gate) else none } }

/-- STATE and REASON change; the status block shows it where the QV8 writes host memory (R225, R238). -/
def State.setHif (s : State) (st reason : Nat) : State :=
  let s0 := ((s.setFld Reg.hifHandshake 3 0 st).setFld Reg.hifHandshake 15 8 reason).markRunning (st == 4)
  let s1 := { s0 with board := { s0.board with readySeen := s.board.readySeen || st == 1 } }
  if st = 4 ∨ (st = 3 ∧ s.ringOn) ∨ s.masters = true then s1.writeStatus else s1

/-! ## Context status blocks (R239) -/

/-- The state byte of a model number. -/
def State.modelByte (s : State) (c : CtxId) (m : Nat) : Byte :=
  match s.models.find? (fun x => x.ctx == c && x.number.val == m) with
  | some x => BitVec.ofNat 8 x.state
  | none => 0

/-- Context state: 0 active, 1 parked, 2 destroying. -/
def Context.stateByte (x : Context) : Nat := if x.destroying then 2 else if x.parked then 1 else 0

/-- Bytes [63:32] of a context's status block. -/
def State.ctxBytes (s : State) (x : Context) : List Byte :=
  (List.range 16).map (fun m => s.modelByte x.id m) ++ leBytes 8 x.jobsDone.toNat ++ leBytes 1 x.stateByte ++ leBytes 7 0

/-- Write bytes [63:32] of a context's status block; none is written while the Lodge is in reset (R347). -/
def State.writeCtx (s : State) (c : CtxId) : State :=
  match s.ctx? c with
  | some x => if c = 0 ∨ s.lodge.inReset = true then s else s.hostPost (x.status.toNat + 32) (s.ctxBytes x)
  | none => s

/-! ## Fences (R234, R235) -/

/-- The fence of an index. -/
def State.fence? (s : State) (i : Nat) : Option Fence := s.fences.find? (fun f => f.index == i)

/-- Replace a fence. -/
def State.setFence (s : State) (f : Fence) : State :=
  { s with fences := s.fences.map (fun x => if x.index = f.index then f else x) }

/-- A fence write that cannot be made is counted and reported (R235, R368). -/
def State.dropFence (s : State) (f : Fence) : State :=
  (s.inc Reg.hifFenceDropCount 32 1).report { mkReport s 0x08 1 (unitNo 0x0A 0) 4 with
    detail := BitVec.ofNat 32 f.index
    ctx := match f.owner with
      | some c => c.val
      | none => 0xFFFF }

/-- Write a fence word (R234, R235); a table behind a frozen controller on the way to it holds the write (R305, R376). -/
def State.putFence (s : State) (f : Fence) (v : W64) : State :=
  match f.owner with
  | none => if s.masters then s.hostWr f.addr.toNat (leBytes 8 v.toNat) else s.dropFence f
  | some c =>
    if !s.noneFrozen && s.walkFrozen c f.addr.toNat then
      { s with heldWrites := s.heldWrites ++ [⟨c, f.addr.toNat, leBytes 8 v.toNat, some f.index, none, none⟩] }
    else match s.writeVa c f.addr.toNat (leBytes 8 v.toNat) with
      | .ok s1 => s1
      | .error _ => s.dropFence f

/-- Raise a fence to a value: written only when it exceeds the shadow, which then becomes the value (R234). -/
def State.raise (s : State) (i : Nat) (v : W64) : State :=
  match s.fence? i with
  | none => s
  | some f => if f.shadow.toNat < v.toNat then (s.putFence f v).setFence { f with shadow := v } else s

/-- The ready raises at the front of a fence's raises, in ring order: those left, and the highest value among those taken
(R234). -/
def takeReady (i : Nat) : List Raise → List Raise × Option W64
  | [] => ([], none)
  | r :: rest =>
    if r.fence = i then
      if r.ready then
        let q := takeReady i rest
        (q.1, some (match q.2 with
          | some v => if v.toNat < r.value.toNat then r.value else v
          | none => r.value))
      else (r :: rest, none)
    else let q := takeReady i rest; (r :: q.1, q.2)

/-- Raise what may be raised of one fence. -/
def State.flushFence (s : State) (i : Nat) : State :=
  let q := takeReady i s.raises
  let s1 := { s with raises := q.1 }
  match q.2 with
  | some v => s1.raise i v
  | none => s1

/-- The work of a consumed command is done: it leaves the outstanding work, and its raise, if it carries one, is ready
(R229, R234). -/
def State.workDone (s : State) (id : Nat) : State :=
  let s1 := { s with ringWork := s.ringWork.filter (fun w => w.id != id)
                     raises := s.raises.map (fun r => if r.work = id then { r with ready := true } else r) }
  match s.raises.find? (fun r => r.work == id) with
  | some r => s1.flushFence r.fence
  | none => s1

/-- A binding no longer raises a fence that is freed. -/
def Standing.dropFence (x : Standing) (i : Nat) : Standing := if x.fence = some i then { x with fence := none } else x

/-- A freed fence: its pending raises are discarded, those of standing frames too (R16, R234), and its writes that wait. -/
def State.freeFence (s : State) (i : Nat) : State :=
  { s with
    fences := s.fences.filter (fun f => f.index != i), raises := s.raises.filter (fun r => r.fence != i)
    heldWrites := s.heldWrites.filter (fun h => h.fence != some i)
    standing := s.standing.map (fun b => b.map (fun x => x.dropFence i))
    withdrawn := s.withdrawn.map (fun w => (w.1, w.2.dropFence i)) }

end Sys2Proof.Machine
end

