-- ==== Sys2Proof/Machine/Fp32.lean ====
section
/-! DEFINITION. FP32 arithmetic of the vector engine, the accumulators, the accumulate windows and the post-processor
(R76–R80), and the integer lane operations (R72–R75). -/

namespace Sys2Proof.Machine

/-- The canonical NaN (R76). -/
def nan32 : W32 := 0x7FC00000

/-- The value of FP32 bits. -/
def val32 (b : W32) : XR := decodeFloat (floatFmt 11) b.toNat

/-- An exact value rounded to FP32; overflow gives an infinity (R76). -/
def round32 (x : XR) : W32 :=
  match x with
  | .nan => nan32
  | .inf s => if s then 0xFF800000 else 0x7F800000
  | .fin s n d => BitVec.ofNat 32 ((floatFmt 11).withSign s (min ((floatFmt 11).rne n d) 0x7F800000))

/-- An infinity's bits. -/
def isInf32 (b : W32) : Bool := b.toNat % 2 ^ 31 == 0x7F800000

/-- A result with its flags: FINV for a NaN from operands that are no NaN, FOVF for an infinity from finite operands
(R76). -/
def flagged (args : List XR) (r : XR) : W32 × ArithFlags :=
  let b := round32 r
  (b, { finv := r.isNan && !args.any XR.isNan, fovf := isInf32 b && !args.any (fun a => a.isNan || a.isInf) })

/-- FADD (R76). -/
def fadd (a b : W32) : W32 × ArithFlags := flagged [val32 a, val32 b] ((val32 a).add (val32 b))
/-- FSUB (R76). -/
def fsub (a b : W32) : W32 × ArithFlags := flagged [val32 a, val32 b] ((val32 a).add (val32 b).neg)
/-- FMUL (R76). -/
def fmul (a b : W32) : W32 × ArithFlags := flagged [val32 a, val32 b] ((val32 a).mul (val32 b))
/-- FDIV (R76). -/
def fdiv (a b : W32) : W32 × ArithFlags := flagged [val32 a, val32 b] ((val32 a).div (val32 b))
/-- FMA, one rounding (R76). -/
def ffma (a b c : W32) : W32 × ArithFlags :=
  flagged [val32 a, val32 b, val32 c] (((val32 a).mul (val32 b)).add (val32 c))
/-- FNEG (R76): a NaN operand gives the canonical NaN. -/
def fneg (a : W32) : W32 × ArithFlags := flagged [val32 a] (val32 a).neg
/-- FABS (R76). -/
def fabs (a : W32) : W32 × ArithFlags :=
  flagged [val32 a] (match val32 a with
    | .nan => .nan
    | .inf _ => .inf false
    | .fin _ n d => .fin false n d)

/-- Integer square root by bits from 2^i down: the largest r + … with square at most n. -/
def isqrtGo (n : Nat) : Nat → Nat → Nat
  | 0, r => r
  | i + 1, r => if (r + 2 ^ i) * (r + 2 ^ i) ≤ n then isqrtGo n i (r + 2 ^ i) else isqrtGo n i r

/-- Integer square root. -/
def isqrt (n : Nat) : Nat := isqrtGo n (n.log2 / 2 + 1) 0

/-- The square root of n / d on a grid of 2^−180, which holds every FP32 value and every tie it can meet; when it is not
exact, the middle of the grid step that contains it, which rounds as the root does. -/
def sqrtApprox (n d : Nat) : Nat × Nat :=
  let r := isqrt (n * 4 ^ 180 / d)
  if r * r * d = n * 4 ^ 180 then (r, 2 ^ 180) else (2 * r + 1, 2 ^ 181)

/-- FSQRT (R76): −0 stays −0, a negative number gives NaN. -/
def fsqrt (a : W32) : W32 × ArithFlags :=
  flagged [val32 a] (match val32 a with
    | .nan => .nan
    | .inf s => if s then .nan else .inf false
    | .fin s 0 _ => .fin s 0 1
    | .fin true _ _ => .nan
    | .fin false n d => let r := sqrtApprox n d; .fin false r.1 r.2)

/-- Order of FMIN and FMAX: −0 below +0 (R77). -/
def below (a b : XR) : Bool := XR.lt a b || (a.isZero && b.isZero && a.isNeg && !b.isNeg)

/-- FMIN (R77). -/
def fmin (a b : W32) : W32 := if (val32 a).isNan || (val32 b).isNan then nan32 else if below (val32 b) (val32 a) then b else a
/-- FMAX (R77). -/
def fmax (a b : W32) : W32 := if (val32 a).isNan || (val32 b).isNan then nan32 else if below (val32 a) (val32 b) then b else a

/-- FCMP relations: 0 EQ, 1 NE, 2 LT, 3 LE (R77, R130). -/
def fcmp (rel : Nat) (a b : W32) : Bool :=
  let x := val32 a
  let y := val32 b
  match rel with
  | 0 => x.eqv y
  | 1 => !x.eqv y
  | 2 => XR.lt x y
  | _ => XR.lt x y || x.eqv y

/-- CVTF (R78). -/
def cvtf (a : W32) : W32 := round32 (.ofInt a.toInt)

/-- Clamp to S32. -/
def clampS32 (v : Int) : W32 × Bool :=
  if v < -2147483648 then (0x80000000, true) else if 2147483647 < v then (0x7FFFFFFF, true) else (BitVec.ofInt 32 v, false)

/-- CVTI (R78): the result, whether it clamped (ISAT), whether the source was NaN. -/
def cvti (trunc : Bool) (a : W32) : W32 × Bool × Bool :=
  match val32 a with
  | .nan => (0, false, true)
  | .inf s => (if s then 0x80000000 else 0x7FFFFFFF, true, false)
  | .fin s n d =>
    let r := clampS32 (signed s (if trunc then n / d else rneDiv n d))
    (r.1, r.2, false)

/-! ## Integer lanes (R72–R75) -/

/-- Width, signedness and form of an integer operation (R72). -/
structure IntForm where
  w : Nat
  sgn : Bool
  sat : Bool
deriving DecidableEq, Repr

/-- MIN of R72. -/
def IntForm.lo (f : IntForm) : Int := if f.sgn then -(2 ^ (f.w - 1) : Nat) else 0
/-- MAX of R72. -/
def IntForm.hi (f : IntForm) : Int := if f.sgn then (2 ^ (f.w - 1) : Nat) - 1 else (2 ^ f.w : Nat) - 1

/-- The low W bits of a lane as a number (R72). -/
def IntForm.read (f : IntForm) (x : W32) : Int := if f.sgn then sext f.w x.toNat else (x.toNat % 2 ^ f.w : Nat)

/-- A result in range, extended to 32 bits (R72). -/
def IntForm.write (f : IntForm) (v : Int) : W32 :=
  if f.sgn then BitVec.ofInt 32 (sext f.w (wrapNat f.w v)) else BitVec.ofNat 32 (wrapNat f.w v)

/-- An exact result wrapped or saturated, with its flag (R72). -/
def IntForm.finish (f : IntForm) (v : Int) : W32 × ArithFlags :=
  if f.lo ≤ v ∧ v ≤ f.hi then (f.write v, .none)
  else if f.sat then (f.write (if v < f.lo then f.lo else f.hi), { isat := true })
  else (f.write v, { iwrap := true })

/-- DIV and REM (R73, R75): quotient and remainder with their flags. -/
def IntForm.divRem (f : IntForm) (rem : Bool) (x y : W32) : W32 × ArithFlags :=
  let a := f.read x
  let b := f.read y
  if b = 0 then (f.write (if rem then a else if 0 ≤ a then f.hi else f.lo), { divz := true })
  else
    let q := f.finish (a.tdiv b)
    if rem then (f.write (a.tmod b), q.2) else q

/-- SHL by an unmasked count (R74, R75). The exact product is x × 2^c; beyond W every non-zero x leaves the range. -/
def IntForm.shl (f : IntForm) (x c : W32) : W32 × ArithFlags := f.finish (f.read x * 2 ^ min c.toNat (f.w + 1))

/-- SHR (R74). -/
def IntForm.shr (f : IntForm) (x c : W32) : W32 :=
  f.write ((x.toNat % 2 ^ f.w / 2 ^ min c.toNat (f.w + 1) : Nat) : Int)

/-- SRA (R74): floor of the signed value. -/
def IntForm.sra (f : IntForm) (x c : W32) : W32 :=
  f.write ((sext f.w x.toNat) / ((2 ^ min c.toNat (f.w + 1) : Nat) : Int))

/-- SRAR (R74): x / 2^c rounded to nearest, ties to even. -/
def IntForm.srar (f : IntForm) (x c : W32) : W32 :=
  let v := f.read x
  f.write (signed (decide (v < 0)) (rneDiv v.natAbs (2 ^ min c.toNat (f.w + 1))))

/-- Integer CMP relations: 0 EQ, 1 NE, 2 LT, 3 LE (R130). -/
def IntForm.cmp (f : IntForm) (rel : Nat) (x y : W32) : Bool :=
  match rel with
  | 0 => f.read x == f.read y
  | 1 => f.read x != f.read y
  | 2 => decide (f.read x < f.read y)
  | _ => decide (f.read x ≤ f.read y)

/-- All ones or zero (R71). -/
def maskLane (b : Bool) : W32 := if b then 0xFFFFFFFF else 0

/-! ## Trees (R80) -/

/-- One level of a reduction tree: neighbours combine. -/
def treeLevel {α : Type} (f : α → α → α) : List α → List α
  | a :: b :: r => f a b :: treeLevel f r
  | l => l

/-- n levels. -/
def treeLevels {α : Type} (f : α → α → α) : Nat → List α → List α
  | 0, l => l
  | n + 1, l => treeLevels f n (treeLevel f l)

end Sys2Proof.Machine
end

