-- ==== Sys2Proof/Machine/Stores.lean ====
section
/-! DEFINITION. Performing a row write at its store: the epoch rule, accumulate windows and tile signatures
(R119, R147, R185, R188, R331), and the order of a control core's accesses (R119–R121). -/

namespace Sys2Proof.Machine

/-- One bit of the CRC-64 of R331. -/
def crcBit (c : BitVec 64) : BitVec 64 := if c.msb then (c <<< 1) ^^^ 0x42F0E1EBA9EA3693 else c <<< 1

/-- One byte, not reflected. -/
def crcByte (c : BitVec 64) (b : Byte) : BitVec 64 :=
  let x := c ^^^ (b.zeroExtend 64 <<< 56)
  crcBit (crcBit (crcBit (crcBit (crcBit (crcBit (crcBit (crcBit x)))))))

/-- CRC-64 of bytes (R331). -/
def crc64 (bs : List Byte) : BitVec 64 := (bs.foldl crcByte (BitVec.allOnes 64)) ^^^ BitVec.allOnes 64

/-- The signature word of one write (R331): an 8-byte address, then the bytes. -/
def sigWord (addr : Nat) (bs : List Byte) : W64 := crc64 (leBytes 8 addr ++ bs)

/-! ## Banks (R145) -/

/-- Banks of one half of a store: 16 of a local store, 48 of a cluster store (R145). -/
def halfBanks (st : Nat) : Nat := if st < 8 then 16 else 48

/-- Rows of one half of a store (R145). -/
def halfRows (st : Nat) : Nat := if st < 8 then 16384 else 49152

/-- The bank of a row of a store (R145). -/
def bankOf (st r : Nat) : Nat := halfBanks st * (r / halfRows st) + r % halfBanks st

/-- The row within its bank (R145). -/
def bankRow (st r : Nat) : Nat := r % halfRows st / halfBanks st

/-- The cluster that a store belongs to: a local store with its core (R3). -/
def storeCluster (st : Nat) : Nat := if st < 8 then st / 2 else st - 8

/-- Who reaches a store without the Piste: a core with its engines and its Lift, or a cluster's own Lift or post-processor. -/
inductive StoreUser where
  | core (k : CoreId) | lift (c : ClusterId) | post (c : ClusterId)
deriving DecidableEq, Repr

/-- A bank of a store is near for its user: for a core banks 0–15 of its own local store, and the half of its cluster's store of its
own parity; for a cluster's Lift and post-processor every bank of the cluster store (R145). -/
def nearBank (u : StoreUser) (st b : Nat) : Bool :=
  match u with
  | .core k => if st < 8 then st == k.val && decide (b < 16) else st == 8 + clusterOf k && b / 48 == k.val % 2
  | .lift c => st == 8 + c.val
  | .post c => st == 8 + c.val

/-- Run of a model's reservation that holds a row: 4 × stage + kind of run (0 and 1 local low and high, 2 and 3 cluster
low and high, the codes of R212), and the row's offset within it (log 19). -/
def findRunOf (ps : List Place) (st r : Nat) : Nat → Option (Nat × Nat)
  | stage =>
    match ps with
    | [] => none
    | p :: rest =>
      match p.runs.find? (inRun st r) with
      | some x => some (4 * stage + (if x.1.val < 8 then 0 else 2) + (if x.2.1 then 1 else 0), r - x.2.2.1)
      | none => findRunOf rest st r (stage + 1)

/-- The signature address of a store row (R331). -/
def State.rowSigAddr (s : State) (t : Tag) (st r : Nat) : Nat :=
  let ps := match s.model? t.ctx t.model with
    | some m => m.places
    | none => []
  let x := (findRunOf ps st r 0).getD (0, 0)
  0xFFFF * 2 ^ 48 + t.model.val * 2 ^ 44 + x.1 % 64 * 2 ^ 38 + x.2

/-- A write of a tile outside its core's local store enters the tile's signature (R331). -/
def State.sign (s : State) (k : CoreId) (addr : Nat) (bs : List Byte) : State :=
  let c := s.core k
  s.setCore k { c with tile := c.tile.map (fun t => { t with sig := t.sig ^^^ sigWord addr bs }) }

/-- The stage's place on the device. -/
def State.place? (s : State) (t : Tag) : Option Place :=
  match s.model? t.ctx t.model with
  | some m => m.places[t.stage.val]?
  | none => none

/-- The row lies in an accumulate window of the writing stage (R188). -/
def State.inWindow (s : State) (t : Tag) (st r : Nat) : Bool :=
  match s.model? t.ctx t.model, s.place? t with
  | some m, some p =>
    match m.image with
    | some im =>
      match im.stages[t.stage.val]? with
      | some g => decide (8 ≤ st) && g.windows.any (fun w => match runRow p.runs st w.1 with
          | some first => decide (first ≤ r) && decide (r < first + w.2)
          | none => false)
      | none => false
    | none => false
  | _, _ => false

/-- The floor of a core in a store's epoch table, where the stage has an entry (R185). -/
def State.floor? (s : State) (st : Nat) (t : Tag) : Option W32 :=
  match s.epochTable.toList[st]? with
  | some l => (l.find? (fun e => e.ctx == t.ctx && e.model == t.model && e.stage == t.stage)).map (fun e => e.floors[t.core])
  | none => none

/-- A write carries an epoch below the floor for its core: it is late (R185). -/
def State.late (s : State) (st : Nat) (tag : Option Tag) : Bool :=
  match tag with
  | some t => match s.floor? st t with
    | some f => decide (t.epoch.toNat < f.toNat)
    | none => false
  | none => false

/-- Elementwise FP32 sums of two byte lists (R188). -/
def sumBytes (old new : List Byte) : List Byte :=
  (List.zipWith (fun a b => (fadd (BitVec.ofNat 32 a) (BitVec.ofNat 32 b)).1) (elems32 old) (elems32 new)).flatMap
    (fun w => leBytes 4 w.toNat)

/-- A row write, or a write of 64 bytes of a row, is performed at its store: dropped when late, added when it falls in
an accumulate window of its stage, else written (R147, R185, R188). -/
def State.performWrite (s : State) (w : RowWrite) : State :=
  match storeOf w.row with
  | none => s
  | some (st, r) =>
    if s.late st w.tag then s.bump (Reg.stoEpochDropCount st) 1
    else
      let acc := match w.tag with
        | some t => s.inWindow t st r
        | none => false
      let a := w.row + w.offset
      let bytes := if acc then sumBytes (s.rd a w.data.length) w.data else w.data
      let s1 := (if acc then s.bump (Reg.stoAccumCount st) 1 else s).wr a bytes
      match w.tag with
      | some t => if st = t.core.val || !w.signs then s1
          else s1.sign t.core (s1.rowSigAddr t st r) (if w.part then s1.rd w.row 512 else w.data)
      | none => s1

/-! ## A control core's accesses (R119–R121) -/

/-- An access counts as a row load (atomics too). -/
def AccessKind.isLoad : AccessKind → Bool
  | .load _ | .add _ _ _ | .cas _ _ _ _ => true
  | _ => false

/-- An access counts as a row store (atomics too). -/
def AccessKind.isStore : AccessKind → Bool
  | .store _ | .add _ _ _ | .cas _ _ _ _ => true
  | _ => false

/-- A FENCE with a mask orders an earlier access before a later one (R121). -/
def fenceOrders (m : BitVec 5) (a b : AccessKind) : Bool :=
  (m.getLsbD 0 && a.isLoad && b.isLoad) || (m.getLsbD 1 && a.isLoad && b.isStore) ||
  (m.getLsbD 2 && a.isStore && b.isLoad) || (m.getLsbD 3 && a.isStore && b.isStore)

/-- An access may be performed: no earlier access to its row waits (R119), and no earlier access that a FENCE between
them orders before it (R121). `seen` are the accesses passed, `rest` starts with those not yet looked at. -/
def mayPerform (x : Access) : List Access → Bool
  | [] => true
  | a :: rest =>
    (match a.kind with
     | .fence _ => true
     | _ => !(a.row / 512 == x.row / 512) &&
        !(rest.any (fun f => match f.kind with
          | .fence m => fenceOrders m a.kind x.kind
          | _ => false))) && mayPerform x rest

/-- FENCE marks with nothing before them order nothing any more. -/
def dropFences : List Access → List Access
  | [] => []
  | a :: r => match a.kind with
    | .fence _ => dropFences r
    | _ => a :: r

/-- The n-th access of a core, where it may be performed now. -/
def Core.ready? (c : Core) (n : Nat) : Option Access :=
  match c.accesses[n]? with
  | some x => match x.kind with
    | .fence _ => none
    | _ => if mayPerform x (c.accesses.take n) then some x else none
  | none => none

/-- The core without its n-th access. -/
def Core.done (c : Core) (n : Nat) : Core := { c with accesses := dropFences (removeNth n c.accesses) }

end Sys2Proof.Machine
end

