-- ==== Sys2Proof/Machine/Milac.lean ====
section
/-! DEFINITION. Milac: arithmetic, control, data store, row accesses, queues, tokens and claims (R97–R121, R409). Every
meaning takes the core that issues and the low 56 bits of the instruction word. -/

namespace Sys2Proof.Machine

/-- A next state. -/
def ok (s : State) : Out := .next s

/-! ## Arithmetic (R104, R105) -/

/-- NOP (R104): no effect for one step. -/
def execCcNop (k : CoreId) (w : BitVec 56) (s : State) : Out :=
  ok (issue k w 0 false 1 (fun s _ _ => .next s) s)

/-- ADD (R104). -/
def execCcAdd (k : CoreId) (w : BitVec 56) (s : State) : Out :=
  ok (alu k w 1 (fun a b => a + b) s)

/-- ADDI (R104). -/
def execCcAddi (k : CoreId) (w : BitVec 56) (s : State) : Out :=
  ok (aluImm k w (fun a i => a + i) s)

/-- SUB (R104). -/
def execCcSub (k : CoreId) (w : BitVec 56) (s : State) : Out :=
  ok (alu k w 1 (fun a b => a - b) s)

/-- MUL (R104): the low half of the product. -/
def execCcMul (k : CoreId) (w : BitVec 56) (s : State) : Out :=
  ok (alu k w 3 (fun a b => a * b) s)

/-- MULHS (R104): bits [127:64] of the signed product. -/
def execCcMulhs (k : CoreId) (w : BitVec 56) (s : State) : Out :=
  ok (alu k w 3 (fun a b => BitVec.ofInt 64 (a.toInt * b.toInt / 2 ^ 64)) s)

/-- MULHU (R104): bits [127:64] of the unsigned product. -/
def execCcMulhu (k : CoreId) (w : BitVec 56) (s : State) : Out :=
  ok (alu k w 3 (fun a b => BitVec.ofNat 64 (a.toNat * b.toNat / 2 ^ 64)) s)

/-- DIVS (R105). -/
def execCcDivs (k : CoreId) (w : BitVec 56) (s : State) : Out :=
  ok (divide k w quotS s)

/-- DIVU (R105). -/
def execCcDivu (k : CoreId) (w : BitVec 56) (s : State) : Out :=
  ok (divide k w quotU s)

/-- REMS (R105). -/
def execCcRems (k : CoreId) (w : BitVec 56) (s : State) : Out :=
  ok (divide k w remS s)

/-- REMU (R105). -/
def execCcRemu (k : CoreId) (w : BitVec 56) (s : State) : Out :=
  ok (divide k w remU s)

/-- AND (R104). -/
def execCcAnd (k : CoreId) (w : BitVec 56) (s : State) : Out :=
  ok (alu k w 1 (fun a b => a &&& b) s)

/-- ANDI (R104). -/
def execCcAndi (k : CoreId) (w : BitVec 56) (s : State) : Out :=
  ok (aluImm k w (fun a i => a &&& i) s)

/-- OR (R104). -/
def execCcOr (k : CoreId) (w : BitVec 56) (s : State) : Out :=
  ok (alu k w 1 (fun a b => a ||| b) s)

/-- ORI (R104). -/
def execCcOri (k : CoreId) (w : BitVec 56) (s : State) : Out :=
  ok (aluImm k w (fun a i => a ||| i) s)

/-- XOR (R104). -/
def execCcXor (k : CoreId) (w : BitVec 56) (s : State) : Out :=
  ok (alu k w 1 (fun a b => a ^^^ b) s)

/-- XORI (R104). -/
def execCcXori (k : CoreId) (w : BitVec 56) (s : State) : Out :=
  ok (aluImm k w (fun a i => a ^^^ i) s)

/-- SHL (R105): the count is not masked. -/
def execCcShl (k : CoreId) (w : BitVec 56) (s : State) : Out :=
  ok (alu k w 1 (fun a b => shl64 a b.toNat) s)

/-- SHLI (R105). -/
def execCcShli (k : CoreId) (w : BitVec 56) (s : State) : Out :=
  ok (shiftImm k w shl64 s)

/-- SHR (R105): the count is not masked. -/
def execCcShr (k : CoreId) (w : BitVec 56) (s : State) : Out :=
  ok (alu k w 1 (fun a b => shr64 a b.toNat) s)

/-- SHRI (R105). -/
def execCcShri (k : CoreId) (w : BitVec 56) (s : State) : Out :=
  ok (shiftImm k w shr64 s)

/-- SRA (R105): the count is not masked. -/
def execCcSra (k : CoreId) (w : BitVec 56) (s : State) : Out :=
  ok (alu k w 1 (fun a b => sra64 a b.toNat) s)

/-- SRAI (R105). -/
def execCcSrai (k : CoreId) (w : BitVec 56) (s : State) : Out :=
  ok (shiftImm k w sra64 s)

/-- MIN, signed (R104). -/
def execCcMin (k : CoreId) (w : BitVec 56) (s : State) : Out :=
  ok (alu k w 1 (fun a b => if a.toInt ≤ b.toInt then a else b) s)

/-- MAX, signed (R104). -/
def execCcMax (k : CoreId) (w : BitVec 56) (s : State) : Out :=
  ok (alu k w 1 (fun a b => if a.toInt ≤ b.toInt then b else a) s)

/-- MINU (R104). -/
def execCcMinu (k : CoreId) (w : BitVec 56) (s : State) : Out :=
  ok (alu k w 1 (fun a b => if a.toNat ≤ b.toNat then a else b) s)

/-- MAXU (R104). -/
def execCcMaxu (k : CoreId) (w : BitVec 56) (s : State) : Out :=
  ok (alu k w 1 (fun a b => if a.toNat ≤ b.toNat then b else a) s)

/-- MOVI (R104). -/
def execCcMovi (k : CoreId) (w : BitVec 56) (s : State) : Out :=
  ok (writesG k w (mD + mImm) 1 (fun _ _ => immS w) s)

/-- MOVH (R104): the upper half is IMM, the lower half stays; A must be g0. -/
def execCcMovh (k : CoreId) (w : BitVec 56) (s : State) : Out :=
  ok (writesG k w (mD + mImm) 1 (fun c _ => (fImm w) ++ (c.gr (fD w)).extractLsb' 0 32) s)

/-- MADD (R104). -/
def execCcMadd (k : CoreId) (w : BitVec 56) (s : State) : Out :=
  ok (writesG k w (mD + mA + mB + mC) 3 (fun c _ => c.gr (fA w) * c.gr (fB w) + c.gr (fC w)) s)

/-- SEL (R104): C[2:0] names the predicate. -/
def execCcSel (k : CoreId) (w : BitVec 56) (s : State) : Out :=
  ok (writesG k w (mD + mA + mB + bits 34 32) 1 (fun c _ => if c.pr (field w 34 32) then c.gr (fA w) else c.gr (fB w)) s)

/-- An instruction whose only effect is a new predicate. -/
def writesP (k : CoreId) (w : BitVec 56) (used : Nat) (badCode : Bool) (f : Core → Bool) (s : State) : State :=
  issue k w used badCode 1 (fun s c _ => .next (s.setCore k (c.setP (field w 49 47) (f c)))) s

/-- CMP (R104): codes 6–31 are reserved. -/
def execCcCmp (k : CoreId) (w : BitVec 56) (s : State) : Out :=
  ok (writesP k w (bits 49 47 + mA + mB + mC) (decide (6 ≤ (fC w).toNat))
    (fun c => relation (fC w).toNat (c.gr (fA w)) (c.gr (fB w))) s)

/-- CMPI (R104). -/
def execCcCmpi (k : CoreId) (w : BitVec 56) (s : State) : Out :=
  ok (writesP k w (bits 49 47 + mA + mB + mImm) (decide (6 ≤ (fB w).toNat))
    (fun c => relation (fB w).toNat (c.gr (fA w)) (immS w)) s)

/-- PLOG (R104): a truth table of two predicates. -/
def execCcPlog (k : CoreId) (w : BitVec 56) (s : State) : Out :=
  ok (writesP k w (bits 49 47 + bits 44 42 + bits 39 37 + bits 35 32) false
    (fun c => bit (fC w) (2 * (c.pr (field w 44 42)).toNat + (c.pr (field w 39 37)).toNat)) s)

/-! ## Tile state and loops (R101, R106, R107) -/

/-- The value of an RDS selector below 0x200; unlisted selectors read 0 (R101). -/
def State.rdsValue (s : State) (k : CoreId) (c : Core) (t : Tile) (sel : Nat) : W64 :=
  match sel with
  | 0x000 => BitVec.ofNat 64 c.pc.toNat
  | 0x001 => t.index
  | 0x002 => t.epoch.zeroExtend 64
  | 0x003 => BitVec.ofNat 64 t.ctx.val
  | 0x004 => BitVec.ofNat 64 k.val
  | 0x005 => BitVec.ofNat 64 (clusterOf k)
  | 0x006 => BitVec.ofNat 64 t.strict.toNat
  | 0x108 => BitVec.ofNat 64 (t.ipart * 2 ^ 16 + t.dpart)
  | _ => if 0x100 ≤ sel ∧ sel < 0x108 then s.board.features.getD (sel - 0x100) 0 else 0

/-- RDS (R101): a selector above 0x1FF halts with 0x02. -/
def execCcRds (k : CoreId) (w : BitVec 56) (s : State) : Out :=
  ok (issue k w (mD + mImm) false 1 (fun s c t =>
    let sel := (fImm w).toNat
    if 0x1FF < sel then .halt 0x02 0 0
    else .next (s.setCore k (c.setG (fD w) (s.rdsValue k c t sel)))) s)

/-- LIDX (R104, R107): the index of an active loop level, 0 innermost. -/
def execCcLidx (k : CoreId) (w : BitVec 56) (s : State) : Out :=
  ok (issue k w (mD + bits 1 0) false 1 (fun s c _ =>
    match c.loops[field w 1 0]? with
    | some l => .next (s.setCore k (c.setG (fD w) (l.i.zeroExtend 64)))
    | none => .halt 0x0F 0 0) s)

/-- PC + 8 × IMM, as a 64-bit address. -/
def branchTarget (c : Core) (w : BitVec 56) : Nat := (c.pc.zeroExtend 64 + 8 * immS w).toNat

/-- BR (R104, R106). -/
def execCcBr (k : CoreId) (w : BitVec 56) (s : State) : Out :=
  ok (issue k w mImm false 1 (fun s c _ => .jump s (branchTarget c w) true) s)

/-- JR (R104, R106). -/
def execCcJr (k : CoreId) (w : BitVec 56) (s : State) : Out :=
  ok (issue k w mA false 1 (fun s c _ => .jump s (c.gr (fA w)).toNat true) s)

/-- CALL (R104, R106): saves the return address in g31; exempt from the loop check. -/
def execCcCall (k : CoreId) (w : BitVec 56) (s : State) : Out :=
  ok (issue k w mImm false 1 (fun s c _ =>
    .jump (s.setCore k (c.setG 31 (BitVec.ofNat 64 (c.pc.toNat + 8)))) (branchTarget c w) false) s)

/-- RET (R104, R106). -/
def execCcRet (k : CoreId) (w : BitVec 56) (s : State) : Out :=
  ok (issue k w 0 false 1 (fun s c _ => .jump s (c.gr 31).toNat true) s)

/-- LOOP (R107): LEN and the last address are checked before the guard and the count; a count of 0 or a false guard
skips the body. -/
def execCcLoop (k : CoreId) (w : BitVec 56) (s : State) : Out :=
  ok (issueWith true k w (mA + bits 31 0) false 1 (fun s c t =>
    let len := field w 15 0
    let n : W32 := if fA w = 0 then BitVec.ofNat 32 (field w 31 16) else (c.gr (fA w)).extractLsb' 0 32
    let last := c.pc.toNat + 8 * len
    if len = 0 then .halt 0x02 0 0
    else if !inPartition t last then .halt 0x0C 0 last
    else if n = 0 || !guardTrue c w then .jump s (last + 8) false
    else if 4 ≤ c.loops.length then .halt 0x0E 0 0
    else .jump (s.setCore k { c with loops := ⟨BitVec.ofNat 18 (c.pc.toNat + 8), BitVec.ofNat 18 last, n, 0⟩ :: c.loops })
      (c.pc.toNat + 8) false) s)

/-- BREAK (R107). -/
def execCcBreak (k : CoreId) (w : BitVec 56) (s : State) : Out :=
  ok (issue k w 0 false 1 (fun s c _ =>
    match c.loops with
    | [] => .halt 0x0F 0 0
    | l :: r => .jump (s.setCore k { c with loops := r }) (l.last.toNat + 8) false) s)

/-- END (R108): the core waits for its commands, writes and tokens; an LADDR still pending halts with 0x0B (R160). -/
def execCcEnd (k : CoreId) (w : BitVec 56) (s : State) : Out :=
  ok (issue k w (bits 0 0) false 1 (fun s c _ =>
    match c.lastAppended[(2 : Fin 4)] with
    | some d => if Desc.cmd d = 4 then .halt 0x0B 0 0 else .stop (s.setCore k { c with phase := .ending (bit w 0) })
    | none => .stop (s.setCore k { c with phase := .ending (bit w 0) })) s)

/-- HALT (R104, R115): reason 0x10, detail IMM[7:0]. -/
def execCcHalt (k : CoreId) (w : BitVec 56) (s : State) : Out :=
  ok (issue k w (bits 7 0) false 0 (fun _ _ _ => .halt 0x10 (field w 7 0) 0) s)

/-- TRACE (R108, R351, R364): with tracing enabled for the context, a trace point enters the event queue of the cluster;
where the queue is full it is dropped and counted. -/
def execCcTrace (k : CoreId) (w : BitVec 56) (s : State) : Out :=
  ok (issue k w (bits 15 0) false 1 (fun s c t =>
    if s.flag Reg.ldgTraceCtrl 0 && s.fld Reg.ldgTraceCtrl 10 1 == t.ctx.val then
      let r := s.notify (clusterFin k) .trace
      if r.2 then .next { r.1 with lodge := { r.1.lodge with
        traces := r.1.lodge.traces ++ [⟨s.gate, k, t.index, c.pc, BitVec.ofNat 16 (field w 15 0), t.ctx⟩] } }
      else .next (r.1.inc Reg.ldgTraceDropCount 32 1)
    else .next s) s)

/-! ## Data store and rows (R109–R111, R121) -/

/-- LD (R109). -/
def execCcLd (k : CoreId) (w : BitVec 56) (s : State) : Out := ok (dataLoad k w 8 (fun v => BitVec.ofNat 64 v) s)

/-- LW (R109): sign-extended. -/
def execCcLw (k : CoreId) (w : BitVec 56) (s : State) : Out :=
  ok (dataLoad k w 4 (fun v => (BitVec.ofNat 32 v).signExtend 64) s)

/-- LWU (R109): zero-extended. -/
def execCcLwu (k : CoreId) (w : BitVec 56) (s : State) : Out := ok (dataLoad k w 4 (fun v => BitVec.ofNat 64 v) s)

/-- ST (R109). -/
def execCcSt (k : CoreId) (w : BitVec 56) (s : State) : Out := ok (dataStore k w 8 s)

/-- SW (R109). -/
def execCcSw (k : CoreId) (w : BitVec 56) (s : State) : Out := ok (dataStore k w 4 s)

/-- Issue an access. -/
def Core.issueAccess (c : Core) (row : Nat) (kind : AccessKind) (tag : Tag) : Core :=
  { c with accesses := c.accesses ++ [⟨row, kind, tag⟩] }

/-- RLD (R110): the row read is issued; later uses of the slot stall until it returns. -/
def execCcRld (k : CoreId) (w : BitVec 56) (s : State) : Out :=
  ok (issue k w (mD + mA) false 2 (fun s c t =>
    let d := (c.gr (fD w)).toNat
    let a := (c.gr (fA w)).toNat
    if !dataOk t d 512 512 then .halt 0x0D 0 d
    else match rowOf s t a 512 false with
    | .error r => .rowFault r a
    | .ok x => if slotPending c d 512 then .retry
        else .next (s.setCore k (c.issueAccess x.1 (.load d) (t.tag k)))) s)

/-- RST (R110): the slot's contents are captured at issue. -/
def execCcRst (k : CoreId) (w : BitVec 56) (s : State) : Out :=
  ok (issue k w (mD + mA) false 1 (fun s c t =>
    let d := (c.gr (fD w)).toNat
    let a := (c.gr (fA w)).toNat
    if !dataOk t d 512 512 then .halt 0x0D 0 d
    else match rowOf s t a 512 true with
    | .error r => .rowFault r a
    | .ok x => if slotPending c d 512 then .retry
        else .next (s.setCore k (c.issueAccess x.1 (.store (readData c t d 512)) (t.tag k)))) s)

/-- An atomic is issued and the core stalls until it returns (R100, R111). -/
def atomic (k : CoreId) (w : BitVec 56) (used : Nat) (kind : Core → Nat → AccessKind) (s : State) : State :=
  issue k w used false 2 (fun s c t =>
    let a := (c.gr (fA w)).toNat
    match rowOf s t a 8 true with
    | .error r => .rowFault r a
    | .ok x => .wait (s.setCore k { c.issueAccess x.1 (kind c x.2) (t.tag k) with phase := .waitAtomic })) s

/-- AADD (R111). -/
def execCcAadd (k : CoreId) (w : BitVec 56) (s : State) : Out :=
  ok (atomic k w (mD + mA + mB) (fun c off => .add off (fD w) (c.gr (fB w))) s)

/-- ACAS (R111). -/
def execCcAcas (k : CoreId) (w : BitVec 56) (s : State) : Out :=
  ok (atomic k w (mD + mA + mB + mC) (fun c off => .cas off (fD w) (c.gr (fB w)) (c.gr (fC w))) s)

/-- FENCE (R121): a mark among the core's accesses; a mask of 0, or no access to order, makes it a NOP. -/
def execCcFence (k : CoreId) (w : BitVec 56) (s : State) : Out :=
  ok (issue k w (bits 4 0) false 1 (fun s c t =>
    if field w 4 0 = 0 ∨ c.accesses = [] then .next s
    else .next (s.setCore k (c.issueAccess 0 (.fence (BitVec.ofNat 5 (field w 4 0))) (t.tag k)))) s)

/-! ## Queues (R112) -/

/-- The engine a queue number needs is absent, or there is no such queue (R101, R112). -/
def queueAbsent (s : State) (n : Nat) : Bool :=
  decide (4 ≤ n) || !bit (s.board.features.getD 1 0) (if n = 2 then 3 else if n = 3 then 4 else n)

/-- Append, stall, or halt (R100, R112). -/
def pushEffect (s : State) (k : CoreId) (t : Tile) (w : BitVec 56) (batch : Bool) (ds : List Desc) : Effect :=
  match appendBatch s k t (Fin.ofNat 4 (fD w).toNat) ds with
  | .ok s1 => .next s1
  | .noRoom => .stall (s.setCore k { s.core k with phase := .waitRoom batch w })
  | .halt .monitor _ _ _ => .overrun
  | .halt _ reason detail addr => .halt reason detail addr

/-- The descriptors of a PUSHD: consecutive in the data store (R112). -/
def batchDescs (c : Core) (t : Tile) (a n : Nat) : List Desc :=
  (List.range n).map (fun i => BitVec.ofNat 128 (ofLe (readData c t (a + 16 * i) 16)))

/-- The descriptor of a PUSH: {b, a}. -/
def pushDesc (c : Core) (w : BitVec 56) : Desc := c.gr (fB w) ++ c.gr (fA w)

/-- Address of a PUSHD batch. -/
def batchAddr (c : Core) (w : BitVec 56) : Nat := (c.gr (fA w) + BitVec.ofNat 64 (field w 15 0)).toNat

/-- PUSH (R112). -/
def execCcPush (k : CoreId) (w : BitVec 56) (s : State) : Out :=
  ok (issue k w (mD + mA + mB) false 1 (fun s c t =>
    if queueAbsent s (fD w).toNat then .halt 0x03 0 0
    else pushEffect s k t w false [pushDesc c w]) s)

/-- PUSHD (R112): the checks of R409 in their order, then the batch. -/
def execCcPushd (k : CoreId) (w : BitVec 56) (s : State) : Out :=
  let n := field w 30 24 + 1
  ok (issue k w (mD + mA + bits 30 24 + bits 15 0) false n (fun s c t =>
    let a := batchAddr c w
    if queueAbsent s (fD w).toNat then .halt 0x03 0 0
    else if !dataOk t a 16 (16 * n) then .halt 0x0D 0 a
    else if queueDepth (Fin.ofNat 4 (fD w).toNat) < n then .halt 0x0A 0 0
    else if slotPending c a (16 * n) then .retry
    else pushEffect s k t w true (batchDescs c t a n)) s)

/-- Descriptors of a PUSH, or of a PUSHD. -/
def pushSize (batch : Bool) (w : BitVec 56) : Nat := if batch then field w 30 24 + 1 else 1

/-- QUEUE_ROOM_FREED (R112, R140, R409): the stalled PUSH or PUSHD tries again; with room it appends, is charged and the core
goes on, or it halts as it would have at once. -/
def execQueueRoomFreed (k : CoreId) (s : State) : Out :=
  let c := s.core k
  match c.phase, c.tile with
  | .waitRoom batch w, some t =>
    let ds := if batch then batchDescs c t (batchAddr c w) (pushSize batch w) else [pushDesc c w]
    let s1 := s.setCore k { c with phase := .running }
    match pushEffect s1 k t w batch ds with
    | .stall _ => ok s
    | e => ok (conclude s1 k t (pushSize batch w) e)
  | _, _ => ok s

/-! ## Tokens (R113) -/

/-- Counter IMM[20:16]. -/
def tokenOf (w : BitVec 56) : Fin 32 := Fin.ofNat 32 (field w 20 16)

/-- TWAIT (R113): takes n tokens when there are enough once the engines' waits have been tested (R136), else stalls. -/
def execCcTwait (k : CoreId) (w : BitVec 56) (s : State) : Out :=
  ok (issue k w (bits 20 0) false 1 (fun s c _ =>
    let t := tokenOf w
    let n := field w 15 0
    if n ≤ c.tokensFor 4 t then .next (s.setCore k (c.setToken t (c.token t - BitVec.ofNat 16 n)))
    else .wait (s.setCore k { c with phase := .waitToken t n })) s)

/-- TSIG (R113). -/
def execCcTsig (k : CoreId) (w : BitVec 56) (s : State) : Out :=
  ok (issue k w (bits 20 0) false 1 (fun s c _ =>
    let t := tokenOf w
    let v := (c.token t).toNat + field w 15 0
    if 65535 < v then .halt 0x05 0 0 else .next (s.setCore k (c.setToken t (BitVec.ofNat 16 v)))) s)

/-- TDEC (R113). -/
def execCcTdec (k : CoreId) (w : BitVec 56) (s : State) : Out :=
  ok (issue k w (bits 20 0) false 1 (fun s c _ =>
    let t := tokenOf w
    let n := field w 15 0
    if (c.token t).toNat < n then .halt 0x04 0 0
    else .next (s.setCore k (c.setToken t (c.token t - BitVec.ofNat 16 n)))) s)

/-- TOKEN_WAIT_SATISFIED (R113, R136): the stalled TWAIT finds enough tokens, takes them and completes. -/
def execTokenWaitSatisfied (k : CoreId) (s : State) : Out :=
  let c := s.core k
  match c.phase with
  | .waitToken t n =>
    if n ≤ c.tokensFor 4 t then
      ok ((s.setCore k (c.setToken t (c.token t - BitVec.ofNat 16 n))).resume k)
    else ok s
  | _ => ok s

/-! ## Claims by the control core (R114, R179) -/

/-- The job of a number in a context that is not over. -/
def State.job? (s : State) (uid : W32) : Option Job := s.jobs.find? (fun j => j.uid == uid)

/-- The physical counter a job has bound under a number (R177). -/
def Job.bound? (j : Job) (n : Nat) : Option CounterId :=
  (j.bindings.find? (fun b => b.1 == n)).map (fun b => Fin.ofNat 64 b.2)

/-- A claim reaches a counter and waits its turn (R179). -/
def State.addClaim (s : State) (c : CounterId) (who : Claimer) : State :=
  { s with counters := s.counters.set c ((s.counters[c]).map (fun x => { x with waiting := x.waiting ++ [who] })) }

/-- CLAIM (R114): the claim goes to the counter and the core stalls until it is served. -/
def execCcClaim (k : CoreId) (w : BitVec 56) (s : State) : Out :=
  ok (issue k w (mD + bits 11 8 + bits 2 0) false 1 (fun s c t =>
    match (s.job? t.job).bind (fun j => j.bound? (field w 11 8)) with
    | none => .halt 0x13 0 0
    | some p => .wait ((s.setCore k { c with phase := .waitClaim p (fD w) (BitVec.ofNat 3 (field w 2 0)) }).addClaim p
        (.control k))) s)

/-! ## Returns and illegal opcodes -/

/-- An atomic's word before, and the row after it (R111). -/
def atomicResult (kind : AccessKind) (row : List Byte) : Option (BitVec 5 × W64 × List Byte) :=
  match kind with
  | .add off d b =>
    let v := BitVec.ofNat 64 (leAt row off 8)
    some (d, v, row.take off ++ leBytes 8 (v + b).toNat ++ row.drop (off + 8))
  | .cas off d b c =>
    let v := BitVec.ofNat 64 (leAt row off 8)
    some (d, v, if v = c then row.take off ++ leBytes 8 b.toNat ++ row.drop (off + 8) else row)
  | _ => none

/-- The read-modify-write of an atomic: a late one changes nothing (R111, R185). -/
def State.performAtomic (s : State) (x : Access) (row : List Byte) : State :=
  match storeOf x.row with
  | some (st, _) => if s.late st (some x.tag) then s.bump (Reg.stoEpochDropCount st) 1 else s.wr x.row row
  | none => s

/-- ROW_READ_RETURN (R110, R111, R119): the n-th access is performed at its bank and its data returns: a load fills its
slot, where its tile has not been stopped; an atomic writes its register, changes its word unless it is late, and the core goes on. -/
def execRowReadReturn (k : CoreId) (n : Nat) (s : State) : Out :=
  let c := s.core k
  match c.ready? n with
  | some x =>
    match x.kind with
    | .load slot => ok (s.setCore k (match c.tile with
        | some t => writeData (c.done n) t slot (s.rd x.row 512)
        | none => c.done n))
    | kind =>
      match atomicResult kind (s.rd x.row 512) with
      | some (d, v, row) =>
        let s1 := s.setCore k ((c.done n).setG d v)
        let s2 := s1.performAtomic x row
        match c.phase with
        | .waitAtomic => ok (s2.resume k)
        | _ => ok s2
      | none => ok s
  | none => ok s

/-- The opcodes of the map (R104). -/
def opcodeKnown (op : Nat) : Bool := (milacInstr 0 0 op).isSome

/-- ILLEGAL_OPCODE (R103, R104): a running core meets a word whose opcode is not in the map and halts with 0x01,
whatever its guard. A word whose opcode is in the map is no such event. -/
def execIllegalOpcode (k : CoreId) (word : BitVec 64) (s : State) : Out :=
  let c := s.core k
  match c.phase with
  | .running => if opcodeKnown (field word 63 56) then ok s else ok (s.halt k .control 0x01 0 c.pc.toNat 0)
  | _ => ok s

end Sys2Proof.Machine
end

