-- ==== Sys2Proof/Machine/Queues.lean ====
section
/-! DEFINITION. Commands in the engine queues: which one an event acts on, its phases, the writes it makes, and the
tokens it waits for and posts (R124, R125, R135, R136). -/

namespace Sys2Proof.Machine

/-- Position of the first command of a list that a test accepts. -/
def firstIdx (p : Cmd → Bool) : List Cmd → Option Nat
  | [] => none
  | c :: r => if p c then some 0 else (firstIdx p r).map (· + 1)

/-- A command whose effect has not happened. -/
def Cmd.open (c : Cmd) : Bool := c.phase == .waiting || c.phase == .begun

/-- Change the n-th command of a queue. -/
def State.setCmd (s : State) (k : CoreId) (q : QueueId) (n : Nat) (f : Cmd → Cmd) : State :=
  let c := s.core k
  s.setCore k (c.setQueue q (modifyNth f n (c.queue q)))

/-- The n-th command of a queue has had its effect. -/
def State.markExecuted (s : State) (k : CoreId) (q : QueueId) (n : Nat) : State :=
  s.setCmd k q n (fun c => { c with phase := .executed })

/-- Row writes of a command go on their way to rows from r of a store (R119, R184). -/
def State.sendRows (s : State) (k : CoreId) (q : QueueId) (cmd : Cmd) (t : Tile) (st r : Nat) (rows : List (List Byte)) :
    State :=
  { s with writes := s.writes ++ (rows.zipIdx).map (fun p =>
      ⟨rowAddr st (r + p.2), false, 0, p.1, some (t.tag k), some (k, q, cmd.seq), true⟩) }

/-- Bytes as rows. The unused end of the last row holds free bytes, since the specification states no contents for it
(log 20), but for bytes 480–511 of a row of 6-bit elements, which the engine writes as 0 (R20). -/
def State.rowsOpenEnd (s : State) (b : Nat) (bs : List Byte) : List (List Byte) × State :=
  let n := (if b = 6 then 480 else 512) * cdiv bs.length 512 - bs.length
  (rowsOf (bs ++ (List.range n).map (fun i => Config.freeByte (s.draws + i))), { s with draws := s.draws + n })

/-- A command has a write on its way. -/
def State.writesPending (s : State) (k : CoreId) (q : QueueId) (seq : Nat) : Bool :=
  s.writes.any (fun w => w.owner == some (k, q, seq))

/-- Ranges (first, count) of two lists meet. -/
def rangesMeet (xs ys : List (Nat × Nat)) : Bool := xs.any (fun x => ys.any (fun y => overlaps x.1 x.2 y.1 y.2))

/-- An earlier command of the queue has a write on its way to one of the local-store rows of core k: order in one queue holds a
later command back until it is performed (R53, R68, R138). -/
def State.rowsOwed (s : State) (k : CoreId) (q : QueueId) (seq : Nat) (ranges : List (Nat × Nat)) : Bool :=
  s.writes.any (fun w => match w.owner with
    | some o => o.1 == k && o.2.1 == q && decide (o.2.2 < seq) &&
        ranges.any (fun r => overlaps (rowAddr k.val r.1) (512 * r.2) w.row 512)
    | none => false)

/-- A post after completion: add or subtract, or the reason of the halt (R135). -/
def postTokens (c : Core) (d : Desc) : Except Nat Core :=
  let v := (c.token d.pctr).toNat
  if d.pkind = 0 then
    (if 65535 < v + d.pcnt then .error 0x05 else .ok (c.setToken d.pctr (BitVec.ofNat 16 (v + d.pcnt))))
  else (if v < d.pcnt then .error 0x04 else .ok (c.setToken d.pctr (BitVec.ofNat 16 (v - d.pcnt))))

/-- The command's tokens, if it waits for any, are there when its turn comes; they are consumed (R135, R136). -/
def takeTokens (c : Core) (q : QueueId) (d : Desc) : Option Core :=
  if d.wcnt = 0 then some c
  else if d.wcnt ≤ c.tokensFor q.val d.wctr then
    some (c.setToken d.wctr (BitVec.ofNat 16 ((c.token d.wctr).toNat - d.wcnt)))
  else none

end Sys2Proof.Machine
end

