-- ==== Sys2Proof/Machine/Special.lean ====
section
/-! DEFINITION. The special functions of R81: the exact mathematical value, computed in fixed point with hundreds of
bits beyond FP32, rounded once. Results that are exact are produced exactly; at every other argument the value is
irrational, so no tie occurs (log 11). -/

namespace Sys2Proof.Machine

/-- Fraction bits of the fixed point. -/
def fxP : Nat := 400

/-- Σ term·xⁿ/n! from a running term, in fixed point of p bits. -/
def expSeries (p x : Nat) : Nat → Nat → Nat → Nat → Nat
  | 0, _, _, acc => acc
  | fuel + 1, n, term, acc => expSeries p x fuel (n + 1) (term * x / ((n + 1) * 2 ^ p)) (acc + term)

/-- Σ z^(2n+1)/(2n+1): the inverse hyperbolic tangent of z < 1, in fixed point of p bits; z2 is z². -/
def atanhSeries (p z2 : Nat) : Nat → Nat → Nat → Nat → Nat
  | 0, _, _, acc => acc
  | fuel + 1, n, pw, acc => atanhSeries p z2 fuel (n + 2) (pw * z2 / 2 ^ p) (acc + pw / n)

/-- ln 2 = 2 atanh(1/3). -/
def ln2Fx : Nat := 2 * atanhSeries fxP (2 ^ fxP / 9) 140 1 (2 ^ fxP / 3) 0

/-- arctan(1/k) in fixed point of p bits, as an alternating series. -/
def atanInv (p k : Nat) : Nat → Nat → Nat → Int → Int → Int
  | 0, _, _, _, acc => acc
  | fuel + 1, n, pw, sg, acc => atanInv p k fuel (n + 2) (pw / (k * k)) (-sg) (acc + sg * (pw / n : Nat))

/-- Fraction bits of the trigonometric fixed point: an FP32 argument reaches 2^128. -/
def trP : Nat := 600

/-- π / 2 in that fixed point, by Machin's formula. -/
def halfPi : Nat :=
  ((4 * atanInv (trP + 40) 5 170 1 (2 ^ (trP + 40) / 5) 1 0 - atanInv (trP + 40) 239 60 1 (2 ^ (trP + 40) / 239) 1 0)
    * 2).toNat / 2 ^ 40

/-- e^x for x = n / d with a sign, |x| at most 128: mantissa in fixed point and exponent of 2. -/
def expFx (neg : Bool) (n d : Nat) : Nat × Int :=
  let x : Int := if neg then -((n * 2 ^ fxP / d : Nat) : Int) else (n * 2 ^ fxP / d : Nat)
  let k := x / (ln2Fx : Int)
  let r := (x - k * ln2Fx).toNat
  (expSeries fxP r 110 0 (2 ^ fxP) 0, k)

/-- e^x as a value; beyond ±128 a value that overflows or underflows FP32. -/
def expX (neg : Bool) (n d : Nat) : XR :=
  if 128 * d < n then (if neg then .dyadic false 1 (-180) else .dyadic false 1 180)
  else let r := expFx neg n d; .dyadic false r.1 (r.2 - fxP)

/-- EXP (R81). -/
def xExp : XR → XR
  | .nan => .nan
  | .inf s => if s then .zero else .inf false
  | .fin _ 0 _ => .ofInt 1
  | .fin s n d => expX s n d

/-- EXP2 (R81): exact at integers. -/
def xExp2 : XR → XR
  | .nan => .nan
  | .inf s => if s then .zero else .inf false
  | .fin s n d =>
    if 200 * d < n then (if s then .dyadic false 1 (-180) else .dyadic false 1 180)
    else
      let v := signed s n
      let k := v / (d : Int)
      let f := (v - k * d).toNat
      .dyadic false (expSeries fxP (f * ln2Fx / d) 110 0 (2 ^ fxP) 0) (k - fxP)

/-- ln(n / d) in fixed point, for positive n and d. -/
def lnFx (n d : Nat) : Int :=
  let e := log2Floor n d
  let m := inUnits n d e
  let z := (m.1 - m.2) * 2 ^ fxP / (m.1 + m.2)
  e * ln2Fx + 2 * (atanhSeries fxP (z * z / 2 ^ fxP) 140 1 z 0 : Nat)

/-- A fixed-point integer as a value. -/
def ofFx (v : Int) : XR := .dyadic (decide (v < 0)) v.natAbs (-(fxP : Int))

/-- LOG (R81). -/
def xLog : XR → XR
  | .nan => .nan
  | .inf s => if s then .nan else .inf false
  | .fin _ 0 _ => .inf true
  | .fin true _ _ => .nan
  | .fin false n d => if n = d then .zero else ofFx (lnFx n d)

/-- LOG2 (R81): exact at powers of two. -/
def xLog2 : XR → XR
  | .nan => .nan
  | .inf s => if s then .nan else .inf false
  | .fin _ 0 _ => .inf true
  | .fin true _ _ => .nan
  | .fin false n d =>
    let e := log2Floor n d
    let m := inUnits n d e
    if m.1 = m.2 then .ofInt e else ofFx (lnFx n d * 2 ^ fxP / ln2Fx)

/-- Alternating series of sine (from n = 1) or cosine (from n = 0): term, then term·x²/((n+1)(n+2)). -/
def trigSeries (x2 : Nat) : Nat → Nat → Nat → Int → Int → Int
  | 0, _, _, _, acc => acc
  | fuel + 1, n, term, sg, acc =>
    trigSeries x2 fuel (n + 2) (term * x2 / ((n + 1) * (n + 2) * 2 ^ trP)) (-sg) (acc + sg * term)

/-- Sine of a reduced argument 0 ≤ r < π/2. -/
def sinFx (r : Nat) : Int := trigSeries (r * r / 2 ^ trP) 90 1 r 1 0

/-- Cosine of a reduced argument. -/
def cosFx (r : Nat) : Int := trigSeries (r * r / 2 ^ trP) 90 0 (2 ^ trP) 1 0

/-- Sine of n / d moved on by `turn` quarter turns. -/
def sinTurn (turn n d : Nat) : Int :=
  let x := n * 2 ^ trP / d
  let r := x % halfPi
  match (x / halfPi + turn) % 4 with
  | 0 => sinFx r
  | 1 => cosFx r
  | 2 => -sinFx r
  | _ => -cosFx r

/-- SIN (R81). -/
def xSin : XR → XR
  | .nan => .nan
  | .inf _ => .nan
  | .fin s 0 d => .fin s 0 d
  | .fin s n d => let v := sinTurn 0 n d; .dyadic (s != decide (v < 0)) v.natAbs (-(trP : Int))

/-- COS (R81). -/
def xCos : XR → XR
  | .nan => .nan
  | .inf _ => .nan
  | .fin _ 0 _ => .ofInt 1
  | .fin _ n d => let v := sinTurn 1 n d; .dyadic (decide (v < 0)) v.natAbs (-(trP : Int))

/-- TANH (R81): (e^2x − 1) / (e^2x + 1) of the magnitude. -/
def xTanh : XR → XR
  | .nan => .nan
  | .inf s => .fin s 1 1
  | .fin s 0 d => .fin s 0 d
  | .fin s n d =>
    if 50 * d < n then .fin s (2 ^ 100 - 1) (2 ^ 100)
    else
      let r := expFx false (2 * n) d
      let e := r.1 * 2 ^ r.2.toNat
      .fin s (e - 2 ^ fxP) (e + 2 ^ fxP)

/-- SIGM (R81): 1 / (1 + e^−x). -/
def xSigm : XR → XR
  | .nan => .nan
  | .inf s => if s then .zero else .ofInt 1
  | .fin _ 0 _ => .fin false 1 2
  | .fin s n d =>
    let y := expX true n d
    (if s then y else .ofInt 1).div ((XR.ofInt 1).add y)

/-- Σ (−1)ⁿ x^(2n+1) / (n! (2n+1)), from a running x^(2n+1)/n!. -/
def erfSeries (x2 : Nat) : Nat → Nat → Nat → Int → Int → Int
  | 0, _, _, _, acc => acc
  | fuel + 1, n, term, sg, acc =>
    erfSeries x2 fuel (n + 1) (term * x2 / ((n + 1) * 2 ^ fxP)) (-sg) (acc + sg * (term / (2 * n + 1) : Nat))

/-- √π in fixed point. -/
def sqrtPi : Nat := isqrt (2 * halfPi * 2 ^ (2 * fxP - trP))

/-- ERF (R81). From 4 upward the value lies within a quarter unit below 1. -/
def xErf : XR → XR
  | .nan => .nan
  | .inf s => .fin s 1 1
  | .fin s 0 d => .fin s 0 d
  | .fin s n d =>
    if 4 * d ≤ n then .fin s (2 ^ 100 - 1) (2 ^ 100)
    else
      let x := n * 2 ^ fxP / d
      .fin s (2 * (erfSeries (x * x / 2 ^ fxP) 220 0 x 1 0).toNat) sqrtPi

/-- RCP (R81). -/
def xRcp (x : XR) : XR := (XR.ofInt 1).div x

/-- RSQRT (R81): √(d / n). -/
def xRsqrt : XR → XR
  | .nan => .nan
  | .inf s => if s then .nan else .zero
  | .fin s 0 _ => .inf s
  | .fin true _ _ => .nan
  | .fin false n d => let r := sqrtApprox d n; .fin false r.1 r.2

/-- A special function on a lane: one rounding, flags of R76. -/
def special (f : XR → XR) (a : W32) : W32 × ArithFlags := flagged [val32 a] (f (val32 a))

end Sys2Proof.Machine
end

