-- ==== Sys2Proof/Machine/Detect.lean ====
section
/-! DEFINITION. The detection post-processor: DETECT (R89–R96, R133). -/

namespace Sys2Proof.Machine

/-- The store a selector of DETECT names: the local stores of the cluster's cores, or the cluster store (R133). -/
def detectStore (c : ClusterId) (sel : Nat) : Nat := if sel = 2 then 8 + c.val else 2 * c.val + sel

/-- A tensor or output of a DETECT: store and first row (R133). -/
structure Locator where
  st : Nat
  row : Nat
deriving DecidableEq, Repr

/-- The parameters of a DETECT (R133). -/
structure DetectParams where
  cand : Nat
  classes : Nat
  maxDet : Nat
  distance : Bool
  sigmoid : Bool
  best : Bool
  clip : Bool
  boxFmt : Nat
  scoreFmt : Nat
  thr : W32
  iou : W32
  var : List W32
  imgW : W32
  imgH : W32
  boxes : Locator
  scores : Locator
  refs : Locator
  out : Locator
deriving DecidableEq, Repr

/-- FP32 bits at a byte offset. -/
def fp32At (l : List Byte) (o : Nat) : W32 := BitVec.ofNat 32 (leAt l o 4)

/-- A locator of the parameter row. -/
def locatorAt (c : ClusterId) (l : List Byte) (o : Nat) : Locator := ⟨detectStore c (leAt l (o + 4) 1), leAt l o 4⟩

/-- The parameters that a row holds. -/
def detectParams (c : ClusterId) (l : List Byte) : DetectParams :=
  let fl := BitVec.ofNat 32 (leAt l 12 4)
  { cand := leAt l 0 4, classes := leAt l 4 4, maxDet := leAt l 8 4, distance := bit fl 0, sigmoid := bit fl 1,
    best := bit fl 2, clip := bit fl 3, boxFmt := leAt l 16 1, scoreFmt := leAt l 17 1, thr := fp32At l 24,
    iou := fp32At l 28, var := (List.range 4).map (fun i => fp32At l (32 + 4 * i)), imgW := fp32At l 48,
    imgH := fp32At l 52, boxes := locatorAt c l 56, scores := locatorAt c l 64, refs := locatorAt c l 72,
    out := locatorAt c l 80 }

/-- A locator's reserved part is not 0. -/
def badLocator (l : List Byte) (o : Nat) : Bool := decide (2 < leAt l (o + 4) 1) || leAt l (o + 5) 3 != 0

/-- A box or score format that DETECT takes: FP16, BF16 or FP32 (R133). -/
def detectFmt (f : Nat) : Bool := f == 9 || f == 10 || f == 11

/-- Rows of n elements of a format. -/
def tensorRows (f n : Nat) : Nat := cdiv n (perRow (fmtBits f))

/-- Rows of the output of at most n detections (R94). -/
def outputRows (n : Nat) : Nat := cdiv (n + 1) 16

/-- Row of a DETECT's parameters: store and row. -/
def detectRow (c : ClusterId) (d : BitVec 128) : Nat × Nat := (detectStore c (field d 83 82), field d 16 0)

/-- The parameter row of a DETECT of core k, as it is now (R133). -/
def State.detectRowOf (s : State) (k : CoreId) (d : BitVec 128) : List Byte :=
  let pr := detectRow ⟨k.val / 2, by omega⟩ d
  s.row pr.1 pr.2

/-- Checks of a DETECT when it begins, in the order of R127 (R89, R133). The output is checked for max_det detections
(log 24). DESIGN CHOICE: of offending rows in source tensors of several stores the lowest store-view address is reported
(log 120). -/
def detectCheck (s : State) (ctx : CtxId) (c : ClusterId) (d : Desc) : Option (Nat × Nat) :=
  let pr := detectRow c d
  match badRow s ctx pr.1 [(pr.2, 1)] with
  | some a => some (0x07, a)
  | none =>
    let l := s.row pr.1 pr.2
    let p := detectParams c l
    let r02 := !allZero ((l.drop 18).take 6) || !allZero (l.drop 88) || leAt l 12 4 / 16 != 0 || p.maxDet == 0 ||
      p.classes == 0 || !fmtOk p.boxFmt || !fmtOk p.scoreFmt || badLocator l 56 || badLocator l 64 || badLocator l 72 ||
      badLocator l 80
    let r0B := !detectFmt p.boxFmt || !detectFmt p.scoreFmt || decide (65536 < p.cand) || decide (1024 < p.classes) ||
      decide (4194304 < p.cand * p.classes) || decide (1024 < p.maxDet)
    let rows := fun (x : Locator) (n : Nat) => (badRow s ctx x.st [(x.row, n)]).toList.map (fun a => (x.st, a))
    let src := rows p.boxes (tensorRows p.boxFmt (4 * p.cand)) ++ rows p.scores (tensorRows p.scoreFmt (p.cand * p.classes)) ++
      rows p.refs (tensorRows 11 (4 * p.cand))
    firstReason r02 none false r0B (if r02 || r0B then none
      else
        let first : Option (Nat × Nat) := match src with
          | [] => none
          | a :: r => some (r.foldl (fun (m x : Nat × Nat) => if x.2 < m.2 then x else m) a)
        orRow (first.map (fun x => x.1) == some p.out.st) (first.map (fun x => x.2))
          ((rows p.out (outputRows p.maxDet)).head?.map (fun x => x.2)))

/-- A (candidate, class) pair with its score and box (R90, R91). -/
structure Pair where
  score : W32
  cls : Nat
  cand : Nat
  box : List W32
deriving DecidableEq, Repr

/-- Elements of a tensor as FP32 lanes. -/
def tensorLanes (s : State) (x : Locator) (f n : Nat) : List W32 :=
  ((unpackRows (fmtBits f) (s.rowsFrom x.st x.row (tensorRows f n))).take n).map (fun e => round32 (decodeElem f 0 e))

/-- Product, sum, difference and exponential, one FP32 operation each (R91). -/
def mul32 (a b : W32) : W32 := (fmul a b).1
/-- Sum. -/
def add32 (a b : W32) : W32 := (fadd a b).1
/-- Difference. -/
def sub32 (a b : W32) : W32 := (fsub a b).1
/-- EXP of R81. -/
def exp32 (a : W32) : W32 := (special xExp a).1

/-- The box of a candidate: x1, y1, x2, y2 (R91). DESIGN CHOICE: the clip takes the maximum with 0 first and the minimum with the image
size last, which for a size below 0 is that size (log 121). -/
def decodeBox (p : DetectParams) (b r : List W32) : List W32 :=
  let t := fun i => b.getD i 0
  let a := fun i => r.getD i 0
  let v := fun i => p.var.getD i 0
  let raw := if p.distance then
      [sub32 (a 0) (mul32 (t 0) (a 2)), sub32 (a 1) (mul32 (t 1) (a 2)), add32 (a 0) (mul32 (t 2) (a 2)),
       add32 (a 1) (mul32 (t 3) (a 2))]
    else
      let cx := add32 (a 0) (mul32 (mul32 (t 0) (v 0)) (a 2))
      let cy := add32 (a 1) (mul32 (mul32 (t 1) (v 1)) (a 3))
      let hw := mul32 (mul32 (a 2) (exp32 (mul32 (t 2) (v 2)))) 0x3F000000
      let hh := mul32 (mul32 (a 3) (exp32 (mul32 (t 3) (v 3)))) 0x3F000000
      [sub32 cx hw, sub32 cy hh, add32 cx hw, add32 cy hh]
  if p.clip then
    (raw.zipIdx).map (fun x => fmin (fmax x.1 0) (if x.2 % 2 = 0 then p.imgW else p.imgH))
  else raw

/-- The passing classes of a candidate with their scores, ascending class (R90). -/
def passing (p : DetectParams) (scores : List W32) : List (W32 × Nat) :=
  let all := (scores.zipIdx).map (fun x => (if p.sigmoid then (special xSigm x.1).1 else x.1, x.2))
  all.filter (fun x => fcmp 3 p.thr x.1)

/-- The highest of the scores, the lowest class among equals (R90). -/
def bestOf : List (W32 × Nat) → List (W32 × Nat)
  | [] => []
  | a :: r => [r.foldl (fun m x => if fcmp 2 m.1 x.1 then x else m) a]

/-- The pairs of one candidate (R90, R91). -/
def candidatePairs (p : DetectParams) (i : Nat) (b r scores : List W32) : List Pair :=
  let ps := if p.best then bestOf (passing p scores) else passing p scores
  if ps.isEmpty then [] else
    let box := decodeBox p b r
    ps.map (fun x => ⟨x.1, x.2, i, box⟩)

/-- A value is finite. -/
def finite32 (x : W32) : Bool := !(val32 x).isNan && !isInf32 x

/-- Put a pair into a list sorted by descending score, after those of equal score (R92). -/
def insertPair (x : Pair) : List Pair → List Pair
  | [] => [x]
  | y :: r => if fcmp 3 x.score y.score then y :: insertPair x r else x :: y :: r

/-- Side of a box clamped at 0. -/
def side (lo hi : W32) : W32 := fmax (sub32 hi lo) 0

/-- The IoU of two boxes (R93). -/
def iouOf (a b : List W32) : W32 :=
  let x := fun (l : List W32) i => l.getD i 0
  let iw := side (fmax (x a 0) (x b 0)) (fmin (x a 2) (x b 2))
  let ih := side (fmax (x a 1) (x b 1)) (fmin (x a 3) (x b 3))
  let inter := mul32 iw ih
  let ua := mul32 (side (x a 0) (x a 2)) (side (x a 1) (x a 3))
  let ub := mul32 (side (x b 0) (x b 2)) (side (x b 1) (x b 3))
  let union := sub32 (add32 ua ub) inter
  if fcmp 2 0 union then (fdiv inter union).1 else 0

/-- Greedy suppression: the pairs kept, oldest first, and whether a pair was left unvisited (R93). -/
def suppress (thr : W32) (maxDet : Nat) : List Pair → List Pair → List Pair × Bool
  | [], kept => (kept, false)
  | x :: r, kept =>
    if maxDet ≤ kept.length then (kept, true)
    else
      let off := fcmp 3 0x3F800000 thr
      let hit := !off && kept.any (fun y => y.cls == x.cls && fcmp 2 thr (iouOf y.box x.box))
      suppress thr maxDet r (if hit then kept else kept ++ [x])

/-- A detection record (R94). -/
def detectionBytes (x : Pair) : List Byte :=
  (x.box.flatMap (fun v => leBytes 4 v.toNat)) ++ leBytes 4 x.score.toNat ++ leBytes 2 x.cls ++ leBytes 2 0 ++
  leBytes 4 x.cand ++ leBytes 4 0

/-- Consecutive groups of n. -/
def groupsOf {α : Type} (n : Nat) : Nat → List α → List (List α)
  | 0, _ => []
  | m + 1, l => l.take n :: groupsOf n m (l.drop n)

/-- Carry out a DETECT: its output rows and the flags PAIROVF, TRUNC, NONFIN (R89–R94). DESIGN CHOICE: in best-class mode the
header's "pairs passing the threshold" counts the one pair that each candidate forms, not every class that passes (log 104). -/
def runDetect (s : State) (p : DetectParams) : List (List Byte) × Bool × Bool × Bool :=
  let boxes := groupsOf 4 p.cand (tensorLanes s p.boxes p.boxFmt (4 * p.cand))
  let refs := groupsOf 4 p.cand (tensorLanes s p.refs 11 (4 * p.cand))
  let scores := groupsOf p.classes p.cand (tensorLanes s p.scores p.scoreFmt (p.cand * p.classes))
  let pairs := ((List.zip boxes (List.zip refs scores)).zipIdx).flatMap (fun x =>
    candidatePairs p x.2 x.1.1 x.1.2.1 x.1.2.2)
  let good := pairs.filter (fun x => x.box.all finite32)
  let sorted := (good.foldl (fun l x => insertPair x l) []).take 65536
  let ovf := decide (65536 < pairs.length)
  let kept := suppress p.iou p.maxDet sorted []
  let nonfin := decide (good.length < pairs.length)
  let flags := ovf.toNat + 2 * kept.2.toNat + 4 * nonfin.toNat
  let head := leBytes 4 kept.1.length ++ leBytes 4 flags ++ leBytes 4 pairs.length ++
    leBytes 4 (pairs.length - good.length) ++ leBytes 16 0
  (rowsOf (head ++ kept.1.flatMap detectionBytes), ovf, kept.2, nonfin)

/-- The begun DETECT of a core. -/
def begunDetect (s : State) (k : CoreId) : Option (CoreId × Nat × Cmd) :=
  let q := (s.core k).queue 3
  match firstIdx (fun x => x.phase == .begun) q with
  | none => none
  | some n => q[n]?.map (fun x => (k, n, x))

/-- The cores of a cluster (R3). -/
def evenCore (c : ClusterId) : CoreId := ⟨2 * c.val, by omega⟩
/-- The odd core. -/
def oddCore (c : ClusterId) : CoreId := ⟨2 * c.val + 1, by omega⟩

/-- DETECT (R89–R96, R133): the cluster's post-processor carries out the command it has begun, with the parameter
row read at its beginning: its output rows go on their way, and the flags and the truncation count follow. -/
def execDetect (c : ClusterId) (s : State) : Out :=
  match (match begunDetect s (evenCore c) with
    | some x => some x
    | none => begunDetect s (oddCore c)) with
  | none => .next s
  | some (k, n, cmd) =>
    match (s.core k).tile with
    | none => .next s
    | some t =>
      let p := detectParams c cmd.row
      let r := runDetect s p
      let s1 := (s.stick (Reg.dppStatus c) (2 * r.2.1.toNat + 4 * r.2.2.1.toNat + 8 * r.2.2.2.toNat)).bump
        (Reg.dppTruncCount c) r.2.2.1.toNat
      .next ((s1.sendRows k 3 cmd t p.out.st p.out.row r.1).markExecuted k 3 n)

end Sys2Proof.Machine
end

