-- ==== Sys2Proof/Machine/Matrix.lean ====
section
/-! DEFINITION. The matrix engine: sets, chains and skew, integer and float accumulation, read-out, spill, fill, the
twiddle ROM and activity control (R42–R66, R128, R129, R164). -/

namespace Sys2Proof.Machine

/-! ## Accumulation (R54–R57, R60) -/

/-- One addition to an integer accumulator (R54). -/
def accAdd (low : BitVec 40) (w : BitVec 4) (p : Int) : BitVec 40 × BitVec 4 :=
  let t := low.toInt + p
  if 2 ^ 39 - 1 < t then (BitVec.ofInt 40 (t - 2 ^ 40), w + 1)
  else if t < -2 ^ 39 then (BitVec.ofInt 40 (t + 2 ^ 40), w - 1)
  else (BitVec.ofInt 40 t, w)

/-- The sum of exact values whose denominators divide the largest one, as dyadic values' do; infinities of both signs
and NaN give NaN (R57). -/
def XR.sum (l : List XR) : XR :=
  if l.any XR.isNan then .nan
  else
    let p := l.any (fun x => x.isInf && !x.isNeg)
    let n := l.any (fun x => x.isInf && x.isNeg)
    if p && n then .nan else if p then .inf false else if n then .inf true
    else
      let dens := l.map (fun x => match x with
        | .fin _ _ d => d
        | _ => 1)
      let D := dens.foldl max 1
      let v := (l.map (fun x => match x with
        | .fin s m d => signed s m * (D / d : Nat)
        | _ => 0)).foldl (· + ·) (0 : Int)
      .fin (decide (v < 0)) v.natAbs D

/-- Consecutive pieces of n elements. -/
def chunks {α : Type} (n : Nat) : Nat → List α → List (List α)
  | 0, _ => []
  | fuel + 1, l => if l.isEmpty then [] else l.take n :: chunks n fuel (l.drop n)

/-- The value of an element as the array holds it: in the 16-bit class integers are S16 (R163). -/
def arrayElem (cl f zp code : Nat) : XR := if cl = 2 && fmtInt f then .ofInt (sext 16 code) else decodeElem f zp code

/-- The same as an integer, for integer formats. -/
def arrayInt (cl f zp code : Nat) : Int :=
  if cl = 2 then sext 16 code
  else match f with
  | 0 => sext 4 code
  | 2 => (code % 256 : Nat) - (zp : Int)
  | _ => sext 8 code

/-- A pair accumulates in integers: both operands integers, neither scaled (R54). -/
def intPair (d : Desc) (set : MatrixSet) : Bool :=
  fmtInt d.streamFmt && fmtInt set.fmt && set.sc == 0 && field d 73 72 == 0

/-- Integer pass sum of a column (R54). -/
def passInt (d : Desc) (set : MatrixSet) (col vec : List Nat) : Int :=
  let cl := d.cls
  let zp := field d 71 64
  (List.zipWith (fun a b => arrayInt cl set.fmt zp a * arrayInt cl d.streamFmt zp b) col vec).foldl (· + ·) 0

/-- Group terms of a column in ascending reduction index (R56): products of one group, multiplied by both scales. -/
def groupTerms (d : Desc) (set : MatrixSet) (col vec colScales vecScales : List Nat) : List XR :=
  let cl := d.cls
  let zp := field d 71 64
  let ssc := field d 73 72
  let prods := List.zipWith (fun a b => (arrayElem cl set.fmt zp a).mul (arrayElem cl d.streamFmt zp b)) col vec
  if set.fmt = 9 ∨ set.fmt = 10 then prods
  else
    let g := if ssc = 0 ∧ set.sc = 0 then 32 else groupSize (field d 75 74)
    ((chunks g prods.length prods).zipIdx).map (fun p =>
      let a := (impliedScale set.fmt set.sc).mul (decodeScale set.sc (colScales.getD p.2 0))
      let b := (impliedScale d.streamFmt ssc).mul (decodeScale ssc (vecScales.getD p.2 0))
      ((XR.sum p.1).mul a).mul b)

/-- Float pass sum of a column: terms added from +0 with one rounding each (R56). -/
def passFloat (terms : List XR) : W32 := terms.foldl (fun s t => round32 ((val32 s).add t)) 0

/-- What a contribution does to an accumulator: the new value and the bits of MXE_ACC_STATUS it sets (R54, R56, R57,
R60). `finite` says that every operand element and scale was finite. -/
def contribute (old : Acc) (clear isInt : Bool) (p : Int) (f : W32) (finite : Bool) : Acc × Nat :=
  if isInt then
    match old with
    | .int low w =>
      let r := if clear then accAdd 0 0 p else accAdd low w p
      (.int r.1 r.2, 0)
    | .fp _ =>
      let r := accAdd 0 0 p
      (.int r.1 r.2, if clear then 0 else 8)
  else
    let base : W32 := if clear then 0 else match old with
      | .fp b => b
      | .int _ _ => 0
    let mixed := match old with
      | .fp _ => false
      | .int _ _ => !clear
    let r := round32 ((val32 base).add (val32 f))
    let x := val32 base
    (.fp r, (if mixed then 8 else 0) + (if isInf32 r && finite && !x.isInf && !x.isNan then 2 else 0) +
      (if (val32 r).isNan && !x.isNan then 4 else 0))

/-- The accumulator that an entry's column uses (R52). -/
def accIndex (cols entry c : Nat) : Nat := entry * cols + c

/-- An accumulator; one not written since the launch holds integer 0 with w = 0 (R174). -/
def Core.accAt (c : Core) (i : Nat) : Acc := lookupD (.int 0 0) c.acc i

/-- A complete vector's contributions to the columns of its entry (R52, R54, R56). -/
def applyVector (o : OwedVector) (vec : List Nat) (c : Core) : Core × Nat :=
  let d : Desc := o.desc
  let cols := mxCols d.shape d.cls
  let depth := mxDepth d.shape d.cls
  let isInt := intPair d o.set
  let groups := depth / groupSize (field d 75 74)
  let res := (List.range cols).map (fun j =>
    let col := (o.set.elems.drop (j * depth)).take depth
    let colScales := (o.set.scales.drop (j * groups)).take groups
    let terms := if isInt then [] else groupTerms d o.set col vec colScales o.scales
    let finite := !terms.any (fun x => x.isNan || x.isInf)
    contribute (c.accAt (accIndex cols o.entry j)) o.clear isInt (if isInt then passInt d o.set col vec else 0)
      (passFloat terms) finite)
  ({ c with acc := writeRun (.int 0 0) c.acc (accIndex cols o.entry 0) (res.map (·.1)) },
    res.foldl (fun m r => m ||| r.2) 0)

/-! ## Read-out, spill, fill (R58, R59) -/

/-- The accumulators that n entries of a shape from e0 take, in entry-major order (R52, R59). -/
def entryAccs (sh cl e0 n : Nat) : List Nat :=
  let cols := mxCols sh cl
  (List.range n).flatMap (fun i => (List.range cols).map (fun c => accIndex cols ((e0 + i) % mxEntries sh cl) c))

/-- The same accumulators as ranges (first, count). -/
def accRanges (sh cl e0 n : Nat) : List (Nat × Nat) :=
  let cols := mxCols sh cl
  let e := mxEntries sh cl
  let b := e0 % e
  if e ≤ n then [(0, e * cols)]
  else if b + n ≤ e then [(b * cols, n * cols)]
  else [(b * cols, (e - b) * cols), (0, (b + n - e) * cols)]

/-- A command that reads or writes accumulators and may wait on owed vectors without holding later streams (R53). -/
def isAccAccess (d : Desc) : Bool := d.cmd == 5 || d.cmd == 6 || d.cmd == 7

/-- Accumulators that a matrix command has still to add to, read or fill: those of a stream's vectors whose first slice has not
entered. -/
def mxAccs (x : Cmd) : List (Nat × Nat) :=
  let d : Desc := x.desc
  let m := field d 14 0
  if d.cmd = 1 then (if x.resumeAt < m then accRanges d.shape d.cls (field d 25 15 + x.resumeAt) (m - x.resumeAt) else [])
  else if isAccAccess d then accRanges d.shape d.cls (field d 33 23) (field d 22 11)
  else []

/-- A vector still owed by the chain touches the entries a read-out takes, for a command before it (R50, R53). -/
def owedTouches (ch : Option Chain) (cmd : Cmd) : Bool :=
  match ch with
  | none => false
  | some h => h.owed.any (fun o =>
      decide (o.seq < cmd.seq) &&
      (let oc := mxCols h.shape h.cls
       rangesMeet [(o.entry * oc, oc)] (mxAccs cmd)))

/-- The multiplier of column c of a read-out (R58, R128). -/
def readMult (d : Desc) (prow : List Byte) (c : Nat) : XR :=
  match field d 75 74 with
  | 0 => .ofInt 1
  | 1 => val32 (BitVec.ofNat 32 (leAt prow 0 4))
  | _ => val32 (BitVec.ofNat 32 (leAt prow (4 * c) 4))

/-- The bias bits of column c, in the rows after the multiplier rows. -/
def readBias (d : Desc) (prow : List Byte) (c : Nat) : W32 :=
  if bit d 76 then BitVec.ofNat 32 (leAt prow (512 * (mreadParamRows d).1 + 4 * c) 4) else 0

/-- One element of a read-out: its code, what it adds to the counts, and whether the entry had wrapped (R58). -/
def readElem (d : Desc) (m : XR) (bias : W32) (draw : Option Nat) (a : Acc) : Nat × ConvTally × Bool :=
  let f := field d 71 68
  let sat := bit d 77
  let zp := field d 10 3
  match a with
  | .int low w =>
    if w = 0 then
      let r := convert f sat zp draw ((XR.ofInt (low.toInt + bias.toInt)).mul m)
      (r.1, r.2, false)
    else
      let one : ConvTally := ⟨1, 0, 0, 0⟩
      match m with
      | .nan => let r := convert f sat zp none .nan; (r.1, { one with nan := 1 }, true)
      | _ =>
        if m.isZero then ((convert f sat zp none .zero).1, one, true)
        else (clippedCode f (decide (w.toInt < 0) != m.isNeg), { one with clip := 1 }, true)
  | .fp b =>
    let r := convert f sat zp draw (((val32 b).mul m).add (if bit d 76 then val32 bias else .zero))
    (r.1, r.2, false)

/-- The bias of a float entry is added only when the command has one: adding +0 would change the sign of −0. -/
def readElemExact (d : Desc) (m : XR) (bias : W32) (draw : Option Nat) (a : Acc) : Nat × ConvTally × Bool :=
  match a with
  | .fp b => if bit d 76 then readElem d m bias draw a
      else let r := convert (field d 71 68) (bit d 77) (field d 10 3) draw ((val32 b).mul m); (r.1, r.2, false)
  | .int _ _ => readElem d m bias draw a

/-- The seed of the job that runs a tile (R39). -/
def State.seedOf (s : State) (t : Tile) : W64 :=
  match s.job? t.job with
  | some j => j.seed
  | none => 0

/-- Stream number and first index of the parameter command before a command, when its rounding is stochastic (R129,
R132). -/
def paramOf (stochastic : Bool) (cmd : Cmd) : Option (Nat × Nat) :=
  if stochastic then cmd.before.map (fun b => (field b 63 48, field b 47 0)) else none

/-- Carry out a read-out (R58). -/
def runMread (s : State) (k : CoreId) (t : Tile) (cmd : Cmd) : State :=
  let c := s.core k
  let d : Desc := cmd.desc
  let cols := mxCols d.shape d.cls
  let n := field d 22 11
  let e0 := field d 33 23
  let p := mreadParamRows d
  let prow := s.rowsFrom k.val (field d 48 34) (p.1 + p.2)
  let order := if bit d 79 then (List.range cols).flatMap (fun j => (List.range n).map (fun i => (i, j)))
    else (List.range n).flatMap (fun i => (List.range cols).map (fun j => (i, j)))
  let seed := s.seedOf t
  let param := paramOf (bit d 78) cmd
  let res := (order.zipIdx).map (fun x =>
    readElemExact d (readMult d prow x.1.2) (readBias d prow x.1.2) (drawAt seed param x.2)
      (c.accAt (accIndex cols ((e0 + x.1.1) % mxEntries d.shape d.cls) x.1.2)))
  let tal := res.foldl (fun a r => a.add r.2.1) ConvTally.zero
  let wraps := (res.filter (fun r => r.2.2)).length
  let b := fmtBits (field d 71 68)
  let full := res.map (·.1)
  let e := perRow b
  let whole := full.length / e * e
  let headRows := packRows b 0 (full.take whole)
  let tail := s.rowsOpenEnd b (packBytes b (full.drop whole))
  let s1 := (tail.2.countConv k tal).bump (Reg.mxeWrapCount k) wraps
  let s2 := s1.stick (Reg.mxeAccStatus k) (if 0 < wraps then 1 else 0)
  s2.sendRows k 0 cmd t k.val (field d 63 49) (headRows ++ tail.1)

/-- The 8 bytes of an accumulator in spill format (R59). -/
def spillBytes (a : Acc) : List Byte :=
  match a with
  | .int low w => leBytes 8 (low.toNat + w.toNat * 2 ^ 40)
  | .fp b => leBytes 8 (b.toNat + 2 ^ 63)

/-- The accumulator that 8 bytes in spill format give (R59). -/
def fillAcc (v : Nat) : Acc :=
  if v / 2 ^ 63 % 2 = 1 then .fp (BitVec.ofNat 32 v) else .int (BitVec.ofNat 40 v) (BitVec.ofNat 4 (v / 2 ^ 40))

/-- Carry out a spill (R59). -/
def runMspill (s : State) (k : CoreId) (t : Tile) (cmd : Cmd) : State :=
  let c := s.core k
  let d : Desc := cmd.desc
  let bs := (entryAccs d.shape d.cls (field d 33 23) (field d 22 11)).flatMap (fun i => spillBytes (c.accAt i))
  let r := s.rowsOpenEnd 64 bs
  r.2.sendRows k 0 cmd t k.val (field d 63 49) r.1

/-- Carry out a fill (R59). -/
def runMfill (s : State) (k : CoreId) (cmd : Cmd) : State :=
  let c := s.core k
  let d : Desc := cmd.desc
  let bs := s.rowsFrom k.val (field d 63 49) (spillRows d)
  let accs := (entryAccs d.shape d.cls (field d 33 23) (field d 22 11)).zipIdx
  s.setCore k { c with acc := accs.foldl (fun m p => writeOne (.int 0 0) m p.1 (fillAcc (leAt bs (8 * p.2) 8))) c.acc }

/-! ## The order of one queue (R47, R48, R50, R53, R138, R164) -/

/-- MSTREAM and MTWID, which make and end chains (R50). -/
def isChainCmd (d : Desc) : Bool := d.cmd == 1 || d.cmd == 4

/-- MLOAD, MSWAP and MTWID, which write the sets (R47, R48, R63). -/
def usesSets (d : Desc) : Bool := d.cmd == 2 || d.cmd == 3 || d.cmd == 4

/-- A stream or load that takes entries of the direct port (R164). -/
def usesPort (d : Desc) : Bool := (d.cmd == 1 || d.cmd == 2) && bit d 78

/-- A command waits for an earlier one of its queue that has not had its effect (R53): chains follow one another, a swap keeps
its place among the streams and loads, the direct port is taken in order (a load from it also behind the tails of the streams
before it), and accumulators and rows are read and written in order. Two read-outs or spills of one entry need no order. -/
def mxOrdered (x y : Cmd) : Bool :=
  let a : Desc := x.desc
  let b : Desc := y.desc
  (isChainCmd a && isChainCmd b) || (usesSets a && usesSets b) || (a.cmd == 3 && b.cmd == 1) || (a.cmd == 1 && b.cmd == 3) ||
  (usesPort a && usesPort b) || (isChainCmd a && b.cmd == 2 && usesPort b) || (a.cmd == 8 && b.cmd == 8) ||
  (rangesMeet (mxAccs x) (mxAccs y) && !((a.cmd == 5 || a.cmd == 6) && (b.cmd == 5 || b.cmd == 6))) ||
  rangesMeet (mxWrites a) (mxReads b ++ mxWrites b) || rangesMeet (mxReads a) (mxWrites b)

/-- The begun commands of a queue, in order, that wait on nothing but owed vectors take their turn by themselves as the last
contribution lands (R53). What is left of the open commands: those that a later stream has to wait for. -/
def stuckBefore (s : State) (k : CoreId) : List Cmd → List Cmd → List Cmd → List Cmd
  | [], _, stuck => stuck
  | x :: r, fluid, stuck =>
    if !x.open then stuckBefore s k r fluid stuck
    else if x.phase == .begun && isAccAccess x.desc && !stuck.any (fun a => mxOrdered a x) &&
        !fluid.any (fun a => rangesMeet (mxWrites a.desc) (mxReads x.desc)) && !s.rowsOwed k 0 x.seq (mxReads x.desc) then
      stuckBefore s k r (fluid ++ [x]) stuck
    else stuckBefore s k r fluid (stuck ++ [x])

/-- The begun command at a position of the matrix queue may have its effect: nothing before it that it waits for is open, no row
it reads is still to be written by the queue, and no entry it takes is owed a vector (R53). -/
def mxReady (s : State) (k : CoreId) (n : Nat) (cmd : Cmd) : Bool :=
  let c := s.core k
  let before := (c.queue 0).take n
  let d : Desc := cmd.desc
  cmd.phase == .begun && !s.rowsOwed k 0 cmd.seq (mxReads d) &&
  (if d.cmd = 1 then !(stuckBefore s k before [] []).any (fun a => mxOrdered a cmd)
   else !before.any (fun a => a.open && mxOrdered a cmd)) &&
  !(isAccAccess d && owedTouches c.chain cmd)

/-- The first command of the matrix queue that a test accepts and that may have its effect. -/
def firstReady (s : State) (k : CoreId) (p : Desc → Bool) : Option (Nat × Cmd) :=
  (((s.core k).queue 0).zipIdx.find? (fun x => p x.1.desc && mxReady s k x.2 x.1)).map (fun x => (x.2, x.1))

/-- Carry out a read-out, spill or fill. -/
def runAccAccess (s : State) (k : CoreId) (t : Tile) (cmd : Cmd) : State :=
  let d : Desc := cmd.desc
  if d.cmd = 5 then runMread s k t cmd else if d.cmd = 6 then runMspill s k t cmd else runMfill s k cmd

/-- Carry out, in order, the begun read-outs, spills and fills that may have their effect. -/
def drainAcc (k : CoreId) (t : Tile) : Nat → State → State
  | 0, s => s
  | fuel + 1, s =>
    match firstReady s k isAccAccess with
    | some (n, cmd) => drainAcc k t fuel ((runAccAccess s k t cmd).markExecuted k 0 n)
    | none => s

/-- Every read-out, spill and fill that may have its effect has it. -/
def State.drain (s : State) (k : CoreId) (t : Tile) : State := drainAcc k t ((s.core k).queue 0).length s

/-! ## Streams (R46, R50–R52, R164) -/

/-- A slice enters the array: when the oldest owed vector has all its slices its contributions land (R50). -/
def feedSlice (k : CoreId) (t : Tile) (sl : List Nat) (s : State) : State :=
  let c := s.core k
  match c.chain with
  | none => s
  | some h =>
    let depth := mxDepth h.shape h.cls
    let sls := h.slices ++ [sl]
    if sls.length < depth then s.setCore k { c with chain := some { h with slices := sls } }
    else match h.owed with
    | [] => s.setCore k { c with chain := some { h with slices := sls.drop 1 } }
    | o :: rest =>
      let vec := (sls.zipIdx).map (fun p => p.1.getD p.2 0)
      let r := applyVector o vec { c with chain := some { h with slices := sls.drop 1, owed := rest } }
      ((s.setCore k r.1).stick (Reg.mxeAccStatus k) r.2).drain k t

/-- Slices taken from local-store rows: n slices from slice position p of a stream from a row (R50, R163). -/
def localSlices (s : State) (k : CoreId) (d : Desc) (p n : Nat) : List (List Nat) :=
  let depth := mxDepth d.shape d.cls
  let b := streamBits d.cls d.streamFmt
  let es := unpackRows b (s.rowsFrom k.val (field d 55 41) (cdiv ((p + n) * depth) (perRow b)))
  chunks depth n ((es.drop (p * depth)).take (n * depth))

/-- The slices at the front of the direct port, at most n: an error when one of them is a row, or a marked slice that is not where
the mark belongs (R164). `tail` says that the n-th must carry the mark. -/
def portSlices (port : List PortEntry) (n : Nat) (tail : Bool) : Except Unit (List (List Nat)) :=
  let l := port.take n
  let bad := (l.zipIdx).any (fun p => match p.1.data with
    | .row _ => true
    | .slice _ last => last != (tail && p.2 + 1 == n))
  if bad then .error ()
  else .ok (l.map (fun e => match e.data with
    | .row _ => []
    | .slice es _ => es))

/-- How the end of a chain comes out: done, or waiting for the rest of its tail with what of it has entered, or a halt with its
command. -/
inductive ChainEnd where
  | done (s : State)
  | wait (s : Option State)
  | halt (cmd : Cmd) (reason addr : Nat)

/-- Slices of the tail enter the open chain: it is closed when none is left. -/
def tailEnters (k : CoreId) (t : Tile) (left : Nat) (sls : List (List Nat)) (s : State) : ChainEnd :=
  let s1 := sls.foldl (fun s sl => feedSlice k t sl s) s
  let c := s1.core k
  if left ≤ sls.length then .done (s1.setCore k { c with chain := none })
  else if sls.isEmpty then .wait none
  else .wait (some (s1.setCore k { c with chain := c.chain.map (fun h => { h with tailIn := h.tailIn + sls.length }) }))

/-- End the open chain: its tail enters, read from the source of its last MSTREAM, each slice as it arrives (R46, R50, R164). A tail
in the direct port lies behind the rows of the loads in `before`, the commands of the queue that precede the end. -/
def endChain (s : State) (k : CoreId) (t : Tile) (before : List Cmd) : ChainEnd :=
  let c := s.core k
  match c.chain with
  | none => .done s
  | some h =>
    let d : Desc := h.last.desc
    let n := mxDepth h.shape h.cls - 1
    let m := field d 14 0
    if bit d 78 then
      if before.any (fun x => x.open && Desc.cmd x.desc == 2 && usesPort x.desc) then .wait none
      else match portSlices c.port (n - h.tailIn) true with
      | .error _ => .halt h.last 0x0B 0
      | .ok sls => tailEnters k t (n - h.tailIn) sls (s.setCore k { c with port := c.port.drop sls.length })
    else
      let b := streamBits d.cls d.streamFmt
      let first := m * mxDepth h.shape h.cls / perRow b
      let last := cdiv ((m + n) * mxDepth h.shape h.cls) (perRow b)
      match badRow s t.ctx k.val [(field d 55 41 + first, last - first)] with
      | some a => .halt h.last 0x07 a
      | none => tailEnters k t n (localSlices s k d m n) s

/-- The first stream or twiddle load of the matrix queue whose effect is not complete. -/
def nextChainCmd (c : Core) : Option Cmd := (c.queue 0).find? (fun x => x.open && isChainCmd x.desc)

/-- A command has reached the head of the matrix queue: every command before it has begun. -/
def reachedHead (c : Core) (x : Cmd) : Bool :=
  x.phase != .waiting || (match (c.queue 0).find? (fun y => y.phase == .waiting) with
    | some y => y.seq == x.seq
    | none => false)

/-- The open chain is due to end (R50): no stream of it is still to have its effect, and the command that ends it has reached
the head of the queue, whether or not its tokens are there or it may act; or the control core has executed END and no matrix
command remains to be taken. -/
def chainDue (c : Core) : Bool :=
  match c.chain with
  | none => false
  | some h =>
    match nextChainCmd c with
    | some x => x.seq != h.last.seq && reachedHead c x && (Desc.cmd x.desc == 4 || !continuesChain (some (h.shape, h.cls)) x.desc)
    | none => (c.queue 0).all (fun x => x.phase != .waiting) && (match c.phase with
      | .ending _ => true
      | _ => false)

/-- The commands of the matrix queue before the one that ends the open chain. -/
def beforeChainEnd (c : Core) : List Cmd :=
  match nextChainCmd c with
  | some x => (c.queue 0).takeWhile (fun y => y.seq != x.seq)
  | none => c.queue 0

/-- End the chain where it is due; waits and halts under R164. -/
def chainEndIfDue (s : State) (k : CoreId) : State :=
  let c := s.core k
  match c.tile with
  | none => s
  | some t =>
    if chainDue c then
      match endChain s k t (beforeChainEnd c) with
      | .done s1 => s1.drain k t
      | .wait r => r.getD s
      | .halt cmd reason addr => s.haltFor k 0 cmd reason addr
    else s

/-- Scale codes of the streaming vectors of a command, vector by vector (R46). -/
def streamScales (s : State) (k : CoreId) (d : Desc) (m : Nat) : List (List Nat) :=
  let ssc := field d 73 72
  if ssc = 0 then List.replicate m []
  else
    let g := mxDepth d.shape d.cls / groupSize (field d 75 74)
    let es := unpackRows (8 * scaleBytes ssc) (s.rowsFrom k.val (field d 40 26) (cdiv (m * g) (scalesPerRow ssc)))
    chunks g m (es.take (m * g))

/-- The vectors of an MSTREAM, with the set in use (R48, R52). -/
def owedVectors (s : State) (k : CoreId) (cmd : Cmd) (set : MatrixSet) : List OwedVector :=
  let d : Desc := cmd.desc
  let m := field d 14 0
  let e := mxEntries d.shape d.cls
  ((streamScales s k d m).zipIdx).map (fun p =>
    ⟨(field d 25 15 + p.2) % e, bit d 77 && decide (p.2 < e), cmd.desc, set, p.1, cmd.seq⟩)

/-- The n-th command streams slices into the chain, one at a time; each brings its own vector into the chain first. -/
def streamIn (k : CoreId) (t : Tile) (n : Nat) : List (List Nat) → List OwedVector → State → State
  | [], _, s => s
  | sl :: r, os, s =>
    let c := s.core k
    let s1 : State := match os with
      | [] => s
      | o :: _ => s.setCore k { c with chain := c.chain.map (fun h => { h with owed := h.owed ++ [o] }) }
    streamIn k t n r (os.drop 1) (feedSlice k t sl (s1.setCmd k 0 n (fun x => { x with resumeAt := x.resumeAt + 1 })))

/-- Every slice of the n-th command has entered: with the chain flag it has had its effect, else once its tail has entered (R50). -/
def closeStream (s : State) (k : CoreId) (t : Tile) (n : Nat) (cmd : Cmd) : Option State :=
  if bit cmd.desc 76 then some ((s.markExecuted k 0 n).drain k t)
  else match endChain s k t (((s.core k).queue 0).take n) with
    | .done s1 => some ((s1.markExecuted k 0 n).drain k t)
    | .wait r => r
    | .halt x reason addr => some (s.haltFor k 0 x reason addr)

/-- A stream whose chain is open takes its slices: all from the local store, or those that have arrived at the direct port (R46,
R164). None where none has. -/
def streamOn (s : State) (k : CoreId) (t : Tile) (n : Nat) (cmd : Cmd) : Option State :=
  let d : Desc := cmd.desc
  let c := s.core k
  let left := field d 14 0 - cmd.resumeAt
  match c.stationary, (if bit d 78 then portSlices c.port left false else .ok (localSlices s k d cmd.resumeAt left)) with
  | some set, .ok sls =>
    if left = 0 then closeStream s k t n cmd
    else if sls.isEmpty then none
    else
      let s1 := if bit d 78 then s.setCore k { c with port := c.port.drop sls.length } else s
      let s2 := streamIn k t n sls ((owedVectors s k cmd set).drop cmd.resumeAt) s1
      if sls.length < left then some s2 else some ((closeStream s2 k t n cmd).getD s2)
  | _, _ => some (s.haltFor k 0 cmd 0x0B 0)

/-- MSTREAM on the n-th command: ends the open chain where it does not continue it, opens or joins its own, then streams
(R50–R52). None while nothing of that can go on. -/
def runMstream (s : State) (k : CoreId) (t : Tile) (n : Nat) (cmd : Cmd) : Option State :=
  let d : Desc := cmd.desc
  let c := s.core k
  if c.chain.map (fun h => h.last.seq) = some cmd.seq then streamOn s k t n cmd
  else
    match (if continuesChain (c.chain.map (fun h => (h.shape, h.cls))) d then ChainEnd.done s
      else endChain s k t ((c.queue 0).take n)) with
    | .wait r => r
    | .halt x reason addr => some (s.haltFor k 0 x reason addr)
    | .done s0 =>
      let s1 := s0.drain k t
      let c1 := s1.core k
      let h : Chain := match c1.chain with
        | some h => { h with last := cmd }
        | none => ⟨d.shape, d.cls, cmd, [], [], 0⟩
      let s2 := s1.setCore k { c1 with chain := some h }
      some ((streamOn s2 k t n cmd).getD s2)

/-! ## Sets (R47, R48, R63) -/

/-- MLOAD: the shadow set from local-store rows, or from the direct port, whose rows it takes as they arrive (R47, R164). None while
none is there. -/
def runMload (s : State) (k : CoreId) (n : Nat) (cmd : Cmd) : Option State :=
  let d : Desc := cmd.desc
  let c := s.core k
  let f := field d 71 68
  let grp := field d 75 74
  let sc := field d 73 72
  let rows := mloadRows d.shape d.cls f grp sc
  let count := mxCols d.shape d.cls * mxDepth d.shape d.cls
  let finish := fun (c : Core) (data scales : List Byte) =>
    let set : MatrixSet := ⟨d.shape, d.cls, bit d 79, f, sc, grp,
      (unpackRows (streamBits d.cls f) data).take count,
      if sc = 0 then [] else (unpackRows (8 * scaleBytes sc) scales).take (count / groupSize grp)⟩
    (s.setCore k { c with shadow := some set }).markExecuted k 0 n
  if bit d 78 then
    let l := c.port.take (rows.1 + rows.2 - cmd.got.length / 512)
    if l.isEmpty then none
    else if l.any (fun e => match e.data with
        | .slice _ _ => true
        | .row _ => false) then some (s.haltFor k 0 cmd 0x0B 0)
    else
      let got := cmd.got ++ l.flatMap (fun e => match e.data with
        | .row b => b
        | .slice _ _ => [])
      let c1 := { c with port := c.port.drop l.length }
      if got.length < 512 * (rows.1 + rows.2) then some ((s.setCore k c1).setCmd k 0 n (fun x => { x with got := got }))
      else some (finish c1 (got.take (512 * rows.1)) (got.drop (512 * rows.1)))
  else some (finish c (s.rowsFrom k.val (field d 55 41) rows.1) (s.rowsFrom k.val (field d 40 26) rows.2))

/-- cos(2πm/L) or sin(2πm/L), for L 64 or 128 (R63). -/
def twiddleValue (sine : Bool) (m L : Nat) : XR :=
  let t := 4 * (m % L)
  let q := (t / L + if sine then 3 else 0) % 4
  let r := t % L * halfPi / L
  let v := if q = 0 then cosFx r else if q = 1 then -sinFx r else if q = 2 then -cosFx r else sinFx r
  .dyadic (decide (v < 0)) v.natAbs (-(trP : Int))

/-- Element (row, column) of the 2L × 2L matrix T (R63). -/
def twiddleElem (inverse : Bool) (L row col : Nat) : XR :=
  let j := row % L
  let m := col % L
  let c := twiddleValue false (j * m) L
  let s := let v := twiddleValue true (j * m) L; if inverse then v else (if v.isZero then v else v.neg)
  if row < L then (if col < L then c else s)
  else if col < L then (if s.isZero then s else s.neg) else c

/-- MTWID: the shadow set from the twiddle ROM; it ends an open chain (R63, R129). None while the chain's tail is not there. -/
def runMtwid (s : State) (k : CoreId) (t : Tile) (n : Nat) (cmd : Cmd) : Option State :=
  match endChain s k t (((s.core k).queue 0).take n) with
  | .wait r => r
  | .halt x reason addr => some (s.haltFor k 0 x reason addr)
  | .done s0 =>
    let s1 := s0.drain k t
    let d : Desc := cmd.desc
    let f := field d 71 68
    let L := if bit d 63 then 128 else 64
    let blk := field d 61 60
    let elems := (List.range 128).flatMap (fun col => (List.range 128).map (fun row =>
      (convertFloat f false none (twiddleElem (bit d 62) L (blk / 2 * 128 + row) (blk % 2 * 128 + col))).1))
    some ((s1.setCore k { s1.core k with shadow := some ⟨0, 2, false, f, 0, 0, elems, []⟩ }).markExecuted k 0 n)

/-- MSWAP (R48): exchanges the sets; a swap with no load between restores. -/
def runMswap (s : State) (k : CoreId) (n : Nat) : State :=
  let c := s.core k
  (s.setCore k { c with stationary := c.shadow, shadow := c.stationary }).markExecuted k 0 n

/-- MSPIN (R66): names the level to raise the activity to, and for how long. -/
def runMspin (s : State) (k : CoreId) (n : Nat) (cmd : Cmd) : State :=
  let c := s.core k
  let win := field cmd.desc 54 39
  (s.setCore k { c with matrixActivity := { c.matrixActivity with
    spinLevel := field cmd.desc 63 55, spinWindows := if win = 0 then none else some win } }).markExecuted k 0 n

/-! ## The commands -/

/-- The begun command an event of a code acts on: the first of that code that may have its effect. -/
def nextMatrix (s : State) (k : CoreId) (code : Nat) : Option (Nat × Cmd) := firstReady s k (fun d => d.cmd == code)

/-- What a ready matrix command does; none while it waits for the direct port. -/
def runMatrix (s : State) (k : CoreId) (t : Tile) (n : Nat) (cmd : Cmd) : Option State :=
  match Desc.cmd cmd.desc with
  | 1 => runMstream s k t n cmd
  | 2 => runMload s k n cmd
  | 3 => some (runMswap s k n)
  | 4 => runMtwid s k t n cmd
  | 8 => some (runMspin s k n cmd)
  | 9 => some (s.markExecuted k 0 n)
  | _ => some ((runAccAccess s k t cmd).markExecuted k 0 n)

/-- The next matrix command of a code has its effect, where it is there to be had; a chain that is due to end ends before a
read-out, spill or fill. -/
def matrixStep (k : CoreId) (code : Nat) (s0 : State) : State :=
  let s := if 5 ≤ code ∧ code ≤ 7 then chainEndIfDue s0 k else s0
  match (s.core k).tile, nextMatrix s k code with
  | some t, some (n, cmd) => (runMatrix s k t n cmd).getD s
  | _, _ => s

/-- MSTREAM (R50–R57, R128). -/
def execMstream (k : CoreId) (s : State) : Out := ok (s.engineEvent k (matrixStep k 1))

/-- MLOAD (R47). -/
def execMload (k : CoreId) (s : State) : Out := ok (s.engineEvent k (matrixStep k 2))

/-- MSWAP (R48). -/
def execMswap (k : CoreId) (s : State) : Out := ok (matrixStep k 3 s)

/-- MTWID (R63). -/
def execMtwid (k : CoreId) (s : State) : Out := ok (s.engineEvent k (matrixStep k 4))

/-- MREAD (R58). -/
def execMread (k : CoreId) (s : State) : Out := ok (s.engineEvent k (matrixStep k 5))

/-- MSPILL (R59). -/
def execMspill (k : CoreId) (s : State) : Out := ok (s.engineEvent k (matrixStep k 6))

/-- MFILL (R59). -/
def execMfill (k : CoreId) (s : State) : Out := ok (s.engineEvent k (matrixStep k 7))

/-- MSPIN (R66). -/
def execMspin (k : CoreId) (s : State) : Out := ok (matrixStep k 8 s)

/-- MPARAM (R129): supplies the parameters of the MREAD after it; it has no effect of its own. -/
def execMparam (k : CoreId) (s : State) : Out := ok (matrixStep k 9 s)

/-- The next window's array-active count: what is offered or spun, within the slope limit of the last count and the
ceiling (R64, R66, R355). DESIGN CHOICE: R66 does not say whether the window that first reaches the level is one of those it is
held for, nor whether real work ends the spin before the level is reached; here that window counts, and with WIN 0 real work ends
the spin in any window (log 102). -/
def nextActivity (a : Activity) (limit offered : Nat) : Activity :=
  let want := max offered a.spinLevel
  let n := min (min (max want (a.count - limit)) (a.count + limit)) (min 256 (max a.ceiling (a.count - limit)))
  let reached := decide (0 < a.spinLevel) && decide (a.spinLevel ≤ n)
  match a.spinWindows with
  | none => { a with count := n, spinLevel := if 0 < offered then 0 else a.spinLevel }
  | some w => if reached then
      (if w ≤ 1 then { a with count := n, spinLevel := 0, spinWindows := none } else { a with count := n, spinWindows := some (w - 1) })
    else { a with count := n }

/-- While the limiter is engaged, or the device has shut down, the ceiling falls by the slope limit per window; else it rises again
at that rate (R355, R359, R387). -/
def moveCeiling (a : Activity) (limit : Nat) (falls : Bool) : Activity :=
  { a with ceiling := if falls then a.ceiling - limit else min 256 (a.ceiling + limit) }

/-- Activity of an engine after a window (R64, R355, R357). -/
def Activity.window (a : Activity) (p : Power) (limit offered : Nat) : Activity :=
  nextActivity (moveCeiling a limit (p.limiter || p.stopped)) limit offered

/-- ACTIVITY_WINDOW_END (R64–R66, R355, R357): the counts of the window that ends, from what real work offered in it; no result, row,
token or flag changes. A device held in reset has no window (R388). -/
def execActivityWindowEnd (k : CoreId) (offered : ActivityOffered) (s : State) : Out :=
  let c := s.core k
  if s.board.porLow then ok s
  else ok (s.setCore k { c with
    matrixActivity := c.matrixActivity.window s.power s.power.matrixLimit offered.matrix
    vectorActivity := c.vectorActivity.window s.power s.power.vectorLimit offered.vector })

end Sys2Proof.Machine
end

