-- ==== Sys2Proof/Machine/Vector.lean ====
section
/-! DEFINITION. The vector engine: loads, stores, lane operations, reductions, absolute maximum and scale derivation
(R67–R82, R87, R88, R130–R132). -/

namespace Sys2Proof.Machine

/-- The 256 lanes of a vector register. -/
def Core.vreg (c : Core) (r : Nat) : List W32 := readRun 0 c.vregs (256 * r) 256

/-- Write all lanes of a register. -/
def Core.setVreg (c : Core) (r : Nat) (l : List W32) : Core := { c with vregs := writeRun 0 c.vregs (256 * r) l }

/-- Write lanes of a register from lane o. -/
def Core.setLanes (c : Core) (r o : Nat) (l : List W32) : Core := { c with vregs := writeRun 0 c.vregs (256 * r + o) l }

/-- Rows of the local store that a vector command reads, as (first, count); a window command may read any (R69, R84, R87). -/
def vxReads (d : Desc) : List (Nat × Nat) :=
  match d.cmd with
  | 0x01 => [(field d 29 15, vecRows (field d 37 34) d.run)]
  | 0x58 => [(field d 29 15, field d 14 0)]
  | 0x61 => [(field d 29 15, field d 63 57 + 1)]
  | code => if 0x62 ≤ code ∧ code ≤ 0x66 then [(0, storeRows 0)] else []

/-- The begun command an event of a code acts on: the first open command of the vector queue, when it has that code and no row
it reads is still to be written by an earlier command of the queue (R68, R138). -/
def nextVector (s : State) (k : CoreId) (code : Nat) : Option (Nat × Cmd) :=
  let c := s.core k
  match firstIdx Cmd.open (c.queue 1) with
  | none => none
  | some n => match (c.queue 1)[n]? with
    | some cmd => if cmd.phase == .begun && Desc.cmd cmd.desc == code && !s.rowsOwed k 1 cmd.seq (vxReads cmd.desc) then
        some (n, cmd) else none
    | none => none

/-- A vector command has its effect, in queue order (R68). -/
def vectorStep (k : CoreId) (code : Nat) (run : State → Tile → Cmd → State) (s : State) : State :=
  match (s.core k).tile, nextVector s k code with
  | some t, some (n, cmd) => (run s t cmd).markExecuted k 1 n
  | _, _ => s

/-! ## Lane operations of the common layout (R72–R81, R130) -/

/-- The integer form of a descriptor. -/
def Desc.form (d : Desc) : IntForm := ⟨8 * 2 ^ field d 58 57, bit d 56, bit d 55⟩

/-- Apply a register operation to each register of the run in turn (R67): sources a, b, c as lane lists. -/
def overRun (d : Desc) (f : List W32 → List W32 → List W32 → List W32 × ArithFlags) : Nat → Nat → Core → ArithFlags →
    Core × ArithFlags
  | 0, _, c, fl => (c, fl)
  | fuel + 1, j, c, fl =>
    let b := if bit d 54 then List.replicate 256 (BitVec.ofNat 32 (field d 31 0)) else c.vreg (d.vb + j)
    let r := f (c.vreg (d.va + j)) b (c.vreg (d.vc + j))
    overRun d f fuel (j + 1) (c.setVreg (d.vd + j) r.1) (fl.or r.2)

/-- Carry out a command of the common layout. -/
def runRegs (s : State) (k : CoreId) (cmd : Cmd) (f : List W32 → List W32 → List W32 → List W32 × ArithFlags) : State :=
  let d : Desc := cmd.desc
  let r := overRun d f d.run 0 (s.core k) .none
  (s.setCore k r.1).stickArith k r.2

/-- Lanes and flags of a list of lane results. -/
def gather (l : List (W32 × ArithFlags)) : List W32 × ArithFlags :=
  (l.map (·.1), l.foldl (fun a r => a.or r.2) .none)

/-- A unary lane operation. -/
def lane1 (f : W32 → W32 × ArithFlags) (a _ _ : List W32) : List W32 × ArithFlags := gather (a.map f)

/-- A binary lane operation. -/
def lane2 (f : W32 → W32 → W32 × ArithFlags) (a b _ : List W32) : List W32 × ArithFlags := gather (List.zipWith f a b)

/-- A lane operation of three sources. -/
def lane3 (f : W32 → W32 → W32 → W32 × ArithFlags) (a b c : List W32) : List W32 × ArithFlags :=
  gather (List.zipWith (fun x (yz : W32 × W32) => f x yz.1 yz.2) a (List.zip b c))

/-- No flags. -/
def plain (v : W32) : W32 × ArithFlags := (v, .none)

/-- A bitwise operation on the low W bits (R72). -/
def IntForm.bitwise (f : IntForm) (op : W32 → W32 → W32) (x y : W32) : W32 × ArithFlags := plain (f.write ((op x y).toNat : Int))

/-- A reduction by a tree of eight levels to lane 0 (R80). -/
def reduce (f : W32 × ArithFlags → W32 × ArithFlags → W32 × ArithFlags) (a : List W32) : List W32 × ArithFlags :=
  match treeLevels f 8 (a.map plain) with
  | r :: _ => (r.1 :: List.replicate 255 0, r.2)
  | [] => (List.replicate 256 0, .none)

/-- A binary FP32 operation on lanes that carry flags. -/
def carrying (f : W32 → W32 → W32 × ArithFlags) (a b : W32 × ArithFlags) : W32 × ArithFlags :=
  let r := f a.1 b.1
  (r.1, (a.2.or b.2).or r.2)

/-- RSUM, RMAX, RMIN: FP32 or integer lanes (R80; log 22). -/
def crossLane (d : Desc) (ff : W32 → W32 → W32 × ArithFlags) (fi : List Int → Int) (a _ _ : List W32) :
    List W32 × ArithFlags :=
  if Config.crossLaneFloat d then reduce (carrying ff) a
  else
    let r := d.form.finish (fi (a.map d.form.read))
    (r.1 :: List.replicate 255 0, r.2)

/-- Largest of a list of integers. -/
def maxInt : List Int → Int
  | [] => 0
  | a :: r => r.foldl max a
/-- Smallest of a list of integers. -/
def minInt : List Int → Int
  | [] => 0
  | a :: r => r.foldl min a

/-- BCAST (R71, R130): the lane SCALAR[7:0] of the source to every lane. -/
def execVBcast (k : CoreId) (s : State) : Out :=
  ok (vectorStep k 0x04 (fun s _ cmd => runRegs s k cmd (fun a _ _ => (List.replicate 256 (a.getD (field cmd.desc 7 0) 0), .none))) s)

/-- SHUF (R71, R130): lane i takes the lane named by lane i of the index register, modulo 256. -/
def execVShuf (k : CoreId) (s : State) : Out :=
  ok (vectorStep k 0x05 (fun s _ cmd => runRegs s k cmd (fun a b _ => (b.map (fun i => a.getD (i.toNat % 256) 0), .none))) s)

/-- Integer ADD (R72). -/
def execVAdd (k : CoreId) (s : State) : Out :=
  ok (vectorStep k 0x10 (fun s _ cmd => runRegs s k cmd (let f := Desc.form cmd.desc; lane2 (fun x y => f.finish (f.read x + f.read y)))) s)

/-- Integer SUB (R72). -/
def execVSub (k : CoreId) (s : State) : Out :=
  ok (vectorStep k 0x11 (fun s _ cmd => runRegs s k cmd (let f := Desc.form cmd.desc; lane2 (fun x y => f.finish (f.read x - f.read y)))) s)

/-- Integer MUL (R72). -/
def execVMul (k : CoreId) (s : State) : Out :=
  ok (vectorStep k 0x12 (fun s _ cmd => runRegs s k cmd (let f := Desc.form cmd.desc; lane2 (fun x y => f.finish (f.read x * f.read y)))) s)

/-- MULH (R72): bits [2W − 1:W] of the exact product. -/
def execVMulh (k : CoreId) (s : State) : Out :=
  ok (vectorStep k 0x13 (fun s _ cmd => runRegs s k cmd (let f := Desc.form cmd.desc; lane2 (fun x y => plain (f.write (f.read x * f.read y / (2 ^ f.w : Nat)))))) s)

/-- Integer MIN (R72). -/
def execVMin (k : CoreId) (s : State) : Out :=
  ok (vectorStep k 0x14 (fun s _ cmd => runRegs s k cmd (let f := Desc.form cmd.desc; lane2 (fun x y => plain (f.write (min (f.read x) (f.read y)))))) s)

/-- Integer MAX (R72). -/
def execVMax (k : CoreId) (s : State) : Out :=
  ok (vectorStep k 0x15 (fun s _ cmd => runRegs s k cmd (let f := Desc.form cmd.desc; lane2 (fun x y => plain (f.write (max (f.read x) (f.read y)))))) s)

/-- NEG (R72, R75). -/
def execVNeg (k : CoreId) (s : State) : Out :=
  ok (vectorStep k 0x16 (fun s _ cmd => runRegs s k cmd (let f := Desc.form cmd.desc; lane1 (fun x => f.finish (-(f.read x))))) s)

/-- ABS (R72, R75). -/
def execVAbs (k : CoreId) (s : State) : Out :=
  ok (vectorStep k 0x17 (fun s _ cmd => runRegs s k cmd (let f := Desc.form cmd.desc; lane1 (fun x => f.finish ((f.read x).natAbs)))) s)

/-- AND (R72). -/
def execVAnd (k : CoreId) (s : State) : Out :=
  ok (vectorStep k 0x18 (fun s _ cmd => runRegs s k cmd (let f := Desc.form cmd.desc; lane2 (f.bitwise (fun x y => x &&& y)))) s)

/-- OR (R72). -/
def execVOr (k : CoreId) (s : State) : Out :=
  ok (vectorStep k 0x19 (fun s _ cmd => runRegs s k cmd (let f := Desc.form cmd.desc; lane2 (f.bitwise (fun x y => x ||| y)))) s)

/-- XOR (R72). -/
def execVXor (k : CoreId) (s : State) : Out :=
  ok (vectorStep k 0x1A (fun s _ cmd => runRegs s k cmd (let f := Desc.form cmd.desc; lane2 (f.bitwise (fun x y => x ^^^ y)))) s)

/-- NOT (R72). -/
def execVNot (k : CoreId) (s : State) : Out :=
  ok (vectorStep k 0x1B (fun s _ cmd => runRegs s k cmd (let f := Desc.form cmd.desc; lane1 (fun x => f.bitwise (fun x _ => ~~~x) x x))) s)

/-- SHL (R74, R75). -/
def execVShl (k : CoreId) (s : State) : Out :=
  ok (vectorStep k 0x1C (fun s _ cmd => runRegs s k cmd (let f := Desc.form cmd.desc; lane2 f.shl)) s)

/-- SHR (R74). -/
def execVShr (k : CoreId) (s : State) : Out :=
  ok (vectorStep k 0x1D (fun s _ cmd => runRegs s k cmd (let f := Desc.form cmd.desc; lane2 (fun x c => plain (f.shr x c)))) s)

/-- SRA (R74). -/
def execVSra (k : CoreId) (s : State) : Out :=
  ok (vectorStep k 0x1E (fun s _ cmd => runRegs s k cmd (let f := Desc.form cmd.desc; lane2 (fun x c => plain (f.sra x c)))) s)

/-- SRAR (R74): rounding, ties to even. -/
def execVSrar (k : CoreId) (s : State) : Out :=
  ok (vectorStep k 0x1F (fun s _ cmd => runRegs s k cmd (let f := Desc.form cmd.desc; lane2 (fun x c => plain (f.srar x c)))) s)

/-- NRW (R72): the whole lane, S32 or U32, narrowed to W bits. -/
def execVNrw (k : CoreId) (s : State) : Out :=
  ok (vectorStep k 0x20 (fun s _ cmd => runRegs s k cmd (let f := Desc.form cmd.desc; lane1 (fun x => f.finish (if f.sgn then x.toInt else (x.toNat : Int))))) s)

/-- Integer CMP (R71, R130): all ones or zero. -/
def execVCmp (k : CoreId) (s : State) : Out :=
  ok (vectorStep k 0x21 (fun s _ cmd => runRegs s k cmd (let f := Desc.form cmd.desc; lane2 (fun x y => plain (maskLane (f.cmp (field cmd.desc 53 52) x y))))) s)

/-- SEL (R71, R72): the first source where the mask is not zero, read at width W (log 21). -/
def execVSel (k : CoreId) (s : State) : Out :=
  ok (vectorStep k 0x22 (fun s _ cmd => runRegs s k cmd (let f := Desc.form cmd.desc; lane3 (fun x y m => plain (f.write (if f.read m = 0 then f.read y else f.read x))))) s)

/-- DIV (R73, R75). -/
def execVDiv (k : CoreId) (s : State) : Out :=
  ok (vectorStep k 0x23 (fun s _ cmd => runRegs s k cmd (let f := Desc.form cmd.desc; lane2 (f.divRem false))) s)

/-- REM (R73, R75). -/
def execVRem (k : CoreId) (s : State) : Out :=
  ok (vectorStep k 0x24 (fun s _ cmd => runRegs s k cmd (let f := Desc.form cmd.desc; lane2 (f.divRem true))) s)

/-- FADD (R76). -/
def execVFadd (k : CoreId) (s : State) : Out :=
  ok (vectorStep k 0x30 (fun s _ cmd => runRegs s k cmd (lane2 fadd)) s)

/-- FSUB (R76). -/
def execVFsub (k : CoreId) (s : State) : Out :=
  ok (vectorStep k 0x31 (fun s _ cmd => runRegs s k cmd (lane2 fsub)) s)

/-- FMUL (R76). -/
def execVFmul (k : CoreId) (s : State) : Out :=
  ok (vectorStep k 0x32 (fun s _ cmd => runRegs s k cmd (lane2 fmul)) s)

/-- FMA (R76): one rounding. -/
def execVFma (k : CoreId) (s : State) : Out :=
  ok (vectorStep k 0x33 (fun s _ cmd => runRegs s k cmd (lane3 ffma)) s)

/-- FMIN (R77). -/
def execVFmin (k : CoreId) (s : State) : Out :=
  ok (vectorStep k 0x34 (fun s _ cmd => runRegs s k cmd (lane2 (fun x y => plain (fmin x y)))) s)

/-- FMAX (R77). -/
def execVFmax (k : CoreId) (s : State) : Out :=
  ok (vectorStep k 0x35 (fun s _ cmd => runRegs s k cmd (lane2 (fun x y => plain (fmax x y)))) s)

/-- FNEG (R76). -/
def execVFneg (k : CoreId) (s : State) : Out :=
  ok (vectorStep k 0x36 (fun s _ cmd => runRegs s k cmd (lane1 fneg)) s)

/-- FABS (R76). -/
def execVFabs (k : CoreId) (s : State) : Out :=
  ok (vectorStep k 0x37 (fun s _ cmd => runRegs s k cmd (lane1 fabs)) s)

/-- FCMP (R77). -/
def execVFcmp (k : CoreId) (s : State) : Out :=
  ok (vectorStep k 0x38 (fun s _ cmd => runRegs s k cmd (lane2 (fun x y => plain (maskLane (fcmp (field cmd.desc 53 52) x y))))) s)

/-- CVTF (R78). -/
def execVCvtf (k : CoreId) (s : State) : Out :=
  ok (vectorStep k 0x39 (fun s _ cmd => runRegs s k cmd (lane1 (fun x => plain (cvtf x)))) s)

/-- The lanes of a CVTI: a clamp sets ISAT, a NaN gives 0 (R78). -/
def cvtiLanes (d : Desc) : List W32 → List W32 → List W32 → List W32 × ArithFlags :=
  lane1 (fun x => let r := cvti (bit d 51) x; (r.1, { isat := r.2.1 }))

/-- NaN lanes that a run of CVTI converts, the registers being converted in turn (R67, R78). -/
def cvtiNans (d : Desc) : Nat → Nat → Core → Nat
  | 0, _, _ => 0
  | fuel + 1, j, c =>
    let a := c.vreg (d.va + j)
    (a.filter (fun x => (val32 x).isNan)).length + cvtiNans d fuel (j + 1) (c.setVreg (d.vd + j) (cvtiLanes d a [] []).1)

/-- CVTI (R78): a clamp sets ISAT; a NaN gives 0, sets NANIN and adds to the NaN-input count. -/
def execVCvti (k : CoreId) (s : State) : Out :=
  ok (vectorStep k 0x3A (fun s _ cmd =>
    let d : Desc := cmd.desc
    (runRegs s k cmd (cvtiLanes d)).countConv k ⟨0, 0, cvtiNans d d.run 0 (s.core k), 0⟩) s)

/-- FDIV (R76). -/
def execVFdiv (k : CoreId) (s : State) : Out :=
  ok (vectorStep k 0x3B (fun s _ cmd => runRegs s k cmd (lane2 fdiv)) s)

/-- FSQRT (R76). -/
def execVFsqrt (k : CoreId) (s : State) : Out :=
  ok (vectorStep k 0x3C (fun s _ cmd => runRegs s k cmd (lane1 fsqrt)) s)

/-- RCP (R81). -/
def execVRcp (k : CoreId) (s : State) : Out :=
  ok (vectorStep k 0x40 (fun s _ cmd => runRegs s k cmd (lane1 (special xRcp))) s)

/-- RSQRT (R81). -/
def execVRsqrt (k : CoreId) (s : State) : Out :=
  ok (vectorStep k 0x41 (fun s _ cmd => runRegs s k cmd (lane1 (special xRsqrt))) s)

/-- EXP (R81). -/
def execVExp (k : CoreId) (s : State) : Out :=
  ok (vectorStep k 0x42 (fun s _ cmd => runRegs s k cmd (lane1 (special xExp))) s)

/-- EXP2 (R81). -/
def execVExp2 (k : CoreId) (s : State) : Out :=
  ok (vectorStep k 0x43 (fun s _ cmd => runRegs s k cmd (lane1 (special xExp2))) s)

/-- LOG (R81). -/
def execVLog (k : CoreId) (s : State) : Out :=
  ok (vectorStep k 0x44 (fun s _ cmd => runRegs s k cmd (lane1 (special xLog))) s)

/-- LOG2 (R81). -/
def execVLog2 (k : CoreId) (s : State) : Out :=
  ok (vectorStep k 0x45 (fun s _ cmd => runRegs s k cmd (lane1 (special xLog2))) s)

/-- SIN (R81). -/
def execVSin (k : CoreId) (s : State) : Out :=
  ok (vectorStep k 0x46 (fun s _ cmd => runRegs s k cmd (lane1 (special xSin))) s)

/-- COS (R81). -/
def execVCos (k : CoreId) (s : State) : Out :=
  ok (vectorStep k 0x47 (fun s _ cmd => runRegs s k cmd (lane1 (special xCos))) s)

/-- TANH (R81). -/
def execVTanh (k : CoreId) (s : State) : Out :=
  ok (vectorStep k 0x48 (fun s _ cmd => runRegs s k cmd (lane1 (special xTanh))) s)

/-- SIGM (R81). -/
def execVSigm (k : CoreId) (s : State) : Out :=
  ok (vectorStep k 0x49 (fun s _ cmd => runRegs s k cmd (lane1 (special xSigm))) s)

/-- ERF (R81). -/
def execVErf (k : CoreId) (s : State) : Out :=
  ok (vectorStep k 0x4a (fun s _ cmd => runRegs s k cmd (lane1 (special xErf))) s)

/-- RSUM (R80). -/
def execVRsum (k : CoreId) (s : State) : Out :=
  ok (vectorStep k 0x50 (fun s _ cmd => runRegs s k cmd (crossLane cmd.desc fadd (fun l => l.foldl (· + ·) 0))) s)

/-- RMAX (R80). -/
def execVRmax (k : CoreId) (s : State) : Out :=
  ok (vectorStep k 0x51 (fun s _ cmd => runRegs s k cmd (crossLane cmd.desc (fun x y => plain (fmax x y)) maxInt)) s)

/-- RMIN (R80). -/
def execVRmin (k : CoreId) (s : State) : Out :=
  ok (vectorStep k 0x52 (fun s _ cmd => runRegs s k cmd (crossLane cmd.desc (fun x y => plain (fmin x y)) minInt)) s)

/-! ## Loads and stores (R69, R70, R132) -/

/-- The FP32 scale of group g: lane g + o of the scale register. Beyond lane 255 no lane exists, and the scale is a free
value (log 9). -/
def scaleLane (s : State) (c : Core) (r o g : Nat) : W32 :=
  if g + o < 256 then (c.vreg r).getD (g + o) 0 else (Config.freeWord (s.draws + g)).extractLsb' 0 32

/-- A decoded element as a lane, with LDOVF for a scaled value beyond FP32 (R69). -/
def decodeLane (f sc zp code : Nat) (scale : W32) : W32 × ArithFlags :=
  if sc = 0 then
    (if fmtInt f then (match decodeElem f zp code with
      | .fin s n _ => plain (BitVec.ofInt 32 (signed s n))
      | _ => plain 0)
    else plain (round32 (decodeElem f zp code)))
  else
    let v := scaledElem f sc zp code (val32 scale)
    let b := round32 v
    (b, { ldovf := isInf32 b && !v.isInf })

/-- The zero point of a load or store: from the command, or lane 0 of VB (R70, R132). -/
def zeroPoint (c : Core) (d : Desc) : Nat :=
  if bit d 42 then ((c.vreg d.vb).getD 0 0).toNat % 256 else field d 50 43

/-- Draws a command may have used for scales that no lane holds. -/
def State.spendScales (s : State) : State := { s with draws := s.draws + 512 }

/-- VLD (R69). DESIGN CHOICE: where the destination run covers the command's own scale or zero-point register, every element is
scaled from the registers as they were before the command (log 103). -/
def runVld (s : State) (k : CoreId) (cmd : Cmd) : State :=
  let d : Desc := cmd.desc
  let c := s.core k
  let f := field d 37 34
  let sc := field d 33 32
  let g := groupSize (field d 31 30)
  let o := field d 58 51
  let zp := zeroPoint c d
  let codes := (unpackRows (fmtBits f) (s.rowsFrom k.val (field d 29 15) (vecRows f d.run))).take (256 * d.run)
  let res := gather ((codes.zipIdx).map (fun p =>
    if bit d 39 then plain (BitVec.ofNat 32 p.1)
    else decodeLane f sc zp p.1 (if sc = 0 then 0 else scaleLane s c d.va o (p.2 / g))))
  ((s.setCore k (c.setLanes d.vd 0 res.1)).stickArith k res.2).spendScales

/-- VLD (R69, R132): elements of local-store rows decoded into the lanes of a run of registers. -/
def execVld (k : CoreId) (s : State) : Out := ok (vectorStep k 0x01 (fun s _ cmd => runVld s k cmd) s)

/-- The exact value a store converts: the lane as S32 or FP32, divided by its group's scale (R26, R70). -/
def storeValue (d : Desc) (lane scale : W32) : XR :=
  let f := field d 37 34
  let sc := field d 33 32
  let v := if bit d 38 then val32 lane else XR.ofInt lane.toInt
  if sc = 0 then v else v.div ((impliedScale f sc).mul (val32 scale))

/-- VST (R70, R132): lanes converted with one rounding and written to local-store rows. -/
def runVst (s : State) (k : CoreId) (t : Tile) (cmd : Cmd) : State :=
  let d : Desc := cmd.desc
  let c := s.core k
  let f := field d 37 34
  let g := groupSize (field d 31 30)
  let o := field d 58 51
  let zp := zeroPoint c d
  let lanes := readRun 0 c.vregs (256 * d.vd) (256 * d.run)
  let param := paramOfVst cmd
  let seed := vstSeed s t
  let res := (lanes.zipIdx).map (fun p =>
    if bit d 39 then (p.1.toNat, ConvTally.zero)
    else convert f (bit d 40) zp (drawAt seed param p.2)
      (storeValue d p.1 (if field d 33 32 = 0 then 0 else scaleLane s c d.va o (p.2 / g))))
  let rows := packRows (fmtBits f) 0 (res.map (·.1))
  let s1 := s.countConv k (res.foldl (fun a r => a.add r.2) .zero)
  s1.spendScales.sendRows k 1 cmd t k.val (field d 29 15) rows
where
  /-- stream number and first index of the VPARAM before a stochastic store (R132) -/
  paramOfVst (cmd : Cmd) : Option (Nat × Nat) :=
    if bit cmd.desc 41 then cmd.before.map (fun b => (field b 63 48, field b 47 0)) else none
  /-- the job's rounding seed (R39) -/
  vstSeed (s : State) (t : Tile) : W64 := match s.job? t.job with
    | some j => j.seed
    | none => 0

/-- VST (R70, R132). -/
def execVst (k : CoreId) (s : State) : Out := ok (vectorStep k 0x02 (fun s t cmd => runVst s k t cmd) s)

/-- VPARAM (R132): supplies the parameters of the VST after it; it has no effect of its own. -/
def execVparam (k : CoreId) (s : State) : Out := ok (vectorStep k 0x03 (fun s _ _ => s) s)

/-! ## Absolute maximum and scale derivation (R87, R88) -/

/-- Largest, smallest and amax of FP32 values, −0 below +0; NaN everywhere with a NaN among them (R87). -/
def extremes (l : List W32) : W32 × W32 × W32 :=
  match l with
  | [] => (0, 0, 0)
  | a :: r => (r.foldl fmax (fmin a a), r.foldl fmin (fmin a a), l.foldl (fun m x => fmax m (fabs x).1) 0)

/-- An element as AMAX sees it: the FP32 value of R69. -/
def amaxLane (f sc zp code : Nat) (scale : W32) : W32 × ArithFlags :=
  if sc = 0 then plain (round32 (decodeElem f zp code)) else decodeLane f sc zp code scale

/-- AMAX (R87, R132). -/
def runAmax (s : State) (k : CoreId) (cmd : Cmd) : State :=
  let d : Desc := cmd.desc
  let c := s.core k
  let f := field d 37 34
  let sc := field d 33 32
  let g := groupSize (field d 31 30)
  let o := field d 53 46
  let codes := unpackRows (fmtBits f) (s.rowsFrom k.val (field d 29 15) (field d 14 0))
  let res := gather ((codes.zipIdx).map (fun p =>
    amaxLane f sc (field d 45 38) p.1 (if sc = 0 then 0 else scaleLane s c d.va o (p.2 / g))))
  let lane0 := fun (r : Nat) => (c.vreg r).getD 0 0
  let outs := if bit d 55 then
      let e := extremes res.1
      [if bit d 54 then (fmax e.1 (lane0 d.vd), fmin e.2.1 (lane0 (d.vd + 1)), fmax e.2.2 (lane0 (d.vd + 2))) else e]
    else (chunks256 g res.1.length res.1).map extremes
  let c1 := ((c.setLanes d.vd 0 (outs.map (·.1))).setLanes (d.vd + 1) 0 (outs.map (fun x => x.2.1))).setLanes (d.vd + 2) 0
    (outs.map (fun x => x.2.2))
  ((s.setCore k c1).stickArith k res.2).spendScales
where
  /-- consecutive groups -/
  chunks256 (n : Nat) : Nat → List W32 → List (List W32)
    | 0, _ => []
    | fuel + 1, l => if l.isEmpty then [] else l.take n :: chunks256 n fuel (l.drop n)

/-- AMAX (R87). -/
def execVAmax (k : CoreId) (s : State) : Out := ok (vectorStep k 0x58 (fun s _ cmd => runAmax s k cmd) s)

/-- DERIVE (R88). -/
def runDerive (s : State) (k : CoreId) (cmd : Cmd) : State :=
  let d : Desc := cmd.desc
  let c := s.core k
  let f := field d 60 57
  let mode := field d 63 62
  let amax := c.vreg (d.va + 2)
  let codes := if mode = 0 then amax.map (fun x => BitVec.ofNat 32 (deriveE8M0 f (bit d 61) (val32 x)))
    else if mode = 1 then List.replicate 256 (0 : W32)
    else [BitVec.ofNat 32 (deriveU8 (val32 ((c.vreg d.va).getD 0 0)) (val32 ((c.vreg (d.va + 1)).getD 0 0))).2]
  let vals := if mode = 0 then codes.map (fun x => round32 (decodeScale 1 x.toNat))
    else if mode = 1 then amax.map (fun x => round32 (decodeScale 2 (deriveBF16 f (val32 x))))
    else [round32 (decodeScale 2 (deriveU8 (val32 ((c.vreg d.va).getD 0 0)) (val32 ((c.vreg (d.va + 1)).getD 0 0))).1)]
  s.setCore k ((c.setLanes d.vd 0 codes).setLanes (d.vd + 1) 0 vals)

/-- DERIVE (R88). -/
def execVDerive (k : CoreId) (s : State) : Out := ok (vectorStep k 0x59 (fun s _ cmd => runDerive s k cmd) s)

end Sys2Proof.Machine
end

