-- ==== Sys2Proof/Machine/Window.lean ====
section
/-! DEFINITION. The window path: geometry, weight buffer, depthwise and grouped convolution, pooling (R83–R86, R132). -/

namespace Sys2Proof.Machine

/-- Kernel height of a geometry (R132). -/
def geomKh (g : W64) : Nat := field g 63 60
/-- Kernel width. -/
def geomKw (g : W64) : Nat := field g 59 56
/-- Input format. -/
def geomIn (g : W64) : Nat := field g 47 44
/-- Weight format. -/
def geomWt (g : W64) : Nat := field g 43 40

/-- Registers one position fills: 4, 2 or 1 (R83). -/
def windowRegs (g : W64) : Nat := perRow (fmtBits (geomIn g)) / 256

/-- The row of tap (ky, kx) of position j of a window command (R83). -/
def tapRow (g : W64) (d : Desc) (j ky kx : Nat) : Nat :=
  let y := field d 59 48 * (field g 55 54 + 1) + ky * (field g 51 50 + 1)
  let x := (field d 47 36 + j) * (field g 53 52 + 1) + kx * (field g 49 48 + 1)
  field d 29 15 + y * field g 29 15 + x * field g 14 11

/-- The taps of a geometry, ky before kx. -/
def taps (g : W64) : List (Nat × Nat) :=
  (List.range (geomKh g)).flatMap (fun ky => (List.range (geomKw g)).map (fun kx => (ky, kx)))

/-- Positions of a window command. -/
def windowPositions (d : Desc) : Nat := field d 63 60 + 1

/-- The input and weight formats are a pairing of R85; pooling has no weights, and needs an input of the table. -/
def windowPairing (code i w : Nat) : Bool :=
  let input := decide (i ≤ 2) || i == 4 || i == 5 || i == 9 || i == 10
  if code = 0x62 ∨ code = 0x63 then
    (i == 0 && w == 0) || ((i == 1 || i == 2) && decide (w < 2)) || ((i == 4 || i == 5) && (w == 4 || w == 5)) ||
    (i == 9 && w == 9) || (i == 10 && w == 10)
  else input

/-- Weight-buffer rows 0 to n − 1 have all been loaded (R84). -/
def weightsLoaded (c : Core) (n : Nat) : Bool := (List.range n).all (fun i => c.wrows.contains i)

/-- What a DW, GRP or pooling command meets when it begins, in the order of R127 (R83–R85, R132). -/
def windowCheck (s : State) (ctx : CtxId) (k : CoreId) (d : Desc) : Option (Nat × Nat) :=
  let c := s.core k
  let code := d.cmd
  match c.wgeom with
  | none => some (0x0B, 0)
  | some g =>
    let gi := field g 39 38
    let n := geomKh g * geomKw g * geomGi g
    let conv := code == 0x62 || code == 0x63
    let r02 := code == 0x63 && gi == 0
    let r0B := (code != 0x63 && gi != 0) || (conv && decide (128 < n)) || (conv && !weightsLoaded c n) ||
      !windowPairing code (geomIn g) (geomWt g) || decide (32 < d.vd + windowPositions d * windowRegs g)
    let rows := (List.range (windowPositions d)).flatMap (fun j => (taps g).map (fun t => (tapRow g d j t.1 t.2, 1)))
    firstReason r02 none false r0B (if r02 || r0B then none else badRow s ctx k.val rows)

/-- WGEOM (R132): the geometry of the window commands that follow, until the next WGEOM or the end of the tile. -/
def execVWgeom (k : CoreId) (s : State) : Out :=
  ok (vectorStep k 0x60 (fun s _ cmd => s.setCore k { s.core k with wgeom := some (cmd.desc.extractLsb' 0 64) }) s)

/-- WLOAD (R84): rows of the local store into the weight buffer. -/
def execVWload (k : CoreId) (s : State) : Out :=
  ok (vectorStep k 0x61 (fun s _ cmd =>
    let d : Desc := cmd.desc
    let c := s.core k
    let n := field d 63 57 + 1
    let b := field d 56 50
    s.setCore k { c with
      wbuf := writeRun 0 c.wbuf (512 * b) (s.rowsFrom k.val (field d 29 15) n)
      wrows := c.wrows ++ ((List.range n).map (b + ·)).filter (fun r => !c.wrows.contains r) }) s)

/-- Row r of the weight buffer. -/
def Core.wbufRow (c : Core) (r : Nat) : List Byte := readRun 0 c.wbuf (512 * r) 512

/-- The input elements of the taps of position j, tap by tap. -/
def tapInputs (s : State) (k : CoreId) (g : W64) (d : Desc) (j : Nat) : List (List XR) :=
  let f := geomIn g
  (taps g).map (fun t => ((rowElems (fmtBits f) (s.row k.val (tapRow g d j t.1 t.2))).map (decodeElem f (field g 37 30))))

/-- The lane that an exact integer or an ordered FP32 sum of products (weight, input) gives, with the flags of its FP32
operations: each product exact, each addition one rounding from +0 on (R76, R85; log 58). -/
def windowSum (f : Nat) (terms : List (XR × XR)) : W32 × ArithFlags :=
  if fmtInt f then
    (match XR.sum (terms.map (fun t => t.1.mul t.2)) with
     | .fin s n _ => plain (BitVec.ofInt 32 (signed s n))
     | _ => plain 0)
  else terms.foldl (fun a t =>
    let r := flagged [val32 a.1, t.1, t.2] ((val32 a.1).add (t.1.mul t.2))
    (r.1, a.2.or r.2)) (plain 0)

/-- Results of a convolution for position j, one lane a channel; gi is 1 for DW (R84, R85). -/
def convLanes (s : State) (k : CoreId) (g : W64) (d : Desc) (j : Nat) : List (W32 × ArithFlags) :=
  let f := geomIn g
  let wf := geomWt g
  let gi := geomGi g
  let ins := tapInputs s k g d j
  let c := s.core k
  let ws := (List.range (geomKh g * geomKw g * gi)).map (fun r => (rowElems (fmtBits wf) (c.wbufRow r)).map (decodeElem wf 0))
  (List.range (perRow (fmtBits f))).map (fun ch =>
    windowSum f ((ins.zipIdx).flatMap (fun t => (List.range gi).map (fun i =>
      ((ws.getD (t.2 * gi + i) []).getD ch .zero, t.1.getD (gi * (ch / gi) + i) .zero)))))

/-- Results of a pooling for position j (R84, R85). -/
def poolLanes (code : Nat) (s : State) (k : CoreId) (g : W64) (d : Desc) (j : Nat) : List (W32 × ArithFlags) :=
  let f := geomIn g
  let ins := tapInputs s k g d j
  (List.range (perRow (fmtBits f))).map (fun ch =>
    let vals := ins.map (fun t => t.getD ch .zero)
    if code = 0x66 then windowSum f (vals.map (fun v => (.ofInt 1, v)))
    else if fmtInt f then
      let ints := vals.map (fun v => match v with
        | .fin s n _ => signed s n
        | _ => 0)
      plain (BitVec.ofInt 32 (if code = 0x64 then maxInt ints else minInt ints))
    else match vals.map round32 with
      | [] => plain 0
      | a :: r => plain (r.foldl (if code = 0x64 then fmax else fmin) (fmax a a)))

/-- A window command writes the lanes of its positions, one after another, and raises their flags (R83, R96). -/
def runWindow (s : State) (k : CoreId) (cmd : Cmd) (lanes : W64 → Nat → List (W32 × ArithFlags)) : State :=
  let d : Desc := cmd.desc
  let c := s.core k
  match c.wgeom with
  | none => s
  | some g =>
    let r := gather ((List.range (windowPositions d)).flatMap (lanes g))
    (s.setCore k (c.setLanes d.vd 0 r.1)).stickArith k r.2

/-- DW (R84, R85). -/
def execVDw (k : CoreId) (s : State) : Out :=
  ok (vectorStep k 0x62 (fun s _ cmd => runWindow s k cmd (fun g j => convLanes s k g cmd.desc j)) s)

/-- GRP (R84, R85). -/
def execVGrp (k : CoreId) (s : State) : Out :=
  ok (vectorStep k 0x63 (fun s _ cmd => runWindow s k cmd (fun g j => convLanes s k g cmd.desc j)) s)

/-- MAXP (R84, R85). -/
def execVMaxp (k : CoreId) (s : State) : Out :=
  ok (vectorStep k 0x64 (fun s _ cmd => runWindow s k cmd (fun g j => poolLanes 0x64 s k g cmd.desc j)) s)

/-- MINP (R84, R85). -/
def execVMinp (k : CoreId) (s : State) : Out :=
  ok (vectorStep k 0x65 (fun s _ cmd => runWindow s k cmd (fun g j => poolLanes 0x65 s k g cmd.desc j)) s)

/-- SUMP (R84, R85). -/
def execVSump (k : CoreId) (s : State) : Out :=
  ok (vectorStep k 0x66 (fun s _ cmd => runWindow s k cmd (fun g j => poolLanes 0x66 s k g cmd.desc j)) s)

end Sys2Proof.Machine
end

