-- ==== Sys2Proof/Machine/QueueEvents.lean ====
section
/-! DEFINITION. Beginning and completing engine commands: token waits, begin checks, posts (R125, R127, R129, R133,
R135, R155–R158). -/

namespace Sys2Proof.Machine

/-- The Lift that runs a command of core k: a core Lift as its core, a cluster Lift as 8 + its cluster (R156, R201). -/
def liftOf (k : CoreId) (d : Desc) : Nat := if d.cmd != 4 && d.unit then 8 + k.val / 2 else k.val

/-- A command is active in its Lift (R155). -/
def Cmd.active (c : Cmd) : Bool := c.phase != .waiting && Desc.cmd c.desc != 4

/-- The Lodge's loads that a cluster's Lift has taken (R156; log 81). -/
def State.loadsIn (s : State) (c : ClusterId) : Nat :=
  s.models.countP (fun m => match m.residence with
    | .loading _ _ taken => taken.contains c
    | _ => false)

/-- Active commands of a Lift: those of the cores, and at a cluster's Lift the Lodge's loads (R155, R156). -/
def State.liftActive (s : State) (l : Nat) : Nat :=
  ((List.finRange 8).map (fun k =>
    (((s.core k).queue 2).filter (fun c => c.active && liftOf k c.desc == l)).length)).foldl (· + ·) 0 +
  (if l < 8 then 0 else s.loadsIn (liftCluster l))

/-- The head of the core's Lift queue is a command that its cluster's Lift could take (R156). -/
def forwardReady (c : Core) : Bool :=
  match (c.queue 2).find? (fun x => x.phase == .waiting) with
  | some x => Desc.cmd x.desc != 4 && Desc.unit x.desc && (takeTokens c 2 x.desc).isSome
  | none => false

/-- The core of the same cluster that is not k. -/
def otherCore (k : CoreId) : CoreId := if k.val % 2 = 0 then oddCore (clusterFin k) else evenCore (clusterFin k)

/-- A DETECT of the core has begun and not completed. -/
def detecting (c : Core) : Bool := (c.queue 3).any (fun x => x.phase != .waiting)

/-- The head of the core's post-processor queue could begin. -/
def detectReady (c : Core) : Bool :=
  match c.queue 3 with
  | [] => false
  | x :: _ => x.phase == .waiting && (takeTokens c 3 x.desc).isSome

/-- The post-processor takes the head of core k's queue: nothing runs, and it is k's turn or the other queue has no
command ready (R89). DESIGN CHOICE: a head that still waits for its tokens holds no turn (log 107). -/
def detectTurn (s : State) (k : CoreId) : Bool :=
  let odd := k.val % 2 == 1
  !detecting (s.core k) && !detecting (s.core (otherCore k)) &&
  (s.dppTurn[clusterFin k] == odd || !detectReady (s.core (otherCore k)))

/-- A load goes through a cluster's Lift: the model takes cores there (R208). -/
def loadsVia (ps : List Place) (c : ClusterId) : Bool := ps.any (fun p => p.cores.any (fun k => clusterOf k == c.val))

/-- The Lodge has a command for a cluster's Lift: a load that the Lift has not taken (R156, R208). -/
def State.lodgeReady (s : State) (c : ClusterId) : Bool :=
  s.models.any (fun m => match m.residence with
    | .loading ps _ taken => loadsVia ps c && !taken.contains c
    | _ => false)

/-- A source of a cluster's Lift has a command ready: 0 the even core, 1 the odd core, 2 the Lodge (R156). -/
def State.sourceReady (s : State) (c : ClusterId) (src : Fin 3) : Bool :=
  if src = 0 then forwardReady (s.core (evenCore c))
  else if src = 1 then forwardReady (s.core (oddCore c))
  else s.lodgeReady c

/-- A source's turn at a cluster's Lift has come: no source before it in the rotation has a command ready (R156). -/
def State.liftTurnOf (s : State) (c : ClusterId) (src : Fin 3) : Bool :=
  let turn := s.liftTurn[c]
  src == turn || (!s.sourceReady c turn && (src == turn + 1 || !s.sourceReady c (turn + 1)))

/-- The first load that waits for a cluster's Lift enters it. -/
def enterLoad (c : ClusterId) : List Model → List Model
  | [] => []
  | m :: r => match m.residence with
    | .loading ps began taken =>
      if loadsVia ps c && !taken.contains c then { m with residence := .loading ps began (c :: taken) } :: r else m :: enterLoad c r
    | _ => m :: enterLoad c r

/-- The cluster Lift takes a command of the Lodge where its turn has come and it has room among its 16 (R156; log 81). -/
def State.lodgeTakes (s : State) (c : ClusterId) : State :=
  if s.lodgeReady c && s.liftTurnOf c 2 && decide (s.liftActive (8 + c.val) < 16) then
    { s with models := enterLoad c s.models, liftTurn := s.liftTurn.set c 0 }
  else s

/-- The rotation's source that a core is at its cluster's Lift. -/
def liftSourceNo (k : CoreId) : Fin 3 := if k.val % 2 = 0 then 0 else 1

/-- A core's command for its cluster's Lift has its turn (R156). -/
def liftTakes (s : State) (k : CoreId) (cmd : Cmd) : Bool := !Desc.unit cmd.desc || s.liftTurnOf (clusterFin k) (liftSourceNo k)

/-- The engine can take the waiting command at a position, every earlier command of its queue having begun (R125): the check of
an MSTREAM against the stationary set needs the swaps before it to have happened, vector commands run in order (log 25), and a
Lift holds 16 active commands (R155). -/
def mayBegin (s : State) (k : CoreId) (q : QueueId) (n : Nat) (cmd : Cmd) : Bool :=
  let before := ((s.core k).queue q).take n
  if q = 0 then Desc.cmd cmd.desc != 1 || before.all (fun x => !(x.open && Desc.cmd x.desc == 3))
  else if q = 1 then before.all (fun x => !x.open)
  else if q = 2 then Desc.cmd cmd.desc == 4 || (decide (s.liftActive (liftOf k cmd.desc) < 16) && liftTakes s k cmd)
  else detectTurn s k

/-- An MSTREAM does not match the stationary set in use (R129). -/
def streamMismatch (c : Core) (d : Desc) : Bool :=
  match c.stationary with
  | none => true
  | some m => m.shape != d.shape || m.cls != d.cls || m.fmt != d.statFmt || m.grp != field d 75 74

/-- What an engine checks when a command begins (R127, R129, R132, R133). -/
def beginCheck (s : State) (k : CoreId) (t : Tile) (q : QueueId) (d : Desc) : Option (Nat × Nat) :=
  if q = 0 then (if d.cmd = 1 && streamMismatch (s.core k) d then some (0x0B, 0) else none)
  else if q = 1 then (if 0x62 ≤ d.cmd ∧ d.cmd ≤ 0x66 then windowCheck s t.ctx k d else none)
  else if q = 2 then none
  else detectCheck s t.ctx (clusterFin k) d

/-- The next turn of the post-processor goes to the other core, and that of the cluster Lift to the next source (R89, R156). -/
def passTurn (s : State) (k : CoreId) (q : QueueId) (d : Desc) : State :=
  if q = 3 then { s with dppTurn := s.dppTurn.set (clusterFin k) (k.val % 2 == 0) }
  else if q = 2 ∧ d.cmd ≠ 4 ∧ d.unit = true then { s with liftTurn := s.liftTurn.set (clusterFin k) (liftSourceNo k + 1) }
  else s

/-- The first waiting command of a queue takes its tokens and begins; a failed check halts
with the engine as source. The open chain ends where the command that has reached the head of the matrix queue ends it (R50). A
DETECT keeps the parameter row it read (R133). Where it is the Lodge's turn at the cluster Lift, its load goes first (R156). -/
def beginNext (k : CoreId) (q : QueueId) (s0 : State) : State :=
  let s := if q = 0 then chainEndIfDue s0 k else if q = 2 then s0.lodgeTakes (clusterFin k) else s0
  let c := s.core k
  match c.tile, firstIdx (fun x => x.phase == .waiting) (c.queue q) with
  | some t, some n =>
    match (c.queue q)[n]? with
    | none => s
    | some cmd =>
      if mayBegin s k q n cmd then
        match takeTokens c q cmd.desc with
        | none => s
        | some c1 =>
          match beginCheck s k t q cmd.desc with
          | some e => s.haltFor k q cmd e.1 e.2
          | none => passTurn ((s.setCore k c1).setCmd k q n (fun x => { x with
              phase := .begun, row := if q = 3 then s.detectRowOf k cmd.desc else [] })) k q cmd.desc
      else s
  | _, _ => s

/-- COMMAND_BEGIN (R125, R135). -/
def execCommandBegin (k : CoreId) (q : QueueId) (s : State) : Out := ok (s.engineEvent k (beginNext k q))

/-- A vector of the command is still owed, or an entry it delivers is still in the direct port (R125, R158). -/
def owes (c : Core) (q : QueueId) (cmd : Cmd) : Bool :=
  (q == 0 && (match c.chain with
    | some h => h.owed.any (fun o => o.seq == cmd.seq)
    | none => false)) ||
  (q == 2 && c.port.any (fun e => e.seq == cmd.seq))

/-- The n-th command of a queue, all its writes performed, leaves the queue and posts its tokens, or halts on an overflow or
underflow. -/
def completeNth (k : CoreId) (q : QueueId) (n : Nat) (s0 : State) : State :=
  let s := if q = 0 then chainEndIfDue s0 k else s0
  let c := s.core k
  match (c.queue q)[n]? with
  | none => s
  | some cmd =>
    if cmd.phase == .executed && !s.writesPending k q cmd.seq && !owes c q cmd then
      match postTokens c cmd.desc with
      | .error r => s.haltFor k q cmd r 0
      | .ok c1 =>
        let s1 := s.setCore k (c1.setQueue q (removeNth n (c1.queue q)))
        if q = 3 then s1.bump (Reg.dppImageCount (clusterFin k)) 1 else s1
    else s

/-- COMMAND_COMPLETE (R125, R135, R158). -/
def execCommandComplete (k : CoreId) (q : QueueId) (n : Nat) (s : State) : Out := ok (s.engineEvent k (completeNth k q n))

end Sys2Proof.Machine
end

