-- ==== Sys2Proof/Machine/Lift.lean ====
section
/-! DEFINITION. The twelve Lifts: copying, skewing, filling, addressing, prefetch fills, faults and resumption
(R155–R172). A Lift command reads its source in one step, then its writes go on their way or, for DRAM and host memory, are
performed (log 10); one to the direct port goes on as the port's buffer has room (R164). -/

namespace Sys2Proof.Machine

/-- Virtual addresses of the 64-byte requests that the runs of an LADDR give n bytes (R161). -/
def runAddrs (a : Desc) (n : Nat) : List Nat :=
  let run := laddrRun a
  let pitch := if field a 83 64 = 0 then run else 64 * field a 83 64
  (List.range (cdiv n 64)).map (fun i => field a 47 0 + 64 * i / run * pitch + 64 * i % run)

/-- The 64 bytes that a request at a translated address reads (R147, R158). -/
def State.unitAt (s : State) (t : Target) : List Byte :=
  match t with
  | .dev pa => s.rd pa 64
  | .host ba => s.hostRd ba 64
  | .row st r off => s.rd (rowAddr st r + off) 64

/-- A request to a virtual address would meet a frozen controller (R305). -/
def State.frozenFor (s : State) (ctx : CtxId) (va : Nat) : Bool := !s.noneFrozen && s.meetsFrozen ctx va

/-- Read the units at virtual addresses up to the first without a translation; `o` is the byte offset reached. -/
def State.readUnits (s : State) (ctx : CtxId) : List Nat → Nat → Fetched
  | [], _ => ⟨[], 0, none⟩
  | va :: r, o =>
    if s.frozenFor ctx va then ⟨[], 0, some (.frozen va)⟩
    else match s.xlt ctx va false with
    | .fault cause level => ⟨[], 0, some (.fault o va cause level)⟩
    | .ok t =>
      let f := s.readUnits ctx r (o + 64)
      ⟨s.unitAt t ++ f.bytes, f.reqs + 1, f.stop⟩

/-- Bytes of a packed source that lies in store rows: a row outside the store or the reservation halts (R127), and so does one
of the command's own destination (R157; log 110). -/
def packedRows (s : State) (ctx : CtxId) (d : Desc) (o n : Nat) : Fetched :=
  let first := field d 63 47 + o / 512
  let count := cdiv (o % 512 + n) 512
  if d.src == d.dst && overlaps first count (field d 46 30) (liftDstRows d) then ⟨[], 0, some (.halt 0x0B 0)⟩
  else match badRow s ctx d.src [(first, count)] with
  | some a => ⟨[], 0, some (.halt 0x07 a)⟩
  | none => ⟨s.rd (rowAddr d.src (field d 63 47) + o) n, 0, none⟩

/-- Bytes of a packed source at consecutive virtual addresses. -/
def packedVa (s : State) (ctx : CtxId) (va o n : Nat) : Fetched :=
  let f := s.readUnits ctx ((List.range (cdiv n 64)).map (fun i => va + o + 64 * i)) o
  { f with bytes := f.bytes.take n }

/-- A source of which the bytes read before are kept: those are not read again (R164, R171). -/
def keeping (got : List Byte) (get : Nat → Nat → Fetched) (o n : Nat) : Fetched :=
  if o + n ≤ got.length then ⟨(got.drop o).take n, 0, none⟩ else get o n

/-- Units of a plain source, behind those that are kept. -/
def State.readOn (s : State) (ctx : CtxId) (got : List Byte) (vas : List Nat) : LiftRead :=
  let f := s.readUnits ctx (vas.drop (got.length / 64)) got.length
  Fetched.plain { f with bytes := got ++ f.bytes }

/-- Rows a command takes from its source once decoded. -/
def plainRows (d : Desc) : Nat := if d.cmd = 1 then field d 29 13 else cdiv (field d 29 15 * skewDepth d) (skewSrcPerRow d)

/-- The plain bytes of the first `need` rows of a command's source (R162, R163, R165). -/
def liftSource (s : State) (ctx : CtxId) (cmd : Cmd) (need : Nat) : LiftRead :=
  let d : Desc := cmd.desc
  let a : Desc := cmd.before.getD 0
  let n := plainRows d
  let kept := cmd.got.length
  if d.cmd = 3 then .ended 0 none
  else if bit d 74 then
    (if d.src = 12 then decodeChunks (keeping cmd.got (packedVa s ctx (field a 47 0))) kept n 0 n need
     else decodeChunks (keeping cmd.got (packedRows s ctx d)) kept n 0 n need)
  else if d.src = 12 then s.readOn ctx cmd.got (runAddrs a (512 * need))
  else { LiftRead.ended 0 none with bytes := s.rowsFrom d.src (field d 63 47) need }

/-- What a source has given is counted at its Lift (R172; log 81). -/
def State.countRead (s : State) (l : Nat) (r : LiftRead) : State :=
  ((s.bump (Reg.lftReqCount l) r.reqs).bump (Reg.lftPkIn l) r.packed).bump (Reg.lftPkOut l) r.decoded

/-! ## Skewing (R163) -/

/-- The last n entries of a list. -/
def lastOf {α : Type} (n : Nat) (l : List α) : List α := l.drop (l.length - n)

/-- An element as the array holds it: 2 bytes in the 16-bit class (R163). -/
def skewElem (cl f zp code : Nat) : Nat :=
  if cl = 2 then
    match f with
    | 0 => wrapNat 16 (sext 4 code)
    | 1 => wrapNat 16 (sext 8 code)
    | 2 => wrapNat 16 ((code : Int) - zp)
    | _ => code
  else code

/-- The code outside the sequence: 0, or the zero point of a U8 stream (R163). -/
def edgeCode (d : Desc) : Nat := if field d 67 64 = 2 then field d 14 7 else 0

/-- The slices of a command: vectors kept from the sequence before, then its own; `v0` numbers its first vector (R163). -/
def skewedSlices (d : Desc) (kept vecs : List (List Nat)) (v0 : Nat) : List (List Nat) :=
  let depth := skewDepth d
  let cl := field d 69 68
  let f := field d 67 64
  let zp := field d 14 7
  let all := kept ++ vecs
  let base := v0 - kept.length
  (List.range (skewSlices d)).map (fun i => (List.range depth).map (fun k =>
    let t := v0 + i
    let code := if t < k + base then edgeCode d
      else match all[t - k - base]? with
        | some v => v.getD k 0
        | none => edgeCode d
    skewElem cl f zp code))

/-- The vectors of an LSKEW's source. -/
def skewVectors (d : Desc) (bytes : List Byte) : List (List Nat) :=
  let m := field d 29 15
  let depth := skewDepth d
  chunks depth m ((unpackRows (fmtBits (field d 67 64)) bytes).take (m * depth))

/-! ## Destinations -/

/-- 64-byte requests outstanding at a Lift: writes to store rows on their way (R155). Reads and writes of DRAM and host memory are
answered in the step that makes them (log 10). -/
def State.outstanding (s : State) (l : Nat) : Nat :=
  (s.writes.filter (fun w => w.part && (match w.owner with
    | some o => o.2.1 == 2 && ((s.core o.1).queue 2).any (fun c => c.seq == o.2.2 && liftOf o.1 c.desc == l)
    | none => false))).length

/-- The command's Lift holds its 4,096 outstanding requests (R155). -/
def State.liftFull (s : State) (k : CoreId) (seq : Nat) : Bool :=
  match ((s.core k).queue 2).find? (fun c => c.seq == seq) with
  | some c => decide (4096 ≤ s.outstanding (liftOf k c.desc))
  | none => false

/-- Write units at virtual addresses one after another: DRAM and host memory at once, store rows on their way; the state and the
offset reached, and the first request that waits, meets a frozen controller or has no translation (R147, R155, R158, R305, R331). -/
def writeUnits (k : CoreId) (t : Tile) (seq : Nat) : List (Nat × List Byte) → Nat → State → State × Nat × Option LiftStop
  | [], o, s => (s, o, none)
  | (va, bs) :: r, o, s =>
    if s.frozenFor t.ctx va then (s, o, some (.frozen va))
    else match s.xlt t.ctx va true with
    | .fault cause level => (s, o, some (.fault o va cause level))
    | .ok (.dev pa) => writeUnits k t seq r (o + 64) ((s.put pa bs).sign k va bs)
    | .ok (.host ba) => writeUnits k t seq r (o + 64) ((s.hostWr ba bs).sign k va bs)
    | .ok (.row st row off) =>
      if s.liftFull k seq then (s, o, some (.wait o))
      else writeUnits k t seq r (o + 64)
        { s with writes := s.writes ++ [⟨rowAddr st row, true, off, bs, some (t.tag k), some (k, 2, seq), true⟩] }

/-- How a Lift command ends its run: done, or waiting with what it has done so far, or at a frozen controller with a read or a
write, or stopped on a fault with the source bytes it keeps, or halted. -/
inductive LiftRun where
  | done (s : State)
  | wait (s : State)
  | frozen (s : State) (read : Bool) (va : Nat)
  | fault (s : State) (destination : Bool) (offset va cause level : Nat) (got : List Byte)
  | halt (s : State) (reason addr : Nat)

/-- The rows a command writes and, for the direct port, its entries. -/
structure LiftOut where
  rows : List (List Byte)
  entries : List PortData

/-- What a command makes of its source bytes (R162, R163, R164). -/
def liftOutput (c : Core) (cmd : Cmd) (bytes : List Byte) : LiftOut :=
  let d : Desc := cmd.desc
  if d.cmd = 1 then let rows := rowsOf bytes; ⟨rows, rows.map .row⟩
  else if d.cmd = 3 then
    ⟨List.replicate (field d 29 13) ((List.replicate 256 (leBytes 2 (field d 63 48))).flatten), []⟩
  else
    let sl := skewedSlices d c.skewTail[d.lane] (skewVectors d bytes) cmd.v0
    let b := streamBits (field d 69 68) (field d 67 64)
    ⟨packRows b (skewElem (field d 69 68) (field d 67 64) (field d 14 7) (edgeCode d)) sl.flatten,
     (sl.zipIdx).map (fun x => .slice x.1 (bit d 72 && x.2 + 1 == sl.length))⟩

/-- The vectors a sequence keeps for its next command (R163). -/
def keepVectors (c : Core) (cmd : Cmd) (bytes : List Byte) : Core :=
  let d : Desc := cmd.desc
  if d.cmd != 2 then c
  else
    let all := c.skewTail[d.lane] ++ skewVectors d bytes
    { c with skewTail := c.skewTail.set d.lane (if bit d 72 then [] else lastOf (skewDepth d - 1) all) }

/-! ## The direct port (R164) -/

/-- Bytes that an entry of a command takes of the port's buffer. -/
def entryBytes (d : Desc) : Nat :=
  if d.cmd = 1 then 512 else cdiv (skewDepth d * streamBits (field d 69 68) (field d 67 64)) 8

/-- Entries that a command delivers to the port in all. -/
def portEntries (d : Desc) : Nat := if d.cmd = 1 then field d 29 13 else skewSlices d

/-- Room in the port's buffer of 8 rows' worth (R164). -/
def Core.portRoom (c : Core) : Nat := 8 * 512 - (c.port.map (·.bytes)).sum

/-- Entries that a command may deliver now. -/
def portFit (c : Core) (cmd : Cmd) : Nat := min (c.portRoom / entryBytes cmd.desc) (portEntries cmd.desc - cmd.resumeAt)

/-- Rows of its source that a command needs for what it can deliver now. -/
def liftNeed (c : Core) (cmd : Cmd) : Nat :=
  let d : Desc := cmd.desc
  let n := cmd.resumeAt + portFit c cmd
  if d.dst != 13 then plainRows d
  else if d.cmd = 1 then min (plainRows d) n
  else min (plainRows d) (cdiv (n * skewDepth d) (skewSrcPerRow d))

/-- Deliver the next entries of the n-th command to the direct port. -/
def portDeliver (s : State) (k : CoreId) (n : Nat) (cmd : Cmd) (r : LiftRead) : LiftRun :=
  let c := s.core k
  let fit := portFit c cmd
  let next := ((liftOutput c cmd r.bytes).entries.drop cmd.resumeAt).take fit
  let c1 := { c with port := c.port ++ next.map (fun e => ⟨e, cmd.seq, entryBytes cmd.desc⟩) }
  if cmd.resumeAt + fit = portEntries cmd.desc then .done ((s.setCore k (keepVectors c1 cmd r.bytes)).markExecuted k 2 n)
  else .wait ((s.setCore k c1).setCmd k 2 n (fun x => { x with resumeAt := cmd.resumeAt + fit, got := r.raw }))

/-- Deliver what the n-th command makes to store rows, or to virtual addresses behind what it has written. -/
def rowsDeliver (s : State) (k : CoreId) (t : Tile) (n : Nat) (cmd : Cmd) (r : LiftRead) : LiftRun :=
  let d : Desc := cmd.desc
  let rows := (liftOutput (s.core k) cmd r.bytes).rows
  let finish := fun (s : State) => (s.setCore k (keepVectors (s.core k) cmd r.bytes)).markExecuted k 2 n
  if d.dst < 12 then .done (finish (s.sendRows k 2 cmd t d.dst (field d 46 30) rows))
  else
    let bytes := rows.flatten
    let units := List.zip (runAddrs (cmd.before.getD 0) bytes.length) (groupsOf 64 (bytes.length / 64) bytes)
    let w := writeUnits k t cmd.seq (units.drop (cmd.resumeAt / 64)) cmd.resumeAt s
    let s1 := w.1.bump (Reg.lftReqCount (liftOf k d)) ((w.2.1 - cmd.resumeAt) / 64)
    match w.2.2 with
    | none => .done (finish s1)
    | some (.fault o va cause level) => .fault s1 true o va cause level r.raw
    | some (.halt reason addr) => .halt s1 reason addr
    | some (.frozen va) => .frozen s1 false va
    | some (.wait o) => .wait (s1.setCmd k 2 n (fun x => { x with resumeAt := o, got := r.raw }))

/-- Run a Lift command of core k: n is its position in the queue. One to the direct port waits while the buffer has no room for
an entry. -/
def liftRun (s : State) (k : CoreId) (t : Tile) (n : Nat) (cmd : Cmd) : LiftRun :=
  let d : Desc := cmd.desc
  if d.dst == 13 && portFit (s.core k) cmd == 0 then .wait s
  else
    let r := liftSource s t.ctx cmd (liftNeed (s.core k) cmd)
    let s1 := s.countRead (liftOf k d) r
    match r.stop with
    | some (.halt reason addr) => .halt s1 reason addr
    | some (.fault o va cause level) => .fault s1 false o va cause level r.raw
    | some (.wait _) => .wait s1
    | some (.frozen va) => .frozen s1 true va
    | none => if d.dst = 13 then portDeliver s1 k n cmd r else rowsDeliver s1 k t n cmd r

/-- A fill halts its core (R167): a core that runs a tile halts where it is; one between tiles halts too, with no
instruction to name (log 26). -/
def haltFill (s : State) (k : CoreId) (reason addr : Nat) : State :=
  let free := fun (s : State) =>
    let s1 := s.writeHaltRegs k .lift reason 0 0 addr
    ((s1.setCore k { s1.core k with phase := .halted, haltGate := s.gate, haltKey := 0, halting := Vector.replicate 4 [] }).notify
      (clusterFin k) (.halt k)).1
  match (s.core k).phase with
  | .idle => free s
  | .recorded => free s
  | _ => s.halt k .lift reason 0 (s.core k).pc.toNat addr

/-- The error record of a refused fault (R202, R368). -/
def xltReport (s : State) (x : Stopped) : Report :=
  { mkReport s 0x02 2 (unitNo 0x02 x.lift) x.cause with
    ctx := x.ctx.val
    detail := BitVec.ofNat 32 (x.lift + x.level * 256)
    addr := x.va
    gate := x.gate
    firmware := true }

/-- A stopped command or fill is refused: its core halts with reason 0x07 and the faulting address (R171, R202). -/
def State.refuseStop (s : State) (x : Stopped) : State :=
  let s1 := (s.dropStopped (fun y => y == x)).report (xltReport s x)
  match x.work with
  | .fill k _ => haltFill s1 k 0x07 x.va.toNat
  | .command k _ => match ((s1.core k).queue 2).find? (fun c => c.seq == x.seq) with
    | some c => s1.haltFor k 2 c 0x07 x.va.toNat
    | none => s1

/-- Refuse the stopped work that a test names. -/
def State.refuseWhere (s : State) (p : Stopped → Bool) : State := (s.stopped.filter p).foldl State.refuseStop s

/-- The core whose work is stopped. -/
def Stopped.core (x : Stopped) : CoreId :=
  match x.work with
  | .command k _ => k
  | .fill k _ => k

/-- The seat of a stopped fill. -/
def Stopped.seat? (s : State) (x : Stopped) : Option Seat :=
  (s.core x.core).seats.find? (fun y => y.ctx == x.ctx && x.stage == some (y.model, y.stage))

/-- FAULT_WAIT of a fault's context, in ms, as it was at the last tile boundary of the core: with no tile there, it is at one
(R194). -/
def State.faultWaitOf (s : State) (x : Stopped) : Option Nat :=
  match (s.core x.core).tile with
  | none => (s.ctx? x.ctx).map (·.faultWait)
  | some t => match x.seat? s with
    | some y => some y.faultWait
    | none => if t.ctx = x.ctx then some t.faultWait else (s.ctx? x.ctx).map (·.faultWait)

/-- A fault of the context is refused at once: cause 3, or a FAULT_WAIT of 0 (R194, R200). -/
def State.refusesAtOnce (s : State) (x : Stopped) : Bool := x.cause == 3 || s.faultWaitOf x == some 0

/-- Record a stop: its fault registers are derived from the list, the fault is counted and numbered, and the Lodge is told
(R171, R201). A fault that is refused at once has been reported all the same. -/
def State.addStop (s : State) (x : Stopped) : State :=
  let s1 := { s with stopped := s.stopped ++ [x]
                     contexts := s.contexts.map (fun (c : Context) =>
                       if c.id = x.ctx then { c with faultSeq := c.faultSeq + 1, lastFault := some x } else c) }.inc
                         Reg.ldgXltFaultCount 32 1
  let s2 := (s1.notify (liftCluster x.lift) x.note).1
  if s2.refusesAtOnce x then s2.refuseStop x else s2

/-- A command stops on a fault. -/
def stopCommand (s : State) (k : CoreId) (t : Tile) (n : Nat) (cmd : Cmd) (dest : Bool) (o va cause level : Nat)
    (got : List Byte) : State :=
  (s.setCmd k 2 n (fun x => { x with phase := .stopped })).addStop
    ⟨liftOf k cmd.desc, .command k n, t.ctx, BitVec.ofNat 64 va, cause, level, cmd.seq, dest, o, s.gate, none, none, got⟩

/-- An earlier LSKEW of the same sequence, or an earlier command to the direct port, has yet to run (R163, R164; log 118). -/
def skewBlocked (c : Core) (n : Nat) (cmd : Cmd) : Bool :=
  ((c.queue 2).take n).any (fun x => x.phase != .executed &&
    ((Desc.cmd cmd.desc == 2 && Desc.cmd x.desc == 2 && Desc.lane x.desc == Desc.lane cmd.desc) ||
     (Desc.cmd x.desc != 4 && Desc.cmd cmd.desc != 4 && Desc.dst x.desc == 13 && Desc.dst cmd.desc == 13)))

/-- The begun n-th command of a core's Lift queue, when it has a code and may run. -/
def liftReady? (s : State) (k : CoreId) (n : Nat) (code : Option Nat) : Option (Tile × Cmd) :=
  let c := s.core k
  match c.tile, (c.queue 2)[n]? with
  | some t, some cmd =>
    if cmd.phase == .begun && (match code with
        | some x => Desc.cmd cmd.desc == x
        | none => Desc.cmd cmd.desc != 4) && !skewBlocked c n cmd then some (t, cmd) else none
  | _, _ => none

/-- Run the command, or stop or halt as it must; `met` ends the job of a tile whose request, a read or a write at a virtual
address, has met a frozen controller (R305). -/
def liftStep (met : Tile → Bool → Nat → State → State) (k : CoreId) (n : Nat) (code : Option Nat) (s : State) : State :=
  match liftReady? s k n code with
  | none => s
  | some (t, cmd) =>
    match liftRun s k t n cmd with
    | .done s1 => s1
    | .wait s1 => s1
    | .frozen s1 read va => met t read va s1
    | .halt s1 reason addr => s1.haltFor k 2 cmd reason addr
    | .fault s1 dest o va cause level got => stopCommand s1 k t n cmd dest o va cause level got

/-- LADDR (R161): describes the runs of the command after it; it has no effect of its own. -/
def execLaddr (k : CoreId) (n : Nat) (s : State) : Out :=
  match ((s.core k).queue 2)[n]? with
  | some cmd => ok (if cmd.phase == .begun && Desc.cmd cmd.desc == 4 then s.markExecuted k 2 n else s)
  | none => ok s

/-! ## Prefetch fills (R169–R171) -/

/-- Replace the n-th seat of a core. -/
def State.setSeat (s : State) (k : CoreId) (n : Nat) (f : Seat → Seat) : State :=
  let c := s.core k
  s.setCore k { c with seats := modifyNth f n c.seats }

/-- First row of a stream's slot in the core's local store (R169, R204). -/
def slotRow (s : State) (k : CoreId) (seat : Seat) (d : StreamDesc) (slot : Nat) : Option Nat :=
  match (s.model? seat.ctx seat.model).bind (fun m => m.places[seat.stage.val]?) with
  | some p => runRow p.runs k.val (d.slot0 + slot * d.rows)
  | none => none

/-- The fill of a stage's stream is stopped. -/
def fillStopped (s : State) (k : CoreId) (j : StreamNo) (x : Seat) : Bool :=
  s.stopped.any (fun y => y.ctx == x.ctx && y.stage == some (x.model, x.stage) && y.work == .fill k j)

/-- The bytes that a held index's stream read before its fill was stopped. -/
def Held.before (h : Held) (j : StreamNo) : List Byte :=
  match h.got.find? (fun g => g.1 == j.val) with
  | some g => g.2
  | none => []

/-- The Lodge has not stopped the streams of an index's job: a job that switches to its fall-back, or that has ended, fills no
further slot (R216). -/
def State.fills (s : State) (uid : W32) : Bool := s.jobs.any (fun j => j.uid == uid && j.state == .running)

/-- The first seat, held index and stream descriptor that stream j of a core has to fill. -/
def fillTarget (s : State) (k : CoreId) (j : StreamNo) : Option (Nat × Seat × Nat × Held × StreamDesc) :=
  (((s.core k).seats.zipIdx).filterMap (fun x =>
    match x.1.streams[j.val]? with
    | none => none
    | some d =>
      if fillStopped s k j x.1 then none
      else ((x.1.held.zipIdx).find? (fun h => !h.1.filled.contains j.val && s.fills h.1.job)).map (fun h => (x.2, x.1, h.2, h.1, d)))).head?

/-- A seat of the core holds the index that a stopped fill is for; a stopped command is no such fill. -/
def Stopped.wanted (s : State) (x : Stopped) : Bool :=
  match x.work with
  | .command _ _ => true
  | .fill _ _ => match x.seat? s with
    | some y => y.held.any (fun h => s.fills h.job && x.index == some (h.counter, h.index))
    | none => false

/-- Stopped fills of indices that are held no more, or whose streams the Lodge has stopped, are discarded (R186, R216). -/
def State.pruneFills (s : State) : State := s.dropStopped (fun x => !x.wanted s)

/-- Fill the next free slot of a stream, or stop it; `met` ends the job of a held index whose fill has met a frozen controller
(R170, R171, R305). -/
def runFill (met : W32 → CtxId → Nat → State → State) (s : State) (k : CoreId) (j : StreamNo) : State :=
  match fillTarget s k j with
  | none => s
  | some (i, seat, hn, h, d) =>
    let va := d.base + h.index * d.stride
    let units := (List.range (8 * d.rows)).map (fun u => va + 64 * u)
    let kept := h.before j
    let r := if d.pk then decodeChunks (keeping kept (packedVa s seat.ctx va)) kept.length d.rows 0 d.rows d.rows
      else s.readOn seat.ctx kept units
    let s0 := s.countRead k.val r
    match r.stop, slotRow s k seat d h.slot with
    | some (.halt reason addr), _ => haltFill s0 k reason addr
    | some (.fault o a cause level), _ =>
      s0.addStop ⟨k.val, .fill k j, seat.ctx, BitVec.ofNat 64 a, cause, level, j.val, false, o, s.gate,
        some (seat.model, seat.stage), some (h.counter, h.index), r.raw⟩
    | some (.wait _), _ => s
    | some (.frozen a), _ => met h.job seat.ctx a s0
    | none, none => s
    | none, some row =>
      let tag : Tag := ⟨seat.ctx, seat.model, seat.stage, k, h.epoch⟩
      let s1 := { s0 with writes := s0.writes ++ ((rowsOf r.bytes).zipIdx).map (fun (p : List Byte × Nat) =>
        (⟨rowAddr k.val (row + p.2), false, 0, p.1, some tag, none, false⟩ : RowWrite)) }
      s1.setSeat k i (fun x => { x with held := modifyNth (fun y => { y with filled := y.filled ++ [j.val] }) hn x.held })

/-- A fill of a stream with no frozen controller in its way. -/
def plainFill (s : State) (k : CoreId) (j : StreamNo) : State := runFill (fun _ _ _ s => s) s k j

/-- A fill would fault now: its context's fault sequence would rise. -/
def fillFaults (s : State) (k : CoreId) (j : StreamNo) : Bool := decide ((plainFill s k j).contexts ≠ s.contexts)

/-- LIFT_FAULT (R171): the command or fill finds no translation and stops with its saved position; work that finds all its
translations is no such event. A stopped device fills nothing (R387). -/
def execLiftFault (work : LiftWork) (s : State) : Out :=
  match work with
  | .fill k j => ok (if !s.off && fillFaults s k j then plainFill s k j else s)
  | .command k n =>
    match liftReady? s k n none with
    | none => ok s
    | some (t, cmd) =>
      match liftRun s k t n cmd with
      | .fault s1 dest o va cause level got => ok (stopCommand s1 k t n cmd dest o va cause level got)
      | _ => ok s

/-- A stopped piece of work may go on from its saved position (R171). -/
def State.resumeWork (s : State) (x : Stopped) : State :=
  match x.work with
  | .fill k j =>
    let c := s.core k
    let keep := fun (h : Held) => if h.filled.contains j.val || x.index != some (h.counter, h.index) then h
      else { h with got := (j.val, x.got) :: h.got.filter (fun g => g.1 != j.val) }
    s.setCore k { c with seats := c.seats.map (fun y => if y.ctx = x.ctx ∧ x.stage = some (y.model, y.stage) then
      { y with held := y.held.map keep } else y) }
  | .command k _ =>
    let c := s.core k
    s.setCore k (c.setQueue 2 ((c.queue 2).map (fun y =>
      if y.seq = x.seq ∧ y.phase = .stopped then { y with phase := .begun, got := x.got, resumeAt := if x.destination then x.offset else y.resumeAt }
      else y)))

/-- Resume the stopped work that a test names. -/
def State.resumeWhere (s : State) (p : Stopped → Bool) : State :=
  (s.stopped.filter p).foldl State.resumeWork (s.dropStopped p)

/-- LIFT_RESUME (R172): the Lodge writes RESUME; every stopped command and fill of the Lift that belongs to the context of
the earliest one goes on. A Lodge in reset writes nothing (R347). -/
def execLiftResume (l : LiftId) (s : State) : Out :=
  if s.lodge.inReset then ok s else
  match s.stopped.find? (fun x => x.lift == l.val) with
  | none => ok s
  | some f => ok (s.resumeWhere (fun x => x.ctx == f.ctx && x.lift == l.val))

end Sys2Proof.Machine
end

