-- ==== Sys2Proof/Machine/JobCtl.lean ====
section
/-! DEFINITION. Rink messages out, the end of a job, tile counters, completion of an index, and Synchro's comparison
(R177–R180, R186, R316, R323–R325, R330–R334). -/

namespace Sys2Proof.Machine

/-! ## Messages (R311, R312, R316) -/

/-- The link of a port is up (R309). -/
def State.linkUp (s : State) (n : Nat) : Bool := s.flag (Reg.rnkPortStatus n) 0

/-- This device's identifier (R315). -/
def State.devId (s : State) : Nat := s.fld Reg.rnkDev 27 16

/-- CLASS of a message's flit (R310, R311): exchange data are BULK, all else CTL, an abort too (log 37). -/
def RinkMsg.cls (m : RinkMsg) : Nat :=
  match m with
  | .exchange _ => 2
  | .completion _ => 1
  | .signature _ => 1
  | .arm _ => 1
  | .enumerate _ => 1
  | .takeover _ => 1
  | .tai _ => 1
  | .abort _ _ _ _ _ => 1

/-- Flits of a class that wait for their acknowledgement. -/
def Link.unacked (l : Link) (c : Nat) : Nat := l.retry.countP (fun x => x.2.cls == c)

/-- The messages that may go: of those of one source for one destination the oldest, whatever its class, since they arrive in the
order they were sent (R316; log 36). -/
def firstOfEach : List (Nat × BitVec 12 × RinkMsg) → List (Nat × BitVec 12 × RinkMsg)
  | [] => []
  | x :: r => x :: (firstOfEach r).filter (fun y => !(y.1 == x.1 && y.2.1 == x.2.1))

/-- A flit of a class may go and be granted: the retry buffer of 512 has room, and so has the credit of its class (R312, R313). -/
def Link.grantable (l : Link) (c : Nat) : Bool :=
  (firstOfEach l.waiting).any (fun x => x.2.2.cls == c) && decide (l.retry.length < 512) && decide (l.unacked c < l.credits.getD c 0)

/-- The class granted next: CTL before BULK, but at most one flit in 16 while BULK waits (R313). -/
def Link.nextClass (l : Link) : Option Nat :=
  if l.grantable 1 && (!l.grantable 2 || decide (15 ≤ l.bulkRun)) then some 1
  else if l.grantable 2 then some 2
  else none

/-- The source granted next in a class: they take turns (R313). -/
def Link.nextSource (l : Link) (c : Nat) : Nat :=
  (((List.range 5).map (fun i => (l.turns.getD c 4 + 1 + i) % 5)).find? (fun src =>
    (firstOfEach l.waiting).any (fun x => x.1 == src && x.2.2.cls == c))).getD 4

/-- One grant: the flit enters the retry buffer with the next sequence number (R312, R313). -/
def Link.grantOne (l : Link) : Link :=
  match l.nextClass with
  | none => l
  | some c =>
    let src := l.nextSource c
    match (firstOfEach l.waiting).find? (fun x => x.1 == src && x.2.2.cls == c) with
    | none => l
    | some x => { l with
      waiting := l.waiting.erase x, retry := l.retry ++ [x.2], nextSeq := l.nextSeq + 1
      turns := l.turns.set c src, bulkRun := if c = 1 then 0 else l.bulkRun + 1 }

/-- All the grants that a link can make now. -/
def Link.grantAll : Nat → Link → Link
  | 0, l => l
  | n + 1, l => l.grantOne.grantAll n

/-- Grants at a link (R313). -/
def Link.grant (l : Link) : Link := l.grantAll l.waiting.length

/-- A message of a source, another port or 4 for the device itself, waits at a port and goes when its turn comes (R313). -/
def State.sendVia (s : State) (n : RinkPort) (src : Nat) (dest : BitVec 12) (m : RinkMsg) : State :=
  let l := s.links[n]
  { s with links := s.links.set n ({ l with waiting := l.waiting ++ [(src, dest, m)] } : Link).grant }

/-- The device itself sends a message at a port. -/
def State.sendPort (s : State) (n : RinkPort) (dest : BitVec 12) (m : RinkMsg) : State := s.sendVia n 4 dest m

/-- A message of a source goes along the path to its destination; without one it is discarded and counted (R316). -/
def State.sendFrom (s : State) (src : Nat) (dest : BitVec 12) (m : RinkMsg) : State :=
  match s.rink.routes.find? (fun r => r.1 == dest) with
  | some r => if s.linkUp r.2.val then s.sendVia r.2 src dest m else s.inc Reg.rnkRouteDropCount 32 1
  | none => s.inc Reg.rnkRouteDropCount 32 1

/-- The device itself sends a message along the path to its destination (R316). -/
def State.sendTo (s : State) (dest : BitVec 12) (m : RinkMsg) : State := s.sendFrom 4 dest m

/-! ## Jobs -/

/-- Replace a job. -/
def State.setJob (s : State) (j : Job) : State := { s with jobs := s.jobs.map (fun x => if x.uid = j.uid then j else x) }

/-- Change a job. -/
def State.onJob (s : State) (uid : W32) (f : Job → Job) : State :=
  { s with jobs := s.jobs.map (fun x => if x.uid = uid then f x else x) }

/-- The model that a job runs now: its own, or the fall-back after a switch (R216). -/
def Job.running (j : Job) : ModelNo := if j.runsFallback then Fin.ofNat 16 j.fallback else j.model

/-- The image that a job runs. -/
def State.imageOf (s : State) (j : Job) : Option Image := (s.model? j.ctx j.running).bind (·.image)

/-- Counts of a tile join its job's (R38). -/
def State.addCounts (s : State) (t : Tile) : State :=
  s.onJob t.job (fun j => { j with conv := j.conv + t.conv, clip := j.clip + t.clip, nan := j.nan + t.nan })

/-- A tile is stopped before its END with no halt recorded: queued commands are dropped, and what is on its way to the
stores, the accesses of its control core with the FENCE marks between them included, is left to drain (R121, R186, R240, R325).
A core that has halted stays so, for its halt to be recorded (R115, R118). -/
def State.stopTile (s : State) (k : CoreId) : State :=
  if (s.core k).phase.active then
    let s1 := { s.dropStopped (fun x => x.isCommandOf k) with
      writes := s.writes.map (fun (w : RowWrite) => if w.ownedBy k then { w with owner := none, signs := false } else w) }
    s1.setCore k { s1.core k with queues := Vector.replicate 4 [], phase := .idle, tile := none }
  else s

/-- A core runs a tile of a job. -/
def State.runsTile (s : State) (uid : W32) (k : CoreId) : Bool :=
  match (s.core k).tile with
  | some t => t.job == uid
  | none => false

/-- Held indices of a job are discarded everywhere, and stopped fills of theirs. -/
def State.dropHeld (s : State) (uid : W32) : State :=
  ({ s with cores := s.cores.map (fun (c : Core) => { c with seats := c.seats.map (fun (x : Seat) =>
      { x with held := x.held.filter (fun h => h.job != uid) }) }) } : State).pruneFills

/-- The counters of a job are free again (R177). -/
def State.freeCounters (s : State) (uid : W32) : State :=
  { s with counters := s.counters.map (fun c => match c with
      | some x => if x.job = uid then none else some x
      | none => none) }

/-- The job is over here: it launches no further tile, and its running tiles reach END (R115, R202). A job that has ended keeps
its status. -/
def State.closeJob (s : State) (uid : W32) (status : Nat) : State :=
  (s.onJob uid (fun j => if j.state = .ended then j else { j with state := .ended, status := status })).dropHeld uid

/-- The tiles of a job are stopped at once (R186 step 2). -/
def State.stopTilesOf (s : State) (uid : W32) : State :=
  ((List.finRange 8).filter (s.runsTile uid)).foldl (fun s k => s.stopTile k) s

/-- Code of a cascade abort in its error record (R325, R368). -/
def abortCode (c : AbortCause) : Nat :=
  match c with
  | .notInMember => 1
  | .memberNotEnumerated => 2
  | .memberJobEnded => 3
  | .exchangeTranslation => 4
  | .messageDiscarded => 5
  | .laterJob => 6

/-- Every member of the cascade of a job's image. -/
def State.membersOf (s : State) (j : Job) : List Nat :=
  match s.imageOf j with
  | some im => (im.cascade.flatMap CascadeEntry.members).dedup
  | none => []

/-- The abort of a cascade job, by its key, goes to every other member (R325). -/
def State.tellMembers (s : State) (members : List Nat) (c : CtxId) (m : ModelNo) (n : W32) (cause : AbortCause) : State :=
  (members.filter (fun d => d != s.devId)).foldl (fun s d => s.sendTo (BitVec.ofNat 12 d) (.abort c m n cause false)) s

/-- The abort of a cascade job goes to every other member (R325). -/
def State.sendAbort (s : State) (j : Job) (cause : AbortCause) : State :=
  s.tellMembers (s.membersOf j) j.ctx j.model j.nModel cause

/-- The record and the count of a cascade job, by its key, whose cause this device detects (R325, R368). -/
def State.noteAbortOf (s : State) (c : CtxId) (m : ModelNo) (n : W32) (cause : AbortCause) : State :=
  (s.inc Reg.rnkCascadeAbortCount 32 1).report
    { mkReport s 0x0A 2 (unitNo 0x0B 0) (abortCode cause) with
      ctx := c.val, detail := BitVec.ofNat 32 (m.val + n.toNat % 2 ^ 28 * 16) }

/-- The same of a job here. -/
def State.noteAbort (s : State) (j : Job) (cause : AbortCause) : State := s.noteAbortOf j.ctx j.model j.nModel cause

/-- A cascade job ends here as every member ends it: STATUS 2, its tiles stopped at once (R186 step 2, R325). -/
def State.dropCascade (s : State) (uid : W32) : State := (s.closeJob uid 2).stopTilesOf uid

/-- A cascade job is aborted by this device, which tells every other member, counts it and records the cause (R325). -/
def State.abortCascade (s : State) (j : Job) (cause : AbortCause) : State :=
  ((s.sendAbort j cause).noteAbort j cause).dropCascade j.uid

/-- A member has heard of the abort of a cascade job: it ends the job, and counts it (R325). -/
def State.heardAbort (s : State) (uid : W32) : State := (s.inc Reg.rnkCascadeAbortCount 32 1).dropCascade uid

/-- A cascade job that has not been submitted here ends as soon as it is (R324, R325). -/
def State.keepAbort (s : State) (k : CtxId × ModelNo × W32) : State :=
  { s with rink := { s.rink with aborted := s.rink.aborted ++ [k] } }

/-- The end of a job here ends its cascade on every member (R325); any other job has nobody to tell. -/
def State.tellEnd (s : State) (uid : W32) : State :=
  match s.job? uid with
  | some j => if j.state = .ended ∨ (s.membersOf j).isEmpty then s
      else ((s.sendAbort j .memberJobEnded).noteAbort j .memberJobEnded).stopTilesOf uid
  | none => s

/-- The job ends with a status, and its running tiles reach END; a cascade ends on every member (R115, R202, R325). -/
def State.endJob (s : State) (uid : W32) (status : Nat) : State := (s.tellEnd uid).closeJob uid status

/-- The job is aborted: its tiles are stopped at once (R186 step 2, R325). -/
def State.abortJob (s : State) (uid : W32) : State := (s.endJob uid 2).stopTilesOf uid

/-- A job reaches a frozen controller at a virtual address: a read is discarded and counted there, and the job ends with status 2
(R305 step 4). -/
def State.metFrozen (s : State) (uid : W32) (c : CtxId) (read : Bool) (va : Nat) : State :=
  (match s.frozenMet c va with
   | some d => if read then s.inc (Reg.dmcFrzDiscardCount d.val) 32 1 else s
   | none => s).abortJob uid

/-- The same for the job of a tile. -/
def State.tileMetFrozen (t : Tile) (read : Bool) (va : Nat) (s : State) : State := s.metFrozen t.job t.ctx read va

/-- A job reaches a frozen controller with a read of a range, where it does. -/
def State.readMeets (s : State) (uid : W32) (c : CtxId) (va n : Nat) : Option State :=
  (s.frozenIn c va n).map (s.metFrozen uid c true)

/-! ## Synchro (R330–R334) -/

/-- A signature belongs to a job. -/
def sigOfJob (r : Signature) (j : Job) : Bool :=
  j.compared && r.ctx == j.ctx && r.model == j.model && r.job == j.nEnrol

/-- Same key, counter and index. -/
def sigSameKey (a b : Signature) : Bool :=
  a.ctx == b.ctx && a.model == b.model && a.job == b.job && a.counter == b.counter && a.index == b.index

/-- The key of a signature as SYN_FIRST_KEY holds it (R335). -/
def sigKey (r : Signature) : Nat :=
  r.ctx.val * 2 ^ 54 + r.model.val * 2 ^ 50 + r.job.toNat * 2 ^ 18 + r.counter.val * 2 ^ 14

/-- Latch a divergence where it is the first since DIVERGED was cleared, or the least in the order of R333. -/
def State.latchDivergence (s : State) (own peer : Signature) : State :=
  let old := (s.reg Reg.synFirstKey).toNat
  let first := !s.flag Reg.synStatus 0 || decide (sigKey own < old) ||
    (sigKey own == old && decide (own.index.toNat < (s.reg Reg.synFirstIndex).toNat))
  if first then
    (((s.setReg Reg.synFirstKey (BitVec.ofNat 64 (sigKey own))).setReg Reg.synFirstIndex own.index).setReg
      Reg.synFirstSigLocal own.sig).setReg Reg.synFirstSigPeer peer.sig
  else s

/-- The pair of error records of a divergence (R333, R368). -/
def divergenceReport (s : State) (own peer : Signature) : Report :=
  { mkReport s 0x0C 2 (unitNo 0x0B 0) 1 with
    ctx := own.ctx.val
    detail := BitVec.ofNat 32 (own.model.val + own.counter.val * 2 ^ 4 + own.job.toNat % 2 ^ 24 * 2 ^ 8)
    addr := own.index
    pair := some (peer.sig.extractLsb' 0 32, own.sig) }

/-- Change the compared job that a signature belongs to. -/
def State.onCompared (s : State) (r : Signature) (f : Job → Job) : State :=
  { s with jobs := s.jobs.map (fun j => if sigOfJob r j then f j else j) }

/-- A matched pair is compared (R332, R333). -/
def State.judge (s : State) (own peer : Signature) : State :=
  if own.slalom ≠ peer.slalom then
    (s.inc Reg.synSlalomSkewCount 32 1).onCompared own (fun j => { j with uncompared := true })
  else if own.sig = peer.sig then s.inc Reg.synMatchCount 64 1
  else
    let s1 := ((s.latchDivergence own peer).setFlag Reg.synStatus 0 true).inc Reg.synDivCount 32 1
    let s2 := (s1.report (divergenceReport s own peer)).onCompared own (fun j => { j with diverged := true })
    match s2.jobs.find? (sigOfJob own) with
    | some j => if s2.flag Reg.synCtrl 1 && j.state != .ended then s2.abortJob j.uid else s2
    | none => s2

/-- Keys pending in both stores (R332). -/
def State.pendingKeys (s : State) : Nat := s.rink.pendingOwn.length + s.rink.pendingPeer.length

/-- An own signature is compared with the partner's, or kept, or, with the store full, lost (R332). -/
def State.ownSignature (s : State) (r : Signature) : State :=
  let s1 := s.sendTo (BitVec.ofNat 12 (s.fld Reg.synCtrl 27 16)) (.signature r)
  match s1.rink.pendingPeer.find? (sigSameKey r) with
  | some p => { s1 with rink := { s1.rink with pendingPeer := s1.rink.pendingPeer.erase p } }.judge r p
  | none =>
    if s1.pendingKeys < 8192 then { s1 with rink := { s1.rink with pendingOwn := s1.rink.pendingOwn ++ [r] } }
    else (((s1.setFlag Reg.synStatus 1 true).inc Reg.synUnmatchedCount 32 1).onCompared r
      (fun j => { j with uncompared := true }))

/-! ## Tile counters (R177–R180, R323) -/

/-- The counter in a physical place. -/
def State.counter? (s : State) (p : CounterId) : Option Counter := s.counters[p]

/-- Replace a physical counter. -/
def State.setCounter (s : State) (p : CounterId) (c : Option Counter) : State := { s with counters := s.counters.set p c }

/-- The counter that a job has bound under a number. -/
def State.jobCounter (s : State) (j : Job) (n : Nat) : Option Counter :=
  match j.bindings.find? (fun b => b.1 == n) with
  | some b => s.counters[(Fin.ofNat 64 b.2 : CounterId)]
  | none => none

/-- The segment that governs an index (R178). -/
def Counter.segment? (c : Counter) (i : Nat) : Option Segment := (c.segs.filter (fun g => decide (g.first ≤ i))).getLast?

/-- need(i) of a segment, with its source's LIMIT (R178). -/
def Segment.need (g : Segment) (limit i : Nat) : Nat := min limit (g.need0 + cdiv ((i - g.first) * g.num) g.den)

/-- Index i of a counter of a job is released (R178). -/
def State.released (s : State) (j : Job) (c : Counter) (i : Nat) : Bool :=
  match c.segment? i with
  | none => true
  | some g => match s.jobCounter j g.src with
    | some x => decide (g.need x.limit i ≤ x.doneLow)
    | none => false

/-- Every other member has completed an index and its exchanges have been performed (R323). -/
def Counter.othersDone (c : Counter) (self i : Nat) : Bool :=
  (c.members.zipIdx).all (fun m => m.1 == self || c.remote.contains (m.2, i))

/-- DONE_LOW after what is known (R180, R323): it rises past every index complete on all members. -/
def Counter.advance (self : Nat) : Nat → Counter → Counter
  | 0, c => c
  | fuel + 1, c =>
    if c.doneLow < c.limit && c.done.contains c.doneLow && c.othersDone self c.doneLow then
      Counter.advance self fuel { c with
        done := c.done.filter (fun i => i != c.doneLow), remote := c.remote.filter (fun r => r.2 != c.doneLow)
        doneLow := c.doneLow + 1 }
    else c

/-- DONE_LOW of a counter is brought up to date. -/
def Counter.settle (self : Nat) (c : Counter) : Counter := c.advance self (c.done.length + 1)

/-- This device's position among the members of a cascade counter. -/
def Counter.position (c : Counter) (self : Nat) : Option Nat := c.members.findIdx? (fun m => m == self)

/-- Pieces of at most 224 bytes with their addresses: exchange data flits (R311). -/
def exchangePieces (va : Nat) : Nat → List Byte → List (Nat × List Byte)
  | 0, _ => []
  | fuel + 1, bs => if bs = [] then [] else (va, bs.take 224) :: exchangePieces (va + 224) fuel (bs.drop 224)

/-- One exchange of a completed index: read here, sent to every receiving member; none where the read finds no
translation (R323). -/
def State.sendExchange (s : State) (j : Job) (e : CascadeEntry) (pos index : Nat) (x : Exchange) : Option State :=
  if x.srcMask.getLsbD pos then
    match s.readVa j.ctx (x.sbase + index * x.sstride) x.bytes with
    | .error _ => none
    | .ok bs =>
      some ((e.members.zipIdx).foldl (fun s m =>
        if m.2 ≠ pos ∧ x.dstMask.getLsbD m.2 then
          (exchangePieces (x.dbase + index * x.dstride + pos * x.bytes) bs.length bs).foldl (fun s p =>
            s.sendTo (BitVec.ofNat 12 m.1) (.exchange ⟨BitVec.ofNat 12 s.devId, j.ctx, j.model, j.nModel, BitVec.ofNat 64 p.1, p.2⟩)) s
        else s) s)
  else some s

/-- The cascade entry of a job's counter. -/
def State.cascadeOf (s : State) (j : Job) (n : Nat) : Option CascadeEntry :=
  (s.imageOf j).bind (fun im => im.cascade.find? (fun e => e.counter == n))

/-- A path leads to a device. -/
def State.reaches (s : State) (m : Nat) : Bool := s.rink.routes.any (fun r => r.1.toNat == m && s.linkUp r.2.val)

/-- The exchanges of a completed index meet a frozen controller with a read (R305). -/
def State.exchangesMeet (s : State) (j : Job) (e : CascadeEntry) (pos index : Nat) : Option State :=
  e.exchanges.findSome? (fun x => if x.srcMask.getLsbD pos then s.readMeets j.uid j.ctx (x.sbase + index * x.sstride) x.bytes else none)

/-- A cascade index completes here: its exchanges, then a completion update to every other member; a message that finds no
path aborts the job, and so does a read that meets a frozen controller (R305, R323, R325). -/
def State.sendCompletion (s : State) (j : Job) (n index : Nat) : State :=
  match s.cascadeOf j n with
  | none => s
  | some e =>
    match e.members.findIdx? (fun m => m == s.devId) with
    | none => s
    | some pos => (s.exchangesMeet j e pos index).getD <|
      match e.exchanges.foldl (fun (a : Option State) x => a.bind (fun s => s.sendExchange j e pos index x)) (some s) with
      | none => s.abortCascade j .exchangeTranslation
      | some s1 =>
        let others := e.members.filter (fun m => m != s.devId)
        let s2 := others.foldl (fun s m =>
          s.sendTo (BitVec.ofNat 12 m) (.completion ⟨BitVec.ofNat 12 s.devId, pos, j.ctx, j.model, j.nModel, Fin.ofNat 16 n, BitVec.ofNat 32 index⟩)) s1
        if others.all s.reaches then s2 else s2.abortCascade j .messageDiscarded

/-- The Slalom state of a job for a signature record (R332). -/
def Job.slalomState (j : Job) : Option (Fin 16 × W32) :=
  j.switched.map (fun g => (Fin.ofNat 16 g.1, BitVec.ofNat 32 g.2))

/-- An index is complete (R180): the counter's DONE_LOW follows; a cascade counter's members are told; a compared job's
signature is sent and compared. -/
def State.completeIndex (s : State) (p : CounterId) (index : Nat) (sig : W64) : State :=
  match s.counter? p with
  | none => s
  | some c =>
    let c1 := ({ c with outstanding := c.outstanding.erase index, done := c.done ++ [index] } : Counter).settle s.devId
    let s1 := s.setCounter p (some c1)
    match s1.job? c.job with
    | none => s1
    | some j =>
      let s2 := if c.members.isEmpty then s1 else s1.sendCompletion j c.number index
      if j.compared && s2.flag Reg.synCtrl 0 then
        s2.ownSignature ⟨j.ctx, j.model, j.nEnrol, Fin.ofNat 16 c.number, BitVec.ofNat 64 index, sig, j.slalomState⟩
      else s2

/-- The launchers and streams of the stages of a job that launch from a counter of a number claim again (R179). -/
def State.restartStage (s : State) (uid : W32) (number : Nat) : State :=
  match s.job? uid with
  | none => s
  | some j =>
    let launches := fun (st : StageNo) => match (s.imageOf j).bind (fun im => im.stages[st.val]?) with
      | some g => g.launch == number
      | none => false
    { s with cores := s.cores.map (fun (c : Core) => { c with seats := c.seats.map (fun (y : Seat) =>
        if y.ctx = j.ctx ∧ y.model = j.running ∧ launches y.stage = true then { y with launcherStopped := false } else y) }) }

/-- Indices are given back to their counter's return list; a counter that was exhausted is so no longer, and the launchers and
streams of its stage's cores go on (R179, R186). -/
def State.returnIndices (s : State) (hs : List (Nat × Nat)) : State :=
  hs.foldl (fun s h =>
    let p : CounterId := Fin.ofNat 64 h.1
    match s.counter? p with
    | some c =>
      let s1 := (s.setCounter p (some { c with outstanding := c.outstanding.erase h.2, returns := c.returns ++ [h.2] })).bump
        Reg.pstTcReturnCount 1
      if c.returns.isEmpty && decide (c.limit ≤ c.next) then s1.restartStage c.job c.number else s1
    | none => s) s

end Sys2Proof.Machine
end

