-- ==== Sys2Proof/Machine/Records.lean ====
section
/-! DEFINITION. Completion records, and the end of a job or of a standing job's frame towards the host (R14–R16, R38, R234–R236,
R239). -/

namespace Sys2Proof.Machine

/-- The clipped share of a job (R38). -/
def clippedShare (conv clip : Nat) : Nat := if conv = 0 then 0 else min (clip * 65536 / conv) 65535

/-- The 64 bytes of a completion record (R236). -/
def recordBytes (first : W64) (status flags reason source core pc : Nat) (launch done : W64) (conv clip nan : Nat)
    (gateCounter gateIndex : Nat) : List Byte :=
  leBytes 8 first.toNat ++ leBytes 1 status ++ leBytes 1 flags ++ leBytes 1 reason ++ leBytes 1 (source % 8 * 16 + core % 8) ++
  leBytes 4 pc ++ leBytes 8 launch.toNat ++ leBytes 8 done.toNat ++ leBytes 8 conv ++ leBytes 8 clip ++ leBytes 8 nan ++
  leBytes 2 (clippedShare conv clip) ++ leBytes 1 gateCounter ++ leBytes 1 0 ++ leBytes 4 gateIndex

/-- A record that cannot be written is counted (R235); the fault is none of those that LDG_XLT_FAULT_COUNT counts (R218; log 134). -/
def State.putRecord (s : State) (c : CtxId) (va : Nat) (bs : List Byte) : State :=
  match s.writeVa c va bs with
  | .ok s1 => s1
  | .error _ => s.inc Reg.hifRecordDropCount 32 1

/-- A completion record has been produced for a context: its count rises and its status block follows (R239). -/
def State.countRecord (s : State) (c : CtxId) : State :=
  match s.ctx? c with
  | some x => (s.setCtx { x with jobsDone := x.jobsDone + 1 }).writeCtx c
  | none => s

/-- The job has a deadline, and the gate count has passed it (R214, R216). -/
def State.missed (s : State) (j : Job) : Bool := j.deadline != 0 && j.absolute && decide (j.deadline.toNat < s.gate.toNat)

/-- FLAGS of a job's record (R236). -/
def State.recordFlags (s : State) (j : Job) : Nat :=
  j.switched.isSome.toNat + 2 * (s.missed j).toNat + 4 * j.strict.toNat + 8 * j.parkedDuring.toNat + 16 * j.diverged.toNat +
  32 * j.uncompared.toNat

/-- First field of a job's record: FVALUE, or the frame's number (R236). -/
def Job.label (j : Job) : W64 :=
  match j.standing with
  | some d => d.2.1
  | none => j.fvalue

/-- A job that never launched carries its completion gate count as its launch gate count (R236). -/
def State.launchStamp (s : State) (j : Job) : W64 := if j.bindings.isEmpty then s.gate else j.launch

/-- The record of a job with a status. -/
def State.jobRecord (s : State) (j : Job) (status : Nat) : List Byte :=
  let g := match j.switched with
    | some x => x
    | none => (0xFF, 0)
  recordBytes j.label status (s.recordFlags j) j.haltReason j.haltSource j.haltCore j.haltPc (s.launchStamp j) s.gate
    j.conv j.clip j.nan g.1 g.2

/-! ## Standing jobs (R14, R16) -/

/-- The binding of a destination. -/
def State.bound (s : State) (d : DestId) : Option Standing := s.standing[d]

/-- Replace a binding. -/
def State.setBound (s : State) (d : DestId) (x : Option Standing) : State := { s with standing := s.standing.set d x }

/-- A context's binding of a destination: the current one, or one that the context's destruction has withdrawn (R240). -/
def State.bindingOf (s : State) (c : CtxId) (d : DestId) : Option Standing :=
  let gone := (s.withdrawn.find? (fun w => w.1 == d && w.2.ctx == c)).map (·.2)
  match s.bound d with
  | some x => if x.ctx = c then some x else gone
  | none => gone

/-- Replace a context's binding of a destination where it is. -/
def State.setBinding (s : State) (d : DestId) (x : Standing) : State :=
  let gone := { s with withdrawn := s.withdrawn.map (fun w => if w.1 = d ∧ w.2.ctx = x.ctx then (d, x) else w) }
  match s.bound d with
  | some y => if y.ctx = x.ctx then s.setBound d (some x) else gone
  | none => gone

/-- The highest frame number up to which every frame is over, from the frames over beyond it (R16). -/
def finishUp : Nat → W64 → List W64 → W64 × List W64
  | 0, low, l => (low, l)
  | n + 1, low, l => if l.contains (low + 1) then finishUp n (low + 1) (l.erase (low + 1)) else (low, l)

/-- A record has to wait for a frozen controller, on the way to its place or there (R305, R376). -/
def State.recordWaits (s : State) (c : CtxId) (va : Nat) : Bool := !s.noneFrozen && s.meetsFrozen c va

/-- A frame of a binding is over: the binding's fence rises to the highest number below which every frame is over (R16). -/
def State.frameOver (s : State) (c : CtxId) (d : DestId) (n : W64) : State :=
  match s.bindingOf c d with
  | none => s
  | some x =>
    let l := x.finished ++ [n]
    let r := finishUp l.length x.finishedLow l
    let s1 := s.setBinding d { x with finishedLow := r.1, finished := r.2 }
    if r.1 = x.finishedLow then s1
    else match x.fence with
      | some f => s1.raise f r.1
      | none => s1

/-- Where the record of a frame lies (R236). -/
def Standing.recordAt (x : Standing) (n : W64) : Nat := x.record.toNat + n.toNat % 2 ^ x.recLog2 * 64

/-- What follows a record: the fence of its command, and the end of its frame (R16, R234, R236). -/
def State.afterRecord (s : State) (h : HeldWrite) : State :=
  let s1 := match h.work with
    | some w => s.workDone w
    | none => s
  match h.frame with
  | some x => s1.frameOver h.ctx x.1 x.2
  | none => s1

/-- A record is written, or waits for a frozen controller, and what follows it waits with it (R235, R236, R305). -/
def State.startRecord (s : State) (h : HeldWrite) : State :=
  if s.recordWaits h.ctx h.va then { s with heldWrites := s.heldWrites ++ [h] } else s.putRecord h.ctx h.va h.bytes

/-- A write that has waited for a frozen controller is made, or waits on for another (R305, R306). -/
def State.releaseWrite (s : State) (h : HeldWrite) : State :=
  match h.fence with
  | none => if s.recordWaits h.ctx h.va then { s with heldWrites := s.heldWrites ++ [h] }
      else (s.putRecord h.ctx h.va h.bytes).afterRecord h
  | some i => match s.fence? i with
    | some f => s.putFence f (BitVec.ofNat 64 (leAt h.bytes 0 8))
    | none => s

/-- The writes that wait are tried again, oldest first (R306). -/
def State.releaseWrites (s : State) : State := s.heldWrites.foldl State.releaseWrite { s with heldWrites := [] }

/-- Frame n of a binding is skipped: a record with status 3 and no counts, and the frame is over (R14, R236). -/
def State.skipFrame (s : State) (c : CtxId) (d : DestId) (n : W64) : State :=
  match s.bindingOf c d with
  | none => s
  | some x =>
    let h : HeldWrite := ⟨c, x.recordAt n, recordBytes n 3 (4 * x.strict.toNat) 0 0 0 0 s.gate s.gate 0 0 0 0xFF 0, none, none,
      some (d, n)⟩
    let s1 := (s.startRecord h).countRecord c
    if s.recordWaits c h.va then s1 else s1.afterRecord h

/-- The next frame of a binding takes its number, and a slot where one is given (R232, R270). -/
def State.takeNumber (s : State) (d : DestId) (x : Standing) (slot : Option Nat) : State :=
  s.setBound d (some { x with
    seqNo := x.seqNo + 1
    held := match slot with
      | some k => setBit x.held k true
      | none => x.held
    lastSlot := slot.getD x.lastSlot })

/-- A context is being destroyed (R240). -/
def State.ctxEnds (s : State) (c : CtxId) : Bool := (s.ctx? c).any (fun x => x.destroying)

/-- The next frame of a binding is skipped (R14). -/
def State.skipBound (s : State) (d : DestId) : State :=
  match s.bound d with
  | none => s
  | some x => (s.takeNumber d x none).skipFrame x.ctx d (x.seqNo + 1)

/-- A frame's slot is free again (R271). -/
def State.freeSlot (s : State) (c : CtxId) (d : DestId) (slot : Nat) : State :=
  match s.bindingOf c d with
  | some x => s.setBinding d { x with held := setBit x.held slot false, slotJobs := x.slotJobs.filter (fun p => p.1 != slot) }
  | none => s

/-- The slot of a completed job is free again, where the job still holds it: one released early may be another frame's by now
(R271). -/
def State.freeJobSlot (s : State) (j : Job) (d : DestId) (slot : Nat) : State :=
  match s.bindingOf j.ctx d with
  | some x => if x.slotJobs.contains (slot, j.uid) then s.freeSlot j.ctx d slot else s
  | none => s

/-! ## The end of a job -/

/-- Where a job's record lies. -/
def State.recordAddr (s : State) (j : Job) : Nat :=
  match j.standing with
  | some d => match s.bindingOf j.ctx d.1 with
    | some x => x.recordAt d.2.1
    | none => j.record.toNat
  | none => j.record.toNat

/-- A job that completed late is counted and logged (R218, R350). -/
def State.noteMissed (s : State) (j : Job) : State :=
  if s.missed j then
    (s.inc Reg.ldgSlalomMissCount 32 1).logEntry 4 1 2 [BitVec.ofNat 64 j.ctx.val, j.number.zeroExtend 64]
  else s

/-- The record of a job that is over, and what follows it. -/
def State.lastWrite (s : State) (j : Job) (status : Nat) : HeldWrite :=
  ⟨j.ctx, s.recordAddr j, s.jobRecord j status, none, j.work, j.standing.map (fun d => (d.1, d.2.1))⟩

/-- The job is over: its record, the context's count, its counters and slot freed, and then its fence (R15, R16, R177, R234, R236). -/
def State.finishJob (s : State) (j : Job) (status : Nat) : State :=
  let h := s.lastWrite j status
  let s1 := ((s.startRecord h).noteMissed j).countRecord j.ctx
  let s2 := (s1.dropHeld j.uid).freeCounters j.uid
  let s3 := { s2 with
    jobs := s2.jobs.filter (fun x => x.uid != j.uid)
    models := s2.models.map (fun (m : Model) => if m.ctx = j.ctx ∧ m.number = j.running then { m with lastDone := s.gate } else m) }
  let s4 := match j.standing with
    | some d => s3.freeJobSlot j d.1 d.2.2
    | none => s3
  if s.recordWaits h.ctx h.va then s4 else s4.afterRecord h

/-- A job of a context by its number. -/
def State.findJob (s : State) (c : CtxId) (n : W32) : Option Job := s.jobs.find? (fun j => j.ctx == c && j.number == n)

/-- Jobs of a model, whatever it is they run. -/
def State.jobsOf (s : State) (c : CtxId) (m : ModelNo) : List Job :=
  s.jobs.filter (fun j => j.ctx == c && (j.model == m || j.running == m))

end Sys2Proof.Machine
end

