-- ==== Sys2Proof/Machine/Tiles.lean ====
section
/-! DEFINITION. Claims, launches and ends of tiles, row writes arriving, hung and halted cores, pre-emption and
abandonment (R99, R108, R115, R141, R150–R154, R170, R174, R178–R188, R209). -/

namespace Sys2Proof.Machine

/-! ## Claims (R178, R179) -/

/-- What a counter answers a claim. -/
inductive Served where
  | index (i : Nat) (c : Counter)
  | wait
  | exhausted

/-- Serve one claim at a counter of a job (R179). -/
def State.serve (s : State) (j : Job) (c : Counter) : Served :=
  let take := fun (i : Nat) (c : Counter) =>
    if c.outstanding.length < 4096 then Served.index i { c with outstanding := c.outstanding ++ [i] } else .wait
  match c.returns with
  | a :: r => let i := r.foldl min a; take i { c with returns := c.returns.erase i }
  | [] =>
    if c.next < c.limit then
      (if s.released j c c.next then take c.next { c with next := c.next + 1 } else .wait)
    else .exhausted

/-- Rank of a waiting claim: ascending core number, a launcher or stream before the control core (R179). -/
def Claimer.rank : Claimer → Nat
  | .launcher k _ => 2 * k.val
  | .control k => 2 * k.val + 1

/-- The claim that a counter serves next (R179). -/
def Counter.nextClaim (c : Counter) : Option Claimer :=
  match c.waiting with
  | [] => none
  | a :: r => if c.blocked then some a else some (r.foldl (fun m x => if x.rank < m.rank then x else m) a)

/-- A core's control core waits in CLAIM on a counter. -/
def waitsOn (c : Core) (p : CounterId) : Option (BitVec 5 × BitVec 3) :=
  match c.phase with
  | .waitClaim q d pr => if q = p then some (d, pr) else none
  | _ => none

/-- The seat of a stage on a core. -/
def Core.seatIdx (c : Core) (ctx : CtxId) (m : ModelNo) (st : StageNo) : Option Nat :=
  c.seats.findIdx? (fun x => x.ctx == ctx && x.model == m && x.stage == st)

/-- Slots of a seat's streams: DEPTH + 1, or 1 without streams (R170). -/
def Seat.slots (x : Seat) : Nat :=
  match x.streams with
  | [] => 1
  | d :: _ => d.depth + 1

/-- A seat holds a further index (R170, R184). -/
def Seat.hold (x : Seat) (uid : W32) (p index : Nat) : Seat :=
  { x with held := x.held ++ [⟨uid, p, index, x.epoch, x.claims % x.slots, [], []⟩], claims := x.claims + 1 }

/-- A tile of another stage runs on the core. -/
def Core.runsOther (c : Core) (x : Seat) : Bool :=
  match c.tile with
  | some t => !(t.ctx == x.ctx && t.model == x.model && t.stage == x.stage)
  | none => false

/-- A seat that holds indices while another stage's tile has the core is kept off it from now on (R209). -/
def Seat.keptOff (x : Seat) (c : Core) (now : W64) : Seat :=
  if !x.held.isEmpty && c.runsOther x && x.keptSince.isNone then { x with keptSince := some now } else x

/-- The control core receives what its CLAIM gives (R114). -/
def State.giveControl (s : State) (k : CoreId) (d : BitVec 5) (pr : BitVec 3) (v : W64) (got : Bool) : State :=
  (s.setCore k (((s.core k).setG d v).setP pr.toNat got)).resume k

/-- An index goes to a claimer. -/
def State.giveIndex (s : State) (j : Job) (p : CounterId) (who : Claimer) (i : Nat) : State :=
  match who with
  | .control k =>
    match waitsOn (s.core k) p with
    | some (d, pr) =>
      let c := s.core k
      let s1 := s.setCore k { c with tile := c.tile.map (fun t => { t with claimed := t.claimed ++ [(p.val, i)] }) }
      s1.giveControl k d pr (BitVec.ofNat 64 i) true
    | none => s
  | .launcher k st =>
    match (s.core k).seatIdx j.ctx j.running st with
    | some n => s.setSeat k n (fun x => (x.hold j.uid p.val i).keptOff (s.core k) s.gate)
    | none => s

/-- A context launches tiles: neither parked nor being destroyed, on a device that has not stopped (R387). -/
def State.ctxRuns (s : State) (c : CtxId) : Bool :=
  !s.off && match s.ctx? c with
  | some x => !x.parked && !x.destroying
  | none => false

/-- A seat launches and claims nothing: the Lodge has stopped its launcher, or its stage is to be made resident again (R184,
R186). -/
def Seat.halts (x : Seat) : Bool := x.launcherStopped || x.restart

/-- A claimer still wants what it claimed: a launcher of a job that switches has been stopped (R216). -/
def State.claims (s : State) (j : Job) (p : CounterId) (who : Claimer) : Bool :=
  match who with
  | .control k => (waitsOn (s.core k) p).isSome
  | .launcher k st => s.ctxRuns j.ctx && j.state == .running && (s.core k).seats.any (fun x => x.ctx == j.ctx &&
      x.model == j.running && x.stage == st && !x.halts && decide (x.held.length < x.slots))

/-- CLAIM_SERVED (R179): the unit serves one claim that waits at a counter: the lowest returned index, or NEXT when it is
released, or word that the counter is exhausted; else the claim begins to wait and holds back the others. -/
def execClaimServed (p : CounterId) (s : State) : Out :=
  match s.counter? p with
  | none => ok s
  | some c =>
    match c.nextClaim, s.job? c.job with
    | some who, some j =>
      let rest := fun (c : Counter) => { c with waiting := c.waiting.erase who, blocked := false }
      if s.claims j p who then
        match s.serve j c with
        | .index i c1 => ok (((s.setCounter p (some (rest c1))).giveIndex j p who i).bump Reg.pstTcClaimCount 1)
        | .wait => ok (s.setCounter p (some { c with waiting := who :: c.waiting.erase who, blocked := true }))
        | .exhausted =>
          let s1 := s.setCounter p (some (rest c))
          match who with
          | .control k => match waitsOn (s.core k) p with
            | some (d, pr) => ok (s1.giveControl k d pr (BitVec.allOnes 64) false)
            | none => ok s1
          | .launcher _ _ => ok s1
      else ok (s.setCounter p (some (rest c)))
    | _, _ => ok s

/-! ## Jobs and stages that may run -/

/-- The stage's entry in the image that a job runs. -/
def State.stageOf (s : State) (j : Job) (st : StageNo) : Option Stage := (s.imageOf j).bind (fun im => im.stages[st.val]?)

/-- The counter a stage of a job launches from, with its physical place. -/
def State.launchCounter (s : State) (j : Job) (st : StageNo) : Option (CounterId × Counter) :=
  match s.stageOf j st with
  | some g => match j.bound? g.launch with
    | some p => (s.counter? p).map (fun c => (p, c))
    | none => none
  | none => none

/-- A stage of a job is complete (R180). -/
def State.stageDone (s : State) (j : Job) (st : StageNo) : Bool :=
  match s.launchCounter j st with
  | some x => x.2.doneLow == x.2.limit
  | none => false

/-- Jobs of a model that have launched, oldest first. -/
def State.launched (s : State) (ctx : CtxId) (m : ModelNo) : List Job :=
  s.jobs.filter (fun j => j.ctx == ctx && j.running == m && (j.state == .running || j.state == .switching))

/-- The jobs of a model before a given one. -/
def before (uid : W32) : List Job → List Job
  | [] => []
  | j :: r => if j.uid = uid then [] else j :: before uid r

/-- A tile of a stage of a job may launch: the job runs, the stage is at or after its entry stage, and every earlier job of
the model has completed the stage (R209, R216). -/
def State.mayRun (s : State) (j : Job) (st : StageNo) : Bool :=
  j.state == .running && decide (j.entryStage ≤ st.val) &&
  (before j.uid (s.launched j.ctx j.running)).all (fun e => s.stageDone e st)

/-! ## Prefetch claims (R170) -/

/-- The first job of a seat's model whose counter for the stage still has indices. DESIGN CHOICE: the stage's counter is its LAUNCH
counter; a stream descriptor whose COUNTER names another, which the specification checks only against NCOUNTER, claims from it too
(R169, R170; log 123). -/
def State.claimable (s : State) (x : Seat) : Option (Job × CounterId) :=
  ((s.launched x.ctx x.model).filterMap (fun j => match s.launchCounter j x.stage with
    | some (p, c) => if j.state == .running && decide (j.entryStage ≤ x.stage.val) &&
        (!c.returns.isEmpty || decide (c.next < c.limit)) then some (j, p) else none
    | none => none)).head?

/-- A claim of the seat's launcher already waits at a counter. -/
def State.claimWaits (s : State) (k : CoreId) (st : StageNo) (p : CounterId) : Bool :=
  match s.counter? p with
  | some c => c.waiting.contains (.launcher k st)
  | none => false

/-- STREAM_CLAIM (R170): a stage with prefetch streams that holds fewer than DEPTH + 1 indices claims the next one. -/
def execStreamClaim (k : CoreId) (s : State) : Out :=
  let cands := (s.core k).seats.filterMap (fun x =>
    if x.streams.isEmpty || x.halts || decide (x.slots ≤ x.held.length) || !s.ctxRuns x.ctx then none
    else match s.claimable x with
      | some (_, p) => if s.claimWaits k x.stage p then none else some (p, x.stage)
      | none => none)
  match cands.head? with
  | some (p, st) => ok (s.addClaim p (.launcher k st))
  | none => ok s

/-! ## Launching (R99, R118, R174, R209) -/

/-- What a core would launch from a seat: the job, its counter and index, the slot, and the counter after the claim when
the launcher claims it now. -/
structure Launch where
  seat : Nat
  job : Job
  p : CounterId
  index : Nat
  slot : Nat
  claimed : Option Counter

/-- A write is on its way into rows of a store. -/
def State.writingRows (s : State) (st row n : Nat) : Bool :=
  s.writes.any (fun w => decide (rowAddr st row ≤ w.row) && decide (w.row < rowAddr st (row + n)))

/-- Every stream has filled its slot for a held index, and the rows are performed (R170). -/
def State.slotFull (s : State) (k : CoreId) (x : Seat) (h : Held) : Bool :=
  (x.streams.zipIdx).all (fun d => h.filled.contains d.2 && (match slotRow s k x d.1 h.slot with
    | some row => !s.writingRows k.val row d.1.rows
    | none => false))

/-- The held index that a seat launches next: the first of those claimed for a job whose turn at the stage it is (R170, R209). -/
def State.nextHeld (s : State) (x : Seat) : Option (Held × Job) :=
  (x.held.filterMap (fun h => (s.job? h.job).bind (fun j => if s.mayRun j x.stage then some (h, j) else none))).head?

/-- What a seat can launch now. -/
def State.seatLaunch (s : State) (k : CoreId) (n : Nat) (x : Seat) : Option Launch :=
  if x.halts || !s.ctxRuns x.ctx then none
  else if !x.held.isEmpty then (s.nextHeld x).bind (fun a =>
    if s.slotFull k x a.1 then some ⟨n, a.2, Fin.ofNat 64 a.1.counter, a.1.index, a.1.slot, none⟩ else none)
  else if !x.streams.isEmpty then none
  else ((s.launched x.ctx x.model).filterMap (fun j =>
    if s.mayRun j x.stage then
      (match s.launchCounter j x.stage with
       | some (p, c) => if c.waiting.isEmpty then
           (match s.serve j c with
            | .index i c1 => some ⟨n, j, p, i, 0, some c1⟩
            | _ => none)
         else none
       | none => none)
    else none)).head?

/-- Priority of a context. -/
def State.priority (s : State) (c : CtxId) : Nat :=
  match s.ctx? c with
  | some x => x.priority.toNat
  | none => 0

/-- The launch a core makes: highest priority, then the stage that launched least recently on it (R209). DESIGN CHOICE: of stages
that have never launched there the first in the core's list of seats goes first (log 124). -/
def State.pickLaunch (s : State) (k : CoreId) : Option (Launch × Seat) :=
  let l := ((s.core k).seats.zipIdx).filterMap (fun x => (s.seatLaunch k x.2 x.1).map (fun a => (a, x.1)))
  match l with
  | [] => none
  | a :: r => some (r.foldl (fun m x =>
      let pm := s.priority m.2.ctx
      let px := s.priority x.2.ctx
      if pm < px || (pm == px && x.2.lastLaunch < m.2.lastLaunch) then x else m) a)

/-- A core as a tile launches into it (R99, R124, R137, R174): everything a tile holds is at its launch value; the stores
and seats stay. -/
def launchCore (c : Core) (t : Tile) (entry arg : Nat) : Core :=
  { Core.reset with
    g := ((Core.reset.g.set 1 t.index).set 2 (BitVec.ofNat 64 arg)).set 3 (t.epoch.zeroExtend 64)
    pc := BitVec.ofNat 18 entry
    istore := c.istore, dstore := c.dstore, seats := c.seats, phase := .running, tile := some t
    matrixActivity := c.matrixActivity, vectorActivity := c.vectorActivity }

/-- The halt registers and the charges return to their reset values (R118, R140). -/
def State.clearCoreRegs (s : State) (k : CoreId) : State :=
  ((((s.setReg (Reg.ccHaltStatus k) 0).setReg (Reg.ccHaltDetail k) 0).setReg (Reg.ccHaltPc k) 0).setReg
    (Reg.ccHaltAddr k) 0).setReg (Reg.ccTileCharge k) 0

/-- Launches so far on a core, for the order of R209. -/
def lastLaunchOf (c : Core) : Nat := (c.seats.map (·.lastLaunch)).foldl max 0

/-- The job's copy of ARGS enters the start of argument block b of a stage on a core (R211). -/
def putArgs (c : Core) (x : Seat) (g : Stage) (j : Job) (b : Nat) : Core :=
  { c with dstore := writeRun 0 c.dstore (x.dbase * 4096 + g.argBlk + b * g.argStride) j.argData }

/-- ARGWORD of argument block 0 receives the first row of the job's frame slot (R212, R270). -/
def putSlotRow (c : Core) (x : Seat) (g : Stage) (im : Image) (j : Job) : Core :=
  match j.slotRow, im.input with
  | some r, some e => { c with dstore := writeRun 0 c.dstore (x.dbase * 4096 + g.argBlk + e.argWord) (leBytes 4 r) }
  | _, _ => c

/-- The block a tile is about to be given holds its own job's arguments, those of another job that last used it being replaced,
and block 0 the row of its own job's frame slot (R209, R212). -/
def State.ownArgs (s : State) (k : CoreId) (l : Launch) (g : Stage) : State :=
  let c := s.core k
  match c.seats[l.seat]?, s.imageOf l.job with
  | some x, some im =>
    if x.argOwner.contains (l.slot, l.job.uid) then s.setCore k (putSlotRow c x g im l.job)
    else (s.setCore k (putSlotRow (putArgs c x g l.job l.slot) x g im l.job)).setSeat k l.seat (fun y =>
      { y with argOwner := (l.slot, l.job.uid) :: y.argOwner.filter (fun o => o.1 != l.slot) })
  | _, _ => s

/-- Attributes of a context that act from a tile boundary on (R194). -/
def State.attrsOf (s : State) (c : CtxId) : Nat × Nat × Bool :=
  match s.ctx? c with
  | some x => (x.abandon, x.faultWait, x.autonomous)
  | none => (0, 0, false)

/-- A launch on a core: the launching seat is kept off no longer, the others that hold indices are from now on (R209); the other
seats' launchers, where the Lodge had stopped them to give the core away, go on (R186; log 109); and the attributes of every
context take effect (R194). -/
def State.seatsAfterLaunch (s : State) (k : CoreId) (n : Nat) : State :=
  let c := s.core k
  s.setCore k { c with seats := (c.seats.zipIdx).map (fun p =>
    let x := if p.2 = n then { p.1 with lastLaunch := lastLaunchOf c + 1, keptSince := none }
      else { p.1.keptOff c s.gate with launcherStopped := false }
    { x with abandon := (s.attrsOf x.ctx).1, faultWait := (s.attrsOf x.ctx).2.1 }) }

/-- Carry out a launch. -/
def State.launch (s : State) (k : CoreId) (l : Launch) (x : Seat) : State :=
  match s.stageOf l.job x.stage with
  | none => s
  | some g =>
    let s1 := match l.claimed with
      | some c => ((s.setCounter l.p (some c)).setSeat k l.seat (fun y => y.hold l.job.uid l.p.val l.index)).bump
          Reg.pstTcClaimCount 1
      | none => s
    let c := (s1.ownArgs k l g).core k
    let t : Tile := ⟨x.ctx, x.model, x.stage, l.job.uid, l.p.val, BitVec.ofNat 64 l.index, x.epoch, l.job.strict,
      x.ibase, x.ipart, x.dbase, x.dpart, (s.attrsOf x.ctx).1, (s.attrsOf x.ctx).2.1, (s.attrsOf x.ctx).2.2, [], 0, 0, 0, 0, 0⟩
    let s2 := (s1.ownArgs k l g).setCore k (launchCore c t g.entry (g.argBlk + l.slot * g.argStride))
    (s2.seatsAfterLaunch k l.seat).clearCoreRegs k

/-- A core can take a tile: it has none, and what it halted with has been recorded. -/
def Phase.free : Phase → Bool
  | .idle | .recorded => true
  | _ => false

/-- The core can take a tile, and no access that a stopped tile issued is still to be performed (R121). -/
def Core.free (c : Core) : Bool := c.phase.free && c.accesses.isEmpty

/-- The counter at which a launcher without streams has to wait: that of the first job that may run, where its next index is not
released or another claim waits there (R179). -/
def State.launcherWait (s : State) (k : CoreId) (x : Seat) : Option CounterId :=
  if !x.streams.isEmpty || !x.held.isEmpty || x.restart || !s.ctxRuns x.ctx then none
  else ((s.launched x.ctx x.model).filterMap (fun j =>
    if s.mayRun j x.stage then
      (match s.launchCounter j x.stage with
       | some (p, c) => if !c.returns.isEmpty || decide (c.next < c.limit) then some p else none
       | none => none)
    else none)).head?.bind (fun p => if s.claimWaits k x.stage p then none else some p)

/-- With nothing to launch, the core's launchers put their claims at the counters they wait for (R179); one that the Lodge had
stopped first goes on (log 109). -/
def State.queueLaunchers (s : State) (k : CoreId) : State :=
  let c := s.core k
  let s1 := s.setCore k { c with seats := c.seats.map (fun (x : Seat) => { x with launcherStopped := false }) }
  (s1.core k).seats.foldl (fun s x => match s.launcherWait k x with
    | some p => s.addClaim p (.launcher k x.stage)
    | none => s) s1

/-- TILE_LAUNCH (R209): at a tile boundary a core launches the next tile of the resident stage of highest priority with a
released index held or claimable. The Lodge has taken what the core told it at the END before (R364; log 125). -/
def execTileLaunch (k : CoreId) (s0 : State) : Out :=
  let s := (s0.takeNote (clusterFin k) (.ended k)).takeNote (clusterFin k) (.gate k)
  if (s0.core k).free && !s0.lodge.inReset then
    match s.pickLaunch k with
    | some (l, x) => ok (s.launch k l x)
    | none => ok (s.queueLaunchers k)
  else ok s0

/-! ## Ends of tiles -/

/-- END's waits are over (R108): no command, access or write of the core is left. -/
def tileOver (s : State) (k : CoreId) : Bool :=
  let c := s.core k
  c.queues.toList.all List.isEmpty && c.accesses.isEmpty && !s.writes.any (fun w => w.ownedBy k)

/-- A held index leaves the seat of a tile. -/
def State.dropTileIndex (s : State) (k : CoreId) (t : Tile) : State :=
  match (s.core k).seatIdx t.ctx t.model t.stage with
  | some n => s.setSeat k n (fun x => { x with held := x.held.eraseP (fun h =>
      h.job == t.job && h.counter == t.counter && BitVec.ofNat 64 h.index == t.index) })
  | none => s

/-- Tokens left at END (R137). -/
def State.clearResidue (s : State) (k : CoreId) : State :=
  if (s.core k).tokens.toList.all (· == 0) then s
  else ((s.setCore k { s.core k with tokens := Vector.replicate 32 0 }).stick (Reg.ccTokenStatus k) 1).bump
    (Reg.ccTokenResidueCount k) 1

/-- A Slalom gate candidate is marked (R108, R215). -/
def State.markGate (s : State) (t : Tile) (gate : Bool) : State :=
  if gate then
    match s.counter? (Fin.ofNat 64 t.counter) with
    | some c => s.onJob t.job (fun j => { j with marks := j.marks ++ [(c.number, t.index.toNat)] })
    | none => s
  else s

/-- The Lodge is told of an END, and of the gate candidate that it marks (R364). -/
def State.notifyEnd (s : State) (k : CoreId) (gate : Bool) : State :=
  let s1 := (s.notify (clusterFin k) (.ended k)).1
  if gate then (s1.notify (clusterFin k) (.gate k)).1 else s1

/-- TILE_COMPLETE (R108, R137, R180): the tile's indices are complete, its counts join the job's, tokens left are cleared
and the core is free. -/
def execTileComplete (k : CoreId) (s0 : State) : Out :=
  let s := chainEndIfDue s0 k
  let c := s.core k
  match c.phase, c.tile with
  | .ending gate, some t =>
    if tileOver s k then
      let s1 := ((s.clearResidue k).addCounts t).markGate t gate
      let s2 := s1.dropTileIndex k t
      let s3 := s2.setCore k { s2.core k with phase := .idle, tile := none, loops := [], chain := none, port := [],
                                              skew := Vector.replicate 2 none, skewTail := Vector.replicate 2 [] }
      let done := (t.counter, t.index.toNat) :: t.claimed
      ok ((done.foldl (fun s x => s.completeIndex (Fin.ofNat 64 x.1) x.2 t.sig) s3).notifyEnd k gate)
    else ok s
  | _, _ => ok s

/-! ## Row writes and arbitration -/

/-- The unit that sends a write of a command, and its cluster: a Lift by its number, a cluster's post-processor, or an engine. -/
def State.sender (s : State) (w : RowWrite) : Option (Nat × Nat) :=
  w.owner.map (fun o =>
    if o.2.1 = 2 then
      let l := match ((s.core o.1).queue 2).find? (fun c => c.seq == o.2.2) with
        | some c => liftOf o.1 c.desc
        | none => o.1.val
      (l, if l < 8 then l / 2 else l - 8)
    else if o.2.1 = 3 then (12 + clusterOf o.1, clusterOf o.1)
    else (16 + 2 * o.1.val + o.2.1.val, clusterOf o.1))

/-- Two writes of one unit to one store that it reaches over the Piste (R153). -/
def State.sameRoute (s : State) (a b : RowWrite) : Bool :=
  match s.sender a, s.sender b, storeOf a.row, storeOf b.row with
  | some x, some y, some p, some q => x.1 == y.1 && p.1 == q.1 && storeCluster p.1 != x.2
  | _, _, _, _ => false

/-- The n-th write on its way may arrive: no earlier one goes to its row, or takes its route (R119, R153). -/
def State.mayArrive (s : State) (n : Nat) (w : RowWrite) : Bool :=
  (s.writes.take n).all (fun x => x.row != w.row && !s.sameRoute x w)

/-- ROW_WRITE_ARRIVAL (R119, R153, R185): a row write reaches its store. Writes to one row, and those from one source to one
store over the Piste, arrive in the order they were made; a control core's accesses follow R119 to R121. -/
def execRowWriteArrival (src : WriteSource) (s : State) : Out :=
  match src with
  | .engine n =>
    match s.writes[n]? with
    | some w => if s.mayArrive n w then ok ({ s with writes := removeNth n s.writes }.performWrite w) else ok s
    | none => ok s
  | .control k n =>
    let c := s.core k
    match c.ready? n with
    | some x => match x.kind with
      | .store data => ok ((s.setCore k (c.done n)).performWrite ⟨x.row, false, 0, data, some x.tag, none, true⟩)
      | _ => ok s
    | none => ok s

/-- STORE_REQUEST_PROMOTION (R151, R154): a request has been refused in so many consecutive steps, so many of them for a busy
bank. Refused in 32 it is promoted; a shorter wait counts its refusals alone. Arbitration changes no result (R152). A read of the
matrix shadow load is never promoted, and its wait is not kept. -/
def execStoreRequestPromotion (st : StoreId) (wait : Nat) (busy : RefusedRequest) (s : State) : Out :=
  let s1 := (s.bump (Reg.stoRefuseCount st) wait).bump (Reg.stoConflictCount st) (min busy.conflicts wait)
  if busy.shadow then ok s1
  else ok ((if 32 ≤ wait then s1.bump (Reg.stoPromoteCount st) 1 else s1).maxWait (Reg.stoMaxWait st) 16 wait)

/-- PISTE_TRANSFER_PROMOTION (R153, R154): a transfer has waited so many slots, of two steps each, at one output; after 128 it is
promoted. -/
def execPisteTransferPromotion (wait : Nat) (s : State) : Out :=
  ok ((if 128 ≤ wait then s.bump Reg.pstPromoteCount 1 else s).maxWait Reg.pstMaxWait 16 (2 * wait))

/-! ## Hung and halted cores -/

/-- The open chain is due to end and a slice of its tail is there. -/
def chainMoves (s : State) (k : CoreId) (t : Tile) : Bool :=
  chainDue (s.core k) && (match endChain s k t (beforeChainEnd (s.core k)) with
    | .wait none => false
    | _ => true)

/-- A command of a queue may still move (R141). A Lift or a post-processor has other work than the core's, and so a request of
the core outstanding outside it; but a command to the direct port has none while the buffer has no room for it. -/
def cmdMoves (s : State) (k : CoreId) (t : Tile) (q : QueueId) (n : Nat) (cmd : Cmd) : Bool :=
  let c := s.core k
  match cmd.phase with
  | .waiting => (takeTokens c q cmd.desc).isSome && (q == 2 || q == 3 || mayBegin s k q n cmd)
  | .begun =>
    if q = 0 then mxReady s k n cmd && (runMatrix s k t n cmd).isSome
    else if q = 2 ∧ Desc.cmd cmd.desc ≠ 4 then (liftReady? s k n none).isSome && (Desc.dst cmd.desc != 13 || portFit c cmd != 0)
    else true
  | .executed => s.writesPending k q cmd.seq || !owes c q cmd
  | .stopped => true

/-- Some unit of the core can still advance, or a request of the core is outstanding outside it (R141). -/
def coreMoves (s : State) (k : CoreId) : Bool :=
  let c := s.core k
  !c.accesses.isEmpty || s.writes.any (fun w => w.ownedBy k) ||
  (match c.tile with
   | some t => chainMoves s k t || (List.finRange 4).any (fun q => ((c.queue q).zipIdx).any (fun x =>
       ((c.queue q).take x.2).all (fun y => y.phase != .waiting) && cmdMoves s k t q x.2 x.1))
   | none => false) ||
  (match c.phase with
   | .waitToken t n => decide (n ≤ c.tokensFor 4 t)
   | .waitRoom batch w => decide (c.occupied (Fin.ofNat 4 (fD w).toNat) + pushSize batch w ≤ queueDepth (Fin.ofNat 4 (fD w).toNat))
   | .ending _ => tileOver s k
   | _ => true)

/-- HUNG_CORE_HALT (R141): the step monitor halts a core that no event can advance. -/
def execHungCoreHalt (k : CoreId) (s : State) : Out :=
  let c := s.core k
  if c.phase.active && !coreMoves s k then ok (s.halt k .monitor 0x08 0 c.pc.toNat 0) else ok s

/-- The job that a halted core's halt ends: its tile's, or that of the index a stream was filling (log 26). -/
def haltedJob (c : Core) : Option W32 :=
  match c.tile with
  | some t => some t.job
  | none => ((c.seats.flatMap (fun x => x.held.filter (fun h => decide (h.filled.length < x.streams.length)))).head?).map (·.job)

/-- The halt a job's record names: the lowest gate count, then the lower core (R117). -/
def Job.noteHalt (j : Job) (s : State) (k : CoreId) : Job :=
  let g := (s.core k).haltGate
  if j.haltReason = 0 || g.toNat < j.haltGate.toNat || (g == j.haltGate && decide (k.val < j.haltCore)) then
    { j with haltReason := s.fld (Reg.ccHaltStatus k) 7 0, haltSource := s.fld (Reg.ccHaltStatus k) 15 12
             haltCore := k.val, haltPc := s.fld (Reg.ccHaltPc k) 17 0, haltGate := g }
  else j

/-- The error record of a halt (R368). -/
def haltReport (s : State) (k : CoreId) (ctx : Nat) : Report :=
  { mkReport s 0x01 2 (unitNo 0x01 k.val) (s.fld (Reg.ccHaltStatus k) 7 0) with
    ctx := ctx
    detail := BitVec.ofNat 32 (s.fld (Reg.ccHaltPc k) 17 0 + s.fld (Reg.ccHaltStatus k) 15 12 * 2 ^ 18 +
      s.fld (Reg.ccHaltDetail k) 7 0 * 2 ^ 22)
    addr := s.reg (Reg.ccHaltAddr k)
    gate := (s.core k).haltGate
    firmware := true }

/-- HALT_RECORD (R115, R117): once a halted core is idle, every access it issued performed, the Lodge copies its halt registers
into an error record and ends the job. -/
def execHaltRecord (k : CoreId) (s : State) : Out :=
  if s.lodge.inReset then ok s else
  let c := s.core k
  match c.phase with
  | .halted =>
    if !c.accesses.isEmpty then ok s else
    let ctx := match c.tile, (haltedJob c).bind s.job? with
      | some t, _ => t.ctx.val
      | none, some j => j.ctx.val
      | none, none => 0xFFFF
    let s1 := (s.report (haltReport s k ctx)).takeNote (clusterFin k) (.halt k)
    let s2 := match haltedJob c with
      | some uid => (s1.onJob uid (fun j => j.noteHalt s k)).endJob uid 1
      | none => s1
    ok (s2.setCore k { s2.core k with phase := .recorded, tile := none, halting := Vector.replicate 4 [] })
  | _ => ok s

/-! ## Pre-emption and abandonment (R184–R187) -/

/-- The floor of a core for a stage in every store's epoch table. -/
def State.setFloors (s : State) (x : Seat) (f : EpochEntry → EpochEntry) : State :=
  { s with epochTable := s.epochTable.map (fun l => l.map (fun (e : EpochEntry) =>
      if e.ctx = x.ctx ∧ e.model = x.model ∧ e.stage = x.stage then f e else e)) }

/-- Two seats are of one stage. -/
def Seat.sameStage (x y : Seat) : Bool := y.ctx == x.ctx && y.model == x.model && y.stage == x.stage

/-- The tile that runs on the core has this index of the seat. -/
def Core.runsIndex (c : Core) (x : Seat) (h : Held) : Bool :=
  match c.tile with
  | some t => !c.runsOther x && t.job == h.job && t.counter == h.counter && t.index == BitVec.ofNat 64 h.index
  | none => false

/-- The held indices of a seat that have not launched go back to their counters (R186 step 5). -/
def State.returnHeld (s : State) (k : CoreId) (n : Nat) (x : Seat) : State :=
  let runs := (s.core k).runsIndex x
  ((s.returnIndices ((x.held.filter (fun h => !runs h)).map (fun h => (h.counter, h.index)))).setSeat k n (fun y =>
    { y with held := y.held.filter runs, keptSince := none })).pruneFills

/-- The Lodge stops a seat's launcher and streams: their claims wait nowhere any more (R186 step 1). -/
def State.stopLauncher (s : State) (k : CoreId) (n : Nat) (x : Seat) : State :=
  let mine := fun (c : Counter) => match s.job? c.job with
    | some j => j.ctx == x.ctx && j.running == x.model
    | none => false
  let s1 := s.setSeat k n (fun y => { y with launcherStopped := true })
  { s1 with counters := s1.counters.map (fun c => c.map (fun (c : Counter) =>
      if mine c && c.waiting.contains (.launcher k x.stage) then
        { c with waiting := c.waiting.filter (fun w => w != .launcher k x.stage)
                 blocked := c.blocked && c.waiting.head? != some (.launcher k x.stage) }
      else c)) }

/-- At the largest epoch the stage is to be made non-resident and resident again: on every core of it the launcher stops and what has
not launched goes back, and once its tiles and their writes are over it is loaded again (R184; log 126). -/
def State.markRestart (s : State) (x : Seat) : State :=
  (List.finRange 8).foldl (fun s k => ((s.core k).seats.zipIdx).foldl (fun s p =>
    if x.sameStage p.1 then ((s.stopLauncher k p.2 p.1).returnHeld k p.2 p.1).setSeat k p.2 (fun y => { y with restart := true })
    else s) s) s

/-- Raise the epoch of a stage on a core and make it the floor in every store (R184, R186 step 3). -/
def State.raiseEpoch (s : State) (k : CoreId) (n : Nat) (x : Seat) : State :=
  if x.epoch = BitVec.allOnes 32 then s.markRestart x
  else (s.setSeat k n (fun y => { y with epoch := x.epoch + 1 })).setFloors x (fun (e : EpochEntry) =>
    { e with floors := e.floors.set k (x.epoch + 1) })

/-- The core is taken from a seat that runs no tile there: launcher stopped and claims withdrawn, epoch raised, indices returned
(R186 steps 1, 3 and 5). -/
def State.vacate (s : State) (k : CoreId) (n : Nat) (x : Seat) : State :=
  let s1 := (s.stopLauncher k n x).raiseEpoch k n x
  match (s1.core k).seats[n]? with
  | some y => s1.returnHeld k n y
  | none => s1

/-- The seat that launched last on a core. -/
def lastSeat (c : Core) : Option (Seat × Nat) :=
  match c.seats.zipIdx with
  | [] => none
  | a :: r => some (r.foldl (fun m x => if m.1.lastLaunch < x.1.lastLaunch then x else m) a)

/-- PREEMPTION (R186): the running tile has reached END, and the Lodge takes the core from the stage that launched last on
it while it holds indices there. -/
def execPreemption (k : CoreId) (s : State) : Out :=
  if s.lodge.inReset then ok s else
  match (s.core k).phase, lastSeat (s.core k) with
  | .idle, some (x, n) => if x.held.isEmpty then ok s else ok (s.vacate k n x)
  | _, _ => ok s

/-- A command of the core has been stopped on a fault for longer than the tile's ABANDON (R186, R194). -/
def State.overdue (s : State) (k : CoreId) (t : Tile) : Bool :=
  s.stopped.any (fun y => y.isCommandOf k && decide (t.abandon * 1000 < s.gate.toNat - y.gate.toNat))

/-- The stage of a tile may migrate (R187). -/
def State.migratable (s : State) (t : Tile) : Bool :=
  match ((s.model? t.ctx t.model).bind (·.image)).bind (fun im => im.stages[t.stage.val]?) with
  | some g => g.migratable
  | none => false

/-- ABANDONMENT (R186, R187): a tile of a migratable stage stopped on a fault for longer than ABANDON is stopped; its
epoch rises, so its late writes are dropped, and its index and the others held go back to their counter. -/
def execAbandonment (k : CoreId) (s : State) : Out :=
  if s.lodge.inReset then ok s else
  match (s.core k).tile with
  | some t =>
    if s.overdue k t && s.migratable t then
      match (s.core k).seatIdx t.ctx t.model t.stage with
      | some n =>
        match (s.core k).seats[n]? with
        | some x => ok ((s.stopTile k).vacate k n x)
        | none => ok s
      | none => ok s
    else ok s
  | none => ok s

/-- A seat has been kept off its core for longer than its context's ABANDON, as it was at the core's last tile boundary (R194,
R209). -/
def Seat.starved (x : Seat) (now : W64) : Bool :=
  match x.keptSince with
  | some g => decide (x.abandon * 1000 < now.toNat - g.toNat)
  | none => false

/-- STAGE_STARVATION_RETURN (R209): a stage that another keeps off a core for longer than ABANDON gives back the indices
it holds there unlaunched. -/
def execStageStarvationReturn (k : CoreId) (ctx : CtxId) (model : ModelNo) (stage : StageNo) (s : State) : Out :=
  if s.lodge.inReset then ok s else
  match (s.core k).tile, (s.core k).seatIdx ctx model stage with
  | some t, some n =>
    if t.ctx = ctx ∧ t.model = model ∧ t.stage = stage then ok s
    else match (s.core k).seats[n]? with
      | some x => if x.held.isEmpty || !x.starved s.gate then ok s else ok (s.vacate k n x)
      | none => ok s
  | _, _ => ok s

end Sys2Proof.Machine
end

