-- ==== Sys2Proof/Machine/Residence.lean ====
section
/-! DEFINITION. The hot set: where a model's stages go, eviction, hints, loading a parked model (R98, R185, R203–R209,
R233). -/

namespace Sys2Proof.Machine

/-! ## What is free (R204, R209) -/

/-- What the resident and loading models hold, and what is being given to a model in placement. -/
structure Occupancy where
  runs : List (StoreId × Bool × Nat × Nat)
  /-- partitions: core, instruction units, data units -/
  parts : List (CoreId × Nat × Nat)
  /-- epoch-table entries of the model in placement -/
  entries : List (StoreId × StageNo)

/-- What is held now. -/
def State.heldNow (s : State) : Occupancy where
  runs := s.models.flatMap (fun m => m.places.flatMap Place.runs)
  parts := (List.finRange 8).flatMap (fun k => (s.core k).seats.map (fun x => (k, x.ipart, x.dpart)))
  entries := []

/-- What is held, and the runs taken for a stage so far. -/
abbrev Taken := Occupancy × List (StoreId × Bool × Nat × Nat)

/-- First row of unit u of a half of a store (R145, R204). -/
def unitRow (st : StoreId) (hi : Bool) (u : Nat) : Nat :=
  (if hi then (if st.val < 8 then 16384 else 49152) else 0) + u * unitRows (decide (8 ≤ st.val))

/-- The run of so many units at the lowest free unit of a half (R204); no units is no run. -/
def Occupancy.run? (o : Occupancy) (st : StoreId) (hi : Bool) (units : Nat) : Option (List (StoreId × Bool × Nat × Nat)) :=
  if units = 0 then some []
  else
    let n := units * unitRows (decide (8 ≤ st.val))
    let used := o.runs.filter (fun r => r.1 == st && r.2.1 == hi)
    ((List.range (65 - units)).find? (fun u => used.all (fun r => !overlaps (unitRow st hi u) n r.2.2.1 r.2.2.2))).map
      (fun u => [(st, hi, unitRow st hi u, n)])

/-- Local store of a core, as a store. -/
def localStore (k : CoreId) : StoreId := ⟨k.val, by omega⟩
/-- Cluster store of a cluster, as a store. -/
def clusterStore (c : ClusterId) : StoreId := ⟨8 + c.val, by omega⟩

/-- The stage's two runs in one store join what is held. -/
def Occupancy.takeRuns (o : Occupancy) (st : StoreId) (lo hi : Nat) : Option Taken :=
  match o.run? st false lo, o.run? st true hi with
  | some a, some b => some ({ o with runs := o.runs ++ a ++ b }, a ++ b)
  | _, _ => none

/-- A core has the partition units of a stage (R98). -/
def Occupancy.hasParts (o : Occupancy) (k : CoreId) (g : Stage) : Bool :=
  let l := o.parts.filter (fun p => p.1 == k)
  decide ((l.map (fun p => p.2.1)).sum + g.ipart ≤ 64) && decide ((l.map (fun p => p.2.2)).sum + g.dpart ≤ 16)

/-- A store has room for so many further epoch entries (R185). -/
def State.hasEntries (s : State) (o : Occupancy) (new : List (StoreId × StageNo)) : Bool :=
  (List.finRange 12).all (fun (st : StoreId) =>
    decide ((s.epochTable[st]).length + ((o.entries ++ new).filter (fun e => e.1 == st)).length ≤ 64))

/-- Stages whose tiles write a stage's rows (R212). -/
def writersOf (im : Image) (j : StageNo) : List StageNo :=
  (List.finRange 16).filter (fun w => match im.stages[w.val]? with
    | some g => g.writes.getLsbD j.val
    | none => false)

/-- A stage takes one core, or both cores of a cluster with its store, where they hold its needs (R209): rows, from level 1
partition units, from level 2 epoch entries. -/
def State.takeGroup (s : State) (o : Occupancy) (lvl : Nat) (im : Image) (j : StageNo) (g : Stage)
    (cores : List CoreId) (clu : Option ClusterId) : Option Taken :=
  let locals : Option Taken := cores.foldl (fun (a : Option Taken) k => a.bind (fun (x : Taken) =>
    (x.1.takeRuns (localStore k) g.localLo g.localHi).map (fun (y : Taken) => (y.1, x.2 ++ y.2)))) (some (o, []))
  let all : Option Taken := match clu with
    | none => locals
    | some c => locals.bind (fun (x : Taken) =>
        (x.1.takeRuns (clusterStore c) g.clusterLo g.clusterHi).map (fun (y : Taken) => (y.1, x.2 ++ y.2)))
  match all with
  | none => none
  | some (o1, runs) =>
    let stores := (runs.map (·.1)).dedup
    let new := (stores.flatMap (fun st => (writersOf im j).map (fun w => (st, w)))).filter (fun e => !o.entries.contains e)
    if (lvl == 0 || cores.all (fun k => o.hasParts k g)) && (lvl != 2 || s.hasEntries o new) then
      some ({ o1 with parts := o1.parts ++ cores.map (fun k => (k, g.ipart, g.dpart)), entries := o1.entries ++ new }, runs)
    else none

/-- The groups a stage may take: single cores, or the cores of a cluster, ascending (R209). -/
def groupsFor (g : Stage) : List (List CoreId × Option ClusterId) :=
  if g.cluster then (List.finRange 4).map (fun c => ([⟨2 * c.val, by omega⟩, ⟨2 * c.val + 1, by omega⟩], some c))
  else (List.finRange 8).map (fun k => ([k], none))

/-- The stage's place: the lowest-numbered groups that hold it, as many as it needs (R209). -/
def State.placeStage (s : State) (lvl : Nat) (im : Image) (j : StageNo) (g : Stage) :
    List (List CoreId × Option ClusterId) → Nat → Occupancy → Place → Option (Occupancy × Place)
  | _, 0, o, p => some (o, p)
  | [], _ + 1, _, _ => none
  | q :: r, n + 1, o, p =>
    match s.takeGroup o lvl im j g q.1 q.2 with
    | some (o1, runs) => s.placeStage lvl im j g r n o1 ⟨p.cores ++ q.1, p.runs ++ runs⟩
    | none => s.placeStage lvl im j g r (n + 1) o p

/-- Places for all stages of an image, and the epoch entries they need. -/
def State.placeAll (s : State) (lvl : Nat) (im : Image) : Option (Occupancy × List Place) :=
  (im.stages.zipIdx).foldl (fun (a : Option (Occupancy × List Place)) x => a.bind (fun q =>
    (s.placeStage lvl im (Fin.ofNat 16 x.2) x.1 (groupsFor x.1) (if x.1.cluster then x.1.cores / 2 else x.1.cores) q.1 ⟨[], []⟩).map
      (fun y => (y.1, q.2 ++ [y.2])))) (some (s.heldNow, []))

/-- What is short when a model has no place: 0 rows, 1 partition units, 2 epoch entries (R350). -/
def State.shortage (s : State) (im : Image) : Nat :=
  if (s.placeAll 0 im).isNone then 0 else if (s.placeAll 1 im).isNone then 1 else 2

/-! ## Giving and taking residence (R203, R207) -/

/-- A new seat of a stage on a core; the model numbers its partitions behind the others of the core, which no program
sees (log 27). -/
def newSeat (c : Core) (m : Model) (j : StageNo) (g : Stage) (attrs : Nat × Nat) : Seat :=
  ⟨m.ctx, m.number, j, (c.seats.map (fun x => x.ibase + x.ipart)).foldl max 0, g.ipart,
    (c.seats.map (fun x => x.dbase + x.dpart)).foldl max 0, g.dpart, 0, g.streams, [], 0, false, 0, [], none, false, attrs.1, attrs.2⟩

/-- Seats, epoch entries and streams of a placed model. -/
def State.install (s : State) (m : Model) (im : Image) (o : Occupancy) (ps : List Place) : State :=
  let s1 := (ps.zipIdx).foldl (fun s p => p.1.cores.foldl (fun s k => match im.stages[p.2]? with
    | some g =>
      let c := s.core k
      s.setCore k { c with seats := c.seats ++ [newSeat c m (Fin.ofNat 16 p.2) g ((s.attrsOf m.ctx).1, (s.attrsOf m.ctx).2.1)] }
    | none => s) s) s
  { s1 with epochTable := Vector.ofFn (fun (st : StoreId) => s1.epochTable[st] ++
      ((o.entries.filter (fun e => e.1 == st)).map (fun e => ⟨m.ctx, m.number, e.2, Vector.replicate 8 0⟩))) }

/-- A model becomes non-resident: rows, partitions, epoch entries and streams are released and nothing is saved (R207). -/
def State.unseat (s : State) (m : Model) : State :=
  let s1 := s.setModel { m with residence := .parked }
  { s1 with
    cores := s1.cores.map (fun (c : Core) => { c with seats := c.seats.filter (fun x => x.ctx != m.ctx || x.model != m.number) })
    epochTable := s1.epochTable.map (fun l => l.filter (fun e => e.ctx != m.ctx || e.model != m.number)) }

/-- The model has a launched or running job, or a standing binding keeps its rows (R205, R207). -/
def State.busy (s : State) (m : Model) : Bool :=
  s.jobs.any (fun j => j.ctx == m.ctx && (j.model == m.number || j.running == m.number) && j.state != .queued) ||
  s.standing.toList.any (fun b => match b with
    | some x => x.ctx == m.ctx && x.model == m.number
    | none => false)

/-- The model is resident. -/
def Model.isResident (m : Model) : Bool :=
  match m.residence with
  | .resident _ => true
  | _ => false

/-- The model is parked. -/
def Model.isParked (m : Model) : Bool :=
  match m.residence with
  | .parked => true
  | _ => false

/-- Eviction rank of a hint: DROP, none or LOAD, KEEP (R207). -/
def hintRank (h : Nat) : Nat := if h = 4 then 0 else if h = 2 then 2 else 1

/-- Order of eviction: priority, hint, last completion, context, model (R207). -/
def State.evictBefore (s : State) (a b : Model) : Bool :=
  let key := fun (m : Model) => [s.priority m.ctx, hintRank m.hint, m.lastDone.toNat, m.ctx.val, m.number.val]
  decide (key a < key b)

/-- Candidates for eviction, first to go first: resident, idle, not pinned (R207). -/
def State.candidates (s : State) (m : Model) : List Model :=
  sortWith s.evictBefore
    (s.models.filter (fun x => x.isResident && x.hint != 1 && !s.busy x && (x.ctx != m.ctx || x.number != m.number)))

/-- Evict a model (R207). -/
def State.evict (s : State) (m : Model) : State :=
  ((s.unseat m).inc Reg.ldgResEvictCount 32 1).logEntry 3 0 2 [BitVec.ofNat 64 m.ctx.val, BitVec.ofNat 64 m.number.val]

/-- Evict candidates in order until the image fits; none where it never does, and then nothing is evicted (R207; log 28). -/
def State.makeRoom (s : State) (im : Image) : List Model → Option (State × Occupancy × List Place)
  | [] => (s.placeAll 2 im).map (fun p => (s, p.1, p.2))
  | c :: r =>
    match s.placeAll 2 im with
    | some p => some (s, p.1, p.2)
    | none => (s.evict c).makeRoom im r

/-- A model begins to load in the places found (R208). -/
def State.beginLoad (s : State) (m : Model) (im : Image) (o : Occupancy) (ps : List Place) : State :=
  (s.install m im o ps).setModel { m with residence := .loading ps s.gate [], waiting := false }

/-- A parked model that is to be resident is given a place, evicting among these candidates, or waits and the log says so
(R207, R209, R350). -/
def State.seekPlace (s : State) (m : Model) (cands : List Model) : State :=
  match m.image with
  | none => s
  | some im =>
    match s.makeRoom im cands with
    | some (s1, o, ps) => s1.beginLoad m im o ps
    | none =>
      if m.waiting then s
      else (s.setModel { m with waiting := true }).logEntry 3 1 3
        [BitVec.ofNat 64 m.ctx.val, BitVec.ofNat 64 m.number.val, BitVec.ofNat 64 (s.shortage im)]


/-- A model that something wants resident: a queued job, a job that switches to it, a pin, or a standing binding (R207, R216). -/
def State.wanted (s : State) (m : Model) : Bool :=
  m.isParked && m.state == 2 && (m.hint == 1 ||
    s.jobs.any (fun j => j.ctx == m.ctx &&
      ((j.state == .queued && j.model == m.number) || (j.state == .switching && j.fallback == m.number.val))) ||
    s.standing.toList.any (fun b => match b with
      | some x => x.ctx == m.ctx && x.model == m.number
      | none => false))

/-- A model that was resident is so no longer. -/
def lostResident (s t : State) : Bool :=
  s.models.any (fun m => m.isResident && (match t.model? m.ctx m.number with
    | some x => x.isParked
    | none => true))

/-- Every model without a place tries again, and again while that makes a model non-resident (R207). -/
def State.retry : Nat → State → State
  | 0, s => s
  | n + 1, s =>
    let t := s.models.foldl (fun s m => match s.model? m.ctx m.number with
      | some x => if s.wanted x then s.seekPlace x (s.candidates x) else s
      | none => s) s
    if lostResident s t then t.retry n else t

/-- Models without a place try again (R207). DESIGN CHOICE: several try in the order of the list of models, the order in which they
were registered (log 127). -/
def State.retryPlaces (s : State) : State := s.retry (s.models.length + 1)

/-- Where a placement has made a model non-resident, the models without a place try again (R207). -/
def State.afterEviction (s t : State) : State := if lostResident s t then t.retryPlaces else t

/-- A parked model is made resident (R209). -/
def State.makeResident (s : State) (m : Model) : State :=
  if m.isParked then s.afterEviction (s.seekPlace m (s.candidates m)) else s

/-! ## Loading (R205, R208, R233) -/

/-- Bytes of a section as read and unpacked. A packed stream that breaks R165 loads bytes that are not defined (R2, R233). -/
def State.sectionBytes (s : State) (m : Model) (x : Section) : Option LiftRead :=
  let want := if x.kind < 2 then x.size else 512 * x.size
  match s.readVa m.ctx (m.va.toNat + 512 + x.ofs) (if x.pk then x.length else want) with
  | .error _ => none
  | .ok bs =>
    if x.pk then
      let n := cdiv want 512
      let r := decodeChunks (fun o n => ⟨(bs.drop o).take n, 0, none⟩) 0 n 0 n n
      some (match r.stop with
        | none => ⟨r.bytes.take want, [], r.packed, r.decoded, cdiv x.length 64, none⟩
        | some _ => ⟨(List.range want).map (fun i => Config.freeByte (s.draws + i)), [], x.length, want, cdiv x.length 64, none⟩)
    else some ⟨bs.take want, [], 0, 0, cdiv want 64, none⟩

/-- All sections, or none where one finds no translation (R233). -/
def State.allSections (s : State) (m : Model) (im : Image) : Option (List (Section × LiftRead)) :=
  im.sections.mapM (fun x => (s.sectionBytes m x).map (fun b => (x, b)))

/-- First row of a stage's run in a store and half. -/
def Place.runAt (p : Place) (st : Nat) (hi : Bool) : Option Nat :=
  (p.runs.find? (fun r => r.1.val == st && r.2.1 == hi)).map (fun r => r.2.2.1)

/-- Stores of a place's runs of one kind. -/
def Place.storesOf (p : Place) (cluster : Bool) : List Nat :=
  ((p.runs.map (fun r => r.1.val)).filter (fun st => decide (8 ≤ st) == cluster)).dedup

/-- A row section goes into every store of its stage (R212). -/
def State.loadRows (s : State) (p : Place) (x : Section) (bs : List Byte) : State :=
  (p.storesOf (x.kind == 3)).foldl (fun s st => match p.runAt st x.hi with
    | some r => s.wr (rowAddr st (r + x.row)) bs
    | none => s) s

/-- A relocation word of a stage on a core: the first row of the run it names; one that names a run the stage does not hold
receives a free value (R204, R212; log 9). -/
def relocWord (p : Place) (k : CoreId) (r : Reloc) (draw : Nat) : List Byte :=
  let st := if r.run < 2 then k.val else 8 + k.val / 2
  match p.runAt st (r.run % 2 == 1) with
  | some row => leBytes 4 row
  | none => leBytes 4 ((Config.freeWord draw).toNat)

/-- Bytes of the section of a kind and number, padded to a partition. -/
def partitionBytes (secs : List (Section × LiftRead)) (i units : Nat) : List Byte :=
  let b := match secs[i]? with
    | some x => x.2.bytes
    | none => []
  (b ++ List.replicate (units * 4096) 0).take (units * 4096)

/-- The partitions of a stage on a core are loaded and relocated (R98, R204, R212). -/
def State.loadSeat (s : State) (p : Place) (im : Image) (secs : List (Section × LiftRead)) (j : Nat) (k : CoreId) (x : Seat) :
    State :=
  match im.stages[j]? with
  | none => s
  | some g =>
    let c := s.core k
    let d0 := writeRun 0 c.dstore (x.dbase * 4096) (partitionBytes (if g.dsect = 0xFFFF then [] else secs) g.dsect g.dpart)
    let d1 := ((im.relocs.zipIdx).filter (fun r => r.1.stage == j)).foldl (fun d r =>
      writeRun 0 d (x.dbase * 4096 + r.1.word) (relocWord p k r.1 (s.draws + r.2))) d0
    s.setCore k { c with istore := writeRun 0 c.istore (x.ibase * 4096) (partitionBytes secs g.isect g.ipart), dstore := d1 }

/-- All partitions of a model. -/
def State.loadSeats (s : State) (m : Model) (im : Image) (ps : List Place) (secs : List (Section × LiftRead)) : State :=
  (ps.zipIdx).foldl (fun s p => p.1.cores.foldl (fun s k =>
    match (s.core k).seats.find? (fun x => x.ctx == m.ctx && x.model == m.number && x.stage.val == p.2) with
    | some x => s.loadSeat p.1 im secs p.2 k x
    | none => s) s) s

/-- Jobs of a model that wait to launch. -/
def State.waitingJobs (s : State) (m : Model) : List Job :=
  s.jobs.filter (fun j => j.ctx == m.ctx && j.model == m.number && j.state == .queued)

/-- Jobs that switch to a model as their fall-back. -/
def State.switchingJobs (s : State) (m : Model) : List Job :=
  s.jobs.filter (fun j => j.ctx == m.ctx && j.state == .switching && j.fallback == m.number.val)

/-- The load ends without a translation: the model stays parked and the jobs waiting on it end with status 2 (R233). A job
that switches to it and has tiles of its primary still running ends when those have ended. -/
def State.failLoad (s : State) (m : Model) : State :=
  let s1 := (s.waitingJobs m).foldl (fun s j => s.finishJob j 2) (s.unseat m)
  (s1.switchingJobs m).foldl (fun s j =>
    if (List.finRange 8).any (s.runsTile j.uid) then s.endJob j.uid 2 else s.finishJob j 2) s1

/-- Copies of a section that a cluster's Lift loads: one for each of the cluster's stores, or cores, that take it (R208, R212;
log 81). -/
def Place.copies (p : Place) (x : Section) (c : ClusterId) : Nat :=
  if x.kind < 2 then (p.cores.filter (fun k => clusterOf k == c.val)).length
  else ((p.storesOf (x.kind == 3)).filter (fun st => (if st < 8 then st / 2 else st - 8) == c.val)).length

/-- The requests of a load, and its packed bytes, at the cluster Lifts (R172, R208; log 81). -/
def State.countLoad (s : State) (p : Place) (x : Section × LiftRead) : State :=
  (List.finRange 4).foldl (fun s c =>
    let n := p.copies x.1 c
    s.countRead (8 + c.val) { x.2 with reqs := n * x.2.reqs, packed := n * x.2.packed, decoded := n * x.2.decoded }) s

/-- Sections enter the rows of their stages. -/
def State.placeSections (s : State) (ps : List Place) (secs : List (Section × LiftRead)) : State :=
  secs.foldl (fun s x => match ps[x.1.stage]? with
    | some p => if x.1.kind < 2 then s.countLoad p x else (s.countLoad p x).loadRows p x.1 x.2.bytes
    | none => s) s

/-- Free values that loading an image draws. -/
def Image.loadDraws (im : Image) : Nat :=
  im.relocs.length + (im.sections.map (fun x => if x.pk then 512 * x.size else 0)).sum

/-- The sections are in place and the model is resident (R203, R205, R218, R350). -/
def State.endLoad (s : State) (m : Model) (im : Image) (ps : List Place) (began : W64) (secs : List (Section × LiftRead)) : State :=
  let s1 := s.placeSections ps secs
  let s2 := { s1.loadSeats m im ps secs with draws := s1.draws + im.loadDraws }
  ((s2.setModel { m with residence := .resident ps }).inc Reg.ldgResLoadCount 32 1).logEntry 3 0 1
    [BitVec.ofNat 64 m.ctx.val, BitVec.ofNat 64 m.number.val, began]

/-- Nothing of a stage runs or is on its way: no tile, no write, no access (R184; log 126). -/
def State.stageQuiet (s : State) (x : Seat) : Bool :=
  let mine := fun (t : Tag) => t.ctx == x.ctx && t.model == x.model && t.stage == x.stage
  (List.finRange 8).all (fun k => ((s.core k).tile.isNone || (s.core k).runsOther x) && (s.core k).accesses.all (fun a => !mine a.tag)) &&
  s.writes.all (fun w => match w.tag with
    | some t => !mine t
    | none => true)

/-- A stage of a resident model is loaded again and its epochs restart at 0 (R184). -/
def State.reloadStage (s : State) (m : Model) (im : Image) (ps : List Place) (secs : List (Section × LiftRead)) (x : Seat) : State :=
  let s1 := s.placeSections ps (secs.filter (fun y => y.1.stage == x.stage.val))
  let s2 := { s1.loadSeats m im ((ps.zipIdx).map (fun p => if p.2 = x.stage.val then p.1 else ⟨[], []⟩)) secs with
    draws := s1.draws + im.loadDraws }
  { s2 with cores := s2.cores.map (fun (c : Core) => { c with seats := c.seats.map (fun (y : Seat) =>
      if x.sameStage y then { y with epoch := 0, claims := 0, argOwner := [], restart := false, launcherStopped := false }
      else y) }) }.setFloors x (fun e => { e with floors := Vector.replicate 8 0 })

/-- The stages of a model that are to be loaded again, each by one of its seats. -/
def State.restarting (s : State) (m : Model) : List Seat :=
  (List.finRange 16).filterMap (fun (j : StageNo) => (s.cores.toList.flatMap (·.seats)).find? (fun x =>
    x.restart && x.ctx == m.ctx && x.model == m.number && x.stage == j && s.stageQuiet x))

/-- A read of the image would meet a frozen controller (R305). -/
def State.imageFrozen (s : State) (m : Model) : Bool :=
  (List.range (cdiv m.length 64)).any (fun i => s.frozenFor m.ctx (m.va.toNat + 64 * i))

/-- The load of a model whose Lifts have all taken it, or of the stages that restart; one that meets a frozen controller waits
(R305). -/
def State.load (s : State) (m : Model) (im : Image) : State :=
  match m.residence with
  | .loading ps began taken =>
    if s.imageFrozen m || (List.finRange 4).any (fun c => loadsVia ps c && !taken.contains c) then s
    else (match s.allSections m im with
      | some secs => s.endLoad m im ps began secs
      | none => (s.failLoad m).retryPlaces)
  | .resident ps =>
    if (s.restarting m).isEmpty || s.imageFrozen m then s
    else (match s.allSections m im with
      | some secs => (s.restarting m).foldl (fun s x => s.reloadStage m im ps secs x) s
      | none => s)
  | .parked => s

/-- MODEL_LOAD_COMPLETE (R208): a model's sections have loaded; a parked model that is wanted is first given a place, and a cluster
Lift takes the load where it is the Lodge's turn (R156). -/
def execModelLoadComplete (ctx : CtxId) (model : ModelNo) (s0 : State) : Out :=
  if s0.lodge.inReset then ok s0 else
  let s1 := match s0.model? ctx model with
    | some m => if s0.wanted m then s0.makeResident m else s0
    | none => s0
  let s := (List.finRange 4).foldl State.lodgeTakes s1
  match s.model? ctx model with
  | none => ok s
  | some m => match m.image with
    | some im => ok (s.load m im)
    | none => ok s

end Sys2Proof.Machine
end

