-- ==== Sys2Proof/Machine/JobRows.lean ====
section
/-! DEFINITION. Launching and completing jobs, Slalom, and the context's fault slot (R177, R201, R202, R209, R211–R217, R236,
R320, R324, R325, R334). -/

namespace Sys2Proof.Machine

/-! ## Launch -/

/-- Free physical counters (R177). -/
def State.freePlaces (s : State) : List CounterId := (List.finRange 64).filter (fun p => (s.counter? p).isNone)

/-- A job's counter as it is bound (R177, R178, R323, R324). -/
def boundCounter (s : State) (j : Job) (im : Image) (n : Nat) (c : Nat × List Segment) : Counter where
  job := j.uid
  number := n
  limit := if c.1 = 0 then j.limit else c.1
  next := 0
  returns := []
  outstanding := []
  done := []
  doneLow := 0
  segs := c.2
  waiting := []
  blocked := false
  members := match im.cascade.find? (fun e => e.counter == n) with
    | some e => e.members
    | none => []
  remote := (s.rink.heldUpdates.filter (fun u =>
    u.ctx == j.ctx && u.model == j.model && u.job == j.nModel && u.counter.val == n)).map (fun u => (u.member, u.index.toNat))

/-- Bind an image's counters for a job, where enough are free (R177). -/
def State.bindCounters (s : State) (j : Job) (im : Image) : Option (State × List (Nat × Nat)) :=
  let free := s.freePlaces
  if free.length < im.counters.length then none
  else
    let pairs := (im.counters.zipIdx).zip free
    some (pairs.foldl (fun t x => t.setCounter x.2 (some (boundCounter s j im x.1.2 x.1.1))) s,
      pairs.map (fun x => (x.1.2, x.2.val)))

/-- Updates held for a job have been applied (R324). -/
def State.dropUpdates (s : State) (j : Job) : State :=
  { s with rink := { s.rink with heldUpdates := s.rink.heldUpdates.filter (fun u =>
      !(u.ctx == j.ctx && u.model == j.model && u.job == j.nModel)) } }

/-- No other job of the model has launched. -/
def State.alone (s : State) (j : Job) : Bool :=
  s.jobs.all (fun x => x.uid == j.uid || x.ctx != j.ctx || x.running != j.running || x.state == .queued)

/-- The job's arguments enter every argument block of every stage (R211). -/
def State.putAllArgs (s : State) (j : Job) (im : Image) : State :=
  { s with cores := s.cores.map (fun (c : Core) => (c.seats.zipIdx).foldl (fun (c : Core) (x : Seat × Nat) =>
      if x.1.ctx = j.ctx ∧ x.1.model = j.running then
        match im.stages[x.1.stage.val]? with
        | some g =>
          let c1 := putSlotRow ((List.range g.blocks.length).foldl (fun c b => putArgs c x.1 g j b) c) x.1 g im j
          { c1 with seats := modifyNth (fun y => { y with argOwner := (List.range g.blocks.length).map (fun b => (b, j.uid)) }) x.2
                               c1.seats }
        | none => c
      else c) c) }

/-- The row of a run is one that a section of the image fills (R205). -/
def initialised (im : Image) (p : Place) (j : Nat) (st row : Nat) : Bool :=
  im.sections.any (fun x => decide (2 ≤ x.kind) && x.stage == j && (x.kind == 3) == decide (8 ≤ st) &&
    (match p.runAt st x.hi with
     | some f => decide (f + x.row ≤ row) && decide (row < f + x.row + x.size)
     | none => false))

/-- Where the slots of a bound model lie: store and first row of the cluster-store run of its input stage's lowest cluster that
holds them all, each binding of the model with its own part of it (R212, R270; log 55). -/
def State.slotBase (s : State) (x : Standing) : Option (Nat × Nat) :=
  match s.model? x.ctx x.model with
  | none => none
  | some m => match m.residence, m.image.bind (·.input) with
    | .resident ps, some im => match ps[im.stage]? with
      | some p => ((sortWith (fun a b => decide (a.1.val < b.1.val) || (a.1 == b.1 && !a.2.1 && b.2.1))
          (p.runs.filter (fun r => decide (8 ≤ r.1.val) && decide ((x.part + 1) * x.slots * x.slotRows ≤ r.2.2.2)))).head?).map
            (fun r => (r.1.val, r.2.2.1 + x.part * x.slots * x.slotRows))
      | none => none
    | _, _ => none

/-- The bindings of a model. -/
def State.bindingsOf (s : State) (c : CtxId) (m : ModelNo) : List Standing :=
  s.standing.toList.filterMap (fun b => match b with
    | some x => if x.ctx = c ∧ x.model = m then some x else none
    | none => none)

/-- A row belongs to a frame slot of the model: what an image pipe wrote there is the job's input (R211, R270). -/
def State.isSlotRow (s : State) (c : CtxId) (m : ModelNo) (st row : Nat) : Bool :=
  (s.bindingsOf c m).any (fun x => match s.slotBase x with
    | some b => b.1 == st && decide (b.2 ≤ row) && decide (row < b.2 + x.slots * x.slotRows)
    | none => false)

/-- Reserved rows that neither the image nor a frame fills are undefined at the start of a job (R205; log 9). -/
def State.undefineRows (s : State) (c : CtxId) (m : ModelNo) (im : Image) (ps : List Place) : State :=
  (ps.zipIdx).foldl (fun s p => p.1.runs.foldl (fun s r => (List.range r.2.2.2).foldl (fun s i =>
    if initialised im p.1 p.2 r.1.val (r.2.2.1 + i) || s.isSlotRow c m r.1.val (r.2.2.1 + i) then s
    else s.undefine (rowAddr r.1.val (r.2.2.1 + i)) 512) s) s) s

/-- A job launches alone: its rows are undefined, but for those that a standing job of the model keeps from its earlier launches
(R205; log 112). -/
def State.startRows (s : State) (j : Job) (im : Image) (ps : List Place) : State :=
  if (s.bindingsOf j.ctx j.model).any (·.launched) then s else s.undefineRows j.ctx j.model im ps

/-- A frame of a binding has launched (R205). -/
def State.noteLaunched (s : State) (j : Job) : State :=
  match j.standing with
  | some d => match s.bindingOf j.ctx d.1 with
    | some x => s.setBinding d.1 { x with launched := true }
    | none => s
  | none => s

/-- The start-gate slots armed for a job's model (R320). -/
def State.slotsFor (s : State) (j : Job) : List GateSlot :=
  (List.finRange 16).filter (fun n => (s.gates[n]).armed && (s.gates[n]).ctx == j.ctx && (s.gates[n]).model == j.model)

/-- An armed slot whose gate count has not come holds the job back (R320). -/
def State.gateHolds (s : State) (j : Job) : Bool :=
  (s.slotsFor j).any (fun n => decide (s.gate.toNat < (s.gates[n]).gate.toNat))

/-- A slot whose job launches has fired (R320). -/
def State.fireSlot (s : State) (n : GateSlot) : State :=
  { s.setFlag (Reg.gtbSgCtrl n) 4 true with gates := s.gates.set n { s.gates[n] with armed := false } }

/-- The first job of its model in the queue (R232). -/
def State.isNext (s : State) (j : Job) : Bool :=
  (s.jobs.find? (fun x => x.ctx == j.ctx && x.model == j.model && x.state == .queued)).map (·.uid) == some j.uid

/-- DEADLINE as a gate count, from the launch where it is relative (R214). -/
def Job.startDeadline (j : Job) (now : W64) : Job :=
  if j.deadline = 0 ∨ j.absolute then j else { j with deadline := now + j.deadline, absolute := true }

/-- What keeps a cascade job from starting (R325). -/
def State.cascadeFault (s : State) (im : Image) : Option AbortCause :=
  if im.cascade.any (fun e => !e.members.contains s.devId) then some .notInMember
  else if im.cascade.any (fun e => e.members.any (fun m => m != s.devId && !s.rink.routes.any (fun r => r.1.toNat == m))) then
    some .memberNotEnumerated
  else none

/-- Launch a job whose model is resident: its counters, arguments and rows (R177, R205, R211); none where counters are
short. ARGS without a translation, or behind a frozen controller, end it unlaunched with status 2 (R305). -/
def State.launchJob (s : State) (j : Job) (im : Image) (ps : List Place) : Option State :=
  if (s.frozenIn j.ctx j.args.toNat im.argBytes).isSome then some ((s.tellEnd j.uid).finishJob j 2)
  else match s.readVa j.ctx j.args.toNat im.argBytes with
  | .error _ => some ((s.tellEnd j.uid).finishJob j 2)
  | .ok args =>
    match s.bindCounters j im with
    | none => none
    | some (s1, bs) =>
      let j1 := { j.startDeadline s.gate with state := .running, launch := s.gate, bindings := bs, argData := args }
      let s2 := (s1.dropUpdates j).setJob j1
      let s3 := (if s2.alone j1 then (s2.startRows j1 im ps).putAllArgs j1 im else s2).noteLaunched j1
      let s4 := (s.slotsFor j).foldl State.fireSlot s3
      some (match (if im.cascade.isEmpty then none else s4.cascadeFault im) with
        | some cause => s4.abortCascade j1 cause
        | none => s4)

/-- Launch a queued job where nothing holds it: its context runs, it is the next of its model, its model is resident, no
start gate holds it, and the Lodge schedules (R209, R232, R243, R320, R347). A model short of counters waits (R207). -/
def State.tryLaunch (s : State) (j : Job) : State :=
  if s.lodge.inReset || !s.ctxRuns j.ctx || !s.isNext j || s.gateHolds j then s
  else match s.model? j.ctx j.model with
    | none => s
    | some m => match m.residence, m.image with
      | .resident ps, some im => (match s.launchJob j im ps with
        | some s1 => s1
        | none => if m.waiting then s else (s.setModel { m with waiting := true }).logEntry 3 1 3
            [BitVec.ofNat 64 m.ctx.val, BitVec.ofNat 64 m.number.val, 3])
      | _, _ => s

/-- JOB_LAUNCH (R177, R209): a job of a parked model makes it resident first. -/
def execJobLaunch (ctx : CtxId) (job : BitVec 32) (s : State) : Out :=
  match s.findJob ctx job with
  | none => ok s
  | some j =>
    if j.state = .queued then
      let s1 := match s.model? ctx j.model with
        | some m => if s.wanted m && !s.lodge.inReset then s.makeResident m else s
        | none => s
      ok (s1.tryLaunch j)
    else ok s

/-! ## Completion (R180, R236, R334) -/

/-- Every stage that the job runs is complete (R180). -/
def State.allStagesDone (s : State) (j : Job) : Bool :=
  match s.imageOf j with
  | some im => (List.range im.stages.length).all (fun i => decide (i < j.entryStage) || s.stageDone j (Fin.ofNat 16 i))
  | none => false

/-- The status with which a job is over, where it is: ended and off every core, or complete, and its comparison settled. -/
def State.jobOver (s : State) (j : Job) : Option Nat :=
  if (List.finRange 8).any (s.runsTile j.uid) || s.rink.pendingOwn.any (fun r => sigOfJob r j) then none
  else match j.state with
    | .ended => some j.status
    | .running => if s.allStagesDone j then some 0 else none
    | _ => none

/-- JOB_COMPLETE (R236): the job's record is written and its fence raised. -/
def execJobComplete (ctx : CtxId) (job : BitVec 32) (s : State) : Out :=
  if s.lodge.inReset then ok s else
  match s.findJob ctx job with
  | none => ok s
  | some j => match s.jobOver j with
    | some st => ok (s.finishJob j st).retryPlaces
    | none => ok s

/-! ## Slalom (R213–R217) -/

/-- Gates of the job that an END has marked, that are complete and not yet evaluated, with their positions in the table
(R215). -/
def State.readyGates (s : State) (j : Job) (im : Image) : List (SlalomGate × Nat) :=
  (im.slalom.zipIdx).filter (fun e => j.marks.contains (e.1.counter, e.1.index) && !j.gatesSeen.contains e.2 &&
    (match s.jobCounter j e.1.counter with
     | some c => decide (e.1.index < c.doneLow)
     | none => false))

/-- The first of them: ascending counter, then ascending index (R215). -/
def firstGate : List (SlalomGate × Nat) → Option (SlalomGate × Nat)
  | [] => none
  | a :: r => some (r.foldl (fun m x =>
      if x.1.counter < m.1.counter || (x.1.counter == m.1.counter && x.1.index < m.1.index) then x else m) a)

/-- Decoded row bytes of an image that load into a cluster, by its places (R208, R212). -/
def clusterBytes (im : Image) (ps : List Place) (c : Nat) : Nat :=
  (im.sections.map (fun x => match ps[x.stage]? with
    | some p => if x.kind < 2 then 0
        else ((p.storesOf (x.kind == 3)).filter (fun st => (if st < 8 then st / 2 else st - 8) == c)).length * (512 * x.size)
    | none => 0)).sum

/-- The R208 time of an image's sections, in ns: 100 µs and the largest cluster's bytes at 68.3 GB/s. -/
def loadTime (im : Image) (ps : List Place) : Nat :=
  100000 + cdiv (((List.range 4).map (clusterBytes im ps)).foldl max 0 * 10) 683

/-- Time that a fall-back needs before it can start; none where it has no place (R215; log 29). -/
def State.fallbackLoad (s : State) (f : Model) (im : Image) : Option Nat :=
  match f.residence with
  | .resident _ => some 0
  | .loading ps _ _ => some (loadTime im ps)
  | .parked => (s.makeRoom im (s.candidates f)).map (fun x => loadTime im x.2.2)

/-- The projection of R215. -/
def switches (now launch total remain fremain load margin deadline : Nat) : Bool :=
  let elapsed := now - launch
  let den := (total - remain) * 256
  let proj := now + cdiv (remain * elapsed * (256 + margin)) den
  let fproj := now + load + cdiv (fremain * elapsed * (256 + margin)) den
  decide (deadline < proj) && decide (fproj < proj)

/-- Steps of the fall-back from an entry stage (R212, R213). -/
def fremain (im : Image) (entry : Nat) : Nat := im.entries.getD (if entry = 0xFF then 0 else entry) 0

/-- Whether the job switches at a gate. -/
def State.switchesAt (s : State) (j : Job) (im : Image) (g : SlalomGate) : Bool :=
  if j.fallback = 0xFF then false
  else match s.model? j.ctx (Fin.ofNat 16 j.fallback) with
    | some f => (match f.image with
      | some fi => (match s.fallbackLoad f fi with
        | some load => switches s.gate.toNat j.launch.toNat im.slalomTotal g.remain (fremain fi g.entry) load j.margin
            j.deadline.toNat
        | none => false)
      | none => false)
    | none => false

/-- The launchers and streams of a job's stages stop: their claims wait nowhere any more, and stopped fills are discarded (R216
step 2). -/
def State.stopClaims (s : State) (uid : W32) : State :=
  let control := fun (w : Claimer) => match w with
    | .control _ => true
    | .launcher _ _ => false
  ({ s with counters := s.counters.map (fun (c : Option Counter) => c.map (fun (c : Counter) =>
      if c.job = uid then
        { c with waiting := c.waiting.filter control, blocked := c.blocked && (c.waiting.head?.map control).getD false }
      else c)) } : State).pruneFills

/-- The job begins to switch: it launches no further tile of the primary (R216 steps 1 and 2). -/
def State.beginSwitch (s : State) (j : Job) (g : SlalomGate) : State :=
  let s1 := s.setJob { j with
    state := .switching, switched := some (g.counter, g.index), entryStage := if g.entry = 0xFF then 0 else g.entry }
  ((s1.stopClaims j.uid).inc Reg.ldgSlalomSwitchCount 32 1).logEntry 4 0 1
    [BitVec.ofNat 64 j.ctx.val, j.number.zeroExtend 64, BitVec.ofNat 64 g.counter, BitVec.ofNat 64 g.index]

/-- SLALOM_GATE_EVALUATE (R215): the first gate that is ready is evaluated, for a job with a deadline that has not
switched and whose context is not being destroyed (R241). -/
def execSlalomGateEvaluate (ctx : CtxId) (job : BitVec 32) (s : State) : Out :=
  if s.lodge.inReset then ok s else
  match s.findJob ctx job with
  | none => ok s
  | some j =>
    if j.state = .running ∧ j.deadline ≠ 0 ∧ j.switched = none ∧ !s.ctxEnds ctx then
      match s.imageOf j with
      | none => ok s
      | some im => match firstGate (s.readyGates j im) with
        | none => ok s
        | some (g, n) =>
          let j1 := { j with gatesSeen := j.gatesSeen ++ [n] }
          ok (if s.switchesAt j im g then s.beginSwitch j1 g else s.setJob j1)
    else ok s

/-- Counters of the stages that the fall-back does not run are complete from the start (log 30). -/
def State.passStages (s : State) (j : Job) (im : Image) : State :=
  let skipped := (im.stages.take j.entryStage).map (·.launch)
  let used := (im.stages.drop j.entryStage).map (·.launch)
  { s with counters := s.counters.map (fun c => c.map (fun (x : Counter) =>
      if x.job = j.uid ∧ skipped.contains x.number ∧ !used.contains x.number then { x with next := x.limit, doneLow := x.limit }
      else x)) }

/-- The fall-back takes over the job: held indices are discarded and counters rebound (R216 steps 4 and 5). -/
def State.enterFallback (s : State) (j : Job) (im : Image) : State :=
  let j1 := { j with state := .running, runsFallback := true }
  match ((s.dropHeld j.uid).freeCounters j.uid).bindCounters j1 im with
  | none => s
  | some (s1, bs) =>
    let j2 := { j1 with bindings := bs }
    let s2 := (s1.setJob j2).passStages j2 im
    if s2.alone j2 then s2.putAllArgs j2 im else s2

/-- FALLBACK_LAUNCH (R216): once the primary's tiles have ended, the fall-back launches; a parked one is made resident
first. -/
def execFallbackLaunch (ctx : CtxId) (job : BitVec 32) (s : State) : Out :=
  match s.findJob ctx job with
  | none => ok s
  | some j =>
    if j.state = .switching ∧ (List.finRange 8).all (fun k => !s.runsTile j.uid k) ∧ s.ctxRuns ctx ∧ !s.lodge.inReset then
      match s.model? ctx (Fin.ofNat 16 j.fallback) with
      | none => ok s
      | some f => match f.residence, f.image with
        | .resident _, some im => ok (s.enterFallback j im)
        | .parked, some _ => ok (s.makeResident f)
        | _, _ => ok s
    else ok s

/-! ## The fault slot (R201, R202) -/

/-- The 32 bytes of a context's fault slot. -/
def State.faultSlot (s : State) (x : Context) (f : Stopped) : List Byte :=
  leBytes 8 f.va.toNat ++ leBytes 2 x.id.val ++ leBytes 1 f.cause ++ leBytes 1 f.level ++ leBytes 1 f.lift ++
  leBytes 1 ((s.stopped.filter (fun y => y.ctx == x.id)).map (·.lift)).dedup.length ++ leBytes 2 0 ++
  leBytes 8 f.gate.toNat ++ leBytes 8 x.faultSeq.toNat

/-- The context's earliest unresolved fault. -/
def State.firstFault (s : State) (c : CtxId) : Option Stopped := s.stopped.find? (fun f => f.ctx == c)

/-- The fault that a context's slot is to describe: the earliest unresolved one, else the last reported where the slot does not
show its sequence yet, as one refused at once (R201; log 113). -/
def State.slotFault (s : State) (x : Context) : Option Stopped :=
  match s.firstFault x.id with
  | some f => some f
  | none => if x.slotSeq = x.faultSeq then none else x.lastFault

/-- FAULT_SLOT_WRITE (R201): the slot describes the context's earliest unresolved fault; its sequence counts the faults
reported. -/
def execFaultSlotWrite (ctx : CtxId) (s : State) : Out :=
  if s.lodge.inReset then ok s else
  match s.ctx? ctx with
  | none => ok s
  | some x => match s.slotFault x with
    | none => ok s
    | some f =>
      let s1 := s.setCtx { x with slotSeq := x.faultSeq }
      ok ((s1.hostPost x.status.toNat (s.faultSlot x f)).takeNote (liftCluster f.lift) f.note)

/-- FAULT_WAIT of a fault's context has passed since it (R194, R202). -/
def State.waitedOut (s : State) (f : Stopped) : Bool :=
  match s.faultWaitOf f with
  | some w => decide (f.gate.toNat + w * 1000000 ≤ s.gate.toNat)
  | none => false

/-- FAULT_WAIT_TIMEOUT (R202): once FAULT_WAIT has passed since the earliest unresolved fault, the Lodge refuses every stopped
command and fill of the context. -/
def execFaultWaitTimeout (ctx : CtxId) (s : State) : Out :=
  if s.lodge.inReset then ok s else
  match s.firstFault ctx with
  | some f => ok (if s.waitedOut f then s.refuseWhere (fun x => x.ctx == ctx) else s)
  | none => ok s

end Sys2Proof.Machine
end

