-- ==== Sys2Proof/Machine/Ring.lean ====
section
/-! DEFINITION. The command ring: consuming an entry, its checks in order, and every command (R193, R194, R199, R202, R207,
R226–R234, R240, R270). A command's row is admitted when the ring has an entry to consume; else nothing happens. -/

namespace Sys2Proof.Machine

/-! ## The entry (R228) -/

/-- The n bytes from byte i of an entry, as a number. -/
def RingEntry.at (e : RingEntry) (i n : Nat) : Nat := field (n := 448) e (8 * (i + n) - 1) (8 * i)
/-- CONTEXT. -/
def RingEntry.ctx (e : RingEntry) : CtxId := Fin.ofNat 1024 (field (n := 448) e 17 8)
/-- FEN. -/
def RingEntry.fen (e : RingEntry) : Bool := bit (n := 448) e 18
/-- FENCE. -/
def RingEntry.fence (e : RingEntry) : Nat := field (n := 448) e 35 24
/-- FVALUE. -/
def RingEntry.fvalue (e : RingEntry) : W64 := BitVec.ofNat 64 (RingEntry.at e 8 8)

/-- Which contexts a command may name (R230, R231). -/
inductive RingScope where
  | device | context | create
deriving DecidableEq, Repr

/-- Offsets of the header's reserved fields that are not 0 (R228). -/
def headerBad (e : RingEntry) (scope : RingScope) : List Nat :=
  (if scope = .device ∧ field (n := 448) e 17 8 ≠ 0 then [1] else []) ++ (if field (n := 448) e 23 19 ≠ 0 then [2] else []) ++
  (if !RingEntry.fen e ∧ RingEntry.fence e ≠ 0 then [3] else []) ++ (if field (n := 448) e 63 36 ≠ 0 then [4] else [])

/-- Offsets of payload bytes that belong to no field of the command and are not 0 (R232). Fields are (offset, bytes). -/
def payloadBad (e : RingEntry) (fields : List (Nat × Nat)) : List Nat :=
  ((List.range 40).map (· + 16)).filter (fun i => RingEntry.at e i 1 != 0 && !fields.any (fun f => decide (f.1 ≤ i) && decide (i < f.1 + f.2)))

/-- A field above its largest value, by its offset. -/
def tooBig (e : RingEntry) (o n largest : Nat) : List Nat := if largest < RingEntry.at e o n then [o] else []

/-- The least of a list of offsets. -/
def least : List Nat → Option Nat
  | [] => none
  | a :: r => some (r.foldl min a)

/-! ## Consuming (R227, R229, R230) -/

/-- The ring has an entry to consume (R227, R229, R347). -/
def State.ringReady (s : State) : Bool :=
  s.ringOn && (s.hifState == 4 || s.hifState == 3) && !s.lodge.inReset && s.masters &&
  s.fld Reg.hifRingHead 15 0 != s.fld Reg.hifRingTail 15 0

/-- Entries of the ring. -/
def State.ringSize (s : State) : Nat := 2 ^ s.fld Reg.hifRingSize 4 0

/-- The response is written, HEAD moves past the entry, and the status block follows (R228, R229, R238). -/
def State.respond (s : State) (result detail : Nat) (value : W32) : State :=
  let h := s.fld Reg.hifRingHead 15 0
  let a := (s.reg Reg.hifRingBase).toNat + 64 * h + 56
  let s1 := s.hostPost a (leBytes 1 result ++ leBytes 1 detail ++ leBytes 2 0 ++ leBytes 4 value.toNat)
  (s1.setFld Reg.hifRingHead 15 0 ((h + 1) % s.ringSize)).writeStatus

/-- The header's fence may be raised by the command: registered, and owned by the device or by the command's context
(R230). A destruction needs a device-owned fence (R232). -/
def State.fenceUsable (s : State) (e : RingEntry) (scope : RingScope) (deviceOnly : Bool) : Bool :=
  match s.fence? (RingEntry.fence e) with
  | none => false
  | some f => match f.owner with
    | none => true
    | some c => scope == .context && c == RingEntry.ctx e && !deviceOnly

/-- The context check of R230. -/
def State.contextRefusal (s : State) (c : CtxId) (scope : RingScope) : Option Nat :=
  match scope with
  | .device => none
  | .create => if c = 0 then some 0x03 else if (s.ctx? c).isSome then some 0x04 else none
  | .context => match s.ctx? c with
    | none => some 0x03
    | some x => if c = 0 then some 0x03 else if x.destroying then some 0x0B else none

/-- What a command answers once it may take effect: a refusal with its DETAIL, or its effect, VALUE, and whether it is
complete. The effect is given the command's number. -/
inductive RingAnswer where
  | refuse (result detail : Nat)
  | accept (s : State) (value : W32) (complete : Bool)

/-- An accepted command: outstanding until complete, its raise in ring order (R229, R234). -/
def State.account (s : State) (e : RingEntry) (id opcode arg : Nat) (ctx : Option CtxId)
    (tiles : List (CoreId × W32 × Nat × W64 × W32)) (complete : Bool) : State :=
  let s1 := { s with ringWork := s.ringWork ++ [⟨id, opcode, ctx, arg, tiles⟩]
                     raises := if RingEntry.fen e then s.raises ++ [⟨id, RingEntry.fence e, RingEntry.fvalue e, false⟩]
                       else s.raises }
  if complete then s1.workDone id else s1

/-- The tiles of a context that run now. -/
def State.tilesOf (s : State) (c : CtxId) : List (CoreId × W32 × Nat × W64 × W32) :=
  (List.finRange 8).filterMap (fun k => match (s.core k).tile with
    | some t => if t.ctx = c then some (k, t.job, t.counter, t.index, t.epoch) else none
    | none => none)

/-- Consume one entry: its checks in the order of R230, then its own checks and effect. -/
def consume (opcode : Nat) (e : RingEntry) (scope : RingScope) (bad : List Nat) (arg : Nat)
    (body : State → Nat → RingAnswer) (s : State) : State :=
  if !s.ringReady then s
  else if s.hifState = 3 ∧ opcode ≠ 1 ∧ opcode ≠ 2 then s.respond 0x0A 0 0
  else match least (headerBad e scope ++ bad) with
  | some o => s.respond 0x02 o 0
  | none => match s.contextRefusal (RingEntry.ctx e) scope with
    | some r => s.respond r 0 0
    | none =>
      if RingEntry.fen e && !s.fenceUsable e scope (opcode == 0x12) then s.respond 0x05 0 0
      else match body { s with ringIds := s.ringIds + 1 } s.ringIds with
        | .refuse r d => s.respond r d 0
        | .accept s1 v done =>
          (s1.respond 0 0 v).account e s.ringIds opcode arg (if scope = .device then none else some (RingEntry.ctx e))
            (s1.tilesOf (RingEntry.ctx e)) done

/-- The first code of a command's own checks that applies, in ascending order (R230). -/
def firstCode : List (Bool × Nat) → Option Nat
  | [] => none
  | (b, c) :: r => if b then some c else firstCode r

/-! ## Device commands (R231, R234) -/

/-- NOP (R231). -/
def execRingNop (e : RingEntry) (s : State) : Out :=
  ok (consume 1 e .device (payloadBad e []) 0 (fun s _ => .accept s 0 true) s)

/-- BARRIER (R231): complete at once where nothing before it is outstanding. -/
def execBarrier (e : RingEntry) (s : State) : Out :=
  ok (consume 2 e .device (payloadBad e []) 0 (fun s _ => .accept s 0 s.ringWork.isEmpty) s)

/-- An opcode that is not in the table: result 0x01 (R230, R231). An opcode of the table is no such entry. -/
def execUnknownRingOpcode (opcode : Byte) (_e : RingEntry) (s : State) : Out :=
  let known := [0x01, 0x02, 0x03, 0x04, 0x10, 0x11, 0x12, 0x13, 0x14, 0x20, 0x21, 0x22, 0x30, 0x31, 0x32]
  ok (if s.ringReady && !known.contains opcode.toNat then s.respond 0x01 0 0 else s)

/-- FENCE_REGISTER (R232, R234). DESIGN CHOICE: a SPACE above 1 names no scope; the entry is checked in device scope, where a CONTEXT
that is not 0 is the lowest offending byte (R230; log 129). -/
def execFenceRegister (e : RingEntry) (s : State) : Out :=
  let scope := if RingEntry.at e 24 1 = 0 then RingScope.context else .device
  let i := RingEntry.at e 25 2
  let bad := payloadBad e [(16, 8), (24, 3), (32, 8)] ++ tooBig e 24 1 1 ++ tooBig e 25 2 4095
  ok (consume 3 e scope bad i (fun s _ =>
    match firstCode [((s.fence? i).isSome, 0x05), (RingEntry.at e 16 8 % 8 != 0, 0x07)] with
    | some r => .refuse r 0
    | none =>
      let v := BitVec.ofNat 64 (RingEntry.at e 32 8)
      let f : Fence := ⟨i, if scope = .context then some (RingEntry.ctx e) else none, BitVec.ofNat 64 (RingEntry.at e 16 8), v⟩
      .accept (({ s with fences := s.fences ++ [f] }).putFence f v) 0 true) s)

/-- FENCE_RELEASE (R232, R234): in the scope in which the fence was registered. -/
def execFenceRelease (e : RingEntry) (s : State) : Out :=
  let scope := if RingEntry.ctx e = 0 then RingScope.device else .context
  let i := RingEntry.at e 25 2
  ok (consume 4 e scope (payloadBad e [(25, 2)] ++ tooBig e 25 2 4095) i (fun s _ =>
    match s.fence? i with
    | some f => if f.owner = (if scope = .context then some (RingEntry.ctx e) else none) then .accept (s.freeFence i) 0 true
        else .refuse 0x05 0
    | none => .refuse 0x05 0) s)

/-! ## Contexts (R194, R199, R202, R240) -/

/-- Attributes out of range, by their offsets, for those a mask names (R194): bit 1 PRIORITY, 2 AUTONOMOUS, 3 FAULT_WAIT,
4 ABANDON. -/
def attrBad (e : RingEntry) (mask : Nat) : List Nat :=
  (if mask.testBit 1 then tooBig e 32 1 7 else []) ++ (if mask.testBit 2 then tooBig e 33 1 1 else []) ++
  (if mask.testBit 3 then tooBig e 34 2 10000 else []) ++
  (if mask.testBit 4 then (if RingEntry.at e 36 4 < 100 then [36] else tooBig e 36 4 100000) else [])

/-- The context is paired, and this device is the standby twin (R326). -/
def State.standsBy (s : State) (c : CtxId) : Bool :=
  s.flag Reg.rnkPairCtrl 0 && s.flag Reg.rnkPairStatus 0 && s.flag (Reg.rnkPairCtx (c.val / 64)) (c.val % 64)

/-- CTX_CREATE (R194, R197, R239). -/
def execCtxCreate (e : RingEntry) (s : State) : Out :=
  let c := RingEntry.ctx e
  let u := RingEntry.at e
  ok (consume 0x10 e .create (payloadBad e [(16, 24)] ++ attrBad e 0x1F) 0 (fun s _ =>
    if u 24 8 % 128 ≠ 0 ∨ !s.goodTable (u 16 8) 512 then .refuse 0x07 0
    else
      let x : Context := ⟨c, BitVec.ofNat 64 (u 16 8), BitVec.ofNat 64 (u 24 8), BitVec.ofNat 8 (u 32 1), u 33 1 == 1, u 34 2,
        u 36 4, s.standsBy c, false, 0, 1, 0, none, 0⟩
      .accept ((({ s with contexts := s.contexts ++ [x] }).writeCtx c).logEntry 5 0 2 [BitVec.ofNat 64 c.val]) 0 true) s)

/-- A context with the attributes that a mask names (R194, R232): bit 0 STATUS, 5 UNPARK. -/
def setAttrs (x : Context) (e : RingEntry) (mask : Nat) : Context :=
  let u := RingEntry.at e
  { x with
    status := if mask.testBit 0 then BitVec.ofNat 64 (u 24 8) else x.status
    priority := if mask.testBit 1 then BitVec.ofNat 8 (u 32 1) else x.priority
    autonomous := if mask.testBit 2 then u 33 1 == 1 else x.autonomous
    faultWait := if mask.testBit 3 then u 34 2 else x.faultWait
    abandon := if mask.testBit 4 then u 36 4 else x.abandon
    parked := x.parked && !mask.testBit 5 }

/-- CTX_SET (R194, R244): PRIORITY acts at tile boundaries, which is where it is read; a running tile keeps the ABANDON,
FAULT_WAIT and AUTONOMOUS with which it launched. UNPARK needs STATUS with it. Complete at once where no tile of the context runs. -/
def execCtxSet (e : RingEntry) (s : State) : Out :=
  let mask := RingEntry.at e 40 1
  let bad := payloadBad e [(24, 17)] ++ attrBad e mask ++ tooBig e 40 1 63 ++
    (if mask.testBit 5 && !mask.testBit 0 then [40] else [])
  ok (consume 0x11 e .context bad 0 (fun s _ =>
    match s.ctx? (RingEntry.ctx e) with
    | none => .refuse 0x03 0
    | some x =>
      if mask.testBit 0 && RingEntry.at e 24 8 % 128 != 0 then .refuse 0x07 0
      else .accept ((s.setCtx (setAttrs x e mask)).writeCtx x.id) 0 (s.tilesOf x.id).isEmpty) s)

/-- A job that the destruction of its context withdraws: not launched, or about to enter its fall-back, which is abandoned (R240,
R241). -/
def Job.withdraw (j : Job) : Job :=
  match j.state with
  | .queued => { j with state := .ended, status := 2 }
  | .switching => { j with state := .ended, status := 2, switched := none }
  | _ => j

/-- The bindings of a context are withdrawn: other contexts may bind the destinations, and the frames that hold slots are still
over one day (R240). -/
def State.withdrawBindings (s : State) (c : CtxId) : State :=
  let mine := (List.finRange 16).filterMap (fun (d : DestId) => match s.bound d with
    | some x => if x.ctx = c then some (d, x) else none
    | none => none)
  { s with
    withdrawn := s.withdrawn ++ mine
    standing := s.standing.map (fun b => match b with
      | some x => if x.ctx = c then none else some x
      | none => none) }

/-- Every job of a context that its destruction withdraws ends its cascade on the other members (R240, R325). -/
def State.tellWithdrawn (s : State) (c : CtxId) : State :=
  (s.jobs.filter (fun j => j.ctx == c && (j.state == .queued || j.state == .switching))).foldl (fun s j => s.tellEnd j.uid) s

/-- CTX_DESTROY (R240 step 1): the context launches and claims nothing further; its unlaunched jobs and its bindings are
withdrawn. -/
def execCtxDestroy (e : RingEntry) (s : State) : Out :=
  let c := RingEntry.ctx e
  ok (consume 0x12 e .context (payloadBad e []) 0 (fun s _ =>
    match s.ctx? c with
    | none => .refuse 0x03 0
    | some x =>
      let s0 := s.tellWithdrawn c
      let s1 := { s0.setCtx { x with destroying := true } with
        jobs := s0.jobs.map (fun (j : Job) => if j.ctx = c then j.withdraw else j) }
      .accept ((s1.withdrawBindings c).writeCtx c) 0 false) s)

/-- CTX_INVALIDATE (R199). -/
def execCtxInvalidate (e : RingEntry) (s : State) : Out :=
  ok (consume 0x13 e .context (payloadBad e []) 0 (fun s _ => .accept s 0 false) s)

/-- CTX_FAULT (R202): the context's stopped work goes on, or is refused. -/
def execCtxFault (e : RingEntry) (s : State) : Out :=
  let c := RingEntry.ctx e
  ok (consume 0x14 e .context (payloadBad e [(16, 1)] ++ tooBig e 16 1 1) 0 (fun s _ =>
    .accept (if RingEntry.at e 16 1 = 0 then s.resumeWhere (fun x => x.ctx == c) else s.refuseWhere (fun x => x.ctx == c))
      0 true) s)

/-! ## Models (R207, R210, R233) -/

/-- The model that an entry's MODEL names. -/
def RingEntry.model (e : RingEntry) : ModelNo := Fin.ofNat 16 (RingEntry.at e 16 1)

/-- A model that commands may use: registered or in registration, and not on its way out. -/
def State.usable? (s : State) (c : CtxId) (m : ModelNo) : Option Model :=
  (s.model? c m).bind (fun x => if x.unregistering.isSome then none else some x)

/-- MODEL_REGISTER (R233): the number is occupied and verification begins. -/
def execModelRegister (e : RingEntry) (s : State) : Out :=
  let c := RingEntry.ctx e
  let u := RingEntry.at e
  ok (consume 0x20 e .context (payloadBad e [(16, 1), (24, 16)] ++ tooBig e 16 1 15) (u 16 1) (fun s _ =>
    match firstCode [((s.model? c (RingEntry.model e)).isSome, 0x06), (u 24 8 % 64 != 0, 0x07)] with
    | some r => .refuse r 0
    | none =>
      let m : Model := ⟨c, RingEntry.model e, BitVec.ofNat 64 (u 24 8), u 32 8, 1, none, 0, .parked, 0, 0, 0, none, false⟩
      .accept (({ s with models := s.models ++ [m] }).writeCtx c) 0 false) s)

/-- MODEL_UNREGISTER (R231, R233). DESIGN CHOICE: a model on its way out keeps no hint, so that no PIN makes it resident again
(log 130). -/
def execModelUnregister (e : RingEntry) (s : State) : Out :=
  ok (consume 0x21 e .context (payloadBad e [(16, 1)] ++ tooBig e 16 1 15) (RingEntry.at e 16 1) (fun s id =>
    match s.usable? (RingEntry.ctx e) (RingEntry.model e) with
    | none => .refuse 0x06 0
    | some m => .accept (s.setModel { m with unregistering := some id, hint := 0 }) 0 false) s)

/-- The device with every other unpinned model's residence taken away: where a PIN must find a place (R207). -/
def State.withoutUnpinned (s : State) (m : Model) : State :=
  (s.models.filter (fun x => x.hint != 1 && !x.isParked && (x.ctx != m.ctx || x.number != m.number))).foldl State.unseat s

/-- A PIN can be met without evicting another pinned model (R207). -/
def State.canPin (s : State) (m : Model) : Bool :=
  !m.isParked || (match m.image with
    | some im => ((s.withoutUnpinned m).placeAll 2 im).isSome
    | none => false)

/-- A hint takes effect (R207): PIN makes the model resident, LOAD does if it evicts no model of equal or higher priority,
DROP evicts it if it has no job. -/
def State.giveHint (s : State) (m : Model) (h : Nat) : State :=
  let m1 := { m with hint := h }
  let s1 := s.setModel m1
  if h = 1 then s1.makeResident m1
  else if h = 3 ∧ m.isParked then
    match m.image.bind (fun im => s1.makeRoom im ((s1.candidates m1).filter (fun x => decide (s.priority x.ctx < s.priority m.ctx)))),
        m.image with
    | some (s2, o, ps), some im => s1.afterEviction (s2.beginLoad m1 im o ps)
    | _, _ => s1
  else if h = 4 ∧ m.isResident ∧ (s.jobsOf m.ctx m.number).isEmpty ∧ !s.busy m then (s1.evict m1).retryPlaces
  else s1

/-- MODEL_HINT (R207). -/
def execModelHint (e : RingEntry) (s : State) : Out :=
  let h := RingEntry.at e 17 1
  ok (consume 0x22 e .context (payloadBad e [(16, 2)] ++ tooBig e 16 1 15 ++ tooBig e 17 1 4) (RingEntry.at e 16 1) (fun s _ =>
    match s.usable? (RingEntry.ctx e) (RingEntry.model e) with
    | none => .refuse 0x06 0
    | some m =>
      match firstCode [(h == 1 && m.state == 2 && !s.canPin m, 0x09), (m.state != 2, 0x0C)] with
      | some r => .refuse r 0
      | none => .accept (s.giveHint m h) 0 true) s)

/-! ## Jobs (R190, R214, R232, R330) -/

/-- The context is enrolled for comparison (R330). -/
def State.enrolled (s : State) (c : CtxId) : Bool :=
  s.flag Reg.synCtrl 0 && (List.range 8).any (fun i => s.flag (Reg.synCtx i) 31 && s.fld (Reg.synCtx i) 9 0 == c.val)

/-- FALLBACK is 0–15 or 0xFF (R232). -/
def fallbackBad (e : RingEntry) : List Nat :=
  if RingEntry.at e 19 1 < 16 ∨ RingEntry.at e 19 1 = 0xFF then [] else [19]

/-- FALLBACK is 0xFF or the image's own (R211). -/
def fallbackFits (e : RingEntry) (m : Model) : Bool :=
  RingEntry.at e 19 1 == 0xFF || (match m.image with
    | some im => RingEntry.at e 19 1 == im.fallback
    | none => true)

/-- The strict bit with a model that declares a window (R190). -/
def strictRefused (e : RingEntry) (m : Model) : Bool :=
  RingEntry.at e 17 1 % 2 == 1 && (match m.image with
    | some im => im.windows
    | none => false)

/-- Jobs of a context submitted and not launched (R232). -/
def State.queuedJobs (s : State) (c : CtxId) : Nat :=
  (s.jobs.filter (fun j => j.ctx == c && j.state == .queued && j.standing.isNone)).length

/-- A fresh job with nothing in it. -/
def Job.blank (uid : W32) (c : CtxId) (m : ModelNo) : Job where
  uid := uid
  ctx := c
  model := m
  number := uid ||| 0x80000000
  state := .queued
  strict := false
  absolute := false
  margin := 26
  fallback := 0xFF
  limit := 0
  args := 0
  record := 0
  seed := 0
  deadline := 0
  fvalue := 0
  work := none
  standing := none
  launch := 0
  status := 0
  haltReason := 0
  haltSource := 0
  haltCore := 0
  haltPc := 0
  haltGate := 0
  conv := 0
  clip := 0
  nan := 0
  bindings := []
  marks := []
  gatesSeen := []
  switched := none
  entryStage := 0
  runsFallback := false
  parkedDuring := false
  diverged := false
  uncompared := false
  nModel := 0
  nEnrol := 0
  compared := false
  argData := []
  slotRow := none

/-- Start gates that have passed for a job's model before the job came: the slots are spent and LATE is set (R320). -/
def State.lateSlot (s : State) (j : Job) : State :=
  if s.isNext j then
    ((s.slotsFor j).filter (fun (n : GateSlot) => decide ((s.gates[n]).gate.toNat ≤ s.gate.toNat))).foldl (fun s (n : GateSlot) =>
      { s.setFlag (Reg.gtbSgCtrl n) 3 true with gates := s.gates.set n { s.gates[n] with armed := false } }) s
  else s

/-- A new job joins the queue: the counts of its model rise, and its model is made resident where it is parked (R209, R324,
R330). A cascade job that has been aborted already ends at once with STATUS 2 (R325). -/
def State.enqueue (s : State) (m : Model) (j : Job) : State :=
  let counted := j.standing.isNone
  let key := (m.ctx, m.number, m.jobsSinceReg + 1)
  let gone := s.rink.aborted.contains key
  let j1 := { j with nModel := m.jobsSinceReg + 1, state := if gone then .ended else j.state, status := if gone then 2 else j.status
                     nEnrol := if counted then m.jobsSinceEnrol + 1 else 0
                     parkedDuring := s.contexts.any (fun x => x.id == j.ctx && x.parked) }
  let m1 := { m with jobsSinceReg := m.jobsSinceReg + 1
                     jobsSinceEnrol := if counted then m.jobsSinceEnrol + 1 else m.jobsSinceEnrol }
  let s1 := { s.setModel m1 with
    jobs := s.jobs ++ [j1]
    uids := s.uids + 1
    rink := { s.rink with aborted := s.rink.aborted.filter (fun x => x != key) } }
  let s2 := if s.enrolled j.ctx && !j.compared then s1.inc Reg.synSkipCount 32 1 else s1
  if gone then s2.dropUpdates j1 else (s2.lateSlot j1).makeResident m1

/-- The job that JOB_SUBMIT describes (R214, R232). -/
def submitted (s : State) (e : RingEntry) (id : Nat) (number : W32) : Job :=
  let u := RingEntry.at e
  { Job.blank s.uids (RingEntry.ctx e) (RingEntry.model e) with
    number := number
    strict := u 17 1 % 2 == 1
    absolute := u 17 1 / 2 % 2 == 1
    margin := u 18 1
    fallback := u 19 1
    limit := u 20 4
    args := BitVec.ofNat 64 (u 24 8)
    record := BitVec.ofNat 64 (u 32 8)
    seed := BitVec.ofNat 64 (u 40 8)
    deadline := BitVec.ofNat 64 (u 48 8)
    fvalue := RingEntry.fvalue e
    work := some id
    compared := u 17 1 % 2 == 1 && s.enrolled (RingEntry.ctx e) }

/-- JOB_SUBMIT (R190, R211, R214, R232, R233). VALUE is the job's number. -/
def execJobSubmit (e : RingEntry) (s : State) : Out :=
  let c := RingEntry.ctx e
  let bad := payloadBad e [(16, 40)] ++ tooBig e 16 1 15 ++ tooBig e 17 1 3 ++ fallbackBad e
  ok (consume 0x30 e .context bad (RingEntry.at e 16 1) (fun s id =>
    match s.usable? c (RingEntry.model e), s.ctx? c with
    | some m, some x =>
      (match firstCode [(!fallbackFits e m, 0x06), (RingEntry.at e 32 8 % 64 != 0, 0x07), (strictRefused e m, 0x08),
          (decide (256 ≤ s.queuedJobs c), 0x09), (m.state != 2, 0x0C)] with
       | some r => .refuse r 0
       | none =>
         let s1 := s.setCtx { x with nextJob := if x.nextJob = BitVec.allOnes 32 then 1 else x.nextJob + 1 }
         .accept (s1.enqueue m (submitted s1 e id x.nextJob)) x.nextJob false)
    | _, _ => .refuse 0x06 0) s)

/-! ## Standing bindings (R16, R232, R270) -/

/-- The image has an input entry (R212). -/
def hasInput (m : Model) : Bool :=
  match m.image with
  | some im => im.input.isSome
  | none => true

/-- The binding that STANDING_BIND describes. -/
def bindingOf (e : RingEntry) (im : InputEntry) (part : Nat) : Standing :=
  let u := RingEntry.at e
  ⟨RingEntry.ctx e, RingEntry.model e, u 17 1 == 1, u 18 1, u 19 1, u 21 1, BitVec.ofNat 64 (u 24 8), BitVec.ofNat 64 (u 32 8),
    BitVec.ofNat 64 (u 40 8), u 48 4, if RingEntry.fen e then some (RingEntry.fence e) else none, 0, [], 0, im.slots,
    im.slotRows, 0, im.slots - 1, [], none, false, part⟩

/-- The first part of a model's slot run that no other destination's binding has (R270; log 55). -/
def State.freePart (s : State) (c : CtxId) (m : ModelNo) : Nat :=
  let used := (s.bindingsOf c m).map (·.part)
  ((List.range 16).find? (fun i => !used.contains i)).getD 16

/-- STANDING_BIND (R211, R212, R232, R270): the destination is bound, and its model made resident, since its slots lie in the
model's reservation. -/
def execStandingBind (e : RingEntry) (s : State) : Out :=
  let d : DestId := Fin.ofNat 16 (RingEntry.at e 20 1)
  let bad := payloadBad e [(16, 6), (24, 28)] ++ tooBig e 16 1 15 ++ tooBig e 17 1 1 ++ fallbackBad e ++ tooBig e 20 1 15 ++
    (if RingEntry.at e 21 1 < 4 then [21] else tooBig e 21 1 16)
  ok (consume 0x31 e .context bad d.val (fun s _ =>
    match s.usable? (RingEntry.ctx e) (RingEntry.model e) with
    | none => .refuse 0x06 0
    | some m =>
      match firstCode [(!fallbackFits e m || !hasInput m, 0x06), (strictRefused e m, 0x08), ((s.bound d).isSome, 0x09),
          (m.state != 2, 0x0C)], m.image.bind (·.input) with
      | none, some im => .accept ((s.setBound d (some (bindingOf e im (s.freePart m.ctx m.number)))).makeResident m) 0 true
      | some r, _ => .refuse r 0
      | none, none => .refuse 0x06 0) s)

/-- Every frame of a binding is over. -/
def Standing.over (x : Standing) : Bool := x.finishedLow == x.seqNo

/-- STANDING_UNBIND (R231): no further frame is taken. A destination that the context has not bound is out of range
(log 31). -/
def execStandingUnbind (e : RingEntry) (s : State) : Out :=
  let d : DestId := Fin.ofNat 16 (RingEntry.at e 20 1)
  ok (consume 0x32 e .context (payloadBad e [(20, 1)] ++ tooBig e 20 1 15) d.val (fun s id =>
    match s.bound d with
    | some x =>
      if x.ctx = RingEntry.ctx e ∧ x.unbinding = none then
        (if x.over then .accept (s.setBound d none) 0 true
         else .accept (s.setBound d (some { x with unbinding := some id })) 0 false)
      else .refuse 0x02 20
    | none => .refuse 0x02 20) s)

end Sys2Proof.Machine
end

