-- ==== Sys2Proof/Machine/RingDone.lean ====
section
/-! DEFINITION. Ring commands whose work continues after consumption: what completes them (R194, R199, R210, R229, R231, R240).
A command's number counts the entries consumed and accepted since reset, from 1. -/

namespace Sys2Proof.Machine

/-- The outstanding command of a number and opcode. -/
def State.work? (s : State) (id opcode : Nat) : Option RingWork := s.ringWork.find? (fun w => w.id == id && w.opcode == opcode)

/-- BARRIER_COMPLETE (R231): every earlier command, jobs included, has completed. -/
def execBarrierComplete (n : Nat) (s : State) : Out :=
  if s.lodge.inReset then ok s else
  match s.work? n 2 with
  | some _ => ok (if s.ringWork.any (fun w => decide (w.id < n)) then s else s.workDone n)
  | none => ok s

/-- A tile that ran when a command was consumed still runs. -/
def State.stillRuns (s : State) (x : CoreId × W32 × Nat × W64 × W32) : Bool :=
  match (s.core x.1).tile with
  | some t => t.job == x.2.1 && t.counter == x.2.2.1 && t.index == x.2.2.2.1 && t.epoch == x.2.2.2.2
  | none => false

/-- CTX_SET_COMPLETE (R231): every core of the context has passed a tile boundary. -/
def execCtxSetComplete (n : Nat) (s : State) : Out :=
  if s.lodge.inReset then ok s else
  match s.work? n 0x11 with
  | some w => ok (if w.tiles.any s.stillRuns then s else s.workDone n)
  | none => ok s

/-- A write that the Lodge made in a context waits at a frozen controller, not performed (R158, R305). -/
def State.postsWait (s : State) (c : Option CtxId) : Bool := s.heldWrites.any (fun h => some h.ctx == c) || s.dmc.toList.any (fun d => d.input.any (fun q => q.posted.isSome && q.posted == c))

/-- INVALIDATION_COMPLETE (R199): no translation is kept between requests, so none is old (log 32); but every request of the
context that was translated must have been performed. -/
def execInvalidationComplete (n : Nat) (s : State) : Out :=
  if s.lodge.inReset then ok s else
  match s.work? n 0x13 with
  | some w => ok (if s.postsWait w.ctx then s else s.workDone n)
  | none => ok s

/-- The registration that waits for a model's verification. -/
def State.registration (s : State) (c : CtxId) (m : ModelNo) : Option RingWork :=
  s.ringWork.find? (fun w => w.opcode == 0x20 && w.ctx == some c && w.arg == m.val)

/-- MODEL_VERIFICATION_COMPLETE (R210, R233, R239): the verdict is in the status block before the fence is raised. -/
def execModelVerificationComplete (ctx : CtxId) (model : ModelNo) (s : State) : Out :=
  if s.lodge.inReset then ok s else
  match s.model? ctx model with
  | none => ok s
  | some m =>
    if m.state = 1 then
      let v := s.verifyModel m
      let s1 := (s.setModel { m with state := v.1, image := v.2 }).writeCtx ctx
      match s1.registration ctx model with
      | some w => ok (s1.workDone w.id)
      | none => ok s1
    else ok s

/-- A destination is bound to a model. -/
def State.boundTo (s : State) (c : CtxId) (m : ModelNo) : Bool :=
  s.standing.toList.any (fun b => match b with
    | some x => x.ctx == c && x.model == m
    | none => false)

/-- What has been kept for the cascade jobs to come of some models is dropped: their count starts anew (R324). -/
def State.dropCascades (s : State) (mine : CtxId → ModelNo → Bool) : State :=
  { s with rink := { s.rink with
      heldUpdates := s.rink.heldUpdates.filter (fun u => !mine u.ctx u.model)
      aborted := s.rink.aborted.filter (fun k => !mine k.1 k.2.1) } }

/-- The model's number is free again. -/
def State.removeModel (s : State) (m : Model) : State :=
  let s1 := (s.unseat m).dropCascades (fun c n => c == m.ctx && n == m.number)
  { s1 with models := s1.models.filter (fun x => x.ctx != m.ctx || x.number != m.number) }

/-- MODEL_UNREGISTER_COMPLETE (R231): the model has no job and becomes non-resident. A bound model has jobs to come. -/
def execModelUnregisterComplete (ctx : CtxId) (model : ModelNo) (s : State) : Out :=
  if s.lodge.inReset then ok s else
  match s.model? ctx model with
  | none => ok s
  | some m => match m.unregistering with
    | none => ok s
    | some id =>
      if m.state ≠ 1 ∧ (s.jobsOf ctx model).isEmpty ∧ !s.boundTo ctx model then
        ok (((s.removeModel m).writeCtx ctx).workDone id).retryPlaces
      else ok s

/-- STANDING_UNBIND_COMPLETE (R231): the last bound frame's record is written. -/
def execStandingUnbindComplete (d : DestId) (s : State) : Out :=
  if s.lodge.inReset then ok s else
  match s.bound d with
  | some x => match x.unbinding with
    | some id => ok (if x.over then (s.setBound d none).workDone id else s)
    | none => ok s
  | none => ok s

/-! ## Destruction (R240) -/

/-- Step 2: tiles of the context not at END are stopped, with no halt recorded, and its fault state is discarded. -/
def State.stopContext (s : State) (c : CtxId) : State :=
  let s1 := ((List.finRange 8).filter (fun k => match (s.core k).tile with
    | some t => t.ctx == c
    | none => false)).foldl State.stopTile s
  s1.dropStopped (fun x => x.ctx == c)

/-- A write of a context. -/
def RowWrite.ofContext (w : RowWrite) (c : CtxId) : Bool :=
  match w.tag with
  | some t => t.ctx == c
  | none => false

/-- The store or atomic of a stopped tile's control core is performed; a load has no tile to go to. -/
def State.drainAccess (s : State) (x : Access) : State :=
  match x.kind with
  | .store data => s.performWrite ⟨x.row, false, 0, data, some x.tag, none, false⟩
  | kind => match atomicResult kind (s.rd x.row 512) with
    | some r => s.performAtomic x r.2.2
    | none => s

/-- Step 3 at one core: the accesses that a tile of the context issued are performed in their order. -/
def State.drainCore (s : State) (c : CtxId) (k : CoreId) : State :=
  let l := (s.core k).accesses
  (l.filter (fun x => x.tag.ctx == c)).foldl State.drainAccess
    (s.setCore k { s.core k with accesses := l.filter (fun x => x.tag.ctx != c) })

/-- Step 3: every write of the context's tiles is performed. -/
def State.drainContext (s : State) (c : CtxId) : State :=
  (List.finRange 8).foldl (fun s k => s.drainCore c k) ((s.writes.filter (fun w => w.ofContext c)).foldl State.performWrite
    { s with writes := s.writes.filter (fun w => !w.ofContext c) })

/-- A frame of a destroyed context holds no slot any longer (R241). -/
def Frame.dropSlot (f : Frame) (c : CtxId) : Frame := if f.slotCtx = c then { f with slot := none } else f

/-- The frames of a stream without the slots of a context; a closed frame that then goes nowhere leaves (R241). -/
def Stream.dropSlots (x : Stream) (c : CtxId) : Stream :=
  { x with frame := x.frame.map (fun f => f.dropSlot c)
           out := (x.out.map (fun f => f.dropSlot c)).filter (fun f => !f.firstOut || f.slot.isSome) }

/-- Step 5: everything the context owned is freed, and it ceases to exist (R207, R234, R320). -/
def State.freeContext (s : State) (c : CtxId) : State :=
  let s1 := (s.models.filter (fun m => m.ctx == c)).foldl State.removeModel s
  let s2 := (s1.fences.filter (fun f => f.owner == some c)).foldl (fun s f => s.freeFence f.index) (s1.dropCascades (fun x _ => x == c))
  { s2 with
    withdrawn := s2.withdrawn.filter (fun w => w.2.ctx != c)
    streams := s2.streams.map (fun p => p.map (fun x => x.dropSlots c))
    gates := s2.gates.map (fun (g : GateSlotState) => if g.ctx = c then { g with armed := false } else g)
    contexts := s2.contexts.filter (fun x => x.id != c) }

/-- The whole sequence from step 2 (R240): running tiles stopped, writes drained, records and fences of its jobs, resources
freed; then what else of the context was outstanding is over, and the destruction's own fence last. -/
def State.destroyContext (s : State) (c : CtxId) : State :=
  let s1 := (s.stopContext c).drainContext c
  let s2 := (s1.jobs.filter (fun j => j.ctx == c)).foldl (fun s j => (s.tellEnd j.uid).finishJob j 2) s1
  let s3 := (s2.freeContext c).logEntry 5 0 3 [BitVec.ofNat 64 c.val]
  let mine := s3.ringWork.filter (fun w => w.ctx == some c)
  let s4 := (mine.filter (fun w => w.opcode != 0x12)).foldl (fun s w => s.workDone w.id) s3
  (mine.filter (fun w => w.opcode == 0x12)).foldl (fun s w => s.workDone w.id) s4

/-- A record of the context, of a job that is over or ends now, waits for a frozen controller: so does the end of the destruction
(R236, R240, R305). -/
def State.destructionWaits (s : State) (c : CtxId) : Bool :=
  s.heldWrites.any (fun h => h.ctx == c) || s.jobs.any (fun j => j.ctx == c && s.recordWaits c (s.recordAddr j))

/-- CTX_DESTROY_COMPLETE (R240). -/
def execCtxDestroyComplete (ctx : CtxId) (s : State) : Out :=
  if s.lodge.inReset then ok s else
  match s.ctx? ctx with
  | some x => ok (if x.destroying && !s.destructionWaits ctx then (s.destroyContext ctx).retryPlaces else s)
  | none => ok s

end Sys2Proof.Machine
end

