-- ==== Sys2Proof/Machine/HostIf.lean ====
section
/-! DEFINITION. The host interface: start-up and the version check, the doorbell, the status block, the heartbeat and
host loss (R219–R227, R238, R242–R245, R390). -/

namespace Sys2Proof.Machine

/-- Reset of the PCI Express interface gives BAR2 its size at reset, 256 MiB (R219). -/
def State.resetBars (s : State) : State := { s with board := { s.board with bar2Log2 := 28 } }

/-- The function's configuration header (R219): vendor and device ID, class code, Interrupt Pin and Line, BAR4, BAR5 and the
expansion ROM. Nothing changes it. -/
structure PciHeader where
  vendor : BitVec 16
  device : BitVec 16
  classCode : BitVec 24
  intPin : Byte
  intLine : Byte
  bar4 : BitVec 32
  bar5 : BitVec 32
  rom : BitVec 32
deriving DecidableEq, Repr

/-- The header's values (R219). -/
def pciHeader : PciHeader := ⟨0x1E9A, 0x0008, 0x120000, 0, 0, 0, 0, 0⟩

/-- Sizes that the Resizable BAR capability offers for BAR2, as powers of two: 256 MiB to 256 GiB (R219). -/
def bar2Sizes : List Nat := (List.range 11).map (· + 28)

/-- The host reaches the function's registers: the interface is out of reset and powered (R219, R225). -/
def State.hostReaches (s : State) : Bool := !s.host.perst && s.host.answering && !s.host.d3hot

/-- The ROM has started the PCI Express interface, and it has its power and its clock (R343, R359, R392). -/
def State.pcieReady (s : State) : Bool :=
  !s.board.porLow && !s.power.stopped && !s.board.clocksLost.contains .pcie && decide (1 ≤ s.fld Reg.ldgBootStatus 3 0)

/-- From step 6 of R225 until host loss (R223). -/
def State.hostLive (s : State) : Bool := s.hifState == 4 || (s.hifState == 3 && s.ringOn)

/-! ## Start-up (R225, R226) -/

/-- Step 6 of R225, once step 4 has ended and ENABLE is 1, by the Lodge where it is not in reset (R347): mastering begins where Bus Master Enable is set, the status block
is written, STATE becomes RUNNING or stays REFUSED, and heartbeat timing starts (R244). -/
def State.stepSix (s : State) : State :=
  if s.ringOn && !s.lodge.inReset && (s.hifState == 2 || s.hifState == 3) then
    let s1 := { s with host := { s.host with mastering := s.host.busMaster, heartbeatGate := s.gate
                                             heartbeatTimer := true } }
    if s.hifState = 2 then s1.setHif 4 (s.fld Reg.hifHandshake 15 8) else s1.writeStatus
  else s

/-- RING_ENABLE (R225, R227): ENABLE written 1, with RING_ERR cleared where the write says so. -/
def execRingEnable (clearErr : Bool) (s : State) : Out :=
  if s.hostReaches then
    let s1 := if clearErr then s.setFlag Reg.hifRingCtrl 1 false else s
    if s.ringOn then ok s1 else ok ((s1.setFlag Reg.hifRingCtrl 0 true).stepSix)
  else ok s

/-- RING_DISABLE (R227): ENABLE written 0; HEAD keeps its value. -/
def execRingDisable (clearErr : Bool) (s : State) : Out :=
  if s.hostReaches then
    let s1 := if clearErr then s.setFlag Reg.hifRingCtrl 1 false else s
    ok (s1.setFlag Reg.hifRingCtrl 0 false)
  else ok s

/-- RING_BASE_WRITE (R227, R245): HIF_RING_BASE or HIF_RING_SIZE while disabled; HEAD and TAIL become 0. -/
def execRingBaseWrite (size : Bool) (v : BitVec 64) (s : State) : Out :=
  if s.hostReaches && !s.ringOn then
    let n := field v 4 0
    let s1 := if size then s.setReg Reg.hifRingSize (BitVec.ofNat 64 (if 4 ≤ n ∧ n ≤ 16 then n else 4))
      else s.setReg Reg.hifRingBase (BitVec.ofNat 64 (v.toNat / 4096 * 4096))
    ok ((s1.setReg Reg.hifRingHead 0).setReg Reg.hifRingTail 0)
  else ok s

/-- RING_DOORBELL (R227): TAIL moves forward, or stays; any other value is ignored and RING_ERR set. -/
def execRingDoorbell (v : BitVec 64) (s : State) : Out :=
  if s.hostReaches then
    let t := field v 15 0
    let n := s.ringSize
    let h := s.fld Reg.hifRingHead 15 0
    let ahead := fun (x : Nat) => (x + n - h % n) % n
    if n ≤ t ∨ ahead t < ahead (s.fld Reg.hifRingTail 15 0) then
      ok ((s.setFlag Reg.hifRingCtrl 1 true).report (mkReport s 0x08 1 (unitNo 0x0A 0) 3))
    else ok (s.setReg Reg.hifRingTail (BitVec.ofNat 64 t))
  else ok s

/-- The outcome of comparing versions: STATE and REASON (R226). -/
def State.versionVerdict (s : State) (v : BitVec 32) : Nat × Nat :=
  if field v 31 16 ≠ s.fld Reg.hifFwVersion 31 16 then (3, 1)
  else if s.fld Reg.hifFwVersion 15 0 < field v 15 0 then (2, 2)
  else (2, 0)

/-- Step 4 of R225 with the driver's version, and step 6 where it follows (R226). -/
def State.checkVersion (s : State) (v : BitVec 32) : State :=
  let r := s.versionVerdict v
  let s1 := (s.setHif r.1 r.2).logEntry 5 0 1 [v.zeroExtend 64, BitVec.ofNat 64 r.1]
  (if r.1 = 3 then s1.report { mkReport s 0x08 1 (unitNo 0x0A 0) 2 with firmware := true } else s1).stepSix

/-- VERSION_CHECK (R225, R226): step 4, where STATE is READY, ACCEPTED, REFUSED or HOSTLOST. While the Lodge is in reset the
register takes the write, and the check waits for the restore (R347). -/
def execVersionCheck (v : BitVec 32) (s : State) : Out :=
  if s.hostReaches && s.hifState != 0 && s.hifState != 4 then
    let s1 := s.setReg Reg.hifDrvVersion (v.zeroExtend 64)
    ok (if s.lodge.inReset then { s1 with host := { s1.host with versionWaits := true } } else s1.checkVersion v)
  else ok s

/-- What the host interface left for the Lodge while it was in reset: a version check, or step 6 (R226, R347). -/
def State.resumeHost (s : State) : State :=
  let s1 := { s with host := { s.host with versionWaits := false } }
  if s.host.versionWaits && s.hifState != 0 && s.hifState != 4 then
    s1.checkVersion (BitVec.ofNat 32 (s.reg Reg.hifDrvVersion).toNat)
  else if s.host.mastering then s1 else s1.stepSix

/-! ## Polling (R238, R242) -/

/-- STATUS_BLOCK_WRITE (R238): the periodic write. -/
def execStatusBlockWrite (s : State) : Out := ok (if s.hostLive && !s.lodge.inReset then s.writeStatus else s)

/-- A 64-bit value with the half that an access covers replaced (R397). -/
def merge64 (acc : RegAccess) (old v : W64) : W64 :=
  match acc with
  | .full8 => v
  | .low4 => setField old 31 0 (field v 31 0)
  | .high4 => setField old 63 32 (field v 31 0)
  | .other _ => old
  | .resizableBar => old

/-- The access has a size that R397 names. -/
def RegAccess.named (acc : RegAccess) : Bool := acc == .low4 || acc == .high4 || acc == .full8

/-- HOST_HEARTBEAT (R238, R242): any write restarts the timeout, an access of a size that R397 does not name being none. -/
def execHostHeartbeat (acc : RegAccess) (v : BitVec 64) (s : State) : Out :=
  if s.hostReaches && RegAccess.named acc then
    ok { s with host := { s.host with heartbeat := merge64 acc s.host.heartbeat v, heartbeatGate := s.gate } }
  else ok s

/-! ## Host loss (R223, R243) -/

/-- Cores that run no tile of a parked context's seat give it up: its held indices return (R186, R243). -/
def State.returnParked (s : State) (gone : CtxId → Bool) : State :=
  (List.finRange 8).foldl (fun s k => (List.range (s.core k).seats.length).foldl (fun s n =>
    match (s.core k).seats[n]? with
    | some x =>
      let runs := match (s.core k).tile with
        | some t => t.ctx == x.ctx && t.model == x.model && t.stage == x.stage
        | none => false
      if gone x.ctx && !runs && !x.held.isEmpty then s.vacate k n x else s
    | none => s) s) s

/-- Contexts are parked: they launch nothing further, and their jobs remember it (R236, R243, R326). -/
def State.park (s : State) (gone : Context → Bool) : State :=
  let ids := (s.contexts.filter (fun x => x.id != 0 && gone x)).map (·.id)
  let s1 := { s with
    contexts := s.contexts.map (fun (x : Context) => if ids.contains x.id then { x with parked := true } else x)
    jobs := s.jobs.map (fun (j : Job) => if ids.contains j.ctx then { j with parkedDuring := true } else j) }
  ids.foldl (fun s c => s.writeCtx c) (s1.returnParked (fun c => ids.contains c))

/-- The registers that host loss resets (R245). -/
def State.resetRing (s : State) : State :=
  [Reg.hifRingBase, Reg.hifRingSize, Reg.hifRingCtrl, Reg.hifRingTail, Reg.hifRingHead, Reg.hifStatusAddr].foldl
    (fun s r => s.setReg r (regReset r)) s

/-- AUTONOMOUS of a context as it acts now: a running tile's boundary value, else the attribute (R194). -/
def State.autonomousNow (s : State) (x : Context) : Bool :=
  match s.cores.toList.find? (fun c => c.tile.any (fun t => t.ctx == x.id)) with
  | some c => c.tile.any (fun t => t.autonomous)
  | none => x.autonomous

/-- Host loss with the DETAIL of its record: 0 timeout, 1 PERST_N, 2 Function Level Reset, 3 Bus Master Enable, 4 D3hot
(R243, R350, R368). -/
def State.loseHost (s : State) (detail : Nat) : State :=
  let s1 := (((s.setFld Reg.hifHandshake 3 0 5).markRunning false).inc Reg.hifHostlossCount 32 1).report
    { mkReport s 0x08 2 (unitNo 0x0A 0) 1 with detail := BitVec.ofNat 32 detail }
  let s2 := s1.logEntry 5 1 4 [BitVec.ofNat 64 detail]
  let s3 := { s2.resetRing with host := { s2.host with mastering := false, heartbeatTimer := false } }
  s3.park (fun x => !s3.autonomousNow x)

/-- An event of R223: host loss where the host is live and the device runs, and in any case what it does to the interface. -/
def State.hostEvent (s : State) (detail : Nat) (f : HostIf → HostIf) : State :=
  let s1 := if s.hostLive && !s.off then s.loseHost detail else s
  { s1 with host := f s1.host }

/-- HOST_LOSS (R242, R243): HIF_HB_TIMEOUT has passed since the last heartbeat; timing pauses while the Lodge is in reset
(R347). -/
def execHostLoss (s : State) : Out :=
  ok (if s.hostLive && s.host.heartbeatTimer && !s.lodge.inReset &&
      decide (s.host.heartbeatGate.toNat + s.fld Reg.hifHbTimeout 13 0 * 1000000 ≤ s.gate.toNat) then s.loseHost 0 else s)

/-- PERST_N_ASSERT (R223, R390). -/
def execPerstNAssert (s : State) : Out :=
  ok (s.resetBars.hostEvent 1 (fun h => { h with perst := true, answering := false, busMaster := false, mastering := false, d3hot := false }))

/-- PERST_N_RELEASE (R225, R390): the interface leaves reset and answers configuration requests, once the ROM has started
it. -/
def execPerstNRelease (s : State) : Out :=
  ok { s with host := { s.host with perst := false, answering := s.host.answering || s.pcieReady } }

/-- FUNCTION_LEVEL_RESET (R223). -/
def execFunctionLevelReset (s : State) : Out :=
  if s.host.perst || !s.host.answering then ok s
  else ok (s.resetBars.hostEvent 2 (fun h => { h with busMaster := false, mastering := false, d3hot := false }))

/-- BUS_MASTER_ENABLE_CLEAR (R223). -/
def execBusMasterEnableClear (s : State) : Out :=
  if s.host.perst || !s.host.answering then ok s else ok (s.hostEvent 3 (fun h => { h with busMaster := false, mastering := false }))

/-- BUS_MASTER_ENABLE_SET (R225 step 3, R244): requests are allowed from step 6 on. The function is then in D0 (log 33). -/
def execBusMasterEnableSet (s : State) : Out :=
  if s.host.perst || !s.host.answering then ok s
  else ok { s with host := { s.host with busMaster := true, d3hot := false, mastering := s.hostLive || s.host.mastering } }

/-- D3HOT_ENTRY (R223). -/
def execD3hotEntry (s : State) : Out :=
  if s.host.perst || !s.host.answering then ok s
  else ok (s.hostEvent 4 (fun h => { h with d3hot := true, mastering := false }))

end Sys2Proof.Machine
end

