-- ==== Sys2Proof/Machine/Dram.lean ====
section
/-! DEFINITION. The DRAM controllers and BAR2: interleave, queues and service order, refresh, scrub, self-refresh, initialisation,
freeze and thaw (R221, R292–R307). BAR2 sends its requests to the controllers; the other units' accesses take effect in their own
commands, and their requests, as the controllers queue and check them, are DRAM_REQUEST and DRAM_REQUEST_SERVED (log 35). -/

namespace Sys2Proof

/-- The class of a requester (R297). -/
def DramRequester.cls (r : DramRequester) : DramClass :=
  match r with
  | .pipe => .rt
  | .encoder => .rt
  | .decoder => .rt
  | .ethernet => .rt
  | .walk => .ctl
  | .lodge => .ctl
  | .lift => .bulk
  | .modelLoad => .bulk
  | .bar2 => .bulk
  | .scrub => .groom
  | .initialise => .groom

/-- The class of a request (R297). -/
def DramRequest.cls (r : DramRequest) : DramClass := r.requester.cls

/-- A BAR2 access. -/
def DramRequest.bar2 (r : DramRequest) : Bool := r.requester == .bar2

/-- A write of a whole block, which reads nothing before it: BAR2 alone writes less (R295, R300). -/
def DramRequest.whole (r : DramRequest) : Bool := r.write && (r.data.length == 64 || !r.bar2)

/-- What the check code says of an access (R300): 0 no error, 1 corrected, 2 uncorrectable. One symbol in error is corrected, two or
three are detected, and so are a data pin and a wrong location; four or more are detected unless the code misses them. -/
def DramOutcome.kind (o : DramOutcome) : Nat :=
  if o.wrongPlace || o.pin then 2
  else match o.bad.length with
    | 0 => 0
    | 1 => 1
    | 2 => 2
    | 3 => 2
    | _ => if o.missed then 0 else 2

end Sys2Proof

namespace Sys2Proof.Machine

/-- A controller runs: STATE RUNNING, no freeze begun, and the device has not stopped (R305, R387). -/
def State.dmcRuns (s : State) (d : DmcId) : Bool := !s.off && s.dmcState d.val == 1 && s.dmc[d].failing.isNone

/-- The device physical address of a local address of a controller: the inverse of the interleave (R296). -/
def State.dramAddr (s : State) (d : DmcId) (local_ : Nat) : Nat :=
  let n := s.groupSize
  let w := groupBits n
  let gi := (s.liveGroups.findIdx? (fun g => g == d.val / n)).getD 0
  let high := local_ / 4096
  let low := (d.val % n) ^^^ xorFields w 30 (high % 2 ^ (30 - w))
  gi * (s.usable / s.liveGroups.length) + (high * 2 ^ w + low) * 4096 + local_ % 4096

/-- The place of a bank, from its key. -/
def bankLoc (bank : Nat) : W64 := BitVec.ofNat 64 (bank / 32 * 256 + bank % 32 / 16 * 4096 + bank % 16 * 65536)

/-- The place of a channel. -/
def channelLoc (ch : ChannelId) : W64 := BitVec.ofNat 64 (ch.val * 256)

/-- Channel of a place (R307). -/
def placeChannel (loc : W64) : ChannelId := Fin.ofNat 4 (field loc 9 8)

/-- Bank key of a place: channel × 32 + rank × 16 + bank. -/
def placeBank (loc : W64) : Nat := field loc 9 8 * 32 + field loc 12 12 * 16 + field loc 19 16

/-- Where an address of a controller lies: opaque placement of its local block (R300; log 34). -/
def placeOf (d : DmcId) (local_ : Nat) : W64 := Config.dramPlace d.val (local_ / 64)

/-! ## Queues and classes (R297) -/

/-- Order of service of the classes (R297). -/
def classRank (c : DramClass) : Nat :=
  match c with
  | .rt => 0
  | .ctl => 1
  | .bulk => 2
  | .groom => 3

/-- A queue of 64, with 16 entries kept for RT and 8 for CTL, has room for a class. -/
def queueRoom (q : List Queued) (c : DramClass) : Bool :=
  let all := c :: q.map (fun x => x.req.cls)
  let n := fun (k : DramClass) => all.count k
  decide ((n .rt - 16) + (n .ctl - 8) + n .bulk + n .groom ≤ 40)

/-- The check code of a block is in force: it lies below the mark, or has been written (R295). -/
def State.blockChecked (s : State) (d : DmcId) (block : Nat) : Bool :=
  decide (block < s.initMark d) || s.dmc[d].initialised.contains block

/-- A request enters its channel's queue: a write is performed then, and one of a whole block initialises it
(R158, R295, R297, R300). -/
def State.acceptDram (s : State) (d : DmcId) (local_ : Nat) (r : DramRequest) (promoted : Bool) : State :=
  let ch := placeChannel (placeOf d local_)
  let x := s.dmc[d]
  let s1 := s.setDmc d { x with queues := x.queues.set ch (x.queues[ch] ++ [⟨r, promoted, 0, s.gate, none⟩]) }
  if r.write then
    let s2 := s1.wr r.addr r.data
    if r.whole then s2.initialise d (local_ / 64) else s2
  else s1

/-- A request at the input goes before another: promoted first and the oldest of them first, else by class (R153, R297). -/
def portBefore (a b : Queued) : Bool :=
  if a.promoted || b.promoted then a.promoted && (!b.promoted || decide (a.since.toNat < b.since.toNat))
  else decide (classRank a.req.cls < classRank b.req.cls)

/-- The input port takes every waiting request that its channel has room for, in order. -/
def State.drainPort (s : State) (d : DmcId) : State :=
  (sortWith portBefore s.dmc[d].input).foldl (fun s q =>
    match s.dramAt q.req.addr with
    | some x =>
      let ch := placeChannel (placeOf d x.2)
      if queueRoom s.dmc[d].queues[ch] q.req.cls then
        (s.setDmc d { s.dmc[d] with input := s.dmc[d].input.erase q }).acceptDram d x.2 q.req false
      else s
    | none => s) s

/-- A request arrives at its controller's input, and is accepted where its queue has room (R297). -/
def State.enqueueDram (s : State) (d : DmcId) (r : DramRequest) : State :=
  let s1 := s.setDmc d { s.dmc[d] with input := s.dmc[d].input ++ [⟨r, false, 0, s.gate, none⟩] }
  if s.dmcRuns d then s1.drainPort d else s1

/-! ## Service (R298–R302) -/

/-- A request waits on a row that is open. -/
def Dmc.isOpen (x : Dmc) (loc : W64) : Bool := x.openRows.contains (placeBank loc, field loc 48 32)

/-- The place of a queued request. -/
def State.queuedPlace (s : State) (d : DmcId) (q : Queued) : W64 :=
  match s.dramAt q.req.addr with
  | some x => placeOf d x.2
  | none => 0

/-- The position in a queue of what a channel issues next: the oldest promoted request; else, in the first class waiting, a
request passed by 16, else one to an open row, else the oldest (R298). -/
def State.nextIssue (s : State) (d : DmcId) (q : List Queued) : Option Nat :=
  match List.findIdx? (fun (x : Queued) => x.promoted) q with
  | some n => some n
  | none =>
    let best := (q.map (fun x => classRank x.req.cls)).foldl min 4
    let mine := fun (x : Queued) => classRank x.req.cls == best
    match List.findIdx? (fun x => mine x && decide (16 ≤ x.passed)) q with
    | some n => some n
    | none => match List.findIdx? (fun x => mine x && s.dmc[d].isOpen (s.queuedPlace d x)) q with
      | some n => some n
      | none => List.findIdx? mine q

/-- The requests before position n of the served one's class have been passed once more. -/
def passOthers (q : List Queued) (n : Nat) (c : DramClass) : List Queued :=
  (q.zipIdx).map (fun x => if x.2 < n ∧ x.1.req.cls = c then { x.1 with passed := x.1.passed + 1 } else x.1)

/-- Density per rank in Gb, by its code in DMC_CFG (R307). -/
def densityGb (c : Nat) : Nat := [2, 3, 4, 6, 8, 12, 16, 24, 32].getD c 2

/-- Rows of a bank: the places of R307 give a rank 16 banks and a row 32 blocks (log 116). -/
def State.bankRows (s : State) (d : DmcId) : Nat := densityGb (s.fld (Reg.dmcCfg d.val) 11 8) * 4096

/-- The rows next to a row, omitting any that does not exist (R302). -/
def State.adjacent (s : State) (d : DmcId) (row : Nat) : List Nat :=
  (if row = 0 then [] else [row - 1]) ++ (if row + 1 < s.bankRows d then [row + 1] else [])

/-- A channel issues a command: its history holds the last 64 (R305, R307). -/
def State.issued (s : State) (d : DmcId) (ch : ChannelId) (c : DramCmd) (loc : W64) : State :=
  let x := s.dmc[d]
  s.setDmc d { x with history := x.history.set ch ((⟨s.gate, Config.dramCommand c loc⟩ :: x.history[ch]).take 64) }

/-- A bank has taken the activates that its device allows (R301). -/
def State.bankFull (s : State) (d : DmcId) (bank : Nat) : Bool :=
  match s.board.rfm with
  | some r => decide (r.maximum ≤ lookupD 0 s.dmc[d].rolling bank)
  | none => false

/-- One activate of a row: it counts on its channel and in its bank, and the draw of R302 may choose it, for neighbour refresh of the
rows next to it (log 116). -/
def State.activateRow (s : State) (d : DmcId) (ch : ChannelId) (bank row : Nat) : State :=
  let x := s.dmc[d]
  let k := x.activates[ch]
  let chosen := decide (draw24 (s.reg (Reg.dmcNrSeed d.val)) (0xFF00 + 4 * d.val + ch.val) k <
    2 ^ (24 - s.fld (Reg.dmcCtrl d.val) 23 20))
  let s1 := (s.setDmc d { x with
    activates := x.activates.set ch (k + 1)
    openRows := x.openRows.filter (fun r => r.1 != bank)
    rolling := writeOne 0 x.rolling bank (lookupD 0 x.rolling bank + 1)
    neighbours := (if chosen then (s.adjacent d row).map (fun r => (bank, r)) else []) ++ x.neighbours }).issued d ch .activate
      (bankLoc bank ||| BitVec.ofNat 64 (row * 2 ^ 32))
  if chosen then s1.inc (Reg.dmcNrCount d.val) 64 1 else s1

/-- The neighbour refresh that is due in a bank: each such row is activated and precharged, while the device's maximum of activates
lets it, the rows next to one so chosen first (R301, R302; log 116). -/
def State.refreshNear (d : DmcId) (ch : ChannelId) (bank : Nat) : Nat → State → State
  | 0, s => s
  | n + 1, s =>
    match s.dmc[d].neighbours.find? (fun r => r.1 == bank) with
    | none => s
    | some r => if s.bankFull d bank then s
      else State.refreshNear d ch bank n
        ((s.setDmc d { s.dmc[d] with neighbours := s.dmc[d].neighbours.erase r }).activateRow d ch bank r.2)

/-- Neighbour refresh is due in a bank. -/
def State.nearDue (s : State) (d : DmcId) (bank : Nat) : Bool := s.dmc[d].neighbours.any (fun r => r.1 == bank)

/-- Before a bank's activate: its neighbour refresh, step 1 of R298. -/
def State.nearFirst (s : State) (d : DmcId) (ch : ChannelId) (bank : Nat) : State :=
  State.refreshNear d ch bank (s.dmc[d].neighbours.length + 64) s

/-- The activate for a request: its row is then open. -/
def State.activate (s : State) (d : DmcId) (loc : W64) : State :=
  let s1 := s.activateRow d (placeChannel loc) (placeBank loc) (field loc 48 32)
  s1.setDmc d { s1.dmc[d] with openRows := s1.dmc[d].openRows ++ [(placeBank loc, field loc 48 32)] }

/-- Counts of activates lowered in the banks that a test names. -/
def lowerCounts (l : List (Nat × Nat)) (p : Nat → Bool) (n : Nat) : List (Nat × Nat) :=
  (l.map (fun r => if p r.1 then (r.1, r.2 - n) else r)).filter (fun r => r.2 != 0)

/-- The banks of a channel that have reached the device's threshold for refresh management (R301). -/
def State.rfmBanks (s : State) (d : DmcId) (ch : ChannelId) : List Nat :=
  match s.board.rfm with
  | some r => ((s.dmc[d].rolling.filter (fun b => b.1 / 32 == ch.val && decide (r.threshold ≤ b.2))).map (·.1))
  | none => []

/-- Refresh management that is due on a channel is issued: one command for each bank at the threshold, whose count it lowers by the
threshold (R301; log 116). -/
def State.issueRfm (s : State) (d : DmcId) (ch : ChannelId) : State :=
  let banks := s.rfmBanks d ch
  if banks.isEmpty then s
  else banks.foldl (fun s b => s.issued d ch .manage (bankLoc b)) ((s.setDmc d { s.dmc[d] with
      rolling := lowerCounts s.dmc[d].rolling banks.contains ((s.board.rfm.map (·.threshold)).getD 0) }).inc
    (Reg.dmcRfmCount d.val) 64 banks.length)

/-- The bank key of a channel with the most activates. -/
def worstBank (l : List (Nat × Nat)) (ch : Nat) : Option Nat :=
  (sortWith (fun (a b : Nat × Nat) => decide (b.2 < a.2)) (l.filter (fun r => r.1 / 32 == ch))).head?.map (·.1)

/-- A refresh is issued, one of those postponed, to the channel's bank with the most activates, whose count it lowers by the device's
credit; an open row of it is closed (R301; log 116). -/
def State.refreshBank (s : State) (d : DmcId) (ch : ChannelId) : State :=
  let x := s.dmc[d]
  let b := (worstBank x.rolling ch.val).getD (32 * ch.val)
  (s.setDmc d { x with
      postponed := x.postponed.set ch (x.postponed[ch] - 1)
      openRows := x.openRows.filter (fun r => r.1 != b)
      rolling := match s.board.rfm with
        | some r => lowerCounts x.rolling (fun y => y == b) r.credit
        | none => x.rolling }).issued d ch .refresh (bankLoc b)

/-- So many refreshes are issued. -/
def State.refreshBanks (s : State) (d : DmcId) (ch : ChannelId) (n : Nat) : State :=
  (List.range n).foldl (fun s _ => s.refreshBank d ch) s

/-- Step 1 of R298, but for neighbour refresh: refresh management that is due, and a refresh once as many are postponed as the
standard permits (R301). -/
def State.issueDue (s : State) (d : DmcId) (ch : ChannelId) : State :=
  let s1 := s.issueRfm d ch
  if s1.dmc[d].postponed[ch] != 0 && decide (Config.refreshPostpone ≤ s1.dmc[d].postponed[ch]) then s1.refreshBank d ch else s1

/-- The longest wait of a class, in units of 10 ns (R307). -/
def State.dramWait (s : State) (d : DmcId) (c : DramClass) (since : W64) : State :=
  let lo := 16 * classRank c
  let n := min ((s.gate.toNat - since.toNat) / 10) 65535
  s.setFld (Reg.dmcMaxWait d.val) (lo + 15) lo (max n (s.fld (Reg.dmcMaxWait d.val) (lo + 15) lo))

/-- A corrected block is counted and reported (R300, R368). -/
def State.corrected (s : State) (d : DmcId) (a : Nat) (o : DramOutcome) : State :=
  (s.inc (Reg.dmcCeCount d.val) 64 1).report
    { mkReport s 0x03 0 (unitNo 4 d.val) 0 with detail := o.syndrome, addr := BitVec.ofNat 64 a }

/-- An uncorrectable result, a mismatch or tracking out of limits: the controller is about to freeze (R305). -/
def State.failDram (s : State) (d : DmcId) (cause a : Nat) (loc : W64) (synd : W32) : State :=
  s.setDmc d { s.dmc[d] with failing := some ⟨cause, a / 64 * 64, loc, synd⟩ }

/-- The block of its controller that a queued request reaches. -/
def State.queuedBlock (s : State) (q : Queued) : Nat :=
  match s.dramAt q.req.addr with
  | some x => x.2 / 64
  | none => 0

/-- A request reads its block under the check code: a read, a scrub read or the read of a partial write, of a block whose code is in
force (R295, R300). -/
def State.checks (s : State) (d : DmcId) (q : Queued) : Bool := !q.req.whole && s.blockChecked d (s.queuedBlock q)

/-- Cause of a freeze that a request brings (R307). -/
def Queued.cause (q : Queued) : Nat := if q.req.requester = .scrub then 3 else if q.req.write then 2 else 1

/-- What else the service of a request does: a partial write has written its whole block, and the scrub read of the last block ends
the pass (R295, R300, R303). -/
def State.afterService (s : State) (d : DmcId) (q : Queued) : State :=
  if q.req.requester = .scrub then
    if s.queuedBlock q + 1 = s.dmcBytes / 64 then s.inc (Reg.dmcScrubPassCount d.val) 32 1 else s
  else if q.req.write && !q.req.whole then s.initialise d (s.queuedBlock q)
  else s

/-- The channel issues a request that its row is open for. A read, a scrub read or the read of a write of less than 64 bytes may be
corrected or prove uncorrectable; a failing request keeps its place until thaw (R298, R300, R305). -/
def State.serveDram (s : State) (d : DmcId) (ch : ChannelId) (n : Nat) (r : Queued) (o : DramOutcome) : State :=
  let loc := s.queuedPlace d r
  let kind := if s.checks d r then o.kind else 0
  let s1 := if r.req.whole then s else s.issued d ch .read loc
  if kind = 2 then s1.failDram d r.cause r.req.addr loc o.syndrome
  else
    let s2 := if r.req.write || kind = 1 then s1.issued d ch .write loc else s1
    let x := s2.dmc[d]
    let s3 := s2.setDmc d { x with queues := x.queues.set ch (removeNth n (passOthers x.queues[ch] n r.req.cls)) }
    let s4 := (s3.dramWait d r.req.cls r.since).afterService d r
    (if kind = 1 then s4.corrected d r.req.addr o else s4).drainPort d

/-- DRAM_REQUEST_SERVED (R298, R300–R302): the channel issues what is due before any request, then its next request, for which the
neighbour refresh due in its bank comes first. A bank at the device's maximum of activates is not activated. -/
def execDramRequestServed (d : DmcId) (ch : ChannelId) (o : DramOutcome) (s0 : State) : Out :=
  if !s0.dmcRuns d || s0.dmc[d].selfRefresh[ch] then ok s0
  else
    let s := s0.issueDue d ch
    match s.nextIssue d s.dmc[d].queues[ch] with
    | none => ok s
    | some n =>
      match s.dmc[d].queues[ch][n]? with
      | none => ok s
      | some r =>
        let loc := s.queuedPlace d r
        if s.dmc[d].isOpen loc then ok (s.serveDram d ch n r o)
        else
          let s1 := s.nearFirst d ch (placeBank loc)
          if s1.nearDue d (placeBank loc) || s1.bankFull d (placeBank loc) then ok s1
          else ok ((s1.activate d loc).serveDram d ch n r o)

/-- DRAM_AGE_PROMOTION (R298): the n-th queued request of a channel has waited AGE_LIMIT. -/
def execDramAgePromotion (d : DmcId) (ch : ChannelId) (n : Nat) (s : State) : Out :=
  let x := s.dmc[d]
  match x.queues[ch][n]? with
  | none => ok s
  | some r =>
    if !s.off && !r.promoted && decide (s.fld (Reg.dmcCtrl d.val) 7 0 * 500 ≤ s.gate.toNat - r.since.toNat) then
      ok ((s.setDmc d { x with queues := x.queues.set ch (modifyNth (fun y => { y with promoted := true }) n x.queues[ch]) }).inc
        (Reg.dmcPromoteCount d.val) 64 1)
    else ok s

/-- DRAM_PORT_PROMOTION (R153, R297): the n-th request waiting at the input has waited 128 slots; the command's arrival is
the end of the wait (log 14). -/
def execDramPortPromotion (d : DmcId) (n : Nat) (s : State) : Out :=
  let x := s.dmc[d]
  match x.input[n]? with
  | none => ok s
  | some r =>
    if s.off || r.promoted then ok s
    else ok (s.setDmc d { x with input := modifyNth (fun y => { y with promoted := true }) n x.input })

/-- REFRESH_DUE (R298, R301): in self-refresh the DRAM refreshes itself. A refresh is postponed while requests wait, up to the
standard's limit, and with no request waiting all that are postponed are issued; refresh management is issued to each bank at the
device's threshold and counted. -/
def execRefreshDue (d : DmcId) (ch : ChannelId) (rfm : Bool) (s : State) : Out :=
  let x := s.dmc[d]
  if s.off ∨ s.dmcState d.val ≠ 1 ∧ s.dmcState d.val ≠ 2 ∨ x.selfRefresh[ch] then ok s
  else if rfm then ok (s.issueRfm d ch)
  else
    let n := x.postponed[ch] + 1
    let s1 := s.setDmc d { x with postponed := x.postponed.set ch n }
    if x.queues[ch] = [] then ok (s1.refreshBanks d ch n)
    else if Config.refreshPostpone < n then ok (s1.refreshBank d ch)
    else ok s1

/-- CALIBRATION_DUE (R298, R305): the channel is held for it; tracking outside the training limits freezes. -/
def execCalibrationDue (d : DmcId) (ch : ChannelId) (tracking inLimits : Bool) (s : State) : Out :=
  if !s.dmcRuns d || s.dmc[d].selfRefresh[ch] then ok s
  else
    let s1 := s.issued d ch .calibrate (channelLoc ch)
    ok (if tracking && !inLimits then s1.failDram d 5 0 (channelLoc ch) 0 else s1)

/-! ## The Groomer (R295, R303, R304) -/

/-- SCRUB_HOURS in nanoseconds of the gate counter (R303, R307). -/
def State.scrubPeriod (s : State) (d : DmcId) : Nat := s.fld (Reg.dmcScrubCtrl d.val) 7 0 * 3600000000000

/-- SCRUB_READ (R297, R303): a read of the next block goes to the controller's input in class GROOM; after the last block comes the
first again. A block is scrubbed once per SCRUB_HOURS: `o` is the time since its last scrub, and before the period is over
nothing is issued (log 117). -/
def execScrubRead (d : DmcId) (o : Nat) (s : State) : Out :=
  let x := s.dmc[d]
  let b := x.scrubBlock
  if !s.dmcRuns d || x.selfRefresh[placeChannel (placeOf d (64 * b))] || decide (s.dmcBytes / 64 ≤ b) ||
      decide (o < s.scrubPeriod d) then ok s
  else
    let s1 := s.setDmc d { x with scrubBlock := if b + 1 = s.dmcBytes / 64 then 0 else b + 1 }
    ok (s1.enqueueDram d ⟨.scrub, false, s.dramAddr d (64 * b), [], none⟩)

/-- INIT_BLOCK (R295, R297): the write that initialises the block at the mark goes to the controller's input in class GROOM; the mark
rises when it is accepted. What the block holds already reads as zeros. -/
def execInitBlock (d : DmcId) (s : State) : Out :=
  let mark := s.initMark d
  ok (if s.dmcRuns d && decide (mark < s.dmcBytes / 64) then
    s.enqueueDram d ⟨.initialise, true, s.dramAddr d (64 * mark), [], none⟩ else s)

/-- A channel that is to enter self-refresh has been idle: nothing of it waits (R304). -/
def Dmc.idle (x : Dmc) (ch : ChannelId) : Bool := x.queues[ch].isEmpty && x.input.isEmpty

/-- The neighbour refresh that is due in a channel's banks: an idle channel issues it. -/
def State.nearAll (s : State) (d : DmcId) (ch : ChannelId) : State :=
  (((s.dmc[d].neighbours.map (·.1)).filter (fun b => b / 32 == ch.val)).dedup).foldl (fun s b => s.nearFirst d ch b) s

/-- Nothing of a channel's upkeep falls due: no refresh, refresh management or neighbour refresh (R304). -/
def State.upkept (s : State) (d : DmcId) (ch : ChannelId) : Bool :=
  s.dmc[d].postponed[ch] == 0 && !s.dmc[d].neighbours.any (fun r => r.1 / 32 == ch.val) && (s.rfmBanks d ch).isEmpty

/-- SELF_REFRESH_ENTRY (R304): an idle channel with nothing due within 1 µs enters, or a request in time abandons the entry; the
precharge of step 1 closes its rows in both cases. The command's arrival is the end of SR_IDLE (log 14). -/
def execSelfRefreshEntry (d : DmcId) (ch : ChannelId) (abandoned : SelfRefreshTry) (s : State) : Out :=
  if s.dmcRuns d && !s.dmc[d].selfRefresh[ch] && s.fld (Reg.dmcCtrl d.val) 19 10 != 0 && s.dmc[d].idle ch then
    let s1 := s.nearAll d ch
    if abandoned.dueSoon || !s1.upkept d ch then ok s1
    else
      let x := s1.dmc[d]
      let y := { x with openRows := x.openRows.filter (fun r => r.1 / 32 != ch.val) }
      if abandoned.abandoned then ok ((s1.setDmc d y).inc (Reg.dmcSrAbandonCount d.val) 64 1)
      else ok (((s1.setDmc d { y with selfRefresh := x.selfRefresh.set ch true }).issued d ch .entry (channelLoc ch)).inc
        (Reg.dmcSrEntryCount d.val) 64 1)
  else ok s

/-- SELF_REFRESH_EXIT (R304): a waiting request brings the channel out. -/
def execSelfRefreshExit (d : DmcId) (ch : ChannelId) (s : State) : Out :=
  let x := s.dmc[d]
  ok (if !s.off && x.selfRefresh[ch] && !x.queues[ch].isEmpty then
    (s.setDmc d { x with selfRefresh := x.selfRefresh.set ch false }).issued d ch .exit (channelLoc ch) else s)

/-- MODE_REGISTER_CHECK (R305): a readback that differs from the value last written freezes. -/
def execModeRegisterCheck (d : DmcId) (ch : ChannelId) (readback : Byte) (s : State) : Out :=
  if !s.dmcRuns d then ok s
  else
    let s1 := s.issued d ch .modeRead (channelLoc ch)
    ok (if s.dmc[d].modeReg[ch] != readback then s1.failDram d 4 0 (channelLoc ch) 0 else s1)

/-! ## Freeze and thaw (R305, R306) -/

/-- The last 64 commands of a channel, the most recent first: its own, among the commands of its upkeep that no row of the table
shows (R305, R307). -/
def State.lastCommands (s : State) (d : DmcId) (ch : ChannelId) (hist : List UpkeepCommand) : List DramIssued :=
  let more := (hist.filter (fun h => h.channel == ch && decide (h.gate.toNat ≤ s.gate.toNat))).map
    (fun h => (⟨h.gate, h.bits⟩ : DramIssued))
  (sortWith (fun (a b : DramIssued) => decide (b.gate.toNat < a.gate.toNat)) (s.dmc[d].history[ch] ++ more)).take 64

/-- The 64-entry history of each channel enters the capture registers (R307). -/
def State.putHistory (s : State) (d : DmcId) (hist : List UpkeepCommand) : State :=
  (List.finRange 4).foldl (fun s ch => (List.range 64).foldl (fun s j =>
    s.setReg (Reg.dmcFrzHist d.val (64 * ch.val + j)) (match (s.lastCommands d ch hist)[j]? with
      | some c => BitVec.ofNat 64 (c.gate.toNat % 2 ^ 32 * 2 ^ 32 + c.bits.toNat)
      | none => 0)) s) s

/-- Steps 1–3: STATE, the capture registers, the count and the error record (R305, R368). -/
def State.capture (s : State) (d : DmcId) (f : Failing) (hist : List UpkeepCommand) : State :=
  let s1 := s.setFld (Reg.dmcStatus d.val) 2 0 2
  let s2 := ((((s1.setReg (Reg.dmcFrzCause d.val) (BitVec.ofNat 64 f.cause)).setReg (Reg.dmcFrzAddr d.val)
    (BitVec.ofNat 64 (f.addr % 2 ^ 48))).setReg (Reg.dmcFrzLoc d.val) (f.loc &&& 0x1FFFF1F0F1300)).setReg
    (Reg.dmcFrzSynd d.val) (f.syndrome.zeroExtend 64)).setReg (Reg.dmcFrzGate d.val) s.gate
  ((s2.putHistory d hist).inc (Reg.dmcFreezeCount d.val) 32 1).report
    { mkReport s 0x04 2 (unitNo 4 d.val) f.cause with
      detail := f.syndrome, addr := BitVec.ofNat 64 (f.addr % 2 ^ 48), firmware := true }

/-- A request belongs to a job. -/
def Queued.ofJob (q : Queued) (j : CtxId × BitVec 32) : Bool := q.req.job == some j

/-- A job that has met the frozen controller is stopped, and its waiting and held reads are discarded; its writes stay, to drain
(R305 step 4). -/
def State.frozenJob (s : State) (d : DmcId) (j : CtxId × BitVec 32) : State :=
  let x := s.dmc[d]
  let goes := fun (q : Queued) => q.ofJob j && !q.req.write
  let n := x.input.countP goes + (x.queues.toList.map (fun q => q.countP goes)).sum
  let s1 := (s.setDmc d { x with input := x.input.filter (fun y => !goes y)
                                 queues := x.queues.map (fun q => q.filter (fun y => !goes y)) }).inc
    (Reg.dmcFrzDiscardCount d.val) 32 n
  match s1.findJob j.1 j.2 with
  | some y => s1.abortJob y.uid
  | none => s1

/-- A request that a frozen controller answers at once: an RT request, or a BAR2 access (R305 step 3). -/
def answeredAtOnce (r : DramRequest) : Bool := r.cls == .rt || r.bar2

/-- The host's drop count follows a dropped BAR2 access (R221, R305). -/
def State.dropBar2 (s : State) (r : DramRequest) : State := if r.bar2 then s.inc Reg.hifBar2DropCount 32 1 else s

/-- Step 3 for what waits at the input already. -/
def State.answerWaiting (s : State) (d : DmcId) : State :=
  let x := s.dmc[d]
  let out := x.input.filter (fun q => answeredAtOnce q.req)
  out.foldl (fun s q => s.dropBar2 q.req)
    ((s.setDmc d { x with input := x.input.filter (fun q => !answeredAtOnce q.req) }).inc (Reg.dmcFrzDiscardCount d.val) 32 out.length)

/-- The jobs with a request at the input or held in a queue. -/
def Dmc.jobs (x : Dmc) : List (CtxId × BitVec 32) :=
  ((x.input ++ x.queues.toList.flatten).filterMap (fun q => q.req.job)).dedup

/-- DRAM_FREEZE (R305): the freeze that a failure has begun. -/
def execDramFreeze (d : DmcId) (hist : List UpkeepCommand) (s : State) : Out :=
  match s.dmc[d].failing with
  | some f =>
    if s.dmcState d.val = 1 ∧ s.off = false then
      let s1 := (s.capture d f hist).answerWaiting d
      ok (s1.dmc[d].jobs.foldl (fun s j => s.frozenJob d j) s1)
    else ok s
  | none => ok s

/-- A request that arrives at a frozen controller is answered at once, or waits and ends its job (R305). -/
def State.frozenArrival (s : State) (d : DmcId) (r : DramRequest) : State :=
  if answeredAtOnce r then (s.inc (Reg.dmcFrzDiscardCount d.val) 32 1).dropBar2 r
  else
    let s1 := s.setDmc d { s.dmc[d] with input := s.dmc[d].input ++ [⟨r, false, 0, s.gate, none⟩] }
    match r.job with
    | some j => s1.frozenJob d j
    | none => s1

/-- DRAM_REQUEST (R297): a request arrives at its controller and is accepted where its queue has room; else it waits at the
input. A frozen controller takes it as R305 says. An address in no DRAM faults. -/
def execDramRequest (r : DramRequest) (s : State) : Out :=
  match s.dramAt r.addr with
  | none => .fault (.noSuchMemory r.addr)
  | some (d, _) => ok (if s.off then s else if s.dmcState d.val = 2 then s.frozenArrival d r else s.enqueueDram d r)

/-- FROZEN_REQUEST (R305): a request that arrives at a frozen controller is answered at once, or waits and ends its job; one that
finds its controller running is no such event. An address in no DRAM faults. -/
def execFrozenRequest (r : DramRequest) (s : State) : Out :=
  match s.dramAt r.addr with
  | none => .fault (.noSuchMemory r.addr)
  | some (d, _) => ok (if s.dmcState d.val = 2 ∧ s.off = false then s.frozenArrival d r else s)

/-- The writes to a block that a controller holds in its queues, in their order: they have yet to be issued (R158, R305). -/
def State.queuedWrites (s : State) (d : DmcId) (block : Nat) : List DramRequest :=
  ((s.dmc[d].queues.toList.flatten).map (·.req)).filter (fun r => r.write && r.addr / 64 == block / 64)

/-- A block is zeroed; the writes to it that are held proceed after (R306). -/
def State.zeroBlock (s : State) (d : DmcId) (a : Nat) : State :=
  (s.queuedWrites d a).foldl (fun s r => s.wr r.addr r.data) (s.wr a (List.replicate 64 0))

/-- The controller goes on: held requests in their queue order, and the Lodge's writes that waited for it. -/
def State.thawed (s : State) (d : DmcId) : State :=
  (((s.setDmc d { s.dmc[d] with failing := none }).setFld (Reg.dmcStatus d.val) 2 0 1).drainPort d).releaseWrites

/-- DRAM_THAW (R306): MODE 0 repeats the failing access, which may be corrected, and a second uncorrectable result freezes again, with
a new capture; MODE 1 zeroes the block. MODE has no effect on a freeze that no block caused. -/
def execDramThaw (d : DmcId) (lodge : Bool) (v : BitVec 32) (again : DramOutcome) (hist : List UpkeepCommand) (s : State) : Out :=
  if s.off || (!lodge && !s.hostReaches) || !bit v 0 || s.dmcState d.val != 2 then ok s
  else match s.dmc[d].failing with
  | none => ok (s.thawed d)
  | some f =>
    if 4 ≤ f.cause then ok (s.thawed d)
    else if bit v 1 then
      ok (((s.zeroBlock d f.addr).inc (Reg.dmcZeroCount d.val) 32 1).thawed d)
    else if again.kind = 2 then
      let g : Failing := { f with syndrome := again.syndrome }
      ok ((s.failDram d g.cause g.addr g.loc g.syndrome).capture d g hist)
    else ok ((if again.kind = 1 then s.corrected d f.addr again else s).thawed d)

/-! ## BAR2 (R221) -/

/-- Device address of a BAR2 offset (R221). -/
def State.bar2Addr (s : State) (offset : Nat) : Nat :=
  (s.reg Reg.hifBar2Window).toNat / 2 ^ s.board.bar2Log2 * 2 ^ s.board.bar2Log2 + offset

/-- A byte that BAR2 reaches: usable DRAM outside the Lodge and codec regions, behind no frozen controller (R221, R305). -/
def State.bar2Reaches (s : State) (a : Nat) : Bool := s.plainDram a 1 && !s.frozenAt a

/-- The access cut at the edges of the 64-byte blocks: address and length of each part. -/
def blockParts (a n : Nat) : List (Nat × Nat) :=
  (List.range (cdiv (a % 64 + n) 64)).map (fun i =>
    let lo := max a (a / 64 * 64 + 64 * i)
    (lo, min (a + n) (a / 64 * 64 + 64 * i + 64) - lo))

/-- Some 64-byte block of a range lies behind a frozen controller. -/
def State.frozenRange (s : State) (a n : Nat) : Bool := !s.noneFrozen && (blockParts a n).any (fun p => s.frozenAt p.1)

/-- The requests of the access go to their controllers, block by block: what BAR2 reaches ends at the edge of a block (R221, R297). -/
def State.bar2Send (s : State) (write : Bool) (a : Nat) (bytes : List Byte) : State :=
  (blockParts a bytes.length).foldl (fun s p =>
    if s.bar2Reaches p.1 then
      match s.dramAt p.1 with
      | some x => s.enqueueDram x.1 ⟨.bar2, write, p.1, if write then (bytes.drop (p.1 - a)).take p.2 else [], none⟩
      | none => s
    else s) s

/-- A byte as a BAR2 read finds it: an earlier BAR2 write that still waits at the input goes before it (R158, R297). -/
def State.bar2Byte (s : State) (a : Nat) : Byte :=
  match s.dramAt a with
  | some x =>
    match (s.dmc[x.1].input.filter (fun q => q.req.bar2 && q.req.write && decide (q.req.addr ≤ a) &&
        decide (a < q.req.addr + q.req.data.length))).getLast? with
    | some q => q.req.data.getD (a - q.req.addr) 0
    | none => s.byteAt a
  | none => s.byteAt a

/-- Each 64-byte request of the access that meets a frozen controller is counted there (R305). -/
def State.countFrozen (s : State) (a n : Nat) : State :=
  (List.range ((a % 64 + n + 63) / 64)).foldl (fun s i =>
    let b := a / 64 * 64 + 64 * i
    match s.dramAt b with
    | some x => if s.dmcState x.1.val = 2 ∧ s.plainDram b 1 then s.inc (Reg.dmcFrzDiscardCount x.1.val) 32 1 else s
    | none => s) s

/-- BAR2_ACCESS (R221, R300): byte by byte; a dropped byte reads 0 and changes nothing, and an access with any byte dropped is
counted once. Its requests are queued at their controllers, where a write of less than 64 bytes is a checked read-modify-write and a
read is checked; the read's data is answered at once (log 35). -/
def execBar2Access (write : Bool) (offset : Nat) (bytes : List Byte) (s : State) : Out :=
  if s.hostReaches && decide (offset + bytes.length ≤ 2 ^ s.board.bar2Log2) then
    let a := s.bar2Addr offset
    let lost := (List.range bytes.length).any (fun i => !s.bar2Reaches (a + i))
    let s1 := (if write then s
      else { s with host := { s.host with readData := (List.range bytes.length).map (fun i =>
        if s.bar2Reaches (a + i) then s.bar2Byte (a + i) else 0) } }).bar2Send write a bytes
    ok ((if lost then s1.inc Reg.hifBar2DropCount 32 1 else s1).countFrozen a bytes.length)
  else ok s

end Sys2Proof.Machine
end

