-- ==== Sys2Proof/Machine/Rink.lean ====
section
/-! DEFINITION. The Rink: links and flits, enumeration, time, start gates, cascade messages, Pairs and Synchro's partner side
(R308–R335). The sender of these commands stands for the devices at the other ends of the links. -/

namespace Sys2Proof.Machine

/-! ## Flits (R310, R311) -/

/-- One bit of the CRC-32 of R310, in the bit order of IEEE 802.3 (log 41). -/
def crc32Bit (c : BitVec 32) : BitVec 32 := if c.getLsbD 0 then (c >>> 1) ^^^ 0xEDB88320 else c >>> 1

/-- One byte. -/
def crc32Byte (c : BitVec 32) (b : Byte) : BitVec 32 :=
  crc32Bit (crc32Bit (crc32Bit (crc32Bit (crc32Bit (crc32Bit (crc32Bit (crc32Bit (c ^^^ b.zeroExtend 32))))))))

/-- CRC-32 of bytes (R310, R338). -/
def crc32 (bs : List Byte) : BitVec 32 := (bs.foldl crc32Byte (BitVec.allOnes 32)) ^^^ BitVec.allOnes 32

end Sys2Proof.Machine

namespace Sys2Proof

/-- TYPE of a flit (R310). -/
def FlitHeader.typeCode (h : FlitHeader) : BitVec 4 := h.word.extractLsb' 0 4

/-- CLASS of a flit (R310). -/
def FlitHeader.cls (h : FlitHeader) : BitVec 2 := h.word.extractLsb' 4 2

/-- DEST of a flit (R310). -/
def FlitHeader.dest (h : FlitHeader) : BitVec 12 := h.word.extractLsb' 6 12

/-- SEQ of a flit (R310). -/
def FlitHeader.seq (h : FlitHeader) : BitVec 12 := h.word.extractLsb' 18 12

/-- The reserved bits of a flit (R310). -/
def FlitHeader.reserved (h : FlitHeader) : BitVec 2 := h.word.extractLsb' 30 2

/-- The CRC of a flit passes: it is that of bytes [251:0] (R310). -/
def FlitHeader.crcOk (h : FlitHeader) : Bool := h.crc == Machine.crc32 (Machine.leBytes 4 h.word.toNat ++ h.payload)

/-- The CLASS that a flit of a TYPE has (R311). -/
def classOf (type : Nat) : Nat := if type = 0 then 0 else if type = 1 then 2 else 1

/-- A flit with its fields in place and its CRC (R310); `payload` is laid out as its TYPE says, which the specification leaves open
(log 37). -/
def FlitHeader.make (type : Nat) (dest seq : BitVec 12) (payload : List Byte) : FlitHeader :=
  let word : W32 := BitVec.ofNat 32 (type % 16 + classOf type * 2 ^ 4 + dest.toNat * 2 ^ 6 + seq.toNat * 2 ^ 18)
  ⟨word, payload, Machine.crc32 (Machine.leBytes 4 word.toNat ++ payload), 0⟩

/-- The 256 bytes of a flit (R310). -/
def FlitHeader.image (h : FlitHeader) : List Byte := Machine.leBytes 4 h.word.toNat ++ h.payload ++ Machine.leBytes 4 h.crc.toNat

end Sys2Proof

namespace Sys2Proof.Machine

/-- TYPE of a message's flit; an abort goes as a cascade message (R311; log 37). -/
def RinkMsg.typeCode (m : RinkMsg) : Option Nat :=
  match m with
  | .exchange _ => some 1
  | .completion _ => some 2
  | .signature _ => some 3
  | .arm _ => some 4
  | .enumerate _ => some 5
  | .takeover _ => some 6
  | .tai _ => some 7
  | .abort _ _ _ _ _ => some 2

/-- The flits of a port's retry buffer as they go over the link, oldest first, for payloads laid out by `pay` (R310, R312). -/
def Link.flits (pay : RinkMsg → List Byte) (l : Link) : List FlitHeader :=
  let oldest := l.nextSeq - BitVec.ofNat 12 l.retry.length
  (l.retry.zipIdx).filterMap (fun x => x.1.2.typeCode.map (fun t => FlitHeader.make t x.1.1 (oldest + BitVec.ofNat 12 x.2) (pay x.1.2)))

/-- Replace a link. -/
def State.setLink (s : State) (n : RinkPort) (l : Link) : State := { s with links := s.links.set n l }

/-- The device is out of reset and not stopped, with its time base running (R387, R391). -/
def State.rinkLive (s : State) : Bool := !s.off && !s.board.clocksLost.contains .tb

/-- Identifier of the device at the other end of a link (R335). -/
def State.peerId (s : State) (n : RinkPort) : Nat := s.fld (Reg.rnkPortStatus n.val) 27 16

/-- This device is master (R335). -/
def State.isMaster (s : State) : Bool := s.flag Reg.rnkDev 0

/-- This device is enumerated (R335). -/
def State.isEnum (s : State) : Bool := s.flag Reg.rnkDev 1

/-- A report of a Rink port (R368). -/
def State.rinkReport (s : State) (n : RinkPort) (cause peer : Nat) : State :=
  s.report { mkReport s 0x09 1 (unitNo 9 n.val) cause with detail := BitVec.ofNat 32 peer }

/-! ## Pairs (R326–R329) -/

/-- Pairs is enabled (R335). -/
def State.pairsOn (s : State) : Bool := s.flag Reg.rnkPairCtrl 0

/-- Identifier of the partner (R335). -/
def State.partner (s : State) : Nat := s.fld Reg.rnkPairCtrl 27 16

/-- This device is primary (R335). -/
def State.isPrimary (s : State) : Bool := !s.flag Reg.rnkPairStatus 0

/-- A context is paired (R326). -/
def State.isPaired (s : State) (c : CtxId) : Bool := s.flag (Reg.rnkPairCtx (c.val / 64)) (c.val % 64)

/-- The device becomes standby: ROLE, and its paired contexts are parked (R326, R327). -/
def State.standBy (s : State) : State := (s.setFlag Reg.rnkPairStatus 0 true).park (fun x => s.isPaired x.id)

/-- An error record of Pairs (R368). -/
def State.pairsReport (s : State) (cause : Nat) : State :=
  s.report { mkReport s 0x0B 3 (unitNo 0x0B 0) cause with detail := BitVec.ofNat 32 s.partner }

/-- The twins see each other, on a link that comes up or a path that returns, and both are primary (R329). One that has not heard the
other since its own reset, which the other has, rejoins: it becomes standby, DEMOTED. Twins that were split both set SPLIT, and the
one that became primary later, or at equal gate counts has the higher identifier, returns to standby; so do twins of which neither
has heard the other (log 65). -/
def State.meetTwin (s : State) (t : TwinState) : State :=
  if s.pairsOn && t.primary && s.isPrimary then
    if !s.rink.heard && t.heard then ((s.setFlag Reg.rnkDev 2 true).pairsReport 3).standBy
    else if s.rink.heard && !t.heard then s
    else
      let s1 := (s.setFlag Reg.rnkPairStatus 4 true).pairsReport 2
      let mine := s.rink.primarySince.toNat
      let theirs := t.since.toNat
      if theirs < mine ∨ (theirs = mine ∧ s.partner < s.devId) then s1.standBy else s1
  else s

/-- A link to the partner comes up (R329). -/
def State.meetPartner (s : State) (peer : RinkPeer) : State :=
  if peer.enumerated && peer.id.toNat == s.partner then s.meetTwin ⟨peer.partnerPrimary, peer.takeoverGate, peer.heard⟩ else s

/-- RNK_PAIR_CTRL or RNK_PAIR_CTX has been written: on a standby the paired contexts that run are parked (R326). -/
def State.parkPaired (s : State) : State :=
  if s.pairsOn && !s.isPrimary then s.park (fun x => s.isPaired x.id && !x.parked) else s

/-! ## Links (R309, R312, R315–R317) -/

/-- This device's identifier as it stands in routes. -/
def State.self (s : State) : BitVec 12 := BitVec.ofNat 12 s.devId

/-- A link of the cascade as one of its ends sees it: device, port, device at the other end. -/
abbrev Edge := BitVec 12 × RinkPort × BitVec 12

/-- The port of each device that leads to a target over some links, found one device at a time (R316). -/
def portsTo (edges : List Edge) (target : BitVec 12) : Nat → List (BitVec 12 × RinkPort) → List (BitVec 12 × RinkPort)
  | 0, v => v
  | n + 1, v =>
    let known := fun (d : BitVec 12) => d == target || v.any (fun x => x.1 == d)
    match edges.find? (fun e => known e.2.2 && !known e.1) with
    | some e => portsTo edges target n (v ++ [(e.1, e.2.1)])
    | none => v

/-- The devices of some links. -/
def devicesOf (edges : List Edge) : List (BitVec 12) := (edges.flatMap (fun e => [e.1, e.2.2])).dedup

/-- The route table of a device (R315, R316). -/
def routeTable (edges : List Edge) (d : BitVec 12) : List (BitVec 12 × RinkPort) :=
  (devicesOf edges).filterMap (fun t =>
    if t = d then none else ((portsTo edges t edges.length []).find? (fun x => x.1 == d)).map (fun x => (t, x.2)))

/-- Hops from one device to another (R319). -/
def hopsTo (edges : List Edge) (target : BitVec 12) : Nat → BitVec 12 → Nat
  | 0, _ => 0
  | n + 1, x =>
    if x = target then 0
    else match (portsTo edges target edges.length []).find? (fun r => r.1 == x) with
      | some r => match edges.find? (fun e => e.1 == x && e.2.1 == r.2) with
        | some e => 1 + hopsTo edges target n e.2.2
        | none => 0
      | none => 0

/-- A port's link is in the tree, or is a spare link, or neither (R315, R335). -/
def State.markPort (s : State) (n : RinkPort) (tree spare : Bool) : State :=
  (s.setFlag (Reg.rnkPortStatus n.val) 1 tree).setFlag (Reg.rnkPortStatus n.val) 2 spare

/-- PEER_ID (R335). -/
def State.knowPeer (s : State) (n : RinkPort) (id : BitVec 12) : State := s.setFld (Reg.rnkPortStatus n.val) 27 16 id.toNat

/-- A port leads into the tree. -/
def State.inTree (s : State) (n : RinkPort) : Bool := s.flag (Reg.rnkPortStatus n.val) 1

/-- A port's link is a spare link. -/
def State.isSpare (s : State) (n : RinkPort) : Bool := s.flag (Reg.rnkPortStatus n.val) 2

/-- A port's link leads directly to the partner: it is up, and the device found there is PARTNER (R326, R335). -/
def State.toPartner (s : State) (n : RinkPort) : Bool :=
  s.linkUp n.val && (s.inTree n || s.isSpare n) && s.peerId n == s.partner

/-- A device's route table is replaced: the ports that it uses are in the tree, and a port of the tree that it no longer uses is a
spare link while it is up (R315, R316). -/
def State.setRoutes (s : State) (t : List (BitVec 12 × RinkPort)) : State :=
  (List.finRange 4).foldl (fun s n =>
    let used := t.any (fun r => r.2 == n)
    s.markPort n used (!used && s.linkUp n.val && (s.inTree n || s.isSpare n)))
    { s with rink := { s.rink with routes := t } }

/-- The master takes the routes that its tree gives, and sends every device its own (R315, R316; log 37). -/
def State.shareRoutes (s : State) : State :=
  let edges := s.rink.tree
  let s1 := s.setRoutes (routeTable edges s.self)
  (s1.rink.routes.map (·.1)).foldl (fun s d =>
    s.sendTo d (.enumerate ⟨d, hopsTo edges d edges.length s.self, true, false, s.gate, routeTable edges d, s.self, s.self, none, none, false⟩)) s1

/-- Replace what the master does next. -/
def State.setTodo (s : State) (todo : List (BitVec 12 × RinkPort)) (offer : Option Edge) : State :=
  { s with rink := { s.rink with todo := todo, offer := offer } }

/-- A link goes before another in the order of discovery: lower identifier, then lower port (R315). -/
def linkBefore (a b : BitVec 12 × RinkPort) : Bool :=
  if a.1 ≠ b.1 then decide (a.1.toNat < b.1.toNat) else decide (a.2.val < b.2.val)

/-- The master can reach a device's near end of a link: itself, or a device that a path leads to. -/
def State.canOffer (s : State) (d : BitVec 12) : Bool := d == s.self || s.reaches d.toNat

/-- The master offers the next identifier to the device behind the next link in the order of discovery, to its own neighbour or
through the device at the near end; one identifier at a time, so that every device numbered has reported its links before the next is
given, and none through a device that cannot be reached. No cascade holds more than 4,095 devices (R315). -/
def State.offerNext (s0 : State) : State :=
  let s := s0.setTodo s0.rink.todo (s0.rink.offer.filter (fun o => s0.canOffer o.1))
  if s.rink.offer.isSome || !s.rink.awaited.isEmpty || decide (4095 ≤ s.rink.nextId) then s
  else match (sortWith linkBefore s.rink.todo).find? (fun x => s.canOffer x.1) with
  | none => s
  | some (d, n) =>
    let id := BitVec.ofNat 12 s.rink.nextId
    let s0 := s.setTodo (s.rink.todo.filter (fun x => x != (d, n))) (some (d, n, id))
    let s1 := { s0 with rink := { s0.rink with nextId := s.rink.nextId + 1 } }
    let m : Enumeration := ⟨id, 1, true, false, s.gate, [], s.self, s.self, none, none, false⟩
    if d = s.self then ((s1.knowPeer n id).markPort n true false).sendPort n 0xFFF (.enumerate m)
    else s1.sendTo d (.enumerate { m with forPort := some n })

/-- A device is known to lie behind a link: no identifier is due there, and one that was offered to another device serves for the next
(R315). -/
def State.farEndKnown (s : State) (d : BitVec 12) (n : RinkPort) (id : BitVec 12) : State :=
  let s1 := s.setTodo (s.rink.todo.filter (fun x => x != (d, n))) s.rink.offer
  match s.rink.offer with
  | some o => if o.1 = d ∧ o.2.1 = n ∧ o.2.2 ≠ id then
      { s1 with rink := { s1.rink with offer := none, nextId := o.2.2.toNat } }
    else s1
  | none => s1

/-- A link is gone: nothing is due behind it, and an identifier offered there counts as given (R315). -/
def State.farEndGone (s : State) (d : BitVec 12) (n : RinkPort) : State :=
  s.setTodo (s.rink.todo.filter (fun x => x != (d, n))) (s.rink.offer.filter (fun o => !(o.1 == d && o.2.1 == n)))

/-- A device stands in the master's tree. -/
def State.inCascade (s : State) (d : BitVec 12) : Bool := d == s.self || (devicesOf s.rink.tree).contains d

/-- A link that a device reports (R315): one to an unknown device is numbered in its turn; the other end of a link of the tree
completes it, as does one that its device holds for a link of the tree to a device that no other leads to (R316, R327); any other
link is a spare link. -/
def State.takeLink (s : State) (d : BitVec 12) (l : RinkPort × Option (BitVec 12) × Bool) : State :=
  match l.2.1 with
  | none =>
    if s.rink.tree.any (fun e => e.1 == d && e.2.1 == l.1) || s.rink.todo.contains (d, l.1) ||
      s.rink.offer.any (fun o => o.1 == d && o.2.1 == l.1) then s
    else s.setTodo (s.rink.todo ++ [(d, l.1)]) s.rink.offer
  | some p =>
    let s1 := s.farEndKnown d l.1 p
    let e : Edge := (d, l.1, p)
    if s.rink.tree.contains e then s1
    else if l.2.2 && (!s.inCascade p || s.rink.tree.any (fun x => x.1 == p && x.2.2 == d) &&
        !s.rink.tree.any (fun x => x.1 == d && x.2.2 == p)) then
      { s1 with rink := { s1.rink with tree := s.rink.tree ++ [e], spares := s.rink.spares.filter (fun x => x != e) } }
    else if s.rink.spares.contains e then s1
    else { s1 with rink := { s1.rink with spares := s.rink.spares ++ [e] } }

/-- A link that a report no longer names is gone. -/
def goneFrom (r : LinkReport) (e : Edge) : Bool :=
  e.1 == r.reporter && !r.links.any (fun l => l.1 == e.2.1 && (l.2.1 == none || l.2.1 == some e.2.2))

/-- The links of a list without those that a report no longer names, from either end. -/
def dropGone (r : LinkReport) (l : List Edge) : List Edge :=
  let gone := l.filter (goneFrom r)
  l.filter (fun e => !gone.contains e && !gone.any (fun g => g.1 == e.2.2 && g.2.2 == e.1))

/-- The links that a report no longer names are gone at the master: those of its tree, its spare links, and those behind which a device
was to be numbered (R315, R316). -/
def State.forgetLinks (s : State) (r : LinkReport) : State :=
  let s1 := { s with rink := { s.rink with tree := dropGone r s.rink.tree, spares := dropGone r s.rink.spares } }
  ((List.finRange 4).filter (fun n => !r.links.any (fun l => l.1 == n))).foldl (fun s n => s.farEndGone r.reporter n) s1

/-- The device that was offered an identifier has it: the link is one of the tree (R315). -/
def State.acceptOffer (s : State) (d : BitVec 12) : State :=
  match s.rink.offer with
  | some o => if o.2.2 = d then
      let s1 := s.setTodo s.rink.todo none
      if s1.rink.tree.contains o then s1 else { s1 with rink := { s1.rink with tree := s1.rink.tree ++ [o] } }
    else s
  | none => s

/-- A report reaches the master (R315, R316, R327): its links take effect, routes go out where the tree has changed, or a new master has
heard of every device it waits for, and the next identifier is offered. -/
def State.takeReport (s : State) (r : LinkReport) : State :=
  let s1 := r.links.foldl (fun s l => s.takeLink r.reporter l) ((s.acceptOffer r.reporter).forgetLinks r)
  let s2 := { s1 with rink := { s1.rink with awaited := s.rink.awaited.erase r.reporter } }
  (if s2.rink.awaited.isEmpty && (s2.rink.tree != s.rink.tree || !s.rink.awaited.isEmpty) then s2.shareRoutes else s2).offerNext

/-- The port that leads to the master. -/
def State.masterPort (s : State) : Option RinkPort := (s.rink.routes.find? (fun r => r.1 == s.rink.masterId)).map (·.2)

/-- The links of this device that are up, as it reports them (R315). -/
def State.linkReport (s : State) : LinkReport :=
  let up := (List.finRange 4).filter (fun n => s.linkUp n.val)
  let first := up.filter (fun n => s.masterPort == some n)
  let rest := up.filter (fun n => s.masterPort != some n)
  ⟨s.self, (first ++ rest).map (fun n =>
    (n, if s.inTree n || s.isSpare n then some (BitVec.ofNat 12 (s.peerId n)) else none, s.inTree n))⟩

/-- A message of this device's own in a TYPE 0x5 flit that gives no identifier. -/
def State.ownEnumeration (s : State) : Enumeration := ⟨s.self, s.rink.hops, false, false, s.gate, [], s.rink.masterId, s.self, none, none, false⟩

/-- An enumerated device that is not the master reports its links (R315). -/
def State.reportLinks (s : State) : State :=
  if s.isEnum && !s.isMaster && (match s.masterPort with
      | some p => s.linkUp p.val
      | none => false) then
    s.sendTo s.rink.masterId (.enumerate { s.ownEnumeration with report := some s.linkReport })
  else s

/-- The neighbour at a port has made itself known (R315): the link is a spare link unless it is in the tree. One that was to have
another identifier keeps its own: the route that went with the other is gone. -/
def State.meetNeighbour (s : State) (n : RinkPort) (id : BitVec 12) : State :=
  let was := BitVec.ofNat 12 (s.peerId n)
  let s1 := s.knowPeer n id
  if s.inTree n && was == id then s1
  else ({ s1.markPort n false true with rink := { s1.rink with
      routes := if s.inTree n then s.rink.routes.filter (fun r => r != (was, n)) else s.rink.routes } }).reportLinks

/-- The master finds an enumerated device at a port (R315): it is reached again in the tree, or, where another link leads to it, over a
spare link. -/
def State.findDevice (s : State) (n : RinkPort) (id : BitVec 12) : State :=
  let s0 := (s.knowPeer n id).farEndKnown s.self n id
  let e : Edge := (s.self, n, id)
  (if s0.rink.tree.contains e then (s0.markPort n true false).shareRoutes
   else if s0.rink.offer == some e then s0
   else if s0.reaches id.toNat then
     { s0.markPort n false true with rink := { s0.rink with
        spares := if s0.rink.spares.contains e then s0.rink.spares else s0.rink.spares ++ [e] } }
   else { s0.markPort n true false with rink := { s0.rink with tree := s0.rink.tree ++ [e] } }.shareRoutes).offerNext

/-- A link of the master has come up: a neighbour without an identifier gets one in its turn (R315). -/
def State.enumeratePeer (s : State) (n : RinkPort) (peer : RinkPeer) : State :=
  let s0 := s.setFlag Reg.rnkDev 1 true
  if peer.enumerated then s0.findDevice n peer.id
  else (s0.setTodo (s0.rink.todo ++ [(s.self, n)]) s0.rink.offer).offerNext

/-- Two masters that meet before either is enumerated hold the link down (R317). -/
def State.mastersMeet (s : State) (peer : RinkPeer) : Bool := s.isMaster && !s.isEnum && peer.master && !peer.enumerated

/-- A master that finds an enumerated cascade joins it as an ordinary device (R317). -/
def State.demote (s : State) (n : RinkPort) (peer : RinkPeer) : State :=
  if s.isMaster && !s.isEnum && peer.enumerated then
    ((s.setFlag Reg.rnkDev 0 false).setFlag Reg.rnkDev 2 true).rinkReport n 5 peer.id.toNat
  else s

/-- A link of a device that is not the master has come up: an enumerated device makes itself known and reports it; the link to an
enumerated neighbour is a spare link until an identifier comes over it (R315). -/
def State.joinPeer (s : State) (n : RinkPort) (peer : RinkPeer) : State :=
  let s1 := if peer.enumerated then s.markPort n false true else s
  if s1.isEnum then (s1.sendPort n 0xFFF (.enumerate s1.ownEnumeration)).reportLinks else s1

/-- The link that leads to the master is up again: a later loss is told anew (R317). -/
def State.pathBack (s : State) (n : RinkPort) : State :=
  if s.masterPort = some n then { s with rink := { s.rink with awayTold := false } } else s

/-- A port has trained (R309, R315, R317, R329): sequence numbers 0, credits advertised, LINKUP set. -/
def State.trainLink (s : State) (n : RinkPort) (peer : RinkPeer) : State :=
  if s.linkUp n.val || s.links[n].heldDown then s
  else if s.mastersMeet peer then
    ((s.setLink n { s.links[n] with heldDown := true }).setFlag Reg.rnkDev 3 true).rinkReport n 4 peer.id.toNat
  else
    let s1 := (s.setLink n { Link.reset with credits := [64, 64, 64], beats := s.links[n].beats }).setReg
      (Reg.rnkPortStatus n.val) (BitVec.ofNat 64 (1 + (if peer.enumerated then peer.id.toNat * 65536 else 0)))
    let s2 := ((s1.pathBack n).logEntry 6 1 2 [BitVec.ofNat 64 n.val, 1]).demote n peer
    (if s2.isMaster then s2.enumeratePeer n peer else s2.joinPeer n peer).meetPartner peer

/-- Rink training has started: the boot has reached its sixth step (R343). -/
def State.rinkTrains (s : State) : Bool := s.rinkLive && s.hifState != 0

/-- LINK_TRAINING_COMPLETE (R309, R315, R317, R329, R343). -/
def execLinkTrainingComplete (n : RinkPort) (peer : RinkPeer) (s : State) : Out :=
  ok (if s.rinkTrains then s.trainLink n peer else s)

/-- The cascade job that a message belongs to: context, model and count n. -/
def cascadeKey (m : RinkMsg) : Option (CtxId × ModelNo × W32) :=
  match m with
  | .exchange x => some (x.ctx, x.model, x.job)
  | .completion u => some (u.ctx, u.model, u.job)
  | _ => none

/-- The members that a discarded message has gone between: its source and its destination. -/
def endsOf (dest : BitVec 12) (m : RinkMsg) : List (BitVec 12) :=
  match m with
  | .exchange x => [x.source, dest]
  | .completion u => [u.source, dest]
  | _ => []

/-- The job of a cascade key. -/
def State.cascadeJob (s : State) (k : CtxId × ModelNo × W32) : Option Job :=
  s.jobs.find? (fun j => j.ctx == k.1 && j.model == k.2.1 && j.nModel == k.2.2 && j.state != .ended)

/-- The members of a model's cascade (R322). -/
def State.modelMembers (s : State) (c : CtxId) (m : ModelNo) : List Nat :=
  match (s.model? c m).bind (·.image) with
  | some im => (im.cascade.flatMap CascadeEntry.members).dedup
  | none => []

/-- A cascade job has yet to be submitted here (R324). -/
def State.toCome (s : State) (k : CtxId × ModelNo × W32) : Bool :=
  match s.model? k.1 k.2.1 with
  | some x => decide (x.jobsSinceReg.toNat < k.2.2.toNat)
  | none => true

/-- This member detects why a cascade job is to be aborted (R324, R325): the job ends here, now or as soon as it is submitted, and
every other member is told. -/
def State.abortKey (s : State) (k : CtxId × ModelNo × W32) (cause : AbortCause) : State :=
  match s.cascadeJob k with
  | some j => s.abortCascade j cause
  | none =>
    if s.rink.aborted.contains k then s
    else
      let s1 := (s.tellMembers (s.modelMembers k.1 k.2.1) k.1 k.2.1 k.2.2 cause).noteAbortOf k.1 k.2.1 k.2.2 cause
      if s.toCome k then s1.keepAbort k else s1

/-- This member hears that a cascade job has been aborted (R325). -/
def State.hearAbort (s : State) (k : CtxId × ModelNo × W32) : State :=
  match s.cascadeJob k with
  | some j => s.heardAbort j.uid
  | none => if s.rink.aborted.contains k || !s.toCome k then s else (s.inc Reg.rnkCascadeAbortCount 32 1).keepAbort k

/-- A message of a cascade job for a destination has been discarded: the job is aborted (R325). A device that is no member tells those
that the message went between, which tell the others (log 37). -/
def State.loseMessage (s : State) (dest : BitVec 12) (m : RinkMsg) : State :=
  match cascadeKey m with
  | none => s
  | some k =>
    if (s.cascadeJob k).isSome || (s.modelMembers k.1 k.2.1).contains s.devId then s.abortKey k .messageDiscarded
    else (endsOf dest m).foldl (fun s d => s.sendTo d (.abort k.1 k.2.1 k.2.2 .messageDiscarded true)) s

/-- The master's absence becomes known (R316, R317): MASTERLOST is set, and the devices behind this one are told. A standby whose
partner was the master takes over instead (R327). What has been told is not told again before a path led to the master. -/
def State.masterLost (s : State) (n : RinkPort) : State :=
  if s.rink.awayTold || (s.pairsOn && !s.isPrimary && s.partner == s.rink.masterId.toNat) then s
  else
    let s1 := ({ s with rink := { s.rink with awayTold := true } }.setFlag Reg.rnkDev 4 true).rinkReport n 3 (s.peerId n)
    ((List.finRange 4).filter (fun p => p != n && s.linkUp p.val && s.inTree p)).foldl (fun s p =>
      s.sendPort p 0xFFF (.enumerate { s.ownEnumeration with lost := true })) s1

/-- The link to the master is down. -/
def State.masterAway (s : State) : Bool :=
  s.isEnum && !s.isMaster && (match s.masterPort with
    | some p => !s.linkUp p.val
    | none => true)

/-- A device has lost every route to its master as far as it can see: the link that leads there is down, and it has no spare link
(R317; log 37). -/
def State.masterGone (s : State) : Bool :=
  s.masterAway && !(List.finRange 4).any (fun n => s.linkUp n.val && s.isSpare n)

/-- A link goes down: its unacknowledged flits and what waits at it are lost, and with them the cascade jobs they belong to (R309,
R312, R316, R317, R325). A link still in training starts again, which counts too (R309). -/
def State.linkDown (s : State) (n : RinkPort) : State :=
  if !s.linkUp n.val then
    if s.rinkTrains && !s.links[n].heldDown then s.inc (Reg.rnkLinkdownCount n.val) 32 1 else s
  else
    let lost := s.links[n].retry ++ s.links[n].waiting.map (·.2)
    let peer := s.peerId n
    let s1 := (s.setLink n { s.links[n] with
      retry := [], waiting := [], credits := [], resends := 0, nackDue := false, received := [], answers := [] }).setFlag
      (Reg.rnkPortStatus n.val) 0 false
    let s2 := (((s1.inc (Reg.rnkLinkdownCount n.val) 32 1).rinkReport n 1 peer).logEntry 6 1 2 [BitVec.ofNat 64 n.val, 0]).inc
      Reg.rnkRouteDropCount 32 lost.length
    let s3 := lost.foldl (fun s x => s.loseMessage x.1 x.2) s2
    if s3.isMaster then (s3.farEndGone s3.self n).offerNext else if s3.masterGone then s3.masterLost n else s3.reportLinks

/-- LINK_SIGNAL_LOSS (R309). -/
def execLinkSignalLoss (n : RinkPort) (s : State) : Out := ok (if s.off then s else s.linkDown n)

/-- LINK_FEC_FAILURE (R309). -/
def execLinkFecFailure (n : RinkPort) (s : State) : Out := ok (if s.off then s else s.linkDown n)

/-- The links of the tree that have not gone down at the master itself; what remote devices have lost, their reports have told. -/
def State.treeUp (s : State) : List Edge :=
  let gone := s.rink.tree.filter (fun e => e.1 == s.self && !s.linkUp e.2.1.val)
  s.rink.tree.filter (fun e => !gone.contains e && !gone.any (fun g => g.1 == e.2.2 && g.2.2 == e.1))

/-- The first spare link that joins a severed device to the master's part of the tree (R316). -/
def joiningSpare (self : BitVec 12) (up : RinkPort → Bool) (tree spares : List Edge) : Option Edge :=
  let held := fun (d : BitVec 12) => d == self || (routeTable tree self).any (fun r => r.1 == d)
  spares.find? (fun e => held e.1 && !held e.2.2 && (e.1 != self || up e.2.1))

/-- Spare links become links of the tree until none joins a severed device any more; the list of those taken (R316). -/
def State.joinSevered (s : State) : Nat → List Edge → List Edge → List Edge × List Edge × List Edge
  | 0, tree, spares => (tree, spares, [])
  | n + 1, tree, spares =>
    match joiningSpare s.self (fun p => s.linkUp p.val) tree spares with
    | none => (tree, spares, [])
    | some e =>
      let back := (spares.filter (fun x => x.1 == e.2.2 && x.2.2 == e.1)).take 1
      let r := s.joinSevered n (tree ++ [e] ++ back) (spares.filter (fun x => x != e && !back.contains x))
      (r.1, r.2.1, e :: r.2.2)

/-- TREE_REBUILD (R316, R317): the master joins what a lost link has severed over spare links and sends out new routes; a new master
waits for no report any longer (R327). At any other device the time of a rebuild is over: one whose link to the master is down still
has lost it (log 37). -/
def execTreeRebuild (s : State) : Out :=
  if s.off then ok s
  else if s.isMaster then
    let r := s.joinSevered s.rink.spares.length s.treeUp s.rink.spares
    let s1 := { s with rink := { s.rink with tree := r.1, spares := r.2.1, awaited := [] } }
    match r.2.2 with
    | [] => ok (if s.rink.awaited.isEmpty then s else s1.shareRoutes.offerNext)
    | e :: _ => ok (s1.rinkReport (if e.1 = s.self then e.2.1 else 0) 2 e.2.2.toNat).shareRoutes.offerNext
  else ok (if s.masterAway then s.masterLost ((s.masterPort).getD 0) else s)

/-! ## Flits (R310–R312) -/

/-- What a received flit comes to at its port: discarded and asked for again, discarded and counted, out of place, or taken. -/
inductive FlitFate where
  | resend | bad | ignored | taken
deriving DecidableEq, Repr

/-- The checks of R310 and R312 on a flit of a type; a flit of another type, or of a class that its type does not have, is no such
flit (R311; log 66). -/
def flitFate (l : Link) (h : FlitHeader) (type : Nat) (control : Bool) : FlitFate :=
  if !h.crcOk then .resend
  else if 8 ≤ h.typeCode.toNat ∨ h.cls = 3 ∨ h.reserved ≠ 0 then .bad
  else if h.typeCode.toNat ≠ type ∨ h.cls.toNat ≠ classOf type then .ignored
  else if control then .taken
  else if h.seq ≠ l.expectSeq then .resend
  else .taken

/-- The next control flit carries a negative acknowledgement (R312). -/
def State.askAgain (s : State) (n : RinkPort) : State := s.setLink n { s.links[n] with nackDue := true }

/-- The flit at the expected place has arrived: the link expects the next and owes an acknowledgement; a negative one that is due stays
due (R312). -/
def State.tookFlit (s : State) (n : RinkPort) (h : FlitHeader) : State :=
  s.setLink n { s.links[n] with expectSeq := s.links[n].expectSeq + 1
                                received := s.links[n].received ++ [h.cls.toNat] }

/-- FEC codewords of a received flit that were corrected (R335). -/
def State.countFec (s : State) (n : RinkPort) (h : FlitHeader) : State :=
  if h.fec = 0 then s else s.inc (Reg.rnkFecCorrCount n.val) 64 h.fec

/-- A flit for another device that came in at a port goes on along its path, or is discarded and its cascade job aborted (R314, R316,
R325). -/
def State.forward (s : State) (n : RinkPort) (h : FlitHeader) (m : RinkMsg) : State :=
  let s1 := s.sendFrom n.val h.dest m
  if s.reaches h.dest.toNat then s1 else s1.loseMessage h.dest m

/-- Receive a flit of a type: check it, and deliver its message here or send it on (R310, R312, R316). -/
def receiveFlit (n : RinkPort) (h : FlitHeader) (type : Nat) (m : RinkMsg) (deliver : State → State) (s0 : State) : State :=
  if !s0.rinkLive || !s0.linkUp n.val then s0
  else
    let s := s0.countFec n h
    match flitFate s.links[n] h type false with
    | .resend => s.askAgain n
    | .bad => (if h.seq = s.links[n].expectSeq then s.tookFlit n h else s).inc (Reg.rnkBadFlitCount n.val) 32 1
    | .ignored => s
    | .taken =>
      let s1 := s.tookFlit n h
      if h.dest = 0xFFF ∨ h.dest.toNat = s.devId then deliver s1 else s1.forward n h m

/-- Cumulative acknowledgement of every flit up to a sequence number, which makes room for grants (R312, R313; log 36). -/
def Link.acked (l : Link) (a : BitVec 12) : Link :=
  let oldest := l.nextSeq - BitVec.ofNat 12 l.retry.length
  let n := (a - oldest + 1).toNat
  if n = 0 ∨ l.retry.length < n then l else { l with retry := l.retry.drop n, resends := 0 }

/-- Acknowledgement and credits of a control flit (R312, R313). -/
def Link.credited (l : Link) (f : ControlFlit) : Link := { l.acked f.ack with credits := f.credits }

/-- A heartbeat of the partner (R326). -/
def State.hearPartner (s : State) : State :=
  { s.setFlag Reg.rnkPairStatus 2 true with rink := { s.rink with heartbeatAt := s.gate, heard := true } }

/-- The flits from the named one on are sent again; after 16 resends in a row the link goes down (R312). -/
def State.resendFrom (s : State) (n : RinkPort) (e : BitVec 12) : State :=
  let l := s.links[n]
  let oldest := l.nextSeq - BitVec.ofNat 12 l.retry.length
  let k := (e - oldest).toNat
  if l.retry.length ≤ k then s
  else
    let s1 := (s.setLink n { l with resends := l.resends + 1 }).inc (Reg.rnkRetryCount n.val) 64 (l.retry.length - k)
    if 16 ≤ l.resends + 1 then s1.linkDown n else s1

/-- A member refused a broadcast arm (R321). -/
def State.countRefusal (s : State) (j : GateSlot) : State :=
  s.setFld (Reg.gtbSgCtrl j.val) 31 24 (min 255 (s.fld (Reg.gtbSgCtrl j.val) 31 24 + 1))

/-- A control flit leaves a port with all that is due: acknowledgement, negative acknowledgement, credits, a heartbeat and the answers
for its destination (R311, R312, R318, R321, R326). -/
def State.sendControl (s : State) (n : RinkPort) (dest : BitVec 12) (beat : Option TwinState) : State :=
  let l := s.links[n]
  let due := l.answers.filter (fun a => a.1 == dest)
  s.setLink n { l with
    nackDue := false
    received := []
    answers := l.answers.filter (fun a => a.1 != dest)
    beats := l.beats + beat.isSome.toNat
    sent := some ⟨dest, l.expectSeq - 1, if l.nackDue then some l.expectSeq else none, [64, 64, 64], beat.isSome, beat,
      (due.filter (fun a => !a.2.2)).map (·.2.1), (due.filter (fun a => a.2.2)).map (·.2.1), 10 * s.gate.toNat⟩ }

/-- Answers to an arm wait at a port for the next control flit (R321). -/
def State.answer (s : State) (n : RinkPort) (dest : BitVec 12) (slots : List GateSlot) (accepted : Bool) : State :=
  s.setLink n { s.links[n] with answers := s.links[n].answers ++ slots.map (fun j => (dest, j, accepted)) }

/-- What a control flit says to another device goes on along the path to it: its heartbeat at once, its answers with the next control
flit (R321, R326). -/
def State.relayControl (s : State) (f : ControlFlit) : State :=
  match s.rink.routes.find? (fun r => r.1 == f.header.dest) with
  | some r =>
    if s.linkUp r.2.val then
      let s1 := (s.answer r.2 f.header.dest f.refusals false).answer r.2 f.header.dest f.accepted true
      if f.heartbeat then s1.sendControl r.2 f.header.dest (some (f.twin.getD ⟨false, 0, false⟩)) else s1
    else s
  | none => s

/-- What a control flit says to this device: the partner's heartbeat, which on a path that returns may find both twins primary, and
answers to a broadcast arm (R321, R326, R329). -/
def State.hearControl (s : State) (n : RinkPort) (f : ControlFlit) : State :=
  let mine := f.header.dest.toNat == s.devId || s.toPartner n
  let s1 := if f.heartbeat && s.pairsOn && mine then
      (match f.twin with
       | some t => if s.flag Reg.rnkPairStatus 2 then s else s.meetTwin t
       | none => s).hearPartner
    else s
  f.refusals.foldl State.countRefusal s1

/-- CONTROL_FLIT (R310–R313, R321, R326): what it acknowledges, what is to be sent again, and then the grants that its credits allow. -/
def execControlFlit (n : RinkPort) (f : ControlFlit) (s0 : State) : Out :=
  if !s0.rinkLive || !s0.linkUp n.val then ok s0
  else
    let s := s0.countFec n f.header
    match flitFate s.links[n] f.header 0 true with
    | .resend => ok (s.askAgain n)
    | .bad => ok (s.inc (Reg.rnkBadFlitCount n.val) 32 1)
    | .ignored => ok s
    | .taken =>
      let s1 := s.setLink n (s.links[n].credited f)
      let s2 := match f.nack with
        | some e => s1.resendFrom n e
        | none => s1
      let s3 := if f.header.dest = 0xFFF ∨ f.header.dest.toNat = s.devId then s2.hearControl n f else s2.relayControl f
      ok (s3.setLink n s3.links[n].grant)

/-- CONTROL_FLIT_SEND (R312): the flit carries the acknowledgements, any negative acknowledgement and the answers that were due. -/
def execControlFlitSend (n : RinkPort) (s : State) : Out :=
  ok (if s.rinkLive && s.linkUp n.val then
      s.sendControl n (match s.links[n].answers with
        | a :: _ => a.1
        | [] => 0xFFF) none
    else s)

/-! ## Cascade messages (R323–R325) -/

/-- Where the n of a message stands among a model's jobs here: the count of the next job to launch (R324). -/
def State.nextCount (s : State) (c : CtxId) (m : ModelNo) : Nat :=
  match (s.jobs.filter (fun j => j.ctx == c && j.model == m && j.state == .queued)).head? with
  | some j => j.nModel.toNat
  | none => match s.model? c m with
    | some x => x.jobsSinceReg.toNat + 1
    | none => 1

/-- An exchange write is performed at once for a running job and for the next to launch (R158, R323, R324). One for a later job, one
without a translation, and one that meets a frozen controller abort the job (R305, R325). -/
def State.exchangeIn (s : State) (x : ExchangeData) : State :=
  let k := (x.ctx, x.model, x.job)
  if s.nextCount x.ctx x.model < x.job.toNat then s.abortKey k .laterJob
  else if x.job.toNat < s.nextCount x.ctx x.model ∧ (s.cascadeJob k).isNone then s
  else match s.writeVa x.ctx x.va.toNat x.bytes with
    | .ok s1 => (match s.frozenIn x.ctx x.va.toNat x.bytes.length, s.cascadeJob k with
      | some va, some j => s1.metFrozen j.uid j.ctx false va
      | some _, none => s1.abortKey k .memberJobEnded
      | none, _ => s1)
    | .error _ => s.abortKey k .exchangeTranslation

/-- EXCHANGE_DATA_FLIT (R311, R323). -/
def execExchangeDataFlit (n : RinkPort) (h : FlitHeader) (x : ExchangeData) (s : State) : Out :=
  ok (receiveFlit n h 1 (.exchange x) (fun s => s.exchangeIn x) s)

/-- An update reaches a counter of its job: DONE_LOW follows (R323). -/
def State.applyUpdate (s : State) (j : Job) (u : Completion) : State :=
  match j.bindings.find? (fun b => b.1 == u.counter.val) with
  | some b =>
    let p : CounterId := Fin.ofNat 64 b.2
    (match s.counter? p with
     | some c => s.setCounter p (some (({ c with remote := c.remote ++ [(u.member, u.index.toNat)] } : Counter).settle s.devId))
     | none => s)
  | none => s

/-- A completion update is applied, or held for the next job; one for a later job aborts it (R323–R325). -/
def State.updateIn (s : State) (u : Completion) : State :=
  let next := s.nextCount u.ctx u.model
  if next < u.job.toNat then s.abortKey (u.ctx, u.model, u.job) .laterJob
  else if u.job.toNat = next then { s with rink := { s.rink with heldUpdates := s.rink.heldUpdates ++ [u] } }
  else match s.cascadeJob (u.ctx, u.model, u.job) with
    | some j => s.applyUpdate j u
    | none => s

/-- COMPLETION_UPDATE (R323, R324). -/
def execCompletionUpdate (n : RinkPort) (h : FlitHeader) (u : Completion) (s : State) : Out :=
  ok (receiveFlit n h 2 (.completion u) (fun s => s.updateIn u) s)

/-- CASCADE_ABORT (R325): a cause that this member detects ends the job here and is told to every other member; an abort that arrives in
a flit for this device ends the job here, and one for another device goes on along the tree (R310, R312, R316). -/
def execCascadeAbort (ctx : CtxId) (job : CascadeJob) (notice : AbortNotice) (s : State) : Out :=
  let k := (ctx, job.model, job.n)
  match notice.source with
  | .here => ok (if s.off || s.lodge.inReset then s else s.abortKey k notice.cause)
  | .link n h tell => ok (receiveFlit n h 2 (.abort ctx job.model job.n notice.cause tell)
      (fun s => if tell then s.abortKey k notice.cause else s.hearAbort k) s)

/-! ## Synchro (R332) -/

/-- A partner's signature is compared, or kept, or with the store full lost (R332). -/
def State.peerSignature (s : State) (r : Signature) : State :=
  if !s.flag Reg.synCtrl 0 then s
  else match s.rink.pendingOwn.find? (sigSameKey r) with
    | some p => { s with rink := { s.rink with pendingOwn := s.rink.pendingOwn.erase p } }.judge p r
    | none =>
      if s.pendingKeys < 8192 then { s with rink := { s.rink with pendingPeer := s.rink.pendingPeer ++ [r] } }
      else (s.setFlag Reg.synStatus 1 true).inc Reg.synUnmatchedCount 32 1

/-- SIGNATURE_RECORD (R332). -/
def execSignatureRecord (n : RinkPort) (h : FlitHeader) (r : Signature) (s : State) : Out :=
  ok (receiveFlit n h 3 (.signature r) (fun s => s.peerSignature r) s)

/-- An own pending signature is given up: its job has an uncompared index (R332, R334). -/
def State.dropOwn (s : State) (r : Signature) : State :=
  ({ s with rink := { s.rink with pendingOwn := s.rink.pendingOwn.erase r } }.inc Reg.synUnmatchedCount 32 1).onCompared r
    (fun j => { j with uncompared := true })

/-- SYNCHRO_PENDING_TIMEOUT (R332): the n-th pending entry, own signatures first. The command's arrival is the end of
TIMEOUT (log 14). -/
def execSynchroPendingTimeout (n : Nat) (s : State) : Out :=
  if s.off then ok s else
  match s.rink.pendingOwn[n]? with
  | some r => ok (s.dropOwn r)
  | none => match s.rink.pendingPeer[n - s.rink.pendingOwn.length]? with
    | some r => ok ({ s with rink := { s.rink with pendingPeer := s.rink.pendingPeer.erase r } }.inc Reg.synUnmatchedCount 32 1)
    | none => ok s

/-- The partner is lost: pending entries are discarded and counted (R332, R334). -/
def State.losePartner (s : State) : State :=
  if s.fld Reg.synCtrl 27 16 = s.partner then
    let s1 := s.rink.pendingOwn.foldl State.dropOwn s
    { s1 with rink := { s1.rink with pendingPeer := [] } }.inc Reg.synUnmatchedCount 32 s.rink.pendingPeer.length
  else s

/-! ## Start gates (R320, R321) -/

/-- The members that a broadcast names: 16 identifiers, 0xFFFF unused (R335). -/
def State.gateMembers (s : State) : List Nat :=
  (List.range 16).filterMap (fun i =>
    let m := s.fld (Reg.gtbSgMembers (i / 4)) (16 * (i % 4) + 15) (16 * (i % 4))
    if m = 0xFFFF ∨ m = s.devId then none else some m)

/-- A slot is armed (R320). -/
def State.armSlot (s : State) (n : GateSlot) (g : W64) (c : CtxId) (m : ModelNo) : State :=
  { s with gates := s.gates.set n ⟨true, g, c, m⟩ }

/-- A slot disarms. -/
def State.disarmSlot (s : State) (n : GateSlot) : State :=
  { s with gates := s.gates.set n { s.gates[n] with armed := false } }

/-- A broadcast arm takes effect here where G lies at least 20 µs ahead, and is answered in either case (R321). -/
def State.takeArm (s : State) (n : RinkPort) (a : GateArm) : State :=
  if s.gate.toNat + 20000 ≤ a.gate.toNat then
    ((((s.setReg (Reg.gtbSgGate a.slot.val) a.gate).setFld (Reg.gtbSgCtrl a.slot.val) 23 14 a.ctx.val).setFld
      (Reg.gtbSgCtrl a.slot.val) 13 10 a.model.val).armSlot a.slot a.gate a.ctx a.model).answer n s.rink.masterId [a.slot] true
  else s.answer n s.rink.masterId [a.slot] false

/-- START_GATE_ARM_FLIT (R321). -/
def execStartGateArmFlit (n : RinkPort) (h : FlitHeader) (a : GateArm) (s : State) : Out :=
  ok (receiveFlit n h 4 (.arm a) (fun s => s.takeArm n a) s)

/-- The fields of GTB_SG_CTRL that a write changes (R7, R335). -/
def State.writeSgCtrl (s : State) (slot : GateSlot) (v : BitVec 32) : State :=
  let r := Reg.gtbSgCtrl slot.val
  let s1 := ((s.setFld r 23 14 (field v 23 14)).setFld r 13 10 (field v 13 10)).setFld r 2 2 (field v 2 2)
  let s2 := if bit v 4 then s1.setFlag r 4 false else s1
  if bit v 3 then s2.setFlag r 3 false else s2

/-- START_GATE_ARM (R320, R321): the write's fields first, then the arm, with G from GTB_SG_GATE. -/
def execStartGateArm (slot : GateSlot) (v : BitVec 32) (s : State) : Out :=
  let s1 := s.writeSgCtrl slot v
  let g := s1.reg (Reg.gtbSgGate slot.val)
  let c : CtxId := Fin.ofNat 1024 (field v 23 14)
  let m : ModelNo := Fin.ofNat 16 (field v 13 10)
  if g.toNat ≤ s.gate.toNat then ok ((s1.setFlag (Reg.gtbSgCtrl slot.val) 3 true).disarmSlot slot)
  else
    let s2 := s1.armSlot slot g c m
    ok (if bit v 2 then
        s1.gateMembers.foldl (fun s d => s.sendTo (BitVec.ofNat 12 d) (.arm ⟨slot, g, c, m⟩))
          (s2.setFld (Reg.gtbSgCtrl slot.val) 31 24 0)
      else s2)

/-- START_GATE_DISARM (R320): the held job is free to launch. -/
def execStartGateDisarm (slot : GateSlot) (s : State) : Out := ok (s.disarmSlot slot)

/-- START_GATE_FIRE (R320): the gate count has reached G, and the model's next queued job launches. With none queued the
slot waits for one, which will be late. -/
def execStartGateFire (slot : GateSlot) (s : State) : Out :=
  let g := s.gates[slot]
  if g.armed && decide (g.gate.toNat ≤ s.gate.toNat) then
    match s.jobs.find? (fun j => j.ctx == g.ctx && j.model == g.model && j.state == .queued) with
    | some j => ok (s.tryLaunch j)
    | none => ok s
  else ok s

/-! ## Enumeration and time (R315–R319) -/

/-- The hops of this device from the master (R319). -/
def State.setHops (s : State) (h : Nat) : State :=
  { s with rink := { s.rink with hops := h } }.setFld Reg.gtbAlignStatus 15 8 (min h 255)

/-- A count of tenths of a nanosecond as whole nanoseconds, to the nearest (log 38). -/
def tenthsToNs (d : Int) : Int := (d + 5) / 10

/-- An identifier reaches a device that has none, and stays (R315, R317, R318, R350): a second master joins as an ordinary device,
DEMOTED; the link is in the tree; where HIF_HANDSHAKE has not read READY the gate count starts from the parent's plus the path delay of
the link; the device makes itself known to its other neighbours and reports its links. -/
def State.takeIdentity (s : State) (n : RinkPort) (m : Enumeration) : State :=
  let s1 := if s.isMaster then ((s.setFlag Reg.rnkDev 0 false).setFlag Reg.rnkDev 2 true).rinkReport n 5 (s.peerId n) else s
  let routes := if m.routes.any (fun r => r.1 == m.master) then m.routes else (m.master, n) :: m.routes
  let s2 := { (s1.markPort n true false).knowPeer n m.parent with rink := { s1.rink with routes := routes, masterId := m.master } }
  let s3 := ((s2.setFld Reg.rnkDev 27 16 m.id.toNat).setFlag Reg.rnkDev 1 true).setHops m.hops
  let s4 := if s.board.readySeen then s3
    else { s3 with gate := m.parentGate + BitVec.ofInt 64 (tenthsToNs s.links[n].pathDelay) }
  let s5 := s4.logEntry 6 0 1 [m.id.zeroExtend 64, BitVec.ofNat 64 m.hops]
  (((List.finRange 4).filter (fun p => p != n && s.linkUp p.val)).foldl (fun s p => s.sendPort p 0xFFF (.enumerate s.ownEnumeration))
    s5).reportLinks

/-- An identifier for the device behind a port of this one is handed over; of a neighbour that has made itself known meanwhile, and
keeps its own, and of a link that is down the master is told (R315). -/
def State.handOver (s : State) (p : RinkPort) (m : Enumeration) : State :=
  if s.isSpare p || s.inTree p || !s.linkUp p.val then s.reportLinks
  else
    (({ s with rink := { s.rink with routes := s.rink.routes ++ [(m.id, p)] } }.markPort p true false).knowPeer p m.id).sendPort p 0xFFF
      (.enumerate { m with forPort := none, hops := s.rink.hops + 1, parentGate := s.gate, parent := s.self })

/-- Routes reach an enumerated device: they are its own from now on, and so is the master that sends them; without routes the master
only asks for the device's links, as one does whose path to it returns (R315–R317, R327). -/
def State.takeRoutes (s : State) (m : Enumeration) : State :=
  let s1 := { s with rink := { s.rink with masterId := m.master, awayTold := false } }
  let s2 := if m.routes.isEmpty then s1 else (s1.setRoutes m.routes).setHops m.hops
  if m.routes.isEmpty || s.masterAway then s2.reportLinks else s2

/-- A TYPE 0x5 message for this device (R315–R318): a report for the master; the news that the master is lost; a neighbour that makes
itself known; an identifier for a neighbour, or for this device; this device's routes; or an identifier over a second link, which is
a spare link: the neighbour is told this device's own. -/
def State.takeEnumeration (n : RinkPort) (m : Enumeration) (s : State) : State :=
  match m.report with
  | some r => if s.isMaster then s.takeReport r else s
  | none =>
    if m.lost then (if s.isMaster then s else s.masterLost n)
    else if !m.tree then (if s.isMaster then s.findDevice n m.parent else s.meetNeighbour n m.parent)
    else match m.forPort with
      | some p => s.handOver p m
      | none =>
        if s.isMaster && !(m.masterElsewhere && !s.isEnum) then s
        else if !s.isEnum then s.takeIdentity n m
        else if m.id.toNat = s.devId then s.takeRoutes m
        else (s.sendPort n 0xFFF (.enumerate s.ownEnumeration)).meetNeighbour n m.parent

/-- ENUMERATION_FLIT (R315–R319, R350). -/
def execEnumerationFlit (n : RinkPort) (h : FlitHeader) (m : Enumeration) (s : State) : Out :=
  ok (receiveFlit n h 5 (.enumerate m) (fun s => s.takeEnumeration n m) s)

/-- The path delay: half the round trip, corrected by ASYM, in tenths of a nanosecond. t1 and t4 are this device's transmit and receive
stamps, t2 and t3 the other end's; ASYM is in ps (R318). -/
def stampDelay (t : TimeStamps) (asym : Nat) : Int := (((t.t4 : Int) - t.t1) - ((t.t3 : Int) - t.t2)) / 2 + sext 16 asym / 100

/-- Offset of the parent's gate count from this one's at the fourth stamp, in tenths of a nanosecond (R318). -/
def stampOffset (t : TimeStamps) (asym : Nat) : Int := (t.t3 : Int) + stampDelay t asym - t.t4

/-- TIME_STAMP_EXCHANGE (R318, R319): each link measures its path delay; on the link to the parent the offset sets ALIGNED, held for
10 ms within the bound, and FAR. The rate of the count is not modelled (log 38). -/
def execTimeStampExchange (n : RinkPort) (stamps : TimeStamps) (s0 : State) : Out :=
  if !s0.rinkLive || !s0.linkUp n.val then ok s0
  else
    let asym := s0.fld (Reg.rnkAsym n.val) 15 0
    let s := s0.setLink n { s0.links[n] with pathDelay := stampDelay stamps asym }
    if s.isEnum && !s.isMaster && s.flag (Reg.rnkPortStatus n.val) 1 && s.masterPort == some n then
      let off := (stampOffset stamps asym).natAbs
      let s1 := s.setFlag Reg.gtbAlignStatus 1 (decide (100000 < off))
      if off ≤ 20 + 5 * s.rink.hops then
        let since := s.rink.boundSince.getD s.gate
        ok ({ s1 with rink := { s1.rink with boundSince := some since } }.setFlag Reg.gtbAlignStatus 0
          (decide (since.toNat + 10000000 ≤ s.gate.toNat)))
      else ok ({ s1 with rink := { s1.rink with boundSince := none } }.setFlag Reg.gtbAlignStatus 0 false)
    else ok s

/-- The TAI offset goes to the next devices down the tree, from every port of it but the one it came from (R319). -/
def State.passTai (s : State) (but : Option RinkPort) (offset : W64) : State :=
  ((List.finRange 4).filter (fun p => but != some p && s.linkUp p.val && s.inTree p)).foldl (fun s p => s.sendPort p 0xFFF (.tai offset)) s

/-- TAI_OFFSET_SEND (R319). -/
def execTaiOffsetSend (s : State) : Out :=
  ok (if s.rinkLive && s.isMaster then s.passTai none (s.reg (Reg.ethPtpOffset 0)) else s)

/-- TAI_OFFSET_FLIT (R319): the offset is copied and goes on down the tree; one addressed to this device alone stops here. -/
def execTaiOffsetFlit (n : RinkPort) (h : FlitHeader) (offset : BitVec 64) (s : State) : Out :=
  ok (receiveFlit n h 7 (.tai offset) (fun s =>
    if s.isMaster then s
    else
      let s1 := s.setReg (Reg.ethPtpOffset 0) offset
      if h.dest = 0xFFF then s1.passTai (some n) offset else s1) s)

/-! ## Heartbeats and takeover (R326, R327) -/

/-- A master whose partner has become master in its place is an ordinary device (R315, R327; log 37). -/
def State.yieldTo (s : State) (d : BitVec 12) : State :=
  if s.isMaster then
    let s1 := s.setFlag Reg.rnkDev 0 false
    { s1 with rink := { s1.rink with masterId := d, tree := [], spares := [], todo := [], offer := none, awaited := [] } }
  else s

/-- TAKEOVER_NOTICE (R327, R350): a living partner becomes standby, and master no longer. -/
def execTakeoverNotice (n : RinkPort) (h : FlitHeader) (t : Takeover) (s : State) : Out :=
  ok (receiveFlit n h 6 (.takeover t) (fun s =>
    if s.pairsOn && t.sender.toNat == s.partner then
      let s1 := s.logEntry 6 1 3 [1, BitVec.ofNat 64 s.partner]
      (if s1.isPrimary then s1.standBy else s1).yieldTo t.sender
    else s) s)

/-- Ports on which the heartbeat and the notice go: every direct link to the partner, and the tree path where it differs. -/
def State.partnerPorts (s : State) : List RinkPort :=
  (List.finRange 4).filter (fun n => s.toPartner n || (s.linkUp n.val &&
    s.rink.routes.any (fun r => r.1.toNat == s.partner && r.2 == n)))

/-- PAIRS_HEARTBEAT_SEND (R326): the always-on domain sends it, through a Lodge reset too, unless DROP is written or Patrol
drops it. -/
def execPairsHeartbeatSend (s : State) : Out :=
  ok (if s.rinkLive && s.pairsOn && !s.flag Reg.rnkPairCtrl 1 && !s.rink.dropped && !s.power.stopped then
      s.partnerPorts.foldl (fun s n =>
        s.sendControl n (if s.toPartner n then 0xFFF else BitVec.ofNat 12 s.partner)
          (some ⟨s.isPrimary, s.rink.primarySince, s.rink.heard⟩)) s
    else s)

/-- Cascade jobs with a lost member are aborted (R327 step 3). -/
def State.abortWith (s : State) (member : Nat) : State :=
  (s.jobs.filter (fun j => j.state != .ended && (match s.imageOf j with
    | some im => im.cascade.any (fun e => e.members.contains member)
    | none => false))).foldl (fun s j => s.abortCascade j .memberJobEnded) s

/-- Paired contexts run again (R327 step 4). -/
def State.unparkPaired (s : State) : State :=
  let ids := (s.contexts.filter (fun x => x.parked && s.isPaired x.id)).map (·.id)
  ids.foldl (fun s c => s.writeCtx c)
    { s with contexts := s.contexts.map (fun (x : Context) => if ids.contains x.id then { x with parked := false } else x) }

/-- The links of this device as it would report them, as links of the tree or spare links (R315). -/
def State.ownLinks (s : State) (tree : Bool) : List Edge :=
  s.linkReport.links.filterMap (fun l => match l.2.1 with
    | some p => if l.2.2 = tree then some (s.self, l.1, p) else none
    | none => none)

/-- The standby becomes master in the lost partner's place: identifiers stay, the next one follows the highest that it knows, and every
device that its links reach is asked for its own links, from which the tree is known again (R315, R327; log 37). -/
def State.becomeMaster (s : State) : State :=
  let known := (s.rink.routes.map (·.1)).filter (fun d => s.reaches d.toNat)
  let s1 := { s.setFlag Reg.rnkDev 0 true with rink := { s.rink with
    masterId := s.self
    tree := s.ownLinks true
    spares := s.ownLinks false
    nextId := (s.rink.routes.map (fun (r : BitVec 12 × RinkPort) => r.1.toNat)).foldl max s.devId + 1
    todo := [], offer := none, awaited := known } }
  known.foldl (fun s d => s.sendTo d (.enumerate ⟨d, s.rink.hops, true, false, s.gate, [], s.self, s.self, none, none, false⟩)) (s1.setHops 0)

/-- PAIRS_TAKEOVER (R327, R335): no heartbeat for HB_LOSS. The standby takes over; a primary only sees that its partner's
heartbeat no longer arrives. -/
def execPairsTakeover (s : State) : Out :=
  if !s.rinkLive || !s.pairsOn ||
      decide (s.gate.toNat < s.rink.heartbeatAt.toNat + s.fld Reg.rnkPairCtrl 11 8 * 1000000) then ok s
  else if s.isPrimary then ok (s.setFlag Reg.rnkPairStatus 2 false)
  else
    let s1 := { (s.setFlag Reg.rnkPairStatus 0 false).setFlag Reg.rnkPairStatus 2 false with
      rink := { s.rink with primarySince := s.gate } }
    let s2 := s1.partnerPorts.foldl (fun s n => s.sendPort n (if s.toPartner n then 0xFFF else BitVec.ofNat 12 s.partner)
      (.takeover ⟨BitVec.ofNat 12 s.devId, s.gate⟩)) s1
    let s3 := (if s.isEnum ∧ !s.isMaster ∧ s.partner = s.rink.masterId.toNat then s2.becomeMaster else s2).logEntry 6 1 3 [0, BitVec.ofNat 64 s.partner]
    let s4 := (s3.losePartner.abortWith s.partner).unparkPaired
    ok (((s4.setFlag Reg.rnkPairStatus 3 true).inc Reg.rnkTakeoverCount 32 1).pairsReport 1)

end Sys2Proof.Machine
end

