-- ==== Sys2Proof/Machine/Boot.lean ====
section
/-! DEFINITION. The flash, the boot, Patrol and the Lodge's recovery, and the resets of the whole device (R336–R348, R359, R365,
R385–R392). Boot, recovery and restart each have their whole effect in one step (log 39). -/

namespace Sys2Proof.Machine

/-! ## Flash and directory (R337, R338) -/

/-- n bytes of flash; what nothing has written is erased (log 40). -/
def State.flashRd (s : State) (o n : Nat) : List Byte := readRun 0xFF s.lodge.flash o n

/-- Write bytes to the flash. -/
def State.flashWr (s : State) (o : Nat) (bs : List Byte) : State :=
  { s with lodge := { s.lodge with flash := writeRun 0xFF s.lodge.flash o bs } }

/-- What the board's own path has written (R343). -/
def State.flashBoard (s : State) (runs : List (Nat × List Byte)) : State := runs.foldl (fun s r => s.flashWr r.1 r.2) s

/-- A directory copy's entries, where its CRC passes: (index, TYPE, OFFSET, LENGTH) (R338). -/
def State.dirCopy (s : State) (o : Nat) : Option (List (Nat × Nat × Nat × Nat)) :=
  let bs := s.flashRd o 260
  if (crc32 (bs.take 256)).toNat = leAt bs 256 4 then
    some ((List.range 16).map (fun i => (i, leAt bs (16 * i) 1, leAt bs (16 * i + 4) 4, leAt bs (16 * i + 8) 4)))
  else none

/-- The directory: the copy used, and its entries (R338). -/
def State.directory (s : State) : Option (Nat × List (Nat × Nat × Nat × Nat)) :=
  match s.dirCopy 0 with
  | some e => some (0, e)
  | none => (s.dirCopy 0x10000).map (fun e => (1, e))

/-- Bytes of an entry's image. -/
def State.imageAt (s : State) (e : Nat × Nat × Nat × Nat) : List Byte := s.flashRd e.2.2.1 e.2.2.2

/-- Entries of a type, in directory order. -/
def entriesOf (t : FolfenType) (es : List (Nat × Nat × Nat × Nat)) : List (Nat × Nat × Nat × Nat) :=
  es.filter (fun e => e.2.1 == t.code)

/-- Why a flash image does not verify, or none (R340). -/
def State.imageCause (s : State) (t : FolfenType) (e : Nat × Nat × Nat × Nat) : Option Nat :=
  folfenCause s.lodge.slots s.lodge.rollback t (s.imageAt e)

/-- Part 1 of a firmware payload (R339). -/
def part1Of (bs : List Byte) : List Byte := (folfenPayload bs).take (leAt bs 12 4)

/-- The rest of a firmware payload, read at step 5, has the digest that part 1 carries (R339, R343; log 39). -/
def State.restOk (s : State) (e : Nat × Nat × Nat × Nat) : Bool :=
  let bs := s.imageAt e
  sha384 ((folfenPayload bs).drop (leAt bs 12 4)) == Config.restDigest (part1Of bs)

/-- A report of class BOOT (R368). -/
def State.bootReport (s : State) (cause detail : Nat) : State :=
  s.report { mkReport s 0x0F 1 (unitNo 0x0B 0) cause with detail := BitVec.ofNat 32 detail, firmware := true }

/-- A verified image is logged: TYPE, directory index, VERSION (R350). -/
def State.logVerified (s : State) (e : Nat × Nat × Nat × Nat) : State :=
  s.logEntry 1 0 1 [BitVec.ofNat 64 e.2.1, BitVec.ofNat 64 e.1, BitVec.ofNat 64 (leAt (s.imageAt e) 8 4)]

/-- A refused image is logged (R350). -/
def State.logRefused (s : State) (e : Nat × Nat × Nat × Nat) (cause : Nat) : State :=
  s.logEntry 1 2 2 [BitVec.ofNat 64 e.2.1, BitVec.ofNat 64 e.1, BitVec.ofNat 64 cause]

/-- The first entry of a type that verifies; the refused ones before it are logged (R338, R340). -/
def State.firstVerified (s : State) (t : FolfenType) :
    List (Nat × Nat × Nat × Nat) → State × Option (Nat × Nat × Nat × Nat)
  | [] => (s, none)
  | e :: r => match s.imageCause t e with
    | none => (s.logVerified e, some e)
    | some c => (s.logRefused e c).firstVerified t r

/-- A firmware entry, the n-th tried, does not boot: its cause is noted, reported and logged (R343, R365, R368). -/
def State.refuseFirmware (s : State) (n : Nat) (e : Nat × Nat × Nat × Nat) (cause : Nat) : State :=
  ((s.setFld Reg.ldgBootStatus (15 + 8 * n) (8 + 8 * n) cause).bootReport 1 (e.1 + 256 * cause)).logRefused e cause

/-- The firmware entries are tried in order (R340, R343): part 1 at step 3, what `step4` does with it, then the rest at step 5; a
failure at either is one of that entry, cause 5 where the rest's digest fails. -/
def State.tryFirmware (step4 : (Nat × Nat × Nat × Nat) → State → State) (s : State) :
    Nat → List (Nat × Nat × Nat × Nat) → State × Option (Nat × Nat × Nat × Nat)
  | _, [] => (s, none)
  | n, e :: r => match s.imageCause .firmware e with
    | some c => State.tryFirmware step4 (s.refuseFirmware n e c) (n + 1) r
    | none =>
      let s1 := step4 e s
      if s1.restOk e then (s1.logVerified e, some e) else State.tryFirmware step4 (s1.refuseFirmware n e 5) (n + 1) r

/-! ## Registers that the board configuration loads (R326, R335, R344, R353, R365) -/

/-- PWR_CTRL after a write: CAP outside 60–300 reads back as 220, MODE 3 as 1 (R365). -/
def pwrValue (v : Nat) : Nat :=
  let w := BitVec.ofNat 32 v
  let cap := field w 10 2
  let m := field w 1 0
  (if 60 ≤ cap ∧ cap ≤ 300 then cap else 220) * 4 + (if m = 3 then 1 else m)

/-- RNK_PAIR_CTRL after a write: HB_LOSS outside 2–15 reads back as 8 (R335). -/
def pairValue (v : Nat) : Nat :=
  let w := BitVec.ofNat 32 v
  let h := field w 11 8
  field w 27 16 * 65536 + (if 2 ≤ h then h else 8) * 256 + field w 1 0

/-- Ceilings of a mode: power in W and VDD_CORE in mV (R353). -/
def modeCeiling (m : Nat) : Nat × Nat := if m = 0 then (300, 900) else if m = 2 then (150, 700) else (250, 800)

/-- Upper voltage that firmware may command (R353, R358). -/
def State.vddCeiling (s : State) : Nat :=
  let v := (modeCeiling (s.fld Reg.pwrCtrl 1 0)).2
  if s.power.fewSensors then min v 700 else v

/-- The effective cap: the lower of CAP and the mode's ceiling, Snowplough's with fewer than 12 sensors, 60 W from 105 °C, and
Patrol's 150 W in place of all of them (R346, R353, R358). -/
def State.capNow (s : State) : Nat :=
  if s.lodge.patrolCap then 150
  else
    let c := min (s.fld Reg.pwrCtrl 10 2) (modeCeiling (s.fld Reg.pwrCtrl 1 0)).1
    let c1 := if s.power.fewSensors then min c 150 else c
    if s.power.hotCap then min c1 60 else c1

/-- The effective cap follows what it depends on. -/
def State.recap (s : State) : State := { s with power := { s.power with effectiveCap := s.capNow } }

/-- The slope limits for the highest voltage that may come before the next update (R357). -/
def slopeLimits (mv : Nat) : Nat × Nat :=
  if mv ≤ 650 then (25, 40) else if mv ≤ 700 then (17, 28) else if mv ≤ 800 then (10, 16) else (6, 10)

/-- Firmware commands VDD_CORE; VDD_SRAM and the slope limits follow (R354, R357). -/
def State.setVdd (s : State) (mv : Nat) : State :=
  let l := slopeLimits (max mv (min s.vddCeiling (mv + 5)))
  { s with power := { s.power with vddCore := mv, vddSram := max 750 mv, matrixLimit := l.1, vectorLimit := l.2 } }

/-- The board configuration record, or the defaults (R344). -/
def State.loadBoard (s : State) (es : List (Nat × Nat × Nat × Nat)) : State :=
  match s.firstVerified .board (entriesOf .board es) with
  | (s1, some e) =>
    let p := (folfenPayload (s1.imageAt e)).take 12
    let s2 := { s1 with lodge := { s1.lodge with board := p } }
    ((s2.setReg Reg.rnkPairCtrl (BitVec.ofNat 64 (pairValue (leAt p 4 4)))).setReg Reg.pwrCtrl
      (BitVec.ofNat 64 (pwrValue (leAt p 8 4)))).setFlag Reg.ldgBootStatus 25 false
  | (s1, none) =>
    let s2 := { s1 with lodge := { s1.lodge with board := [0, 0, 1] } }
    (((s2.setReg Reg.rnkPairCtrl (regReset Reg.rnkPairCtrl)).setReg Reg.pwrCtrl (regReset Reg.pwrCtrl)).setFlag
      Reg.ldgBootStatus 25 true).bootReport 2 0

/-! ## DRAM training (R293, R294) -/

/-- The density and ranks of the board's channels, where all 32 are alike and the density is one of R293. -/
def boardChannel (b : BootInputs) : Option (Nat × Bool) :=
  match b.channels with
  | [] => none
  | c :: r => if r.all (fun x => x == c) && [2, 3, 4, 6, 8, 12, 16, 24, 32].contains c.1 then some c else none

/-- Code of a density (R307). -/
def densityCode (gb : Nat) : Nat := ([2, 3, 4, 6, 8, 12, 16, 24, 32].findIdx? (fun x => x == gb)).getD 0

/-- Bytes of DRAM: 32 channels of one density; none that counts where the devices are mixed or off the list (R293). -/
def dramCapacity (b : BootInputs) : Nat :=
  match boardChannel b with
  | some c => 32 * (c.1 * 2 ^ 27) * (if c.2 then 2 else 1)
  | none => 0

/-- What training finds: a board with mixed devices, or with a density that is not on the list, fails at every controller (R293). -/
def trainedBoard (b : BootInputs) : List (Option (Fin 3)) :=
  if (boardChannel b).isSome then b.trained else List.replicate 8 none

/-- The highest speed that every controller reaches from a start; a controller that reaches none fails at the lowest (R294). -/
def trainedSpeed (start : Nat) (l : List (Option (Fin 3))) : Nat :=
  l.foldl (fun a x => match x with
    | some v => min a v.val
    | none => 0) start

/-- A controller after training (R294, R302, R307). NR_SEED is a free value. -/
def State.startDmc (s : State) (d : DmcId) (cfg : Nat) (works : Bool) : State :=
  let r := s.drawWord
  let m : Vector Byte 4 := Vector.ofFn (fun (ch : ChannelId) => Config.modeRegister d.val ch.val)
  (((((r.2.setDmc d { Dmc.reset with
    modeReg := m, resetLow := false, activates := s.dmc[d].activates, history := s.dmc[d].history }).setReg (Reg.dmcCfg d.val) (BitVec.ofNat 64 cfg)).setReg
    (Reg.dmcStatus d.val) (if works then 1 else 3)).setReg (Reg.dmcInitMark d.val) 0).setReg (Reg.dmcNrSeed d.val) r.1)

/-- A report of class DRAM_INIT (R368). -/
def State.dramReport (s : State) (d cause severity speed : Nat) : State :=
  s.report { mkReport s 0x05 severity (unitNo 4 d) cause with detail := BitVec.ofNat 32 speed, firmware := true }

/-- Training: speed, failures, usable DRAM; DRAM holds nothing (R293–R295, R350, R368). -/
def State.trainDram (s : State) (b : BootInputs) (rec : Fin 3 × Fin 3) : State :=
  let trained := trainedBoard b
  let speed := trainedSpeed rec.1.val trained
  let fails := fun (d : Nat) => (trained.getD d none).isNone
  let cfg := (match boardChannel b with
    | some c => densityCode c.1 * 256 + c.2.toNat * 128
    | none => 0) + rec.2.val * 32 + speed
  let s1 := (List.finRange 8).foldl (fun s d => s.startDmc d cfg (!fails d.val)) { s with mem := s.mem.filter (fun c => decide (2 ^ 41 ≤ c.1)) }
  let live := s1.liveGroups.length * s1.groupSize
  let s2 := { s1 with board := { s1.board with
    rfm := b.rfm
    dramBytes := dramCapacity b
    features := s1.board.features.set 5 (BitVec.ofNat 64 (dramCapacity b / 2 ^ 20 * 15 / 16 * live / 8)) } }
  let s3 := s2.logEntry 1 0 3 [BitVec.ofNat 64 speed, BitVec.ofNat 64 ((List.range 8).map (fun d => if fails d then 2 ^ d else 0)).sum,
    BitVec.ofNat 64 rec.2.val]
  let s4 := if speed < rec.1.val then s3.dramReport 0 1 1 speed else s3
  (List.range 8).foldl (fun s d => if fails d then s.dramReport d 2 3 speed else s) s4

/-! ## The kernel's start (R341–R343) -/

/-- LDG_FUSE_STATUS shows the fuses (R365). -/
def State.showFuses (s : State) : State :=
  let l := s.lodge.slots
  let revoked := ((l.zipIdx).map (fun k => if k.1.revoked then 2 ^ k.2 else 0)).sum
  let programmed := ((l.zipIdx).map (fun k => if allZero k.1.hash then 0 else 2 ^ k.2)).sum
  s.setReg Reg.ldgFuseStatus (BitVec.ofNat 64
    (revoked * 4096 + programmed * 256 + s.lodge.provLock.toNat * 128 + s.lodge.rollback))

/-- A provision image programs slots 1–3, which sign any type but firmware, and locks provisioning (R340, R341, R350; log 87). -/
def State.provision (s : State) (es : List (Nat × Nat × Nat × Nat)) : State :=
  if s.lodge.provLock then s
  else match s.firstVerified .provision (entriesOf .provision es) with
  | (s1, none) => s1
  | (s1, some e) =>
    let p := folfenPayload (s1.imageAt e)
    let s2 := [1, 2, 3].foldl (fun (s : State) (n : Nat) =>
      let h := (p.drop (64 * (n - 1))).take 48
      if allZero h then s
      else ({ s with lodge := { s.lodge with slots := s.lodge.slots.set n ⟨h, BitVec.ofNat 8 (leAt p (64 * (n - 1) + 48) 1) &&& 0xFE, false⟩ } }).logEntry
        1 0 4 [BitVec.ofNat 64 n]) s1
    { s2 with lodge := { s2.lodge with provLock := true } }

/-- A revoke image blows its own slot's revoke bit (R341, R350). -/
def State.revoke (s : State) (es : List (Nat × Nat × Nat × Nat)) : State :=
  match s.firstVerified .revoke (entriesOf .revoke es) with
  | (s1, none) => s1
  | (s1, some e) =>
    let n := leAt (s1.imageAt e) 5 1
    if 1 ≤ n ∧ n ≤ 3 then
      ({ s1 with lodge := { s1.lodge with slots := modifyNth (fun k => { k with revoked := true }) n s1.lodge.slots } }).logEntry
        1 1 5 [BitVec.ofNat 64 n]
    else s1

/-- The sensor profile set (R288, R340, R365, R368). -/
def State.loadProfiles (s : State) (es : List (Nat × Nat × Nat × Nat)) : State :=
  let l := entriesOf .profiles es
  match s.firstVerified .profiles l with
  | (s1, some e) => ({ s1 with lodge := { s1.lodge with profile := folfenPayload (s1.imageAt e) } }).setFlag Reg.ldgBootStatus 26 false
  | (s1, none) =>
    let s2 := { s1 with lodge := { s1.lodge with profile := [] } }
    if l.isEmpty then s2 else (s2.setFlag Reg.ldgBootStatus 26 true).bootReport 3 0

/-- The kernel runs: it schedules, the Patrol heartbeat has begun, and the log says so (R343, R346, R350). -/
def State.kernelStarts (s : State) : State :=
  let s1 := { s with lodge := { s.lodge with inReset := false, patrolBeat := s.gate } }
  s1.logEntry 0 0 1 [s.reg Reg.ldgFwBuild, BitVec.ofNat 64 (s.fld Reg.ldgBootStatus 7 4), s.reg Reg.ldgPatrolResetCount]

/-- Firmware's POWER record of a thermal trip before this boot (R368). -/
def State.tellTrip (s : State) : State :=
  if s.flag Reg.pwrShutdownCause 0 then s.report { mkReport s 0x0E 3 (unitNo 0x0D 0) 3 with firmware := true } else s

/-- Firmware applies PWR_CTRL and says so (R350, R353). -/
def State.applyPower (s : State) (cap : Nat) : State :=
  s.recap.logEntry 2 0 1 [BitVec.ofNat 64 (s.fld Reg.pwrCtrl 1 0), BitVec.ofNat 64 cap]

/-- CAP as the board configuration gives it, or as it is at reset (R344). -/
def State.boardCap (s : State) : Nat :=
  if s.flag Reg.ldgBootStatus 25 then s.fld Reg.pwrCtrl 10 2 else field (BitVec.ofNat 32 (leAt s.lodge.board 8 4)) 10 2

/-- Step 4 with an entry's part 1 (R343, R344): the board configuration, the voltages and DRAM training. -/
def State.stepFour (s : State) (b : BootInputs) (es : List (Nat × Nat × Nat × Nat)) (e : Nat × Nat × Nat × Nat) : State :=
  let s1 := ((s.setFld Reg.ldgBootStatus 3 0 2).loadBoard es).recap.setVdd 800
  s1.trainDram b (Config.dramRecord (part1Of (s1.imageAt e)) ((s1.lodge.board.getD 0 0).toNat % 32))

/-- The firmware that boots (R339, R342, R365). -/
def State.bootedFrom (s : State) (copy : Nat) (e : Nat × Nat × Nat × Nat) : State :=
  let bs := s.imageAt e
  let s1 := (((s.setFld Reg.ldgBootStatus 24 24 copy).setFld Reg.ldgBootStatus 7 4 e.1).setFld Reg.ldgBootStatus 3 0 4).setReg
    Reg.ldgFwBuild (BitVec.ofNat 64 (leAt bs 8 4))
  { s1 with lodge := { s1.lodge with
    bootImage := some (e.1, e.2.2.1, e.2.2.2), advance := if leAt bs 7 1 % 2 = 1 then leAt bs 6 1 else 0, running600 := none } }

/-- The links that train and the enumeration that arrives before READY (R318, R343). -/
def State.earlyRink (s : State) (b : BootInputs) : State :=
  let s1 := (sortWith (fun (x y : RinkPort × RinkPeer) => decide (x.1.val < y.1.val)) b.early).foldl (fun s x => s.trainLink x.1 x.2) s
  match b.earlyEnum with
  | some m => if s1.linkUp m.1.val then s1.takeEnumeration m.1 m.2 else s1
  | none => s1

/-- Step 6 (R343): the kernel starts, provision and revoke images and the sensor profile set are processed, the Rink trains and STATE
becomes READY. -/
def State.bootWith (s : State) (b : BootInputs) (copy : Nat) (es : List (Nat × Nat × Nat × Nat)) (e : Nat × Nat × Nat × Nat) :
    State :=
  let s1 := s.bootedFrom copy e
  let s2 := { s1 with lodge := { s1.lodge with autoStarted := false } }.applyPower s.boardCap
  let s3 := (((s2.provision es).revoke es).loadProfiles es).showFuses
  ((s3.tellTrip.earlyRink b).setHif 1 0).kernelStarts

/-- No firmware boots: STAGE reads FAILED (R343). -/
def State.bootFailed (s : State) (copy : Nat) : State := (s.setFld Reg.ldgBootStatus 24 24 copy).setFld Reg.ldgBootStatus 3 0 5

/-- The boot from step 2: the PCI Express interface starts, and firmware boots or the boot has failed (R343). -/
def State.boot (s : State) (b : BootInputs) : State :=
  let s1 := (s.setReg Reg.ldgBootStatus 1).showFuses
  let s2 := { s1 with host := { s1.host with answering := !s1.host.perst && !s1.board.clocksLost.contains .pcie } }
  match s2.directory with
  | none => s2.bootFailed 0
  | some (copy, es) =>
    match State.tryFirmware (fun e s => s.stepFour b es e) s2 0 ((entriesOf .firmware es).take 2) with
    | (s3, none) => s3.bootFailed copy
    | (s3, some e) => s3.bootWith b copy es e

/-! ## POR_N (R388, R389) -/

/-- The pulse resets the device. -/
def pulseResets (p : PorPulse) : Bool :=
  match p with
  | .short => false
  | .between t => t
  | .long => true

/-- The whole device in reset: all but the fuses, the flash, PWR_SHUTDOWN_CAUSE, PWR_TRIP_COUNT and what lies outside it
(R388). -/
def State.porReset (s : State) : State :=
  let r := State.reset
  let r1 := { r with
    pending := s.pending
    draws := s.draws
    hostMem := s.hostMem
    host := { r.host with perst := s.host.perst }
    lodge := { r.lodge with flash := s.lodge.flash, slots := s.lodge.slots, provLock := s.lodge.provLock, rollback := s.lodge.rollback }
    board := { s.board with porLow := true, bar2Log2 := 28, inputs := none, bootWaits := false, readySeen := false } }
  (r1.setReg Reg.pwrShutdownCause (s.reg Reg.pwrShutdownCause)).setReg Reg.pwrTripCount (s.reg Reg.pwrTripCount)

/-- POR_ASSERT (R388). -/
def execPorAssert (pulse : PorPulse) (s : State) : Out := ok (if pulseResets pulse then s.porReset else s)

/-- POR_RELEASE (R343, R388, R389): straps sampled, then the boot, once TB_REFCLK runs. -/
def execPorRelease (b : BootInputs) (s : State) : Out :=
  if !s.board.porLow then ok s
  else
    let s1 := { s with board := { s.board with
      porLow := false, masterSel := b.masterSel, pairRole := b.pairRole, inputs := some b, bootWaits := !b.tbRunning } }
    let s2 := ((s1.setFlag Reg.rnkDev 0 b.masterSel).setFlag Reg.rnkPairStatus 0 b.pairRole).flashBoard b.flash
    ok (if b.tbRunning then s2.boot b else s2)

/-! ## Patrol (R346–R348) -/

/-- STATE of LDG_PATROL_STATUS (R365). -/
def State.patrolState (s : State) : Nat := s.fld Reg.ldgPatrolStatus 1 0

/-- PATROL_HEARTBEAT (R346). -/
def execPatrolHeartbeat (s : State) : Out :=
  ok (if s.lodge.inReset then s else { s with lodge := { s.lodge with patrolBeat := s.gate } })

/-- The job has launched a tile: one runs, or an index of a counter is complete (R347). -/
def State.hasLaunched (s : State) (j : Job) : Bool :=
  (List.finRange 8).any (s.runsTile j.uid) || s.counters.toList.any (fun c => match c with
    | some x => x.job == j.uid && (decide (0 < x.doneLow) || !x.done.isEmpty)
    | none => false)

/-- Patrol's cap and limiter engage (R346). -/
def State.engageCap (s : State) : State :=
  { s with lodge := { s.lodge with patrolCap := true }, power := { s.power with limiter := true } }.recap

/-- Steps 2 and 3 of R346: the Lodge in reset, with what it held only in SRAM lost (R347). -/
def State.lodgeReset (s : State) : State :=
  let s1 := ((s.setReg Reg.ldgPatrolStatus 1).inc Reg.ldgPatrolResetCount 32 1).engageCap
  let s2 := { s1 with lodge := { s1.lodge with
    inReset := true, resets := s1.lodge.resets ++ [s.gate], traces := [], running600 := none
    events := s1.lodge.events.map (fun (q : List Note) => q.filter (fun n => n != Note.trace)) } }
  (s2.jobs.filter s2.hasLaunched).foldl (fun s j => s.endJob j.uid 2) s2

/-- The phase of a core that is stopped: one that has halted reads halted until its next launch (R118). -/
def Phase.stop : Phase → Phase
  | .halted => .halted
  | .recorded => .recorded
  | _ => .stopped

/-- Every core is stopped with no halt recorded (R348, R359). -/
def State.stopCores (s : State) : State :=
  (List.finRange 8).foldl (fun s k =>
    let s1 := s.stopTile k
    s1.setCore k { s1.core k with phase := (s1.core k).phase.stop, halting := Vector.replicate 4 [] }) s

/-- Patrol halts instead (R348, R368). -/
def State.patrolHalt (s : State) : State :=
  let s1 := (s.setReg Reg.ldgPatrolStatus 2).engageCap.stopCores
  { s1 with lodge := { s1.lodge with inReset := true, running600 := none }, rink := { s1.rink with dropped := true } }.report
    { mkReport s 0x0D 3 (unitNo 0x0C 0) 2 with detail := BitVec.ofNat 32 (s.reg Reg.ldgPatrolResetCount).toNat }

/-- PATROL_RESET (R346, R348): 50 ms without a heartbeat; the fourth miss within 600 s halts. -/
def execPatrolReset (s : State) : Out :=
  if s.lodge.inReset || s.power.stopped || decide (s.gate.toNat < s.lodge.patrolBeat.toNat + 50000000) then ok s
  else if 3 ≤ s.lodge.resets.countP (fun g => decide (s.gate.toNat ≤ g.toNat + 600000000000)) then ok s.patrolHalt
  else ok s.lodgeReset

/-- A cascade job, queued or launched, of which this member was in reset is aborted (R325, R347). -/
def State.abortCascades (s : State) : State :=
  (s.jobs.filter (fun j => j.state != .ended && !(s.membersOf j).isEmpty)).foldl
    (fun s j => s.abortCascade j .memberJobEnded) s

/-- Steps 2, 3 and 5 of R343, without training DRAM: the firmware that starts, where one verifies (R346). -/
def State.rebootFirmware (s : State) : State × Bool :=
  let s1 := s.setReg Reg.ldgBootStatus (BitVec.ofNat 64 (setField (s.reg Reg.ldgBootStatus) 23 0 1).toNat)
  match s1.directory with
  | none => (s1.bootFailed 0, false)
  | some (copy, es) =>
    match State.tryFirmware (fun _ s => s) s1 0 ((entriesOf .firmware es).take 2) with
    | (s2, none) => (s2.bootFailed copy, false)
    | (s2, some e) => (s2.bootedFrom copy e, true)

/-- The loads that were in progress begin again (R347). -/
def State.repeatLoads (s : State) : State :=
  { s with models := s.models.map (fun (m : Model) => match m.residence with
    | .loading ps _ _ => { m with residence := .loading ps s.gate [] }
    | _ => m) }

/-- What PWR_CTRL took while the Lodge was in reset is applied (R347, R350, R353). -/
def State.applyWaiting (s : State) : State :=
  match s.power.capWritten with
  | some cap => { s with power := { s.power with capWritten := none } }.applyPower cap
  | none => s

/-- The context status blocks that could not be written while the Lodge was in reset (R239, R347). -/
def State.writeContexts (s : State) : State := (s.contexts.map (·.id)).foldl State.writeCtx s

/-- Step 5 of R346: the kernel restores its state; faults awaiting resolution are refused, loads repeated, the record is written, the
cap released, what the host interface and PWR_CTRL took meanwhile is acted on, and host-loss timing starts from zero (R347). -/
def State.restoreLodge (s : State) : State :=
  let at_ := s.lodge.resets.getLast?.getD 0
  let s1 := (s.setReg Reg.ldgPatrolStatus 0)
  let s2 := { s1 with
    lodge := { s1.lodge with patrolCap := false }
    power := { s1.power with limiter := false }
    host := { s1.host with heartbeatGate := s.gate } }.recap
  let s3 := s2.report { mkReport s 0x0D 2 (unitNo 0x0C 0) 1 with
    gate := at_, detail := BitVec.ofNat 32 (s.reg Reg.ldgPatrolResetCount).toNat, firmware := true }
  let s4 := (s3.kernelStarts.logEntry 7 2 1 [s.reg Reg.ldgPatrolResetCount, at_]).markRunning (s.hifState == 4)
  ((s4.refuseWhere (fun _ => true)).abortCascades.repeatLoads.writeContexts.applyWaiting).resumeHost

/-- Steps 4 and 5 of R346; with no firmware that verifies the Lodge stays in reset, and the ROM tries again (R343). -/
def State.rebootLodge (s : State) : State :=
  let r := s.rebootFirmware
  if r.2 then r.1.restoreLodge else r.1

/-- LODGE_RESTORE (R346, R347). -/
def execLodgeRestore (s : State) : Out := ok (if s.patrolState = 1 ∧ s.off = false then s.rebootLodge else s)

/-- BOOT_RETRY (R343, R346): a boot that FAILED reads the directory again; the board may have reprogrammed the flash. In a Patrol
reset DRAM is not trained again. -/
def execBootRetry (flash : List (Nat × List Byte)) (s : State) : Out :=
  match s.board.inputs with
  | some b => ok (if !s.off && s.fld Reg.ldgBootStatus 3 0 == 5 then
      (if s.patrolState = 1 then (s.flashBoard flash).rebootLodge else (s.flashBoard flash).boot b)
    else s)
  | none => ok s

/-- A core that has halted reads halted until its next launch, a restart or not (R118). -/
def Phase.forgotten : Phase → Phase
  | .halted => .halted
  | .recorded => .recorded
  | _ => .idle

/-- What the Lodge holds in its region of DRAM goes with the DRAM's contents: contexts, models, jobs, fences, bindings and the
log (R347, R348). -/
def State.forget (s : State) : State :=
  let s1 := { s with
    cores := s.cores.map (fun (c : Core) => { c with seats := [], phase := c.phase.forgotten, tile := none })
    writes := [], stopped := [], epochTable := Vector.replicate 12 [], counters := Vector.replicate 64 none
    contexts := [Context.lodge], models := [], jobs := [], fences := [], raises := [], heldWrites := [], ringWork := []
    standing := Vector.replicate 16 none, withdrawn := []
    gates := s.gates.map (fun (g : GateSlotState) => { g with armed := false })
    lodge := { s.lodge with log := [], resets := [], patrolCap := false, traces := [], events := Vector.replicate 4 []
                            overruns := Vector.replicate 4 0 }
    host := { s.host with mastering := false, heartbeatTimer := false }
    rink := { s.rink with dropped := false }
    power := { s.power with limiter := false } }
  (s1.resetRing.setReg Reg.ldgLogHead 0).setReg Reg.ldgPatrolStatus 0

/-- PATROL_RESTART (R348): in HALTED, the boot again from step 2. -/
def execPatrolRestart (s : State) : Out :=
  match s.board.inputs with
  | some b => ok (if s.patrolState = 2 ∧ s.off = false then (s.forget.setFld Reg.hifHandshake 3 0 0).boot b else s)
  | none => ok s

/-- ROLLBACK_ADVANCE (R342, R350): RUNNING for 600 s; the fuse field has 64 bits. -/
def execRollbackAdvance (s : State) : Out :=
  match s.lodge.running600 with
  | none => ok s
  | some g =>
    if s.lodge.inReset || s.hifState != 4 || decide (s.gate.toNat < g.toNat + 600000000000) || decide (min 64 s.lodge.advance ≤ s.lodge.rollback) then ok s
    else
      let n := min 64 s.lodge.advance
      ok ({ s with lodge := { s.lodge with rollback := n } }.showFuses.logEntry 1 0 6 [BitVec.ofNat 64 n])

/-! ## Flash update (R345) -/

/-- The three cases in which firmware refuses (R345). -/
def State.flashRefused (s : State) (o n src : Nat) : Bool :=
  (match s.lodge.bootImage with
   | some x => overlaps o n x.2.1 x.2.2
   | none => false) ||
  (overlaps o n 0 260 && overlaps o n 0x10000 260) ||
  !decide (src + n ≤ s.lodgeBase)

/-- A write of an operation to LDG_FLASH_CMD (R345). -/
def State.flashStart (s : State) (op : Nat) (units : BitVec 32) : State :=
  if s.lodge.inReset || (s.hifState != 2 && s.hifState != 4) || s.flag Reg.ldgFlashStatus 8 then s
  else
    let o := s.fld Reg.ldgFlashOfs 31 0 / 4096 * 4096
    let src := (s.reg Reg.ldgFlashSrc).toNat / 4096 * 4096
    let n := units.toNat * 4096
    if s.flashRefused o n src then s.setReg Reg.ldgFlashStatus 2
    else { s.setReg Reg.ldgFlashStatus 0x100 with lodge := { s.lodge with flashPending := some (op, o, n, src) } }

/-- FLASH_ERASE (R345). -/
def execFlashErase (units : BitVec 32) (s : State) : Out := ok (s.flashStart 1 units)

/-- FLASH_PROGRAM (R345). -/
def execFlashProgram (units : BitVec 32) (s : State) : Out := ok (s.flashStart 2 units)

/-- FLASH_COMPARE (R345). -/
def execFlashCompare (units : BitVec 32) (s : State) : Out := ok (s.flashStart 3 units)

/-- FLASH_OPERATION_COMPLETE (R345, R365): the operation's effect and RESULT. A flash error leaves what an erase or a program
was to change undefined: free values (log 9). An operation whose source lies behind a frozen controller waits for the thaw (R305). -/
def execFlashOperationComplete (fine : Bool) (s : State) : Out :=
  match s.lodge.flashPending with
  | none => ok s
  | some (op, o, n, src) =>
    if s.lodge.inReset || (op != 1 && s.frozenRange src n) then ok s
    else
      let s1 := { s with lodge := { s.lodge with flashPending := none } }
      if op = 3 then
        ok (s1.setReg Reg.ldgFlashStatus (if !fine then 3 else if s.flashRd o n = s.rd src n then 0 else 4))
      else if !fine then
        let bad := s1.flashWr o ((List.range n).map (fun i => Config.freeByte (s.draws + i)))
        ok ({ bad with draws := s.draws + n }.setReg Reg.ldgFlashStatus 3)
      else ok ((s1.flashWr o (if op = 1 then List.replicate n 0xFF else s.rd src n)).setReg Reg.ldgFlashStatus 0)

/-! ## Supplies and clocks (R359, R365, R387, R391, R392) -/

/-- The Ethernet link of a port goes down (R283). -/
def State.ethDown (s : State) (p : Nat) : State := s.setFlag (Reg.ethStatus p) 0 false

/-- Steps 2 to 4 of R359: the device stops until POR_N. -/
def State.shutDown (s : State) (thermal : Bool) : State :=
  let s1 := ((s.setFlag Reg.pwrShutdownCause 0 thermal).stopCores.ethDown 0).ethDown 1
  { s1 with
    lodge := { s1.lodge with inReset := true, running600 := none }
    host := { s1.host with answering := false, mastering := false, heartbeatTimer := false }
    dmc := s1.dmc.map (fun (x : Dmc) => { x with selfRefresh := Vector.replicate 4 true })
    power := { s1.power with stopped := true } }

/-- SUPPLY_FAULT (R387): no record, no count; THERMAL is written 0. A device already stopped stays as it is. -/
def execSupplyFault (s : State) : Out :=
  ok (if s.off then s else s.shutDown false)

/-- REFERENCE_CLOCK_LOSS (R392). The ports of APHY_REFCLK receive nothing while it is lost. -/
def execReferenceClockLoss (c : RefClock) (s : State) : Out :=
  let s1 := { s with board := { s.board with clocksLost := if s.board.clocksLost.contains c then s.board.clocksLost
                                                          else s.board.clocksLost ++ [c] } }
  ok (match c with
    | .tb => if s.off || s.board.bootWaits then s1 else s1.shutDown false
    | .eth => (s1.ethDown 0).ethDown 1
    | .pcie => { s1 with host := { s1.host with answering := false } }
    | .aphy => s1)

/-- REFERENCE_CLOCK_RETURN (R388, R392): used again at once; a boot that waits for TB_REFCLK proceeds. -/
def execReferenceClockReturn (c : RefClock) (s : State) : Out :=
  let s1 := { s with board := { s.board with clocksLost := s.board.clocksLost.filter (fun x => x != c) } }
  ok (match c with
    | .tb => match s.board.inputs with
      | some b => if s.board.bootWaits && !s.off then { s1 with board := { s1.board with bootWaits := false } }.boot b else s1
      | none => s1
    | .pcie => { s1 with host := { s1.host with answering := !s1.host.perst && s1.pcieReady } }
    | _ => s1)

/-- VDD_AON_LOSS (R365): the always-on domain is reset: the two power registers, Patrol, the trip and the sensor hub. -/
def execVddAonLoss (s : State) : Out :=
  let s1 := [Reg.pwrShutdownCause, Reg.pwrTripCount, Reg.ldgPatrolStatus, Reg.ldgPatrolResetCount].foldl
    (fun s r => s.setReg r (regReset r)) s
  ok { s1 with
    lodge := { s1.lodge with resets := [], patrolCap := false }
    rink := { s1.rink with dropped := false }
    power := { s1.power with tripSensors := [], tripped := false, thermtripLow := false } }

end Sys2Proof.Machine
end

