-- ==== Sys2Proof/Machine/Isp.lean ====
section
/-! DEFINITION. The image pipe (R259–R269, R273): a frame's output as a function of its received lines, the static defect
table and its parameter set, and of nothing else. Samples are functions of row y and column x. -/

namespace Sys2Proof.Machine

/-! ## The parameter set (R259)

Fields follow one another without gaps (DEDUCED, log 44). -/

/-- Width of the stream in pixels. -/
def setWidth (l : List Byte) : Nat := leAt l 0x006 2
/-- Height of the stream in lines. -/
def setHeight (l : List Byte) : Nat := leAt l 0x008 2
/-- Data type. -/
def setDt (l : List Byte) : Nat := leAt l 0x005 1
/-- Number of exposures. -/
def setExposures (l : List Byte) : Nat := leAt l 0x004 1
/-- Virtual channel of an exposure. -/
def setVc (l : List Byte) (e : Nat) : Nat := leAt l (1 + e) 1
/-- The port. -/
def setPort (l : List Byte) : Nat := leAt l 0x000 1
/-- Period of the CFA across. -/
def setPx (l : List Byte) : Nat := leAt l 0x00E 1
/-- Period of the CFA down. -/
def setPy (l : List Byte) : Nat := leAt l 0x00F 1
/-- Channel at a CFA position. -/
def setCfa (l : List Byte) (p : Nat) : Nat := leAt l 0x010 8 / 16 ^ p % 16
/-- FRAME_TIMEOUT in ms. -/
def setTimeout (l : List Byte) : Nat := leAt l 0x01A 2
/-- One bit of ENABLES: 0 codec branch, 1 store branch, 2 dynamic defects, 3 noise reduction. -/
def setEnable (l : List Byte) (i : Nat) : Bool := (leAt l 0x01C 4).testBit i
/-- A signed field of w bits. -/
def setSigned (l : List Byte) (o n w : Nat) : Int := sext w (leAt l o n)
/-- A field cut to w bits. -/
def setBits (l : List Byte) (o n w : Nat) : Nat := leAt l o n % 2 ^ w

/-- A branch of the pipe: offset of its fields and of its scaler coefficients. -/
structure Branch where
  o : Nat
  coef : Nat
deriving DecidableEq, Repr

/-- The codec branch. -/
def codecBranch : Branch := ⟨0x680, 0x800⟩
/-- The store branch. -/
def storeBranch : Branch := ⟨0x700, 0xB00⟩

/-- Crop and output of a branch: X0, Y0, W, H, OUTW, OUTH by index. -/
def Branch.geo (b : Branch) (l : List Byte) (i : Nat) : Nat := leAt l (b.o + 2 * i) 2

/-! ## Data types (R247) -/

/-- Bits of a raw sample; none for YUV422 and RGB888. -/
def rawBits (dt : Nat) : Option Nat :=
  match dt with
  | 0x2A => some 8
  | 0x2B => some 10
  | 0x2C => some 12
  | 0x2D => some 14
  | 0x2E => some 16
  | 0x2F => some 20
  | _ => none

/-- Pixel data types. -/
def pixelType (dt : Nat) : Bool := (rawBits dt).isSome || dt == 0x1E || dt == 0x24

/-- Samples of a group of bytes in which the high 8 bits of each of `k` samples stand first, and the low bits follow packed
from bit 0 on (RAW10, RAW12). -/
def highFirst (k low : Nat) (g : List Byte) : List Nat :=
  (List.range k).map (fun i => leAt g i 1 * 2 ^ low + leAt g k (g.length - k) / 2 ^ (low * i) % 2 ^ low)

/-- The bytes of a payload in whole groups of n. -/
def groups {α : Type} (n : Nat) (l : List α) : List (List α) := (List.range (l.length / n)).map (fun i => (l.drop (n * i)).take n)

/-- Samples of a RAW20 group: two samples as four 10-bit halves. -/
def raw20 (g : List Byte) : List Nat :=
  match highFirst 4 2 g with
  | [a, b, c, d] => [a * 1024 + b, c * 1024 + d]
  | _ => []

/-- Pixels of a long packet in the CSI-2 packing of its data type (R247; PRESUMED from MIPI CSI-2, log 45). A YUV422 pixel is
Y + 2^8 Cb + 2^16 Cr, an RGB888 pixel B + 2^8 G + 2^16 R. -/
def unpackPixels (dt : Nat) (bs : List Byte) : List Nat :=
  match dt with
  | 0x2A => bs.map (fun b => b.toNat)
  | 0x2B => (groups 5 bs).flatMap (highFirst 4 2)
  | 0x2C => (groups 3 bs).flatMap (highFirst 2 4)
  | 0x2D => (groups 7 bs).flatMap (highFirst 4 6)
  | 0x2E => (groups 2 bs).map (fun g => leAt g 0 1 * 256 + leAt g 1 1)
  | 0x2F => (groups 5 bs).flatMap raw20
  | 0x1E => (groups 4 bs).flatMap (fun g =>
      let c := leAt g 0 1 * 256 + leAt g 2 1 * 65536
      [leAt g 1 1 + c, leAt g 3 1 + c])
  | 0x24 => (groups 3 bs).map (fun g => leAt g 0 3)
  | _ => []

/-! ## Which sets are valid (R259, R261, R267, R270) -/

/-- A branch's crop lies in the frame, and its ratios lie between 1 and 16. -/
def Branch.ok (b : Branch) (l : List Byte) : Bool :=
  let g := b.geo l
  decide (1 ≤ g 4) && decide (g 4 ≤ g 2) && decide (g 2 ≤ 16 * g 4) && decide (1 ≤ g 5) && decide (g 5 ≤ g 3) &&
  decide (g 3 ≤ 16 * g 5) && decide (g 0 + g 2 ≤ setWidth l) && decide (g 1 + g 3 ≤ setHeight l)

/-- T at least B, and B at least 1, at a merge step that the set uses (R261). -/
def thresholdsOk (l : List Byte) (e : Nat) : Bool :=
  let t := setBits l (0x1D8 + 8 * e) 4 20
  let b := setBits l (0x1DC + 8 * e) 4 20
  decide (1 ≤ b) && decide (b ≤ t)

/-- The virtual channels: 0–3, or 0xFF for an exposure that is absent (R247, R259). -/
def channelsOk (l : List Byte) : Bool :=
  (List.range 3).all (fun e => decide (setVc l e ≤ 3) || (setVc l e == 0xFF && decide (setExposures l ≤ e)))

/-- The CFA and the merge ratios: RATIO from 1.0 to 256.0 (R259). -/
def cfaOk (l : List Byte) : Bool :=
  decide (1 ≤ setPx l) && decide (setPx l ≤ 4) && decide (1 ≤ setPy l) && decide (setPy l ≤ 4) &&
  (List.range (setPx l * setPy l)).all (fun p => decide (setCfa l p ≤ 4)) &&
  (List.range 2).all (fun e => decide (256 ≤ setBits l (0x1D0 + 4 * e) 4 17) && decide (setBits l (0x1D0 + 4 * e) 4 17 ≤ 65536)) &&
  decide (leAt l 0x288 2 + leAt l 0x28A 2 ≤ 16384)

/-- The coded fields of the two branches (R259, R269, R270). -/
def branchFieldsOk (l : List Byte) : Bool :=
  decide (leAt l 0x68C 1 ≤ 1) && decide (leAt l 0x70C 1 ≤ 1) && decide (leAt l 0x70D 1 ≤ 4) && decide (leAt l 0x70E 1 ≤ 1) &&
  decide (leAt l 0x70F 1 ≤ 1) && decide (leAt l 0x710 1 ≤ 8) && decide (leAt l 0x714 1 < 16)

/-- Every field lies in its stated range, whether the set uses it or not (R259). What R261, R267 and R270 ask of several fields
together holds where a raw stream merges or a branch is enabled (log 46). -/
def setOk (p : Nat) (l : List Byte) : Bool :=
  decide (setPort l < 16) && decide (1 ≤ setExposures l) && decide (setExposures l ≤ 3) && pixelType (setDt l) && channelsOk l &&
  decide (64 ≤ setWidth l) && decide (setWidth l ≤ 8192) && decide (16 ≤ setHeight l) && decide (setHeight l ≤ 8192) &&
  decide (1 ≤ setTimeout l) && decide (setTimeout l ≤ 1000) && cfaOk l && branchFieldsOk l &&
  ((rawBits (setDt l)).isNone || (List.range (setExposures l - 1)).all (thresholdsOk l)) &&
  (!setEnable l 0 || codecBranch.ok l) &&
  (!setEnable l 1 || (storeBranch.ok l && leAt l 0x714 1 / 8 == p))

/-! ## Arithmetic (R22, R260) -/

/-- Quotient of integers rounded to nearest, ties to even. -/
def rneI (a : Int) (d : Nat) : Int := signed (decide (a < 0)) (rneDiv a.natAbs d)

/-- Saturate to n bits; a negative value gives 0. -/
def satU (a : Int) (n : Nat) : Nat := min a.toNat (2 ^ n - 1)

/-- A sample array: rows from 0, then columns. -/
abbrev Samples := Nat → Nat → Nat

/-- The nearest coordinate below n at the same place in a period (R260). -/
def samePhase (n period : Nat) (c : Int) : Nat :=
  let r := (c % (period : Int)).toNat
  if c < 0 then r else if c < n then c.toNat else r + period * ((n - 1 - r) / period)

/-- The nearest coordinate below n. -/
def nearest (n : Nat) (c : Int) : Nat := min c.toNat (n - 1)

/-- Offsets −r … r. -/
def offsets (r : Nat) : List Int := (List.range (2 * r + 1)).map (fun i => (i : Int) - r)

/-! ## Assembly (R255) -/

/-- The raw code at a place of an exposure; FILL where no line or pixel came. -/
def rawAt (l : List Byte) (lines : List (Nat × List Nat)) (e : Nat) : Samples := fun y x =>
  match (lines.filter (fun r => r.1 == e))[y]? with
  | some r => r.2.getD x (leAt l 0x00A 4)
  | none => leAt l 0x00A 4

/-- Lines of an exposure that came. -/
def linesOf (lines : List (Nat × List Nat)) (e : Nat) : Nat := (lines.filter (fun r => r.1 == e)).length

/-- Exposure lines that are delivered as FILL (R273). -/
def filledLines (l : List Byte) (lines : List (Nat × List Nat)) : Nat :=
  ((List.range (setExposures l)).map (fun e => setHeight l - linesOf lines e)).sum

/-! ## Linearisation, merge and black level (R261) -/

/-- A raw code of n bits through the curve of an exposure. A wider FILL code is cut to n bits (log 46). -/
def linearised (l : List Byte) (n e code : Nat) : Nat :=
  let y := fun (k : Nat) => setBits l (0x040 + 132 * e + 4 * k) 4 20
  let x := code % 2 ^ n
  let k := x / 2 ^ (n - 5)
  let f := x % 2 ^ (n - 5)
  satU (y k + rneI (((y (k + 1) : Int) - y k) * f) (2 ^ (n - 5))) 20

/-- `blend` of R261 on values in units of 1/256, which are exact there. -/
def blend (long short lraw t b : Nat) : Nat :=
  if lraw ≤ t - b then long
  else if t ≤ lraw then short
  else 256 * rneDiv (long * (t - lraw) + short * (b - (t - lraw))) (256 * b)

/-- The merged and black-corrected value at a place. -/
def blackAt (l : List Byte) (n : Nat) (lines : List (Nat × List Nat)) : Samples := fun y x =>
  let lin := fun (e : Nat) => linearised l n e (rawAt l lines e y x)
  let t := fun (e : Nat) => setBits l (0x1D8 + 8 * e) 4 20
  let b := fun (e : Nat) => setBits l (0x1DC + 8 * e) 4 20
  let s1 := lin 1 * setBits l 0x1D0 4 17
  let s2 := lin 2 * setBits l 0x1D4 4 17
  let m := if setExposures l = 3 then blend s1 s2 (lin 1) (t 1) (b 1) else s1
  let v := if setExposures l = 1 then 256 * lin 0 else blend (256 * lin 0) m (lin 0) (t 0) (b 0)
  let merged := min (rneDiv v 256) (2 ^ 28 - 1)
  let p := y % setPy l * setPx l + x % setPx l
  satU (rneI (((merged : Int) - setBits l (0x200 + 8 * p) 4 28) * setBits l (0x204 + 8 * p) 4 16) (2 ^ 14)) 28

/-! ## Defects (R262) -/

/-- A sample of the CFA, its place taken back into the frame at its CFA position. -/
def cfaSample (l : List Byte) (s : Samples) (y x : Int) : Nat :=
  s (samePhase (setHeight l) (setPy l) y) (samePhase (setWidth l) (setPx l) x)

/-- The eight same-channel neighbours of a pixel. -/
def neighbours (l : List Byte) (s : Samples) (y x : Nat) : List Nat :=
  let py : Int := setPy l
  let px : Int := setPx l
  [(-py, -px), (-py, 0), (-py, px), (0, -px), (0, px), (py, -px), (py, 0), (py, px)].map
    (fun d => cfaSample l s (y + d.1) (x + d.2))

/-- Static defects of a set, as (y, x): its entries of the pipe's table that lie in the frame. -/
def staticDefects (l : List Byte) (table : List Nat) : List (Nat × Nat) :=
  (((table.drop (leAt l 0x288 2)).take (leAt l 0x28A 2)).map (fun e => (e / 65536 % 8192, e % 8192))).filter
    (fun p => decide (p.1 < setHeight l) && decide (p.2 < setWidth l))

/-- The replacement of a pixel, where it is one (R262). Neighbours are the stage's input (log 47). -/
def replacement (l : List Byte) (defects : List (Nat × Nat)) (s : Samples) (y x : Nat) : Option Nat :=
  let ns := sortWith (fun a b => decide (a < b)) (neighbours l s y x)
  let v := s y x
  if defects.contains (y, x) then some (rneDiv (ns.getD 3 0 + ns.getD 4 0) 2)
  else if !setEnable l 2 then none
  else if ns.getD 7 0 + setBits l 0x280 4 28 < v then some (ns.getD 7 0)
  else if v + setBits l 0x284 4 28 < ns.getD 0 0 then some (ns.getD 0 0)
  else none

/-- The corrected sample. -/
def corrected (l : List Byte) (defects : List (Nat × Nat)) (s : Samples) : Samples := fun y x =>
  (replacement l defects s y x).getD (s y x)

/-! ## Colour (R263, R264) -/

/-- Weight of an offset in the 5 × 5 estimate. -/
def estWeight (d : Int) : Nat := if d = 0 then 6 else if d.natAbs = 1 then 4 else 1

/-- Channel of a place of the CFA, inside the frame or out. -/
def cfaChannel (l : List Byte) (y x : Int) : Nat :=
  setCfa l ((y % (setPy l : Int)).toNat * setPx l + (x % (setPx l : Int)).toNat)

/-- The estimate of channel q at a pixel. -/
def estimate (l : List Byte) (s : Samples) (q y x : Nat) : Nat :=
  if cfaChannel l y x = q then s y x
  else
    let ps := (offsets 2).flatMap (fun (dy : Int) => ((offsets 2).filter (fun (dx : Int) => cfaChannel l (y + dy) (x + dx) == q)).map
      (fun (dx : Int) => (estWeight dy * estWeight dx, cfaSample l s (y + dy) (x + dx))))
    let w := (ps.map (·.1)).sum
    if w = 0 then 0 else rneDiv ((ps.map (fun p => p.1 * p.2)).sum) w

/-- Output channel j (R, G, B, IR) of colour reconstruction. -/
def reconstructed (l : List Byte) (s : Samples) (j : Nat) : Samples := fun y x =>
  satU (rneI (((List.range 5).map (fun q => setSigned l (0x290 + 20 * j + 4 * q) 4 18 * (estimate l s q y x : Int))).sum) (2 ^ 14)) 28

/-- Channel j of a YUV422 or RGB888 stream: v × 2^20 (R260). YUV enters as Y′, Cb, Cr on R, G, B (log 48); there is no IR. -/
def bypassed (l : List Byte) (lines : List (Nat × List Nat)) (j : Nat) : Samples := fun y x =>
  let v := rawAt l lines 0 y x
  let byte := if setDt l = 0x24 then [2, 1, 0] else [0, 1, 2]
  match byte[j]? with
  | some b => v / 256 ^ b % 256 * 2 ^ 20
  | none => 0

/-- White balance of channel j. -/
def balanced (l : List Byte) (v j : Nat) : Nat := min (rneDiv (v * setBits l (0x2E0 + 4 * j) 4 16) (2 ^ 12)) (2 ^ 28 - 1)

/-- The linear values after the colour matrix: TAP 1 (R264, R269). -/
def colour (l : List Byte) (rec : Nat → Samples) (j : Nat) : Samples := fun y x =>
  let v := fun (i : Nat) => balanced l (rec i y x) i
  if j = 3 then v 3
  else satU (rneI (((List.range 3).map (fun i => setSigned l (0x2F0 + 12 * j + 4 * i) 4 17 * (v i : Int))).sum) (2 ^ 12) +
    setSigned l (0x314 + 4 * j) 4 32) 28

/-! ## Tone and noise (R265, R266) -/

/-- The tone curve. -/
def toned (l : List Byte) (x : Nat) : Nat :=
  let y := fun (j : Nat) => leAt l (0x340 + 2 * j) 2
  if x < 16 then y x
  else
    let e := x.log2
    let m := x / 2 ^ (e - 4) % 16
    let j := 16 * (e - 3) + m
    satU (y j + rneI (((y (j + 1) : Int) - y j) * ((x : Int) - ((16 + m) * 2 ^ (e - 4) : Nat))) (2 ^ (e - 4))) 16

/-- Weight of an offset in noise reduction. -/
def noiseWeight (d : Int) : Nat := if d = 0 then 6 else if d.natAbs = 1 then 4 else 1

/-- Noise reduction of channel j, where it is enabled. -/
def denoised (l : List Byte) (s : Samples) (j : Nat) : Samples := fun y x =>
  let t := setBits l (0x320 + 4 * j) 4 16
  let c := s y x
  if !setEnable l 3 || t == 0 then c
  else
    let ps := (offsets 2).flatMap (fun (dy : Int) => (offsets 2).map (fun (dx : Int) =>
      (noiseWeight dy * noiseWeight dx, s (nearest (setHeight l) (y + dy)) (nearest (setWidth l) (x + dx)))))
    let near := ps.filter (fun p => decide (p.2 ≤ c + t) && decide (c ≤ p.2 + t))
    rneDiv ((near.map (fun p => p.1 * p.2)).sum) ((near.map (·.1)).sum)

/-! ## Crop and scale (R267) -/

/-- Box size of a dimension: the power of two that brings the ratio into [1, 2), at most 8. -/
def boxSize (w out : Nat) : Nat := if w < 2 * out then 1 else if w < 4 * out then 2 else if w < 8 * out then 4 else 8

/-- Average of box i of a line of n samples. -/
def boxAt (n d : Nat) (line : Nat → Nat) (i : Nat) : Nat :=
  rneDiv (((List.range d).map (fun k => line (nearest n ((d * i + k : Nat) : Int)))).sum) d

/-- Centre of output sample i in the averaged line, in 16.16 fixed point. -/
def centre (w out d i : Nat) : Nat := rneDiv ((2 * i + 1) * w * 65536) (2 * out * d) - 32768

/-- Output sample i of a line of n averaged samples through the branch's 6-tap filter, saturated to `bits`. -/
def filtered (l : List Byte) (b : Branch) (bits n pos : Nat) (line : Nat → Nat) : Nat :=
  let phase := pos / 1024 % 64
  satU (rneI (((List.range 6).map (fun (t : Nat) => setSigned l (b.coef + 12 * phase + 2 * t) 2 12 *
    (line (nearest n (((pos / 65536 + t : Nat) : Int) - 2)) : Int))).sum) (2 ^ 10)) bits

/-- A channel cropped and scaled: box averages across and down, then the filters across and down, each step rounded
(the order is the model's, log 49). -/
def scaled (l : List Byte) (b : Branch) (bits : Nat) (s : Samples) : Samples :=
  let g := b.geo l
  let dx := boxSize (g 2) (g 4)
  let dy := boxSize (g 3) (g 5)
  let crop : Samples := fun y x => s (g 1 + y) (g 0 + x)
  let across : Samples := fun y i => boxAt (g 2) dx (fun x => crop y x) i
  let boxed : Samples := fun i x => boxAt (g 3) dy (fun y => across y x) i
  let wide : Samples := fun y i => filtered l b bits (cdiv (g 2) dx) (centre (g 2) (g 4) dx i) (fun x => boxed y x)
  fun i x => filtered l b bits (cdiv (g 3) dy) (centre (g 3) (g 5) dy i) (fun y => wide y x)

/-! ## The frame through the pipe -/

/-- The corrected CFA of a raw stream before and after defect correction. -/
def blackOf (l : List Byte) (lines : List (Nat × List Nat)) : Samples := blackAt l ((rawBits (setDt l)).getD 8) lines

/-- The linear channels (TAP 1). -/
def linearOf (l : List Byte) (table : List Nat) (lines : List (Nat × List Nat)) : Nat → Samples :=
  if (rawBits (setDt l)).isSome then
    colour l (reconstructed l (corrected l (staticDefects l table) (blackOf l lines)))
  else colour l (bypassed l lines)

/-- The tone-mapped channels after noise reduction (TAP 0). -/
def tonedOf (l : List Byte) (table : List Nat) (lines : List (Nat × List Nat)) (j : Nat) : Samples :=
  denoised l (fun y x => toned l (linearOf l table lines j y x)) j

/-- Defect replacements in a frame, static and dynamic (R262, R273). -/
def replacements (l : List Byte) (table : List Nat) (lines : List (Nat × List Nat)) : Nat :=
  if (rawBits (setDt l)).isNone then 0
  else
    let d := staticDefects l table
    ((List.range (setHeight l)).map (fun y => ((List.range (setWidth l)).filter
      (fun x => (replacement l d (blackOf l lines) y x).isSome)).length)).sum

/-! ## The store branch (R269) -/

/-- Channels of the tensor. -/
def tensorChannels (l : List Byte) : Nat := match leAt l 0x70D 1 with
  | 0 => 3
  | 1 => 4
  | _ => 1

/-- Value of channel c of the tensor at an interior place. -/
def tensorValue (l : List Byte) (ch : Nat → Samples) (c y x : Nat) : Nat :=
  match leAt l 0x70D 1 with
  | 2 => rneDiv (2126 * ch 0 y x + 7152 * ch 1 y x + 722 * ch 2 y x) 10000
  | 3 => ch 3 y x
  | 4 => ch 0 y x
  | _ => ch c y x

/-- A value converted to the tensor's format: U8 or FP16, from TAP 0 or TAP 1. -/
def tensorCode (l : List Byte) (v : Nat) : Nat × ConvTally :=
  let den := if leAt l 0x70C 1 = 1 then 2 ^ leAt l 0x713 1 else if leAt l 0x70E 1 = 0 then 257 else 65535
  convert (if leAt l 0x70E 1 = 0 then 2 else 10) true 0 none (.fin false v den)

/-- The tensor of a frame: its bytes, from the slot's first row on, and the counts of its conversions: every value written counts
as converted, the border's too (R269). -/
def tensorOf (l : List Byte) (table : List Nat) (lines : List (Nat × List Nat)) : List Byte × ConvTally :=
  let tap1 := leAt l 0x70C 1 == 1
  let ch : Nat → Samples := fun j => scaled l storeBranch (if tap1 then 28 else 16)
    (if tap1 then linearOf l table lines j else tonedOf l table lines j)
  let pad := leAt l 0x710 1
  let w := storeBranch.geo l 4
  let h := storeBranch.geo l 5
  let n := tensorChannels l
  let at_ := fun (y x c : Nat) =>
    if pad ≤ y ∧ y < h + pad ∧ pad ≤ x ∧ x < w + pad then tensorCode l (tensorValue l ch c (y - pad) (x - pad))
    else (leAt l 0x711 2, { ConvTally.zero with conv := 1 })
  let ys := List.range (h + 2 * pad)
  let xs := List.range (w + 2 * pad)
  let es := if leAt l 0x70F 1 = 0 then ys.flatMap (fun y => xs.flatMap (fun x => (List.range n).map (at_ y x)))
    else (List.range n).flatMap (fun c => ys.flatMap (fun y => xs.map (fun x => at_ y x c)))
  (packBytes (if leAt l 0x70E 1 = 0 then 8 else 16) (es.map (·.1)), es.foldl (fun a e => a.add e.2) .zero)

/-! ## The codec branch (R268)

The matrices and the limited ranges are those of BT.709 and BT.2020 (PRESUMED, log 50). -/

/-- Luma weights in units of 1/10,000: red, green, blue. -/
def lumaWeights (cfmt : Nat) : Nat × Nat × Nat := if cfmt = 0 then (2126, 7152, 722) else (2627, 6780, 593)

/-- Y′, Cb and Cr codes of one pixel. -/
def yccOf (cfmt : Nat) (mono : Bool) (r g b : Nat) : Nat × Nat × Nat :=
  let k := lumaWeights cfmt
  let y := if mono then 10000 * r else k.1 * r + k.2.1 * g + k.2.2 * b
  let up := if cfmt = 0 then 1 else 4
  let chroma := fun (c w : Nat) => if mono then 128 * up
    else (rneI (((c * 10000 : Int) - y) * (224 * up * 10000 : Nat)) (2 * (10000 - w) * 10000 * 65535) + 128 * up).toNat
  (rneDiv (y * (219 * up)) (10000 * 65535) + 16 * up, chroma b k.2.2, chroma r k.1)

/-- The 4:2:0 picture of a frame: Y′ by rows, then Cb, then Cr, each the rounded mean of its 2 × 2 block. -/
def pictureOf (l : List Byte) (table : List Nat) (lines : List (Nat × List Nat)) : List Nat :=
  let ch : Nat → Samples := fun j => scaled l codecBranch 16 (tonedOf l table lines j)
  let ycc := fun (y x : Nat) => yccOf (leAt l 0x68C 1) (leAt l 0x68D 1 != 0) (ch 0 y x) (ch 1 y x) (ch 2 y x)
  let w := codecBranch.geo l 4
  let h := codecBranch.geo l 5
  let plane := fun (f : Nat × Nat × Nat → Nat) => (List.range (h / 2)).flatMap (fun y => (List.range (w / 2)).map (fun x =>
    rneDiv (f (ycc (2 * y) (2 * x)) + f (ycc (2 * y) (2 * x + 1)) + f (ycc (2 * y + 1) (2 * x)) + f (ycc (2 * y + 1) (2 * x + 1))) 4))
  (List.range h).flatMap (fun y => (List.range w).map (fun x => (ycc y x).1)) ++ plane (·.2.1) ++ plane (·.2.2)

end Sys2Proof.Machine
end

