-- ==== Sys2Proof/Machine/Codecs.lean ====
section
/-! DEFINITION. Encoders, the bitstream ring, RTP and RTCP, the decoder, Ethernet and PTP (R275–R287, R291). -/

namespace Sys2Proof.Machine

/-- The device is out of POR_N and has not shut down (R359, R387, R388). -/
def State.works (s : State) : Bool := !s.off

/-- The bytes of n registers from a BAR0 offset: a parameter set or block. -/
def State.regBytes (s : State) (off n : Nat) : List Byte := (List.range n).flatMap (fun i => leBytes 8 (s.reg (off + 8 * i)).toNat)

/-- Write bytes to registers from a BAR0 offset. -/
def State.putRegBytes (s : State) (off : Nat) (l : List Byte) : State :=
  (List.range (cdiv l.length 8)).foldl (fun s i => s.setReg (off + 8 * i) (BitVec.ofNat 64 (leAt l (8 * i) 8))) s

/-- The pipe, or encoder, of an encoder stream (R291). -/
def encPipe (i : EncId) : PipeId := ⟨i.val / 16, by omega⟩
/-- The stream context of an encoder stream (R291). -/
def encCtx (i : EncId) : StreamId := ⟨i.val % 16, by omega⟩
/-- The encoder stream of a pipe's stream. -/
def encOf (p : PipeId) (st : StreamId) : EncId := ⟨16 * p.val + st.val, by omega⟩

/-- The active parameter block of an encoder stream. -/
def State.encBlock (s : State) (i : EncId) : List Byte := s.regBytes (Reg.vcActive i.val) 32

/-- The active parameter set of a stream. -/
def State.activeSet (s : State) (p : PipeId) (st : StreamId) : List Byte := s.regBytes (Reg.ispActive p.val st.val) 512

/-- Replace an encoder stream. -/
def State.setEnc (s : State) (i : EncId) (e : EncStream) : State := { s with enc := s.enc.set i e }

/-- An error report of class CODEC: a stream (block 7, the encoder) or the decoder (instance 2) (R367, R368). -/
def State.codecReport (s : State) (inst cause detail : Nat) : State :=
  s.report { mkReport s 0x07 1 (unitNo 7 inst) cause with detail := BitVec.ofNat 32 detail }

/-! ## RT requests at a frozen controller (R296, R305) -/

/-- An RT request writes: what lies behind a frozen controller is dropped and counted there, request by request. -/
def State.rtPut (s : State) (a : Nat) (bs : List Byte) : State :=
  if s.noneFrozen then s.put a bs
  else (blockParts a bs.length).foldl (fun s p =>
    match s.dramAt p.1 with
    | some x => if s.dmcState x.1.val = 2 then s.inc (Reg.dmcFrzDiscardCount x.1.val) 32 1
        else s.put p.1 ((bs.drop (p.1 - a)).take p.2)
    | none => s.put p.1 ((bs.drop (p.1 - a)).take p.2)) s

/-- An RT request reads: zeros, counted, behind a frozen controller. -/
def State.rtRead (s : State) (a n : Nat) : List Byte × State :=
  if s.noneFrozen then (s.rd a n, s)
  else
    ((List.range n).map (fun i => if s.frozenAt (a + i) then 0 else s.byteAt (a + i)),
     (blockParts a n).foldl (fun s p => match s.dramAt p.1 with
       | some x => if s.dmcState x.1.val = 2 then s.inc (Reg.dmcFrzDiscardCount x.1.val) 32 1 else s
       | none => s) s)

/-- The frozen controllers of the group that holds the Lodge and codec regions (R296). -/
def State.codecFrozen (s : State) : List DmcId :=
  match s.liveGroups.getLast? with
  | some g => (List.finRange 8).filter (fun d => d.val / s.groupSize == g && s.dmcState d.val == 2)
  | none => []

/-! ## The parameter block (R275, R279) -/

/-- The highest level of a codec, as level_idc or seq_level_idx (R275; the codings are the codecs', PRESUMED, log 51). -/
def highestLevel (codec : Nat) : Nat := if codec = 2 then 52 else if codec = 3 then 12 else 183

/-- The largest frame of a codec. -/
def largestFrame (codec : Nat) : Nat × Nat := if codec = 2 then (4096, 2304) else (8192, 4320)

/-- OUT sends the stream to a place: bit 0 the ring, 1 and 2 the Ethernet ports. -/
def encOut (b : List Byte) (n : Nat) : Bool := (leAt b 0x17 1).testBit n

/-- The ring's base and length. -/
def encRing (b : List Byte) : Nat × Nat := (leAt b 0x18 8, 2 ^ leAt b 0x20 1)

/-- The fields of the ring (R279). -/
def State.ringOk (s : State) (b : List Byte) : Bool :=
  leAt b 0x18 8 % 4096 == 0 && decide (16 ≤ leAt b 0x20 1) && decide (leAt b 0x20 1 ≤ 30) && s.plainDram (encRing b).1 (encRing b).2

/-- The fields of the RTP output (R279). -/
def rtpOk (b : List Byte) : Bool :=
  leAt b 0x28 2 % 2 == 0 && decide (leAt b 0x33 1 ≤ 63) && decide (96 ≤ leAt b 0x34 1) && decide (leAt b 0x34 1 ≤ 127) &&
  decide (1 ≤ leAt b 0x36 2) && decide (leAt b 0x36 2 ≤ 4094) && decide (576 ≤ leAt b 0x3C 2) && decide (leAt b 0x3C 2 ≤ 9000)

/-- The fields of the rate control (R279). -/
def rateOk (b : List Byte) : Bool :=
  let q := if leAt b 0 1 = 3 then 255 else 51
  decide (leAt b 3 1 ≤ 2) && [0x0E, 0x0F, 0x10, 0x11].all (fun o => decide (leAt b o 1 ≤ q)) &&
  decide (64 ≤ leAt b 4 4) && decide (leAt b 4 4 ≤ 200000) && decide (leAt b 4 4 ≤ leAt b 8 4) &&
  decide (100 ≤ leAt b 0x0C 2) && decide (leAt b 0x0C 2 ≤ 4000)

/-- The block and the frame it is to code keep R275 and the ranges of R279, whether its mode and outputs use a field or not. AV1
leaves only through the ring. -/
def State.encOk (s : State) (b : List Byte) (g : Nat × Nat × Nat) : Bool :=
  let c := leAt b 0 1
  let m := largestFrame c
  decide (c ≤ 3) && decide (leAt b 1 1 ≤ highestLevel c) && decide (leAt b 2 1 ≤ (if c = 2 then 0 else 1)) &&
  decide (64 ≤ g.1) && decide (g.1 ≤ m.1) && decide (64 ≤ g.2.1) && decide (g.2.1 ≤ m.2) &&
  (g.2.2 == 0 || c == 1 || c == 3) && rateOk b && decide (1 ≤ leAt b 0x16 1) && decide (leAt b 0x16 1 ≤ 16) &&
  decide (leAt b 0x17 1 < 8) && s.ringOk b && rtpOk b && (c != 3 || !(encOut b 1 || encOut b 2))

/-! ## The codec region (R277) -/

/-- A frame buffer, in bytes: rounded up to 64 KiB. -/
def frameBuffer (g : Nat × Nat × Nat) : Nat := cdiv (if g.2.2 = 0 then g.1 * g.2.1 * 3 / 2 else g.1 * g.2.1 * 3) 65536 * 65536

/-- Free bytes of the codec region, but for one stream's buffers. -/
def State.poolFree (s : State) (i : EncId) : Nat :=
  s.fld Reg.vcPoolSize 11 0 * 64 * 2 ^ 20 - s.net.decBytes -
    ((List.finRange 32).map (fun j => if j = i ∨ !(s.enc[j]).active then 0 else 4 * (s.enc[j]).bufferBytes)).sum

/-- The decoder queue's entries. -/
def State.decSize (s : State) : Nat := 2 ^ s.fld Reg.vcDecQbase 3 0

/-- The decoder queue holds a descriptor not yet taken; HEAD and TAIL are indices of its entries (DEDUCED, log 52). -/
def State.decBusy (s : State) : Bool := s.fld Reg.vcDecTail 15 0 % s.decSize != s.fld Reg.vcDecHead 15 0 % s.decSize

/-- First address of the last interleave group (R296). -/
def State.lastGroup (s : State) : Nat := s.usable / s.liveGroups.length * (s.liveGroups.length - 1)

/-- A value of VC_POOL_SIZE is taken or ignored (R277). -/
def State.poolWrite (s : State) (v : Nat) : State :=
  let n := v % 4096 * 64 * 2 ^ 20
  if (s.enc.toList.any (fun e => e.active)) || s.decBusy || decide (s.lodgeBase < n) ||
      overlaps (s.lodgeBase - n) n s.tableRegion.1 s.tableRegion.2 || decide (s.lodgeBase - n < s.lastGroup) then s
  else s.setReg Reg.vcPoolSize (BitVec.ofNat 64 (v % 4096))

/-- POOL_SIZE_WRITE (R277). -/
def execPoolSizeWrite (v : BitVec 32) (s : State) : Out := ok (if s.works then s.poolWrite v.toNat else s)

/-! ## Commit (R258, R279) -/

/-- The Lodge owns the port (R290). -/
def State.lodgeOwns (s : State) (n : PortId) : Bool := s.flag Reg.vcSaOwner n.val

/-- A party owns the port that a set names (R290). A port that does not exist is the host's. -/
def State.ownsSet (s : State) (lodge : Bool) (l : List Byte) : Bool :=
  (decide (setPort l < 16) && s.lodgeOwns (Fin.ofNat 16 (setPort l))) == lodge

/-- A party owns a stream and its encoder context: the port that its shadow set names and, where its active set is valid, the
port of that one too (R258, R290; log 114). -/
def State.owns (s : State) (lodge : Bool) (p : PipeId) (st : StreamId) : Bool :=
  s.ownsSet lodge (s.regBytes (Reg.ispShadow p.val st.val) 512) &&
  (!setOk p.val (s.activeSet p st) || s.ownsSet lodge (s.activeSet p st))

/-- ENC_COMMIT (R279, R290): shadow blocks become pending. The host or the Lodge commits the streams it owns. -/
def execEncCommit (v : PartyWrite 32) (s : State) : Out :=
  ok (if s.works then (List.finRange 32).foldl (fun s i =>
    if bit v.value i.val && s.owns v.lodge (encPipe i) (encCtx i) then s.setFlag Reg.vcEncPending i.val true else s) s else s)

/-- A stream stops: its buffers return, and VC_ENC_ERR shows it (R277, R279). -/
def State.stopEnc (s : State) (i : EncId) : State :=
  let p := encPipe i
  let s1 := (s.setEnc i EncStream.idle).setFlag Reg.vcEncErr i.val true
  { s1 with encOrder := s1.encOrder.set p (s1.encOrder[p].filter (fun x => x != encCtx i)) }.codecReport p.val 1 i.val

/-- A change that starts a new coded sequence: CODEC, LEVEL, TIER, OUTW or OUTH (R278). -/
def newSequence (old new : List Byte) (g h : Nat × Nat × Nat) : Bool :=
  old.take 3 != new.take 3 || g.1 != h.1 || g.2.1 != h.2.1

/-- At a frame start: the pending block applies, and the stream starts, goes on with what changed, or stops (R277–R279). -/
def State.applyEnc (s : State) (i : EncId) : State :=
  let set := s.activeSet (encPipe i) (encCtx i)
  let g := (codecBranch.geo set 4, codecBranch.geo set 5, leAt set 0x68C 1)
  let pend := s.flag Reg.vcEncPending i.val
  let e := s.enc[i]
  let old := s.encBlock i
  let new := if pend then s.regBytes (Reg.vcShadow i.val) 32 else old
  if !pend && (!e.active || e.geometry == g) then s
  else
    let s1 := if pend then (s.putRegBytes (Reg.vcActive i.val) new).setFlag Reg.vcEncPending i.val false else s
    if !s1.encOk new g || decide (s1.poolFree i < 4 * frameBuffer g) then s1.stopEnc i
    else if e.active then
      s1.setEnc i { e with geometry := g, bufferBytes := frameBuffer g, idrNext := e.idrNext || newSequence old new e.geometry g }
    else ((s1.setEnc i { EncStream.idle with active := true, geometry := g, bufferBytes := frameBuffer g }).setReg
      (Reg.vcEncWptr i.val) 0).setReg (Reg.vcEncRptr i.val) 0

/-- A frame's first line leaves the codec branch: it takes an input buffer, or is dropped for the encoder (R276). It is
coded under the block that was active at its frame start (R258, R279). The answer is its number where it has a buffer. -/
def State.offerEnc (s : State) (i : EncId) (start : W64) (block : List Byte) : State × Option W64 :=
  let e := s.enc[i]
  if !e.active then (s, none)
  else if e.inputs.length < 2 then
    (s.setEnc i { e with inputs := e.inputs ++ [⟨e.frameNo, start, none, e.idrNext, e.dropBefore, block⟩], frameNo := e.frameNo + 1
                         idrNext := false, dropBefore := false }, some e.frameNo)
  else (((s.setEnc i { e with frameNo := e.frameNo + 1, dropBefore := true }).inc (Reg.vcEncDropCount (encPipe i).val) 32 1).codecReport
    (encPipe i).val 2 i.val, none)

/-- A frame's last line has left the codec branch: the encoder may take it (R268, R276). -/
def State.fillEnc (s : State) (i : EncId) (n : W64) (picture : List Nat) : State :=
  let e := s.enc[i]
  if e.inputs.any (fun x => x.number == n && x.picture.isNone) then
    let s1 := s.setEnc i { e with inputs := e.inputs.map (fun x => if x.number = n then { x with picture := some picture } else x) }
    { s1 with encOrder := s1.encOrder.set (encPipe i) (s1.encOrder[encPipe i] ++ [encCtx i]) }
  else s

/-! ## RTP (R286; RFC 3550, RFC 6184, RFC 7798: PRESUMED, log 51) -/

/-- One NAL unit, gathered backwards, without the zeros that follow it. -/
def nalOf (back : List Byte) : List Byte := (back.dropWhile (fun b => b == 0)).reverse

/-- The NAL units of an Annex B byte stream; the argument gathers the open one backwards. -/
def splitNals : List Byte → Option (List Byte) → List (List Byte)
  | [], none => []
  | [], some c => [nalOf c]
  | 0 :: 0 :: 1 :: r, none => splitNals r (some [])
  | 0 :: 0 :: 1 :: r, some c => nalOf c :: splitNals r (some [])
  | _ :: r, none => splitNals r none
  | b :: r, some c => splitNals r (some (b :: c))

/-- The parts of a list of length n. -/
def partsOf (n : Nat) (l : List Byte) : List (List Byte) := (List.range (cdiv l.length n)).map (fun i => (l.drop (n * i)).take n)

/-- S and E of fragment i of k. -/
def fragmentBits (i k : Nat) : Nat := (if i = 0 then 128 else 0) + (if i + 1 = k then 64 else 0)

/-- RTP payloads of a NAL unit: a single-NAL-unit packet, or fragmentation units (R286). -/
def nalPayloads (avc : Bool) (room : Nat) (nal : List Byte) : List (List Byte) :=
  if nal.length ≤ room then [nal]
  else
    let h0 := leAt nal 0 1
    let ps := partsOf (room - (if avc then 2 else 3)) (nal.drop (if avc then 1 else 2))
    (ps.zipIdx).map (fun p =>
      (if avc then leBytes 1 (h0 / 32 * 32 + 28) ++ leBytes 1 (fragmentBits p.2 ps.length + h0 % 32)
       else leBytes 1 (h0 / 128 * 128 + 98 + h0 % 2) ++ leBytes 1 (leAt nal 1 1) ++
         leBytes 1 (fragmentBits p.2 ps.length + h0 / 2 % 64)) ++ p.1)

/-- RTP payloads of an access unit; an IP, a UDP and an RTP header take 40 bytes of the MTU. -/
def rtpPayloads (b : List Byte) (unit : List Byte) : List (List Byte) :=
  (splitNals unit none).flatMap (nalPayloads (leAt b 0 1 == 2) (leAt b 0x3C 2 - 40))

/-- TAI in ns at a gate count (R285). -/
def State.taiAt (s : State) (g : W64) : W64 := g + s.reg (Reg.ethPtpOffset 0)

/-- The RTP timestamp of a gate count (R286). -/
def State.rtpStamp (s : State) (g : W64) : Nat := wrapNat 32 (((g.toNat : Int) + (s.reg (Reg.ethPtpOffset 0)).toInt) * 9 / 100000)

/-- The NTP format of TAI: seconds since 1900 and their fraction (R287). -/
def ntpOf (tai : W64) : W64 :=
  BitVec.ofNat 64 ((tai.toNat / 1000000000 + 2208988800) % 2 ^ 32 * 2 ^ 32 + tai.toNat % 1000000000 * 2 ^ 32 / 1000000000)

/-- Packets for a port are sent, or discarded and counted while its link is down (R283). -/
def State.sendEth (s : State) (q : Nat) (ps : List EthPacket) : State :=
  if s.flag (Reg.ethStatus q) 0 then
    { s.inc (Reg.ethTxPktCount q) 64 ps.length with net := { s.net with sent := s.net.sent ++ ps } }
  else s.inc (Reg.ethTxDiscardCount q) 32 ps.length

/-- The destination is an IPv4 group. -/
def isGroup (b : List Byte) : Bool := leAt b 0x24 4 / 2 ^ 28 == 14

/-- The destination MAC address: for a group the one that RFC 1112 derives from its low 23 bits, else the block's (R283). -/
def destMac (b : List Byte) : List Byte :=
  if isGroup b then [0x01, 0x00, 0x5E] ++ (leBytes 3 (leAt b 0x24 4 % 2 ^ 23)).reverse else (b.drop 0x2C).take 6

/-- The addressing fields of a block, DST_IP to MTU, with DST_PORT raised by d. -/
def addressing (b : List Byte) (d : Nat) : List Byte :=
  (b.drop 0x24).take 4 ++ leBytes 2 (leAt b 0x28 2 + d) ++ (b.drop 0x2A).take 2 ++ destMac b ++ (b.drop 0x32).take 12

/-- The port's own MAC address (R283). -/
def State.ethMac (s : State) (q : Nat) : W64 := s.reg (Reg.ethMac q)

/-- The port's own IPv4 address (R283). -/
def State.ethIp (s : State) (q : Nat) : W64 := s.reg (Reg.ethIpv4 q)

/-- The access unit leaves as RTP (R286). -/
def State.sendRtp (s : State) (i : EncId) (b : List Byte) (start : W64) (unit : List Byte) : State :=
  let ps := rtpPayloads b unit
  let e := s.enc[i]
  let pkts := fun (q : Nat) => (ps.zipIdx).map (fun p =>
    EthPacket.rtp q i.val (s.ethMac q) (s.ethIp q) (addressing b 0) ((e.rtpSeq + p.2) % 65536) (s.rtpStamp start) (p.2 + 1 == ps.length) p.1)
  let s1 := s.setEnc i { e with rtpSeq := (e.rtpSeq + ps.length) % 65536, packets := e.packets + ps.length
                                octets := e.octets + (ps.map (·.length)).sum }
  let s2 := if encOut b 1 then s1.sendEth 0 (pkts 0) else s1
  if encOut b 2 then s2.sendEth 1 (pkts 1) else s2

/-- RTCP_SENDER_REPORT (R287): to DST_PORT + 1. -/
def execRtcpSenderReport (i : EncId) (s : State) : Out :=
  let b := s.encBlock i
  let e := s.enc[i]
  if !s.works || !e.active then ok s
  else
    let r := fun (q : Nat) => [EthPacket.senderReport q i.val (s.ethMac q) (s.ethIp q) (addressing b 1) (ntpOf (s.taiAt s.gate)) (s.rtpStamp s.gate)
      (e.packets % 2 ^ 32) (e.octets % 2 ^ 32)]
    let s1 := if encOut b 1 then s.sendEth 0 (r 0) else s
    ok (if encOut b 2 then s1.sendEth 1 (r 1) else s1)

/-! ## The bitstream ring (R281) -/

/-- The header of a record. -/
def recordHeader (x : EncInput) (length flags : Nat) : List Byte :=
  leBytes 8 x.number.toNat ++ leBytes 8 x.start.toNat ++ leBytes 4 length ++ leBytes 1 flags ++ List.replicate 11 0

/-- A record: header and access unit, padded with zeros to 64 bytes. -/
def auRecord (x : EncInput) (flags : Nat) (unit : List Byte) : List Byte :=
  let r := recordHeader x unit.length flags ++ unit
  r ++ List.replicate (cdiv r.length 64 * 64 - r.length) 0

/-- The access unit enters the ring, or is lost. A wrap header fills the ring up to its end (log 53). W is raised only where every byte
is performed: a record that a frozen controller drops a part of is lost too (R281, R305; log 131). -/
def State.ringWrite (s : State) (i : EncId) (b : List Byte) (x : EncInput) (idr : Bool) (unit : List Byte) : State :=
  let e := s.enc[i]
  let flags := idr.toNat + 2 * x.dropBefore.toNat + 4 * e.ringGap.toNat
  let r := auRecord x flags unit
  let size := (encRing b).2
  let w := (s.reg (Reg.vcEncWptr i.val)).toNat
  let o := w % size
  let skip := if size < o + r.length then size - o else 0
  if size < skip + r.length + (w - (s.reg (Reg.vcEncRptr i.val)).toNat) then
    ((s.setEnc i { e with ringGap := true, forceIdr := true }).inc (Reg.vcRingDropCount (encPipe i).val) 32 1).codecReport
      (encPipe i).val 3 i.val
  else
    let s1 := if skip = 0 then s else s.rtPut ((encRing b).1 + o) (recordHeader x 0xFFFFFFFF flags)
    let a := (encRing b).1 + (if skip = 0 then o else 0)
    let s2 := s1.rtPut a r
    if (skip != 0 && s.frozenRange ((encRing b).1 + o) 32) || s.frozenRange a r.length then
      s2.setEnc i { e with ringGap := true, forceIdr := true }
    else (s2.setEnc i { e with ringGap := false }).setReg (Reg.vcEncWptr i.val) (BitVec.ofNat 64 (w + skip + r.length))

/-- An IDR frame is due (R278). -/
def idrDue (e : EncStream) (b : List Byte) (x : EncInput) : Bool :=
  e.forceIdr || x.idr || (leAt b 0x12 2 != 0 && leAt b 0x14 2 == 0 && decide (leAt b 0x12 2 ≤ e.sinceIdr))

/-! ## What an access unit must keep (R278, R280) -/

/-- The bytes of an access unit in order. -/
def unitBytes (u : AccessUnit) : List Byte := u.params ++ u.slices.flatMap (·.bytes) ++ u.filler

/-- The frame is cut into SLICES slices of equal rows of coding blocks: where the rows do not divide, two slices differ by one at
most, and a frame with fewer rows than SLICES has one slice for each (R278; log 115). -/
def slicesOk (b : List Byte) (height : Nat) (u : AccessUnit) : Bool :=
  let rows := cdiv height (if leAt b 0 1 = 2 then 16 else if leAt b 0 1 = 3 then 128 else 64)
  let n := min (leAt b 0x16 1) rows
  u.slices.length == n && (u.slices.map (·.rows)).sum == rows &&
  u.slices.all (fun x => decide (rows / n ≤ x.rows) && decide (x.rows ≤ cdiv rows n))

/-- The place of the column of intra blocks in a P frame, once every IR_PERIOD frames over the frame (R278; log 115). -/
def sweepOf (b : List Byte) (e : EncStream) (idr : Bool) : Option Nat :=
  if idr || leAt b 0x14 2 == 0 then none else some ((e.sinceIdr - 1) % leAt b 0x14 2)

/-- The rate of the reference decoder in kb/s: BITRATE, and for VBR the peak MAXRATE (R280). -/
def hrdRate (b : List Byte) : Nat := if leAt b 3 1 = 2 then leAt b 8 4 else leAt b 4 4

/-- Its buffer, in units of 10⁻⁶ bit: BITRATE × BUF_MS (R280). -/
def hrdBuffer (b : List Byte) : Nat := leAt b 4 4 * leAt b 0x0C 2 * 1000000

/-- What has drained since the frame coded last, in the same units. -/
def hrdDrained (b : List Byte) (e : EncStream) (x : EncInput) : Nat :=
  match e.hrdAt with
  | some g => hrdRate b * (x.start.toNat - g.toNat)
  | none => 0

/-- Bytes of filler data without which the buffer would underflow before this frame; only CBR inserts any (R280). -/
def hrdFiller (b : List Byte) (e : EncStream) (x : EncInput) : Nat :=
  if leAt b 3 1 = 1 then cdiv (hrdDrained b e x - e.hrdLevel) 8000000 else 0

/-- The fill of the buffer after an access unit (R280; log 115). -/
def hrdAfter (b : List Byte) (e : EncStream) (x : EncInput) (u : AccessUnit) : Nat :=
  e.hrdLevel + 8000000 * u.filler.length - hrdDrained b e x + 8000000 * (u.params.length + (u.slices.map (·.bytes.length)).sum)

/-- What BITRATE gives between two frame starts, in the same units. -/
def meanGain (b : List Byte) (e : EncStream) (x : EncInput) : Nat :=
  match e.hrdAt with
  | some g => leAt b 4 4 * (x.start.toNat - g.toNat)
  | none => 0

/-- VBR holds the long-term mean at BITRATE: what the stream has coded strays from BITRATE by what it gives in some window, but where the
QP limits keep it from following (R280; log 115). -/
def meanOk (b : List Byte) (e : EncStream) (x : EncInput) (u : AccessUnit) : Bool :=
  let coded := e.meanCoded + 8000000 * (unitBytes u).length
  let due := e.meanDue + meanGain b e x
  let slack := leAt b 4 4 * Config.vbrWindow
  leAt b 3 1 != 2 ||
  ((decide (coded ≤ due + slack) || u.qp == leAt b 0x11 1) && (decide (due ≤ coded + slack) || u.qp == leAt b 0x10 1))

/-- The access unit overflows the buffer (R280). -/
def hrdBroken (b : List Byte) (e : EncStream) (x : EncInput) (u : AccessUnit) : Bool :=
  leAt b 3 1 != 0 && decide (hrdBuffer b < hrdAfter b e x u)

/-- QP under the rate-control mode: QP_I or QP_P, or within the limits and at QP_MAX where the buffer overflows (R280). -/
def qpOk (b : List Byte) (e : EncStream) (x : EncInput) (u : AccessUnit) : Bool :=
  if leAt b 3 1 = 0 then u.qp == leAt b (if u.reference.isNone then 0x0E else 0x0F) 1
  else decide (leAt b 0x10 1 ≤ u.qp) && decide (u.qp ≤ leAt b 0x11 1) && (!hrdBroken b e x u || u.qp == leAt b 0x11 1)

/-- The access unit is one that the encoder hands over for a frame: I or P, with one reference, the frame coded before it; parameter
sets before an IDR frame of HEVC and AVC; slices, sweep, QP and filler as the block asks (R278, R280). -/
def unitOk (b : List Byte) (e : EncStream) (x : EncInput) (idr : Bool) (u : AccessUnit) : Bool :=
  u.idr == idr && (u.reference.isNone || (!idr && u.reference == e.lastCoded)) &&
  (!idr || leAt b 0 1 == 3 || !u.params.isEmpty) && slicesOk b e.geometry.2.1 u && u.column == sweepOf b e idr && qpOk b e x u &&
  meanOk b e x u &&
  decide (hrdFiller b e x ≤ u.filler.length) && (hrdFiller b e x != 0 || u.filler.isEmpty)

/-- The encoder's frame ends without an access unit: a controller of the group that holds its frame buffers is frozen. Its requests
there are answered with zeros or dropped, and counted; what it would make of them is undefined (R296, R305, R375; log 131). -/
def State.codecStopped (s : State) (ds : List DmcId) : State :=
  ds.foldl (fun s d => { s.inc (Reg.dmcFrzDiscardCount d.val) 32 (Config.codecRequests s.draws) with draws := s.draws + 1 }) s

/-- ENCODE_FRAME_COMPLETE (R276, R278, R280, R281, R286, R305): the encoder works on one frame at a time, in the order in which last
lines left. An access unit that breaks a rule is none of this encoder's, and ends no frame (log 115). -/
def execEncodeFrameComplete (i : EncId) (unit : AccessUnit) (s : State) : Out :=
  let p := encPipe i
  match s.encOrder[p], (s.enc[i]).inputs with
  | st :: rest, x :: xs =>
    let b := x.block
    let e := s.enc[i]
    let idr := idrDue e b x
    let taken := { s with encOrder := s.encOrder.set p rest }
    if !s.works || st != encCtx i || x.picture.isNone then ok s
    else if s.codecFrozen ≠ [] then
      ok ((taken.setEnc i { e with inputs := xs }).codecStopped s.codecFrozen)
    else if !unitOk b e x idr unit then ok s
    else
      let s1 := taken.setEnc i
        { e with inputs := xs, forceIdr := false, sinceIdr := if idr then 1 else e.sinceIdr + 1
                 lastCoded := some x.number, hrdLevel := hrdAfter b e x unit, hrdAt := some x.start
                 meanCoded := e.meanCoded + 8000000 * (unitBytes unit).length, meanDue := e.meanDue + meanGain b e x }
      let s2 := if encOut b 0 then s1.ringWrite i b x idr (unitBytes unit) else s1
      let s3 := if encOut b 1 || encOut b 2 then s2.sendRtp i b x.start (unitBytes unit) else s2
      ok (if hrdBroken b e x unit then s3.inc (Reg.vcHrdViolCount p.val) 32 1 else s3)
  | _, _ => ok s

/-- RING_READ_POINTER_WRITE (R281): a value above W, or one that lowers R, is ignored. -/
def execRingReadPointerWrite (i : EncId) (v : BitVec 64) (s : State) : Out :=
  ok (if s.works ∧ v.toNat ≤ (s.reg (Reg.vcEncWptr i.val)).toNat ∧ (s.reg (Reg.vcEncRptr i.val)).toNat ≤ v.toNat then
    s.setReg (Reg.vcEncRptr i.val) v else s)

/-! ## The decoder (R277, R282) -/

/-- DECODER_DOORBELL (R282). -/
def execDecoderDoorbell (v : BitVec 16) (s : State) : Out := ok (if s.works then s.setReg Reg.vcDecTail (v.zeroExtend 64) else s)

/-- Rows at a pitch lie in usable DRAM, outside the Lodge and codec regions. -/
def State.rowsFit (s : State) (a pitch : Nat) (rows : List (List Byte)) : Bool :=
  a % 64 == 0 && s.plainDram a (pitch * (rows.length - 1) + (rows.getLast?.getD []).length)

/-- Write rows at a pitch. -/
def State.putRows (s : State) (a pitch : Nat) (rows : List (List Byte)) : State :=
  (rows.zipIdx).foldl (fun s r => s.rtPut (a + pitch * r.2) r.1) s

/-- Bytes of the codec region that the encoders leave to the decoder (R277). -/
def State.decoderPool (s : State) : Nat :=
  s.fld Reg.vcPoolSize 11 0 * 64 * 2 ^ 20 - ((List.finRange 32).map (fun j => if (s.enc[j]).active then 4 * (s.enc[j]).bufferBytes else 0)).sum

/-- The decoder supports the stream: level, sample depth and frame size (R275). -/
def codedOk (codec : Nat) (f : CodedFrame) : Bool :=
  let m := largestFrame codec
  decide (f.level ≤ highestLevel codec) && (codec == 0 || !f.tenBit) && decide (64 ≤ f.width) && decide (f.width ≤ m.1) &&
  decide (64 ≤ f.height) && decide (f.height ≤ m.2)

/-- The rows of a decoded frame: NV12, or P010 for 10-bit streams (R282). -/
def rowsShaped (f : CodedFrame) (luma chroma : List (List Byte)) : Bool :=
  let n := if f.tenBit then 2 else 1
  luma.length == f.height && luma.all (fun r => r.length == n * f.width) &&
  chroma.length == cdiv f.height 2 && chroma.all (fun r => r.length == 2 * n * cdiv f.width 2)

/-- What a descriptor comes to: STATUS, the rows written, the decoder's share of the codec region and the size it is taken for, and
whether an error is still to be cleared by an IDR frame (R277, R282). -/
structure Decoded where
  status : Nat
  luma : List (List Byte)
  chroma : List (List Byte)
  share : Nat
  shape : Option (Nat × Nat × Bool)
  error : Bool
deriving DecidableEq, Repr

/-- A descriptor that writes no rows. -/
def State.refusedDecode (s : State) (status : Nat) : Decoded := ⟨status, [], [], s.net.decBytes, s.net.decShape, s.net.decError⟩

/-- The addresses of a descriptor lie in usable DRAM, outside the Lodge and codec regions (R282). -/
def State.decodeFits (s : State) (d : List Byte) (l c : List (List Byte)) : Bool :=
  s.plainDram (leAt d 0 8) (leAt d 8 4) && leAt d 32 4 % 64 == 0 && s.rowsFit (leAt d 16 8) (leAt d 32 4) l &&
  s.rowsFit (leAt d 24 8) (leAt d 32 4) c

/-- A bitstream error: the reference frame unchanged as output (R282). -/
def State.concealDecode (s : State) (d : List Byte) : Decoded :=
  let f := s.net.reference
  if s.decodeFits d f.1 f.2 then { s.refusedDecode 2 with luma := f.1, chroma := f.2, error := true } else s.refusedDecode 3

/-- An IDR access unit takes the decoded picture buffer that its parameter sets demand plus one working frame; one of a different
size first returns what was taken, and one of the same size keeps it and takes what it still needs (R277). -/
def State.idrDecode (s : State) (f : CodedFrame) (dpb : Nat) (l c : List (List Byte)) : Decoded :=
  let shape := (f.width, f.height, f.tenBit)
  let need := (dpb + 1) * frameBuffer (f.width, f.height, f.tenBit.toNat)
  if s.net.decShape = some shape then
    (if need ≤ s.net.decBytes then { s.refusedDecode 1 with luma := l, chroma := c, error := false }
     else if need ≤ s.decoderPool then ⟨1, l, c, need, some shape, false⟩
     else s.refusedDecode 4)
  else if need ≤ s.decoderPool then ⟨1, l, c, need, some shape, false⟩
  else ⟨4, [], [], 0, none, s.net.decError⟩

/-- What a descriptor gives. After a bitstream error a frame that is no IDR frame is concealed too (R282). Rows that have not the
stream's form are no output of the decoder (log 115). -/
def State.decodes (s : State) (d : List Byte) (r : DecodeResult) : Option Decoded :=
  let unsupported := s.refusedDecode (if s.decodeFits d [] [] then 4 else 3)
  if leAt d 12 1 != 0 && leAt d 12 1 != 2 then some (s.refusedDecode 4)
  else match r with
    | .unsupported => some unsupported
    | .concealed => some (s.concealDecode d)
    | .done f l c =>
      if !rowsShaped f l c then none
      else if s.net.decError && f.dpb.isNone then some (s.concealDecode d)
      else if !codedOk (leAt d 12 1) f then some unsupported
      else if !s.decodeFits d l c then some (s.refusedDecode 3)
      else match f.dpb with
        | some n => some (s.idrDecode f n l c)
        | none => some { s.refusedDecode 1 with luma := l, chroma := c }

/-- DECODE_COMPLETE (R277, R282): the output rows, then STATUS, then HEAD. The decoder's share returns when the queue empties. At a
frozen controller its reads give zeros and its writes are dropped (R305). -/
def execDecodeComplete (r : DecodeResult) (s0 : State) : Out :=
  let head := s0.fld Reg.vcDecHead 15 0 % s0.decSize
  let a := s0.fld Reg.vcDecQbase 63 12 * 4096 + 64 * head
  let read := s0.rtRead a 64
  let d := read.1
  let s := read.2
  if !s0.works || !s0.decBusy || !s0.plainDram a 64 then ok s0
  else match s.decodes d r with
  | none => ok s0
  | some x =>
    let s1 := ((s.putRows (leAt d 16 8) (leAt d 32 4) x.luma).putRows (leAt d 24 8) (leAt d 32 4) x.chroma).rtPut (a + 40) (leBytes 1 x.status)
    let s2 := s1.setReg Reg.vcDecHead (BitVec.ofNat 64 ((head + 1) % s.decSize))
    let s3 := { s2 with net := { s2.net with
      decBytes := if s2.decBusy then x.share else 0
      decShape := if s2.decBusy then x.shape else none
      decError := x.error
      reference := if x.status = 1 then (x.luma, x.chroma) else s2.net.reference } }
    ok (if x.status = 1 then s3 else s3.codecReport 2 4 head)

/-! ## Ethernet and PTP (R283–R285) -/

/-- ETH_LINK_CHANGE (R283): a link comes up on an enabled port, while ETH_REFCLK runs (R392). -/
def execEthLinkChange (p : EthId) (up : Bool) (s : State) : Out :=
  if up then
    ok (if s.works && s.flag (Reg.ethCtrl p.val) 0 && !s.board.clocksLost.contains .eth then s.setFlag (Reg.ethStatus p.val) 0 true
        else s)
  else ok (s.ethDown p.val)

/-- PTP listens on a port (R284, R291). -/
def State.ptpOn (s : State) (p : EthId) : Bool :=
  s.flag (Reg.ethPtpCtrl 0) 0 && (s.fld (Reg.ethPtpCtrl 0) 2 1 == p.val || s.fld (Reg.ethPtpCtrl 0) 2 1 == 2)

/-- A Sync has come within 3 s (R284). -/
def State.syncFresh (s : State) : Bool := decide (s.gate.toNat < s.net.lastSync.toNat + 3000000000)

/-- A Sync with a measured offset in ns: TAI less the device's own TAI (R284, R285). In a cascade every device but the master
takes its offset from the master. -/
def State.sync (s : State) (offset : Int) : State :=
  let close := decide (-1000 ≤ offset) && decide (offset ≤ 1000)
  let s1 := { s with net := { s.net with
    lastSync := s.gate
    withinSince := if close then (match s.net.withinSince with
      | some g => if s.syncFresh then some g else some s.gate
      | none => some s.gate) else none } }
  if s.isEnum && !s.isMaster then s1 else s1.setReg (Reg.ethPtpOffset 0) (s.reg (Reg.ethPtpOffset 0) + BitVec.ofInt 64 offset)

/-- The port listens to the message: its transport and domain are those of ETH_PTP_CTRL (R284, R291). -/
def State.ptpHears (s : State) (p : EthId) (m : PtpMessage) : Bool :=
  s.ptpOn p && s.flag (Reg.ethPtpCtrl 0) 4 == m.ieee8023 && s.fld (Reg.ethPtpCtrl 0) 15 8 == m.domain.toNat

/-- The best master heard on a port that still listens and has its link; one that has not announced itself for the clock's time-out
is none any more (R284; log 64). -/
def State.bestMaster (s : State) : Option (EthId × Nat × BitVec 80) :=
  match s.net.best with
  | some x => if s.ptpOn x.1 && s.flag (Reg.ethStatus x.1.val) 0 && decide (s.gate.toNat ≤ s.net.bestAt.toNat + Config.announceTimeout)
      then some x else none
  | none => none

/-- The message is the chosen master's, or no master has announced itself yet (R284; log 64). -/
def State.fromMaster (s : State) (p : EthId) (m : PtpMessage) : Bool :=
  match s.bestMaster with
  | some x => x.1 == p && x.2.2 == m.source
  | none => true

/-- A PTP message leaves on a port (R283, R284). -/
def State.sendPtp (s : State) (p : EthId) (x : PtpSent) : State :=
  s.sendEth p.val [.ptp p.val (s.ethMac p.val) (s.ethIp p.val) (s.flag (Reg.ethPtpCtrl 0) 4)
    (BitVec.ofNat 8 (s.fld (Reg.ethPtpCtrl 0) 15 8)) x]

/-- The device's own TAI now (R285). -/
def State.ownTai (s : State) : W64 := s.taiAt s.gate

/-- A Sync's origin is known: the offset is measured, and the delay measured anew, end to end or with the neighbour (R284;
log 64). -/
def State.synced (s : State) (p : EthId) (origin : Nat) (arrival : W64) : State :=
  let s1 := s.sync ((origin : Int) + s.net.meanDelay - arrival.toNat)
  let moved := s1.reg (Reg.ethPtpOffset 0) - s.reg (Reg.ethPtpOffset 0)
  let s2 := s1.sendPtp p (if s.flag (Reg.ethPtpCtrl 0) 3 then .pdelayReq else .delayReq)
  { s2 with net := { s2.net with syncPair := some (origin, arrival + moved), syncWaits := none, requestAt := some s2.ownTai } }

/-- A delay response closes the measurement: half the two ways, or half the neighbour's round trip (R284). -/
def State.measured (s : State) (delay : Int) : State := { s with net := { s.net with meanDelay := delay, requestAt := none } }

/-- A message that the port listens to (R284). -/
def State.ptpTake (s : State) (p : EthId) (m : PtpMessage) : State :=
  let peer := s.flag (Reg.ethPtpCtrl 0) 3
  match m.body with
  | .announce rank =>
    let better := match s.bestMaster with
      | some x => decide (rank < x.2.1) || (x.1 == p && x.2.2 == m.source)
      | none => true
    if better then { s with net := { s.net with best := some (p, rank, m.source), bestAt := s.gate } } else s
  | .sync (some origin) => if s.fromMaster p m then s.synced p origin s.ownTai else s
  | .sync none => if s.fromMaster p m then { s with net := { s.net with syncWaits := some (m.source, s.ownTai) } } else s
  | .followUp origin => match s.net.syncWaits with
    | some (source, arrival) => if source = m.source ∧ s.fromMaster p m then s.synced p origin arrival else s
    | none => s
  | .delayResp received => match s.net.syncPair, s.net.requestAt with
    | some (origin, arrival), some sent =>
      if !peer && s.fromMaster p m then
        s.measured ((((arrival.toNat : Int) - origin) + ((received : Int) - sent.toNat)) / 2)
      else s
    | _, _ => s
  | .pdelayReq => if peer then s.sendPtp p (.pdelayResp s.ownTai s.ownTai) else s
  | .pdelayResp received sent => match s.net.requestAt with
    | some left => if peer then s.measured ((((s.ownTai.toNat : Int) - left.toNat) - ((sent : Int) - received)) / 2) else s
    | none => s
  | .other => s

/-- ETH_FRAME_RECEIVE (R283, R284): PTP is taken, every other frame is discarded and counted. -/
def execEthFrameReceive (p : EthId) (f : EthFrame) (s : State) : Out :=
  if !s.works || !s.flag (Reg.ethStatus p.val) 0 then ok s
  else match f with
    | .other => ok (s.inc (Reg.ethRxDiscardCount p.val) 32 1)
    | .ptp m => ok (if s.ptpHears p m then s.ptpTake p m else s)

/-- PTP_LOCK (R284): the offset has stayed within 1 µs for 10 s, as Syncs without a gap of 3 s show it. -/
def execPtpLock (s : State) : Out :=
  match s.net.withinSince with
  | some g => ok (if s.works && s.flag (Reg.ethPtpCtrl 0) 0 && decide (g.toNat + 10000000000 ≤ s.gate.toNat) && s.syncFresh then
      s.setFlag (Reg.ethPtpStatus 0) 0 true else s)
  | none => ok s

/-- PTP_LOCK_LOSS (R284, R285): 3 s without a Sync. The offset is held. -/
def execPtpLockLoss (s : State) : Out :=
  if s.works && s.flag (Reg.ethPtpStatus 0) 0 && decide (s.net.lastSync.toNat + 3000000000 ≤ s.gate.toNat) then
    ok { s.setFlag (Reg.ethPtpStatus 0) 0 false with net := { s.net with withinSince := none } }
  else ok s

end Sys2Proof.Machine
end

