-- ==== Sys2Proof/Machine/Power.lean ====
section
/-! DEFINITION. The log, trace points, event-queue scans, and power and heat (R349–R358, R364). -/

namespace Sys2Proof.Machine

/-! ## Log and trace (R349–R351) -/

/-- The 64 bytes of a log entry (R349, R350). -/
def logBytes (seq : Nat) (e : LogEntry) : List Byte :=
  ((leBytes 8 seq ++ leBytes 8 e.gate.toNat ++ leBytes 1 e.source ++ leBytes 1 e.level ++ leBytes 2 e.code ++
    e.args.flatMap (fun (a : W64) => leBytes 8 a.toNat)) ++ List.replicate 64 0).take 64

/-- The bytes that a SEQ selects: an entry not in the ring of 16,384 loads as zeros (R349). -/
def State.logAt (s : State) (seq : Nat) : List Byte :=
  let head := (s.reg Reg.ldgLogHead).toNat
  if seq = 0 ∨ head < seq ∨ seq + 16384 ≤ head then List.replicate 64 0
  else match s.lodge.log[seq - 1]? with
    | some e => logBytes seq e
    | none => List.replicate 64 0

/-- LOG_SELECT (R349): firmware loads the entry; while it is in reset only the selection changes. -/
def execLogSelect (seq : BitVec 64) (s : State) : Out :=
  let s1 := s.setReg Reg.ldgLogSel seq
  if s.lodge.inReset then ok s1
  else
    let bs := s.logAt seq.toNat
    ok ((List.range 8).foldl (fun s j => s.setReg (Reg.ldgLogData j) (BitVec.ofNat 64 (leAt bs (8 * j) 8))) s1)

/-- The 32 bytes of a trace record (R351). -/
def traceBytes (t : TracePoint) : List Byte :=
  leBytes 8 t.gate.toNat ++ leBytes 8 t.index.toNat ++ leBytes 4 t.pc.toNat ++ leBytes 2 t.imm.toNat ++
  leBytes 1 t.core.val ++ leBytes 1 0 ++ leBytes 2 t.ctx.val ++ leBytes 6 0

/-- Records of the trace ring (R351, R365). -/
def State.traceSlots (s : State) : Nat :=
  let n := s.fld Reg.ldgTraceCtrl 15 11
  2 ^ (if 8 ≤ n ∧ n ≤ 24 then n else 8)

/-- TRACE_RECORD_WRITE (R351): the oldest trace point is written and WPTR rises. A ring outside the DRAM it may lie in takes
no record: whether the point then counts as written or as dropped is a free value (R2; log 42). A record waits at a frozen controller
(R305). -/
def execTraceRecordWrite (s : State) : Out :=
  match s.lodge.traces with
  | [] => ok s
  | t :: r =>
    let base := (s.reg Reg.ldgTraceBase).toNat / 4096 * 4096
    let n := s.traceSlots
    let a := base + (s.reg Reg.ldgTraceWptr).toNat % n * 32
    if s.lodge.inReset || s.frozenAt a then ok s
    else
      let s1 := { s with lodge := { s.lodge with traces := r } }.takeNote (clusterFin t.core) .trace
      if s.plainDram base (32 * n) then ok ((s1.put a (traceBytes t)).inc Reg.ldgTraceWptr 64 1)
      else
        let d := s1.drawWord
        ok (if d.1.getLsbD 0 then d.2.inc Reg.ldgTraceWptr 64 1 else d.2.inc Reg.ldgTraceDropCount 32 1)

/-- EVENT_QUEUE_SCAN (R350, R364): firmware scans the cluster that overran, and says how many notifications were not queued. -/
def execEventQueueScan (c : ClusterId) (s : State) : Out :=
  let n := s.lodge.overruns[c]
  if s.lodge.inReset || n == 0 then ok s
  else ok ({ s with lodge := { s.lodge with overruns := s.lodge.overruns.set c 0 } }.logEntry 0 1 2
    [BitVec.ofNat 64 c.val, BitVec.ofNat 64 n])

/-! ## Power (R352–R357) -/

/-- The last n of a list. -/
def lastN (n : Nat) (l : List Nat) : List Nat := l.drop (l.length - n)

/-- The counts in the order of the fused energies (R352). -/
def powerCounts (e : PowerEvents) : List Nat :=
  e.slices.toList ++ [e.spin, e.vector, e.window, e.rows, e.lift, e.piste, e.dram, e.pipePixels, e.codecPixels, e.lanes]

/-- The estimate of package power in mW (R352): a static term, and the events of 2 µs times their energies in pJ at VDD_CORE; 2,000 pJ
in 2 µs are 1 mW. -/
def Power.estimate (p : Power) : Nat :=
  Config.staticPower p.vddCore p.hottest p.fuses.2 +
    ((p.events.zip p.fuses.1).map (fun x => x.1 * Config.scaledEnergy x.2 p.vddCore)).sum / 2000

/-- A regulator is silent: firmware has engaged the limiter at the effective cap (R354). -/
def Power.anySilent (p : Power) : Bool := p.silent.core || p.silent.sram

/-- The limiter engages above 1.10 × the effective cap or 300 W, with a silent regulator above the cap, and lets go below the cap
(R354, R355). -/
def Power.limits (p : Power) (mw : Nat) : Bool :=
  let cap := 1000 * p.effectiveCap
  if 11 * cap < 10 * mw ∨ 300000 < mw ∨ (p.anySilent = true ∧ cap < mw) then true else if mw < cap then false else p.limiter

/-- POWER_ESTIMATE (R352, R355): the estimate of the last 2 µs, and what the limiter does on it. -/
def execPowerEstimate (events : PowerEvents) (s : State) : Out :=
  if s.off then ok s
  else
    let p := { s.power with events := powerCounts events }
    ok { s with power := { p with estimates := lastN 500 (p.estimates ++ [p.estimate]), limiter := p.limits p.estimate } }

/-- The voltage that firmware commands next (R353, R354). -/
def State.nextVdd (s : State) : Nat :=
  let p := s.power
  let a := lastN 50 p.estimates
  let b := p.estimates
  let cap := 1000 * p.effectiveCap
  let v := p.vddCore
  max 650 (
    if a = [] then v
    else if cap * a.length < a.sum ∨ s.vddCeiling < v then v - 10
    else if 97 * cap * b.length < 100 * b.sum then v - 5
    else if 100 * b.sum < 92 * cap * b.length ∧ v < s.vddCeiling ∧ !p.hotThrottle then v + 5
    else v)

/-- A regulator that does not acknowledge three attempts is held at its voltage; firmware engages the limiter and says so (R350,
R354, R368). `core` tells VDD_CORE's regulator, whose rail select is byte 1 of the board configuration, from VDD_SRAM's at byte 2
(R344, R384). -/
def State.silentRail (s : State) (core : Bool) : State :=
  let rail := (s.lodge.board.getD (if core then 1 else 2) 0).toNat
  let silent : RailAcks := if core then { s.power.silent with core := true } else { s.power.silent with sram := true }
  ({ s with power := { s.power with silent := silent, limiter := true } }.report
    { mkReport s 0x0E 1 (unitNo 0x0D 0) 1 with detail := BitVec.ofNat 32 rail, firmware := true }).logEntry 2 2 2 [BitVec.ofNat 64 rail]

/-- One regulator is commanded to a voltage: the state, and whether its rail is there (R354, R384). -/
def State.command (s : State) (acks : RailAcks) (core : Bool) (mv : Nat) : State × Bool :=
  let p := s.power
  if (if core then p.vddCore else p.vddSram) = mv then (s, true)
  else if (if core then p.silent.core else p.silent.sram) then (s, !core && decide (mv ≤ p.vddSram))
  else if (if core then acks.core else acks.sram) then
    ({ s with power := if core then { p with vddCore := mv } else { p with vddSram := mv } }, true)
  else (s.silentRail core, false)

/-- The slope limits are those of the highest voltage that firmware may command before its next update (R357). -/
def State.setSlopes (s : State) : State :=
  let l := slopeLimits (max s.power.vddCore (min s.vddCeiling (s.power.vddCore + 5)))
  { s with power := { s.power with matrixLimit := l.1, vectorLimit := l.2 } }

/-- VDD_CORE is commanded to a voltage and VDD_SRAM to the higher of it and 0.75 V: on a rise VDD_SRAM moves first, on a fall
VDD_CORE; the second does not move where the first did not (R354, R357). -/
def State.commandVdd (s : State) (acks : RailAcks) (mv : Nat) : State :=
  let core := decide (mv < s.power.vddCore)
  let volts := fun (c : Bool) => if c then mv else max 750 mv
  let a := s.command acks core (volts core)
  (if a.2 then (a.1.command acks (!core) (volts (!core))).1 else a.1).setSlopes

/-- POWER_CONTROL_TICK (R354). -/
def execPowerControlTick (acked : RailAcks) (s : State) : Out :=
  if s.off || s.lodge.inReset || s.nextVdd = s.power.vddCore then ok s else ok (s.commandVdd acked s.nextVdd)

/-- POWER_MODE_WRITE (R350, R353, R365): ignored after a trip, and by a device that is stopped or held in reset; firmware applies it,
once it runs. -/
def execPowerModeWrite (v : BitVec 32) (s : State) : Out :=
  if s.power.tripped || s.off then ok s
  else
    let s1 := s.setReg Reg.pwrCtrl (BitVec.ofNat 64 (pwrValue v.toNat))
    if s.lodge.inReset then ok { s1 with power := { s1.power with capWritten := some (field v 10 2) } }
    else ok (s1.recap.logEntry 2 0 1 [BitVec.ofNat 64 (s1.fld Reg.pwrCtrl 1 0), BitVec.ofNat 64 (field v 10 2)])

/-! ## Heat (R358, R359) -/

/-- The hot figure: the highest reading of a sensor that passes (R358). -/
def hotFigure (l : List SensorReading) : Int :=
  ((l.filter (fun r => r.passes)).map (fun r => r.deciC)).foldl max (-1000)

/-- The thermal trip (R359). -/
def State.tripNow (s : State) : State :=
  let s1 := (s.shutDown true).inc Reg.pwrTripCount 32 1
  { s1 with power := { s1.power with tripped := true, thermtripLow := true } }

/-- What firmware does with a sample (R350, R358, R368). -/
def State.heat (s : State) (r : ThermalReadings) : State :=
  let l := r.sensors
  let hot : Int := hotFigure l
  let good := (l.filter (fun r => r.passes)).length
  let p := s.power
  let s1 := { s with power := { p with
    hotThrottle := decide (1000 ≤ hot) || (p.hotThrottle && decide (970 < hot))
    hotCap := decide (1050 ≤ hot) || (p.hotCap && decide (1000 ≤ hot))
    fewSensors := decide (good < 12) } }
  let s2 : State := if good < 12 ∧ !p.fewSensors then
      (s1.report { mkReport s 0x0E 1 (unitNo 0x0D 0) 2 with firmware := true }).logEntry 2 1 3 [BitVec.ofNat 64 good]
    else s1
  let s3 : State := s2.recap
  if 1000 ≤ hot ∧ 650 < s3.power.vddCore then s3.commandVdd r.acks (max 650 (s3.power.vddCore - 10)) else s3

/-- The sensors that read 115 °C or above, in any event of the tolerance of ±2 °C (R359; log 68). -/
def hotSensors (l : List SensorReading) : List Nat :=
  (l.zipIdx.filter (fun x => decide (1150 ≤ x.1.deciC))).map (·.2)

/-- THERMAL_SAMPLE (R358, R359): a sensor at 115 °C in two samples running trips, in the always-on domain, whatever the Lodge
does. -/
def execThermalSample (readings : ThermalReadings) (s : State) : Out :=
  if s.board.porLow || s.power.tripped then ok s
  else
    let hot := hotSensors readings.sensors
    let s1 := { s with power := { s.power with
      tripSensors := hot, hottest := (readings.sensors.map (·.deciC)).foldl max (-1000) } }
    ok (if hot.any s.power.tripSensors.contains then s1.tripNow
      else if s.power.stopped || s.lodge.inReset then s1 else s1.heat readings)

end Sys2Proof.Machine
end

