-- ==== Sys2Proof/Machine/Errors.lean ====
section
/-! DEFINITION. Counts that cross from the clockless side, and the error recorder (R37, R363, R366–R373). -/

namespace Sys2Proof.Machine

/-- COUNTER_DELTA_TRANSFER (R37, R363): the delta joins the register's count and is zero again. -/
def execCounterDeltaTransfer (offset : Nat) (s : State) : Out :=
  let d := lookupD 0 s.deltas offset
  if d = 0 ∨ s.off then ok s else ok ({ s with deltas := writeOne 0 s.deltas offset 0 }.transfer offset d)

/-! ## The recorder (R366–R372) -/

/-- A report goes before another: lower gate count, then lower UNIT, then lower class (R369). -/
def reportBefore (a b : Report) : Bool :=
  if a.gate.toNat ≠ b.gate.toNat then decide (a.gate.toNat < b.gate.toNat)
  else if a.unit ≠ b.unit then decide (a.unit < b.unit)
  else decide (a.cls < b.cls)

/-- Patrol holds the Lodge in reset, or has halted it (R346, R348). -/
def State.patrolHolds (s : State) : Bool := s.lodge.inReset && s.fld Reg.ldgPatrolStatus 1 0 != 0

/-- The report that the recorder takes next: firmware's wait while Patrol holds the Lodge in reset; those of a boot do not (R369,
R373). -/
def State.nextReport (s : State) : Option Report :=
  (sortWith reportBefore (s.reports.filter (fun r => !(r.firmware && s.patrolHolds)))).head?

/-- The 32 bytes of a record (R367). -/
def reportBytes (seq : Nat) (r : Report) : List Byte :=
  leBytes 4 seq ++ leBytes 1 r.cls ++ leBytes 1 r.severity ++ leBytes 2 r.unit ++ leBytes 8 r.gate.toNat ++
  leBytes 2 r.ctx ++ leBytes 2 r.cause ++ leBytes 4 r.detail.toNat ++ leBytes 8 r.addr.toNat

/-- The reports of a buffer: one, or the two of a Synchro pair (R368). -/
def reportParts (r : Report) : List Report :=
  match r.pair with
  | none => [r]
  | some x => [{ r with pair := none }, { r with pair := none, cause := 2, detail := x.1, addr := x.2 }]

/-- Four 64-bit words of a record into registers. -/
def State.putWords (s : State) (reg : Nat → Nat) (bs : List Byte) : State :=
  (List.range 4).foldl (fun s w => s.setReg (reg w) (BitVec.ofNat 64 (leAt bs (8 * w) 8))) s

/-- The recorder writes a record into the ring (R370). -/
def State.ringRecord (s : State) (r : Report) : State :=
  let n := (s.reg Reg.errWptr).toNat + 1
  (s.putWords (fun w => Reg.errRing (4 * ((n - 1) % 1024) + w)) (reportBytes n r)).setReg Reg.errWptr (BitVec.ofNat 64 n)

/-- Free slots of the error ring (R370). -/
def State.ringFree (s : State) : Nat := 1024 - ((s.reg Reg.errWptr).toNat - (s.reg Reg.errRptr).toNat)

/-- A report is counted and, as the first of its class, latched (R371). SEQ is the number of the record it becomes; a report that
writes none has no number, and its SEQ is a free value (log 43). -/
def State.countReport (s : State) (r : Report) (seq : Option Nat) : State :=
  let s1 := s.inc (Reg.errClassCount r.cls) 32 1
  if s1.flag Reg.errFirstValid r.cls then s1
  else match seq with
    | some n => (s1.putWords (Reg.errFirst r.cls) (reportBytes n r)).setFlag Reg.errFirstValid r.cls true
    | none =>
      let d := s1.drawWord
      (d.2.putWords (Reg.errFirst r.cls) (reportBytes d.1.toNat r)).setFlag Reg.errFirstValid r.cls true

/-- The recorder takes a report: it counts and latches it, and writes its record, or the two of a Synchro pair, as mask and room allow
(R366, R370–R372). -/
def State.accept (s : State) (r : Report) : State :=
  let parts := reportParts r
  let masked := !s.flag Reg.errRecMask r.cls
  let fits := decide (parts.length ≤ s.ringFree)
  let s1 := s.countReport r (if masked || !fits then none else some ((s.reg Reg.errWptr).toNat + 1))
  if masked then s1
  else if fits then parts.foldl State.ringRecord s1
  else (s1.setFlag Reg.errOvfStatus r.cls true).inc Reg.errOvfCount 32 1

/-- ERROR_REPORT_ACCEPT (R366, R369). -/
def execErrorReportAccept (s : State) : Out :=
  if s.off then ok s else
  match s.nextReport with
  | none => ok s
  | some r => ok ({ s with reports := s.reports.erase r }.accept r)

/-- ERR_RPTR_WRITE (R370): it only rises, up to WPTR. -/
def execErrRptrWrite (v : BitVec 64) (s : State) : Out :=
  ok (if (s.reg Reg.errRptr).toNat ≤ v.toNat ∧ v.toNat ≤ (s.reg Reg.errWptr).toNat then s.setReg Reg.errRptr v else s)

/-- FIRST_ERROR_REARM (R369, R371): the latches are armed again, and the reserved places serve again. -/
def execFirstErrorRearm (v : BitVec 32) (s : State) : Out :=
  let cleared := (List.range 16).filter (fun c => decide (1 ≤ c) && bit v c)
  let s1 := { s with reservedUsed := s.reservedUsed.filter (fun k => !cleared.contains (k % 16)) }
  ok (cleared.foldl (fun s c => s.setFlag Reg.errFirstValid c false) s1)

end Sys2Proof.Machine
end

