-- ==== Sys2Proof/Machine/LiftCmds.lean ====
section
/-! DEFINITION. The Lift commands and prefetch fills as commands of the block, with the end of a job whose request meets a frozen
controller (R155–R170, R305). -/

namespace Sys2Proof.Machine

/-- LCOPY (R162). -/
def execLcopy (k : CoreId) (n : Nat) (s : State) : Out := ok (s.engineEvent k (liftStep State.tileMetFrozen k n (some 1)))

/-- LSKEW (R163). -/
def execLskew (k : CoreId) (n : Nat) (s : State) : Out := ok (s.engineEvent k (liftStep State.tileMetFrozen k n (some 2)))

/-- LFILL (R162). -/
def execLfill (k : CoreId) (n : Nat) (s : State) : Out := ok (s.engineEvent k (liftStep State.tileMetFrozen k n (some 3)))

/-- STREAM_FILL (R170). -/
def execStreamFill (k : CoreId) (j : StreamNo) (s : State) : Out :=
  ok (if s.off then s else runFill (fun uid c va s => s.metFrozen uid c true va) s k j)

end Sys2Proof.Machine
end

