-- ==== Sys2Proof/Machine/Ports.lean ====
section
/-! DEFINITION. What every sensor port has beside its packets: the camera control master, frame-sync triggers, power over coax, and
the profile under which the Lodge runs it (R249–R253, R288–R290, R404). -/

namespace Sys2Proof.Machine

/-! ## Ports -/

/-- The port can receive: ports 0–11 need APHY_REFCLK (R392). -/
def State.portReceives (s : State) (n : PortId) : Bool := s.works && (decide (12 ≤ n.val) || !s.board.clocksLost.contains .aphy)

/-- Replace a port. -/
def State.setPortState (s : State) (n : PortId) (x : Port) : State := { s with ports := s.ports.set n x }

/-- An error report of class SENSOR (R368): block 5 a port, block 6 a pipe. -/
def State.sensorReport (s : State) (block inst cause detail : Nat) : State :=
  s.report { mkReport s 0x06 1 (unitNo block inst) cause with detail := BitVec.ofNat 32 detail }

/-! ## The camera control master (R249, R404) -/

/-- BUSY: a list runs or is armed. -/
def State.ccmBusy (s : State) (n : PortId) : Bool := (s.ports[n]).ccmArmed || (s.ports[n]).ccmRunning

/-- The list is over at a transaction: DONE, and INDEX and CAUSE (R249, R404). -/
def State.ccmStop (s : State) (n : PortId) (index cause : Nat) : State :=
  let done := s.setPortState n { s.ports[n] with ccmArmed := false, ccmRunning := false }
  let s1 := (((done.setFld (Reg.camCcmStatus n.val) 15 8 index).setFld (Reg.camCcmStatus n.val) 5 4 cause).setFlag
    (Reg.camCcmStatus n.val) 1 true).setFlag (Reg.camCcmStatus n.val) 0 false
  if cause = 0 then s1 else s1.sensorReport 5 n.val 6 index

/-- The list goes to a transaction: an entry with a reserved bit set stops it. -/
def State.ccmBegin (s : State) (n : PortId) (t : Nat) : State :=
  if s.fld (Reg.camCcmList n.val (2 * t)) 51 16 ≠ 0 then s.ccmStop n t 3
  else s.setPortState n { s.ports[n] with ccmArmed := false, ccmRunning := true, ccmIndex := t }

/-- The list starts. -/
def State.ccmStart (s : State) (n : PortId) : State :=
  ((s.setFlag (Reg.camCcmStatus n.val) 0 true).setFld (Reg.camCcmStatus n.val) 5 4 0).ccmBegin n 0

/-- A write of CAM_CCM_CTRL by one of the two parties: LAST and SPEED, then GO or ARM (R404). -/
def State.ccmWrite (s : State) (n : PortId) (lodge : Bool) (v : BitVec 32) : State :=
  if !s.works || lodge != s.lodgeOwns n || s.ccmBusy n then s
  else
    let s1 := (s.setFld (Reg.camCcmCtrl n.val) 13 8 (field v 13 8)).setFld (Reg.camCcmCtrl n.val) 5 4
      (if field v 5 4 = 3 then 1 else field v 5 4)
    if bit v 0 then s1.ccmStart n
    else if bit v 1 then
      (if (s1.reg (Reg.camCcmGate n.val)).toNat ≤ s1.gate.toNat then s1.ccmStart n
       else (s1.setFlag (Reg.camCcmStatus n.val) 0 true).setPortState n { s1.ports[n] with ccmArmed := true })
    else s1

/-- CCM_GO (R249, R404). -/
def execCcmGo (n : PortId) (lodge : Bool) (v : BitVec 32) (s : State) : Out := ok (s.ccmWrite n lodge (setBit v 0 true))

/-- CCM_ARM (R249, R404): GO and ARM written together act as GO. -/
def execCcmArm (n : PortId) (lodge : Bool) (v : BitVec 32) (s : State) : Out := ok (s.ccmWrite n lodge (setBit v 1 true))

/-- CCM_ARMED_START (R249): the gate count has reached the armed value. -/
def execCcmArmedStart (n : PortId) (s : State) : Out :=
  ok (if s.works && (s.ports[n]).ccmArmed && decide ((s.reg (Reg.camCcmGate n.val)).toNat ≤ s.gate.toNat) then s.ccmStart n else s)

/-- CCM_TRANSACTION_COMPLETE (R249, R404): a NACK stops the list; a read's bytes enter its data word. -/
def execCcmTransactionComplete (n : PortId) (nack : Bool) (data : BitVec 64) (s : State) : Out :=
  let t := (s.ports[n]).ccmIndex
  let w := s.reg (Reg.camCcmList n.val (2 * t))
  if !s.works || !(s.ports[n]).ccmRunning then ok s
  else if nack then ok (s.ccmStop n t 1)
  else
    let s1 := if bit w 56 then s.setFld (Reg.camCcmList n.val (2 * t + 1)) (8 * field w 54 52 + 7) 0 data.toNat else s
    ok (if t < s.fld (Reg.camCcmCtrl n.val) 13 8 then s1.ccmBegin n (t + 1) else s1.ccmStop n t 0)

/-- CCM_STRETCH_TIMEOUT (R249): clock stretching beyond 10 ms. -/
def execCcmStretchTimeout (n : PortId) (s : State) : Out :=
  ok (if s.works && (s.ports[n]).ccmRunning then s.ccmStop n (s.ports[n]).ccmIndex 2 else s)

/-! ## Frame-sync triggers (R250, R404) -/

/-- The first gate count of the schedule beyond a count. -/
def State.trigAfter (s : State) (n : PortId) (g : Nat) : Nat :=
  let start := (s.reg (Reg.camTrigStart n.val)).toNat
  let period := s.fld (Reg.camTrigPeriod n.val) 31 0
  if g < start then start else start + ((g - start) / period + 1) * period

/-- The next trigger of a schedule that is enabled, or that has changed: the first that is neither past nor issued. -/
def State.trigPlan (s : State) (n : PortId) : State :=
  s.setPortState n { s.ports[n] with
    trigNext := if s.reg (Reg.camTrigStart n.val) = s.gate ∧ (s.ports[n]).trigLast ≠ some s.gate.toNat then s.gate.toNat
                else s.trigAfter n s.gate.toNat }

/-- FRAME_SYNC_TRIGGER (R250): on ports 12–15 CAMn_TRIG rises for WIDTH µs; on ports 0–11 a message of the GPIO adaptation layer
leaves. -/
def execFrameSyncTrigger (n : PortId) (s : State) : Out :=
  let x := s.ports[n]
  if !s.works || !s.flag (Reg.camTrigCtrl n.val) 0 || decide (s.gate.toNat < x.trigNext) then ok s
  else ok (s.setPortState n { x with
    trigHigh := if 12 ≤ n.val then x.trigNext + s.fld (Reg.camTrigCtrl n.val) 19 10 * 1000 else x.trigHigh
    trigSent := if 12 ≤ n.val then x.trigSent else x.trigSent ++ [BitVec.ofNat 64 x.trigNext]
    trigLast := some x.trigNext
    trigNext := s.trigAfter n x.trigNext })

/-! ## Power over coax (R251–R253) -/

/-- States of a supervisor. -/
def pocOff : Nat := 0
/-- On. -/
def pocOn : Nat := 1
/-- Waiting to retry. -/
def pocWait : Nat := 2
/-- Latched off. -/
def pocLatched : Nat := 3

/-- STATE of a supervisor. -/
def State.pocState (s : State) (n : PortId) : Nat := s.fld (Reg.camPocStatus n.val) 3 2

/-- Go to a state; the pin follows, and a switch-on starts the blanking. -/
def State.pocGo (s : State) (n : PortId) (st : Nat) : State :=
  (s.setFld (Reg.camPocStatus n.val) 3 2 st).setPortState n { s.ports[n] with
    pocPin := st == pocOn, blanking := st == pocOn && s.fld (Reg.camPocCtrl n.val) 17 11 != 0 }

/-- CAM_POC_CTRL after a write: RETRY_DELAY and TRIP outside their ranges read back as 100 and 30 (R253). -/
def pocValue (v : BitVec 32) : Nat :=
  let d := field v 27 18
  let t := field v 10 4
  field v 30 28 * 2 ^ 28 + (if 10 ≤ d ∧ d ≤ 1000 then d else 100) * 2 ^ 18 + field v 17 11 * 2 ^ 11 +
    (if 5 ≤ t ∧ t ≤ 80 then t else 30) * 16 + (bit v 0).toNat

/-- A write of CAM_POC_CTRL (R252). -/
def State.pocWrite (s : State) (n : PortId) (v : BitVec 32) : State :=
  if !s.works || decide (12 ≤ n.val) then s
  else
    let s1 := s.setReg (Reg.camPocCtrl n.val) (BitVec.ofNat 64 (pocValue v))
    if !bit v 0 then s1.pocGo n pocOff
    else if s.pocState n = pocOff ∨ s.pocState n = pocLatched then (s1.setFld (Reg.camPocStatus n.val) 15 8 0).pocGo n pocOn
    else s1

/-- POC_ENABLE (R252). -/
def execPocEnable (n : PortId) (v : BitVec 32) (s : State) : Out := ok (s.pocWrite n (setBit v 0 true))

/-- POC_DISABLE (R252). -/
def execPocDisable (n : PortId) (v : BitVec 32) (s : State) : Out := ok (s.pocWrite n (setBit v 0 false))

/-- The trip level in force, in mA: 800 while blanking (R251). -/
def State.tripLevel (s : State) (n : PortId) : Nat :=
  if (s.ports[n]).blanking then 800 else s.fld (Reg.camPocCtrl n.val) 10 4 * 10

/-- POC_TRIP (R251, R252): the sensed current exceeds the level in force. -/
def execPocTrip (n : PortId) (mA : Nat) (s : State) : Out :=
  if !s.works || decide (12 ≤ n.val) || s.pocState n != pocOn || decide (mA ≤ s.tripLevel n) then ok s
  else ok ((((s.pocGo n pocWait).setFlag (Reg.camPocStatus n.val) 4 true).inc (Reg.camPocTripCount n.val) 32 1).sensorReport 5 n.val 1 0)

/-- POC_RETRY (R252): RETRY_DELAY is over. -/
def execPocRetry (n : PortId) (s : State) : Out :=
  let r := s.fld (Reg.camPocStatus n.val) 15 8
  if !s.works || decide (12 ≤ n.val) || s.pocState n != pocWait then ok s
  else if r < s.fld (Reg.camPocCtrl n.val) 30 28 then ok ((s.setFld (Reg.camPocStatus n.val) 15 8 (r + 1)).pocGo n pocOn)
  else ok ((s.pocGo n pocLatched).sensorReport 5 n.val 2 0)

/-- POC_BLANKING_END (R251). -/
def execPocBlankingEnd (n : PortId) (s : State) : Out :=
  ok (if s.works then s.setPortState n { s.ports[n] with blanking := false } else s)

/-- POC_OPEN (R251): a current below 5 mA for 10 ms while the switch is on. It does not switch off. -/
def execPocOpen (n : PortId) (mA : Nat) (s : State) : Out :=
  ok (if s.works && decide (n.val < 12) && s.pocState n == pocOn && decide (mA < 5) then
    (s.setFlag (Reg.camPocStatus n.val) 5 true).sensorReport 5 n.val 3 0 else s)

/-! ## Profiles (R288–R290) -/

/-- The encoder block of a profile without one (R289), with a RING_LOG2 and a VID in range that nothing uses. LEVEL, SRC_PORT, QP_I and QP_P are not given: values of the
configuration. -/
def defaultBlock (id : Nat) (q : Config.PortProfile) (ports : List Config.EthProfile) : List Byte :=
  let px := codecBranch.geo q.set 4 * codecBranch.geo q.set 5
  let rate := if 8294400 ≤ px then 12000 else if 2073600 ≤ px then 6000 else 2000
  let group := (id * 16 + q.port) % 65536
  let out := (if ports.any (fun x => x.port == 0) then 2 else 0) + (if ports.any (fun x => x.port == 1) then 4 else 0)
  let b := [0, BitVec.ofNat 8 Config.defaultLevel.val, 0, 1] ++ leBytes 4 rate ++ leBytes 4 rate ++ leBytes 2 500 ++
    leBytes 1 Config.defaultQp.val ++ leBytes 1 Config.defaultQp.val ++ [10, 45] ++
    leBytes 2 (2 * 1000000000 / q.trigPeriod) ++ leBytes 2 0 ++ [8, BitVec.ofNat 8 out] ++ List.replicate 8 0 ++ [16, 0, 0, 0] ++
    leBytes 4 (0xEFC00000 + group) ++ leBytes 2 5004 ++ leBytes 2 Config.defaultSource.toNat ++
    [0x01, 0x00, 0x5E, 0x40, BitVec.ofNat 8 (group / 256), BitVec.ofNat 8 group] ++ [16, 34, 96, 0, 1, 0] ++
    leBytes 4 (id * 65536 + q.port) ++ leBytes 2 1500
  b ++ List.replicate (256 - b.length) 0

/-- The encoder block that a profile gives its stream. -/
def State.profileBlock (s : State) (x : Config.ProfileSet) (q : Config.PortProfile) : List Byte :=
  match q.encoder with
  | some b => b
  | none => defaultBlock s.devId q x.eth

/-- A profile's sets become pending for its stream (R288, R290). -/
def State.commitProfile (s : State) (x : Config.ProfileSet) (q : Config.PortProfile) (p : PipeId) (st : StreamId) : State :=
  let i := encOf p st
  let s1 := (s.putRegBytes (Reg.ispShadow p.val st.val) (cleanBytes setBytes (q.set.take 4096))).setFlag (Reg.ispPending p.val) st.val true
  if setEnable q.set 0 then (s1.putRegBytes (Reg.vcShadow i.val) (cleanBytes blockBytes ((s.profileBlock x q).take 256))).setFlag Reg.vcEncPending i.val true else s1

/-- Every part of a profile keeps its ranges (R249, R250, R253, R259, R279, R288). -/
def State.profileOk (s : State) (x : Config.ProfileSet) (q : Config.PortProfile) : Bool :=
  let b := s.profileBlock x q
  decide (q.port < 16) && decide (q.pipe < 2) && decide (q.stream < 16) &&
  (decide (12 ≤ q.port) || (pocValue q.poc % 2 ^ 28 / 16 * 16 == q.poc.toNat % 2 ^ 28 / 16 * 16 && decide (field q.poc 17 11 ≤ 100))) &&
  decide (field q.ccm 5 4 ≤ 2) && decide (q.list.length ≤ 128) &&
  (List.range 64).all (fun t => field (q.list.getD (2 * t) 0) 51 16 == 0) &&
  decide (1 ≤ q.trigWidth) && decide (q.trigWidth ≤ 1000) && decide (1000000 ≤ q.trigPeriod) && decide (q.trigPeriod ≤ 4000000000) &&
  setPort q.set == q.port && setOk q.pipe q.set &&
  (!setEnable q.set 0 || s.encOk b (codecBranch.geo q.set 4, codecBranch.geo q.set 5, leAt q.set 0x68C 1))

/-- The Lodge's record of a profile or an Ethernet port left down (R288, R368). -/
def State.profileReport (s : State) : State := s.report { mkReport s 0x06 1 (unitNo 0x0B 0) 5 with firmware := true }

/-- A profiled port is brought up, or returned to its profile: power over coax, the list, the sets, the triggers (R288, R290; a list
that runs already goes on, R404). -/
def State.startPort (s : State) (x : Config.ProfileSet) (q : Config.PortProfile) : State :=
  if !s.profileOk x q then s.profileReport
  else
    let n : PortId := Fin.ofNat 16 q.port
    let s1 := (s.setFlag Reg.vcSaOwner n.val true).pocWrite n (setBit q.poc 0 true)
    let listed := if s1.ccmBusy n then s1 else (q.list.zipIdx).foldl (fun s w => s.setReg (Reg.camCcmList n.val w.2) w.1) s1
    let s2 := listed.ccmWrite n true (setField q.ccm 1 0 1)
    let s3 := s2.commitProfile x q (Fin.ofNat 2 q.pipe) (Fin.ofNat 16 q.stream)
    (((s3.setReg (Reg.camTrigStart n.val) q.trigStart).setReg (Reg.camTrigPeriod n.val) (BitVec.ofNat 64 q.trigPeriod)).setReg
      (Reg.camTrigCtrl n.val) (BitVec.ofNat 64 (q.trigWidth * 1024 + 1))).trigPlan n

end Sys2Proof.Machine
end

