-- ==== Sys2Proof/Machine/Sensors.lean ====
section
/-! DEFINITION. CSI-2 packets, frame assembly, store destinations, parameter sets, ownership and stand-alone operation (R14,
R246–R248, R255–R259, R270–R274, R288–R290). -/

namespace Sys2Proof.Machine

/-! ## Ports and streams -/

/-- A stream context. -/
def State.stream (s : State) (p : PipeId) (st : StreamId) : Stream := (s.streams[p])[st]

/-- Replace a stream context. -/
def State.setStream (s : State) (p : PipeId) (st : StreamId) (x : Stream) : State :=
  { s with streams := s.streams.set p ((s.streams[p]).set st x) }

/-- The exposure that a set gives a port's virtual channel. A set whose EXPOSURES is 0 is matched by its first channel, and so is
stopped by it (R259). -/
def exposureOf (l : List Byte) (n : PortId) (vc : Nat) : Option Nat :=
  if l ≠ [] ∧ setPort l = n.val then (List.range (max 1 (min (setExposures l) 3))).find? (fun e => setVc l e == vc) else none

/-- A set names a port and a channel that exist: a frame start can bring it (R259). -/
def namesPort (l : List Byte) : Bool := decide (setPort l < 16) && decide (setVc l 0 ≤ 3)

/-- A frame start of the stream waits. -/
def Stream.startWaits (x : Stream) : Bool := x.arrived.any (fun a => a == .frameStart 0)

/-- The shadow set of the stream is pending. -/
def State.setPending (s : State) (p : PipeId) (st : StreamId) : Bool := s.flag (Reg.ispPending p.val) st.val

/-- The set under which an arriving packet is matched: the pending one for a frame start and for what follows it, where that names a
port (R258, R259; log 54). -/
def State.matchSet (s : State) (p : PipeId) (st : StreamId) (start : Bool) : List Byte :=
  let l := s.regBytes (Reg.ispShadow p.val st.val) 1
  if s.setPending p st && (start || (s.stream p st).startWaits) && namesPort l then l else (s.stream p st).known

/-- The number of the next long packet at a port. -/
def State.packetNo (s : State) (n : PortId) : PacketNo := ⟨n.val, (s.ports[n]).packets⟩

/-- What a packet is to a stream, where the stream's port, channel and data type match (R248). -/
def State.arrival (s : State) (n : PortId) (k : Csi2Packet) (p : PipeId) (st : StreamId) : Option Arrived :=
  let dt := k.dt.toNat
  let l := s.matchSet p st (dt == 0)
  match exposureOf l n k.vc with
  | none => none
  | some e =>
    if k.ecc = .uncorrectable then (if 16 ≤ dt then some (.lost true) else none)
    else if dt = 0 then some (.frameStart e)
    else if dt = 1 then some (.frameEnd e)
    else if dt = 0x12 then (if e = 0 then some (.embedded k.crcOk k.payload (s.packetNo n)) else none)
    else if dt = setDt l then some (.line e k.crcOk k.payload (s.packetNo n))
    else none

/-- Line synchronisation short packets are accepted and say nothing (R247). -/
def lineSync (dt : Nat) : Bool := dt == 2 || dt == 3

/-- Data types that a port takes (R247). -/
def typeTaken (dt : Nat) : Bool := decide (dt ≤ 3) || dt == 0x12 || pixelType dt

/-- A waiting packet in an input buffer, with its bytes. -/
def Arrived.held : Arrived → List (PacketNo × Nat)
  | .line _ _ b no => [(no, b.length)]
  | .embedded _ b no => [(no, b.length)]
  | _ => []

/-- All stream contexts. -/
def allStreams : List (PipeId × StreamId) := (List.finRange 2).flatMap (fun p => (List.finRange 16).map (fun st => (p, st)))

/-- The packets of a stream that are in input buffers: those that wait, and lines whose other exposures have not come (R257). -/
def Stream.packets (x : Stream) : List (PacketNo × Nat) :=
  x.arrived.flatMap Arrived.held ++ (match x.frame with
    | some f => f.held.map (·.2)
    | none => [])

/-- Bytes in a port's input buffer: a packet that several streams wait for is there once (R257). -/
def State.buffered (s : State) (n : PortId) : Nat :=
  ((((allStreams.flatMap (fun x => (s.stream x.1 x.2).packets)).filter (fun q => q.1.port == n.val)).dedup).map (·.2)).sum

/-- A stopped stream takes nothing but a frame start that brings a new set, and what follows it (R259). -/
def State.goesOn (s : State) (p : PipeId) (st : StreamId) (start : Bool) : Bool :=
  !(s.stream p st).stopped || (s.setPending p st && (start || (s.stream p st).startWaits))

/-- The stream takes the packet. -/
def State.takes (s : State) (p : PipeId) (st : StreamId) (a : Arrived) : Bool := s.goesOn p st (a == .frameStart 0)

/-- A packet waits at a stream. -/
def State.deliver (s : State) (p : PipeId) (st : StreamId) (a : Arrived) : State :=
  let x := s.stream p st
  s.setStream p st { x with arrived := x.arrived ++ [a] }

/-- A line synchronisation packet says nothing: it is counted where it matches no stream, or stopped ones alone (R247, R259). -/
def State.syncPacket (s : State) (n : PortId) (vc : Nat) : State :=
  let ms := allStreams.filter (fun x => (exposureOf (s.matchSet x.1 x.2 false) n vc).isSome)
  if ms.isEmpty then s.inc (Reg.camCntUnmatched n.val) 32 1
  else if ms.any (fun x => s.goesOn x.1 x.2 false) then s
  else s.inc (Reg.camCntDiscard n.val) 32 1

/-- A packet with a good or corrected header goes to the streams it matches; a long packet that the input buffer cannot hold is lost
(R247, R248, R257, R259). -/
def State.route (s : State) (n : PortId) (k : Csi2Packet) (ms : List (PipeId × StreamId × Arrived)) : State :=
  let dt := k.dt.toNat
  let live := ms.filter (fun m => s.takes m.1 m.2.1 m.2.2)
  if lineSync dt then s.syncPacket n k.vc
  else if ms.isEmpty then s.inc (Reg.camCntUnmatched n.val) 32 1
  else if live.isEmpty then s.inc (Reg.camCntDiscard n.val) 32 1
  else if dt < 16 then live.foldl (fun s m => s.deliver m.1 m.2.1 m.2.2) s
  else
    let s1 := if k.crcOk then s else s.inc (Reg.camCntCrc n.val) 32 1
    if 98304 < s1.buffered n + k.payload.length then
      live.foldl (fun s m => s.deliver m.1 m.2.1 (.lost false)) (s1.inc (Reg.camCntOverrun n.val) 32 1)
    else live.foldl (fun s m => s.deliver m.1 m.2.1 m.2.2)
      (s1.setPortState n { s1.ports[n] with packets := (s1.ports[n]).packets + 1 })

/-! ## Store destinations (R14, R270, R271) -/

/-- The destination that a set names (R259). -/
def setDest (l : List Byte) : DestId := Fin.ofNat 16 (leAt l 0x714 1)

/-- The first free slot after the one used last, in rotation (R270). -/
def Standing.freeSlot? (x : Standing) : Option Nat :=
  ((List.range x.slots).map (fun i => (x.lastSlot + 1 + i) % x.slots)).find? (fun k => !bit x.held k)

/-- A frame is skipped at a destination: it is counted there (R14). -/
def State.countSkip (s : State) (d : DestId) : State := s.inc (Reg.ispDestSkipCount (d.val / 8) (d.val % 8)) 32 1

/-- A frame reaches a destination: it takes a slot, or is skipped, as every frame of a parked context is. A frame whose slots have
no place, the model not being resident, is skipped like one that finds every slot held: a choice of the model (log 111). The
answer is its number and slot (R14, R240, R243, R270). -/
def State.offerSlot (s : State) (d : DestId) : State × Option (W64 × Nat) :=
  match s.bound d with
  | none => (s.countSkip d, none)
  | some x =>
    if x.unbinding.isSome then (s.countSkip d, none)
    else match (if s.ctxRuns x.ctx then x.freeSlot? else none), s.slotBase x with
      | some k, some _ => (s.takeNumber d x (some k), some (x.seqNo + 1, k))
      | _, _ => ((s.skipBound d).countSkip d, none)

/-- A frame that holds a slot is skipped after all (R271, R347). -/
def State.skipHeld (s : State) (c : CtxId) (d : DestId) (n : W64) (k : Nat) : State :=
  ((s.freeSlot c d k).skipFrame c d n).countSkip d

/-- SLOT_RELEASE (R271): DONE_LOW has passed the index that the model names. -/
def execSlotRelease (d : DestId) (slot : SlotNo) (s : State) : Out :=
  if s.lodge.inReset then ok s
  else match s.bound d with
    | none => ok s
    | some x => match x.slotJobs.find? (fun p => p.1 == slot.val), (s.model? x.ctx x.model).bind (fun m => m.image.bind (·.input)) with
      | some (_, uid), some im => match s.jobs.find? (fun j => j.uid == uid) with
        | some j => match s.jobCounter j im.counter with
          | some c => ok (if im.index < c.doneLow then s.freeSlot x.ctx d slot.val else s)
          | none => ok s
        | none => ok s
      | _, _ => ok s

/-! ## Frames (R255–R258) -/

/-- Raise a flag of a frame (R273). -/
def Frame.mark (f : Frame) (i : Nat) : Frame := { f with flags := setBit f.flags i true }

/-- The static defect table of a pipe (R405). -/
def State.defects (s : State) (p : PipeId) : List Nat :=
  (List.range 8192).flatMap (fun i =>
    let v := (s.reg (Reg.ispDefects p.val + 8 * i)).toNat
    [v % 2 ^ 32, v / 2 ^ 32])

/-- The last line of a frame has left the pipe: its codec copy is whole, and a frame whose flags SKIPMASK names is skipped at
its destination (R268, R271). -/
def State.lastLine (s : State) (p : PipeId) (st : StreamId) (f : Frame) : State × Frame :=
  let s1 := match f.coded with
    | some n => s.fillEnc (encOf p st) n (pictureOf f.set (s.defects p) f.lines)
    | none => s
  match f.slot with
  | some (n, k) => if (f.flags.toNat % 256) &&& leAt f.set 0x018 1 != 0 then (s1.skipHeld f.slotCtx (setDest f.set) n k, { f with slot := none })
      else (s1, f)
  | none => (s1, f)

/-- A closed frame goes on towards its destination, where it still has one. -/
def State.pass (s : State) (p : PipeId) (st : StreamId) (f : Frame) : State :=
  if f.firstOut then
    let r := s.lastLine p st f
    let x := r.1.stream p st
    if r.2.slot.isSome then r.1.setStream p st { x with out := x.out ++ [r.2] } else r.1
  else
    let x := s.stream p st
    s.setStream p st { x with out := x.out ++ [f] }

/-- The open frame closes, with a flag of its cause: missing lines are FILL (R255, R256). -/
def State.closeFrame (s : State) (p : PipeId) (st : StreamId) (cause : Option Nat) : State :=
  let x := s.stream p st
  match x.frame with
  | none => s
  | some f =>
    let f1 := match cause with
      | some i => f.mark i
      | none => f
    let short := decide (0 < filledLines f.set f.lines) || cause == some 7
    let f2 := { (if short then f1.mark 0 else f1) with endGate := s.gate, held := [] }
    let n := setPort f.set
    let s1 := (s.setStream p st { x with frame := none }).inc (Reg.camCntFrames n) 32 1
    let s2 := if short then s1.inc (Reg.camCntShort n) 32 1 else s1
    let s3 := if bit f2.flags 1 then s2.inc (Reg.camCntLong n) 32 1 else s2
    s3.pass p st f2

/-- A pending set becomes active at a frame start; an invalid one stops the stream (R258, R259). -/
def State.applySet (s : State) (p : PipeId) (st : StreamId) : State :=
  if !s.setPending p st then s
  else
    let l := s.regBytes (Reg.ispShadow p.val st.val) 512
    let s1 := (s.putRegBytes (Reg.ispActive p.val st.val) l).setFlag (Reg.ispPending p.val) st.val false
    let x := s1.stream p st
    let y := { x with known := if namesPort l then l.take 6 else x.known }
    if setOk p.val l then s1.setStream p st { y with stopped := false }
    else ((s1.setStream p st { y with stopped := true }).setFlag (Reg.ispStreamErr p.val) st.val true).sensorReport 6 p.val 4 st.val

/-- A return to the port's profile (R290): what its start did, with an IDR frame. -/
def State.returnToProfile (s : State) (n : Nat) : State :=
  match Config.profileSet s.lodge.profile with
  | none => s
  | some x => match x.ports.find? (fun q => q.port == n) with
    | none => s
    | some q =>
      let i := encOf (Fin.ofNat 2 q.pipe) (Fin.ofNat 16 q.stream)
      let s1 := s.startPort x q
      s1.setEnc i { s1.enc[i] with idrNext := true }

/-- A pending change of the port's owner applies at the port's frame start (R290). -/
def State.applyOwner (s : State) (n : PortId) : State :=
  match (s.ports[n]).ownerPending with
  | none => s
  | some lodge =>
    let s1 := (s.setPortState n { s.ports[n] with ownerPending := none }).setFlag Reg.vcSaOwner n.val lodge
    if lodge then s1.returnToProfile n.val else s1

/-- CSI2_PACKET (R247, R248, R255, R257, R290): a frame start that no stream takes brings what is pending for the port's owner too. -/
def execCsi2Packet (n : PortId) (k : Csi2Packet) (s : State) : Out :=
  if !s.portReceives n then ok s
  else
    let ms := allStreams.filterMap (fun x => (s.arrival n k x.1 x.2).map (fun a => (x.1, x.2, a)))
    match k.ecc with
    | .uncorrectable =>
      ok ((ms.filter (fun m => s.takes m.1 m.2.1 m.2.2)).foldl (fun s m => s.deliver m.1 m.2.1 m.2.2) (s.inc (Reg.camCntHdrErr n.val) 32 1))
    | _ =>
      let s1 := if k.ecc = .corrected then s.inc (Reg.camCntEccFix n.val) 32 1 else s
      if k.vcx ≠ 0 ∨ 3 < k.vc ∨ !typeTaken k.dt.toNat then ok (s1.inc (Reg.camCntDiscard n.val) 32 1)
      else
        let s2 := s1.route n k ms
        ok (if k.dt = 0 ∧ !ms.any (fun m => s.takes m.1 m.2.1 m.2.2) then s2.applyOwner n else s2)

/-- FRAME_START (R255, R258, R279, R290): the frame start of the first exposure closes an open frame, applies what is pending
and opens a frame. -/
def execFrameStart (p : PipeId) (st : StreamId) (s : State) : Out :=
  let x := s.stream p st
  match x.arrived with
  | .frameStart e :: rest =>
    if !s.works then ok s
    else
      let n : PortId := Fin.ofNat 16 (setPort (s.matchSet p st true))
      let s1 := s.setStream p st { x with arrived := rest }
      if e ≠ 0 then ok (if x.stopped then s1.inc (Reg.camCntDiscard n.val) 32 1 else s1)
      else
        let s2 := (((s1.closeFrame p st (some 6)).applyOwner n).applySet p st).applyEnc (encOf p st)
        let y := s2.stream p st
        ok (if y.stopped then s2.inc (Reg.camCntDiscard n.val) 32 1
          else s2.setStream p st { y with frame := some ⟨s2.activeSet p st, 0, [], 0, [], [], s.gate, 0, false, none, 0, none, [], s2.encBlock (encOf p st)⟩ })
  | _ => ok s

/-- FRAME_END (R255): the frame closes when the frame end of each of its exposures has come (log 54). -/
def execFrameEnd (p : PipeId) (st : StreamId) (s : State) : Out :=
  let x := s.stream p st
  match x.arrived with
  | .frameEnd e :: rest =>
    if !s.works then ok s
    else
    let s1 := s.setStream p st { x with arrived := rest }
    (match x.frame with
     | none => ok (if x.stopped then s1.inc (Reg.camCntDiscard (setPort x.known)) 32 1 else s1)
     | some f =>
       let f1 := { f with ended := if f.ended.contains e then f.ended else e :: f.ended }
       let s2 := s1.setStream p st { x with arrived := rest, frame := some f1 }
       ok (if setExposures f.set ≤ f1.ended.length then s2.closeFrame p st none else s2))
  | _ => ok s

/-- A line is placed: cut or padded to WIDTH, or discarded beyond HEIGHT (R255). -/
def Frame.place (f : Frame) (e : Nat) (crcOk : Bool) (bs : List Byte) : Frame :=
  let px := unpackPixels (setDt f.set) bs
  let f1 := if crcOk then f else { f with crcFails := f.crcFails + 1 }.mark 4
  if setHeight f.set ≤ linesOf f.lines e then { f1 with lines := f1.lines ++ [(e, [])] }.mark 1
  else
    let f2 := { f1 with lines := f1.lines ++ [(e, px.take (setWidth f.set))] }
    if px.length = setWidth f.set then f2 else f2.mark 2

/-- A line waits for its other exposures; with all of them there the pipe takes the line, and its bytes leave the input buffer
(R257). The answer says whether it did. -/
def Frame.hold (f : Frame) (e : Nat) (no : PacketNo) (bytes : Nat) : Frame × Bool :=
  let all := f.held ++ [(e, no, bytes)]
  let es := List.range (setExposures f.set)
  if es.all (fun i => all.any (fun h => h.1 == i)) then
    ({ f with held := es.foldl (fun l i => l.eraseP (fun h => h.1 == i)) all }, true)
  else ({ f with held := all }, false)

/-- The stream's next line is complete with every exposure (R257). -/
def Stream.lineReady (x : Stream) : Bool :=
  match x.arrived, x.frame with
  | .line e _ bs no :: _, some f => decide (linesOf f.lines e < setHeight f.set) && (f.hold e no bs.length).2
  | _, _ => false

/-- The pipe serves in rotation the streams whose next line is complete (R257). -/
def State.lineTurn (s : State) (p : PipeId) (st : StreamId) : Bool :=
  !(s.stream p st).lineReady ||
  ((List.range 16).map (fun i => (Fin.ofNat 16 ((s.pipeTurn[p]).val + 1 + i) : StreamId))).find? (fun j => (s.stream p j).lineReady) == some st

/-- A line enters its frame: one that its height has room for is held until the pipe takes it. -/
def Frame.takeLine (f : Frame) (e : Nat) (crcOk : Bool) (bs : List Byte) (no : PacketNo) : Frame :=
  let g := f.place e crcOk bs
  if linesOf f.lines e < setHeight f.set then (g.hold e no bs.length).1 else g

/-- LINE_PACKET (R248, R255–R257, R259): packets of a stream that an invalid set has stopped are discarded and counted. -/
def execLinePacket (p : PipeId) (st : StreamId) (s : State) : Out :=
  let x := s.stream p st
  let put := fun (rest : List Arrived) (f : Frame) => s.setStream p st { x with arrived := rest, frame := some f }
  let drop := fun (rest : List Arrived) => s.setStream p st { x with arrived := rest }
  let port := setPort x.known
  if !s.works then ok s
  else match x.arrived, x.frame with
  | .line e crcOk bs no :: rest, some f =>
    if !s.lineTurn p st then ok s
    else
      let wrong := decide (linesOf f.lines e < setHeight f.set) && (unpackPixels (setDt f.set) bs).length != setWidth f.set
      let s1 := put rest (f.takeLine e crcOk bs no)
      let s2 := if x.lineReady then { s1 with pipeTurn := s1.pipeTurn.set p st } else s1
      ok (if wrong then s2.inc (Reg.camCntLinelen (setPort f.set)) 32 1 else s2)
  | .line _ _ _ _ :: rest, none => ok ((drop rest).inc (if x.stopped then Reg.camCntDiscard port else Reg.camCntOrphan port) 32 1)
  | .embedded crcOk bs _ :: rest, some f =>
    let f1 := { f with embedded := (f.embedded ++ bs).take 384 }
    ok (put rest (if crcOk then f1 else { f1 with crcFails := f1.crcFails + 1 }.mark 4))
  | .lost header :: rest, some f => ok (put rest (f.mark (if header then 3 else 5)))
  | .embedded _ _ _ :: rest, none => ok (if x.stopped then (drop rest).inc (Reg.camCntDiscard port) 32 1 else drop rest)
  | .lost _ :: rest, none => ok (drop rest)
  | _, _ => ok s

/-- FRAME_TIMEOUT (R255): no frame end within FRAME_TIMEOUT of the frame start. -/
def execFrameTimeout (p : PipeId) (st : StreamId) (s : State) : Out :=
  match (s.stream p st).frame with
  | none => ok s
  | some f => ok (if s.works && decide (f.startGate.toNat + setTimeout f.set * 1000000 ≤ s.gate.toNat) then s.closeFrame p st (some 7)
      else s)

/-- A frame's first line leaves the pipe: the codec branch takes an input buffer and the store branch a slot, each on its own
(R13, R14, R270, R276). -/
def State.firstLine (s : State) (p : PipeId) (st : StreamId) (f : Frame) : State × Frame :=
  let r1 := if setEnable f.set 0 then s.offerEnc (encOf p st) f.startGate f.block else (s, none)
  let r2 := if setEnable f.set 1 then r1.1.offerSlot (setDest f.set) else (r1.1, none)
  let c := match s.bound (setDest f.set) with
    | some x => x.ctx
    | none => 0
  (r2.1, { f with firstOut := true, coded := r1.2, slot := r2.2, slotCtx := c })

/-- A first line, with every exposure, has come (R257). -/
def Frame.hasLine (f : Frame) : Bool := (List.range (setExposures f.set)).all (fun e => decide (0 < linesOf f.lines e))

/-- FRAME_FIRST_LINE_OUT (R14, R257): the oldest frame of the stream whose first line has not left. -/
def execFrameFirstLineOut (p : PipeId) (st : StreamId) (s : State) : Out :=
  if !s.works then ok s
  else
    let x := s.stream p st
    match x.out.find? (fun f => !f.firstOut), x.frame with
    | some f, _ =>
      let s1 := s.setStream p st { x with out := x.out.erase f }
      let r := s1.firstLine p st f
      ok (r.1.pass p st r.2)
    | none, some f =>
      if f.firstOut || !f.hasLine then ok s
      else
        let r := s.firstLine p st f
        ok (r.1.setStream p st { r.1.stream p st with frame := some r.2 })
    | none, none => ok s

/-! ## The descriptor and the job (R16, R214, R232, R270, R273) -/

/-- The descriptor row. -/
def descriptorRow (f : Frame) (n : W64) (k defects : Nat) (t : ConvTally) : List Byte :=
  leBytes 8 n.toNat ++ leBytes 1 (setPort f.set) ++ leBytes 1 k ++ leBytes 2 f.flags.toNat ++ leBytes 2 (linesOf f.lines 0) ++
  leBytes 2 (filledLines f.set f.lines) ++ leBytes 8 f.startGate.toNat ++ leBytes 8 f.endGate.toNat ++ leBytes 4 f.crcFails ++
  leBytes 4 defects ++ leBytes 4 t.conv ++ leBytes 4 t.clip ++ leBytes 2 f.embedded.length ++ List.replicate 78 0 ++
  f.embedded ++ List.replicate (384 - f.embedded.length) 0

/-- The job of a frame: seed SEED + n, its deadline from the slot-fill time (R214, R232). -/
def frameJob (s : State) (d : DestId) (x : Standing) (n : W64) (k row : Nat) : Job :=
  { Job.blank s.uids x.ctx x.model with
    strict := x.strict
    absolute := x.deadline != 0
    margin := x.margin
    fallback := x.fallback
    args := x.args
    record := x.record
    seed := x.seed + n
    deadline := if x.deadline = 0 then 0 else s.gate + BitVec.ofNat 64 x.deadline
    standing := some (d, n, k)
    slotRow := some row }

/-- The pipe's counts of a frame's conversions (R269, R274). -/
def State.countTensor (s : State) (p : PipeId) (t : ConvTally) : State :=
  let s1 := (s.inc (Reg.ispConvCount p.val) 64 t.conv).inc (Reg.ispClipCount p.val) 64 t.clip
  if t.clip = 0 then s1 else s1.setFlag (Reg.ispConvStatus p.val) 0 true

/-- The oldest frame that waits to be delivered to a destination, with its stream. -/
def State.deliverable (s : State) (d : DestId) : Option (PipeId × StreamId × Frame × W64 × Nat) :=
  (sortWith (fun a b => decide (a.2.2.2.1.toNat < b.2.2.2.1.toNat)) (allStreams.flatMap (fun z => (s.stream z.1 z.2).out.filterMap (fun f =>
    match f.slot with
    | some (n, k) => if setDest f.set = d then some (z.1, z.2, f, n, k) else none
    | none => none)))).head?

/-- SLOT_DESCRIPTOR_WRITE (R16, R241, R243, R269, R270, R273, R347): the tensor rows, then the descriptor row; then the frame's job. Rows
that its slot does not hold are not written (log 55). -/
def execSlotDescriptorWrite (d : DestId) (s : State) : Out :=
  if !s.works then ok s
  else match s.deliverable d with
    | none => ok s
    | some (p, st, f, n, k) => match s.bindingOf f.slotCtx d with
    | none => ok s
    | some x =>
      let y := s.stream p st
      let s1 := s.setStream p st { y with out := y.out.erase f }
      (match s.slotBase x, s.model? x.ctx x.model with
       | some (store, first), some m =>
         let t := tensorOf f.set (s.defects p) f.lines
         let rows := rowsOf t.1
         let fit := min rows.length (x.slotRows - 1)
         let row := first + x.slotRows * k
         let s2 := s1.wr (rowAddr store row) ((rows.take fit).flatten)
         let s3 := (s2.wr (rowAddr store (row + fit)) (descriptorRow f n k (replacements f.set (s.defects p) f.lines) t.2)).countTensor p t.2
         if s.ctxEnds x.ctx then ok (s3.freeSlot x.ctx d k)
         else if s.lodge.inReset || !s.ctxRuns x.ctx then ok (s3.skipHeld x.ctx d n k)
         else
           let j := frameJob s3 d x n k row
           ok ((s3.setBinding d { x with slotJobs := x.slotJobs ++ [(k, j.uid)] }).enqueue m j)
       | _, _ => ok (if s.ctxEnds x.ctx then s1.freeSlot x.ctx d k else s1.skipHeld x.ctx d n k))

/-- A pending set that no frame start can bring, the stream knowing no port yet, stops the stream at once (R259; log 54). -/
def State.applyUnnamed (s : State) (p : PipeId) (st : StreamId) : State :=
  if (s.stream p st).known = [] && !namesPort (s.regBytes (Reg.ispShadow p.val st.val) 1) then s.applySet p st else s

/-- ISP_COMMIT (R258, R259, R290): shadow sets become pending. The host or the Lodge commits the streams it owns. -/
def execIspCommit (p : PipeId) (v : PartyWrite 16) (s : State) : Out :=
  ok (if s.works then (List.finRange 16).foldl (fun s st =>
    if bit v.value st.val && s.owns v.lodge p st then (s.setFlag (Reg.ispPending p.val) st.val true).applyUnnamed p st else s) s else s)

/-! ## Stand-alone operation (R288–R290) -/

/-- SA_OWNER_WRITE (R290): a port's change waits for its next frame start. -/
def execSaOwnerWrite (v : BitVec 16) (s : State) : Out :=
  ok (if s.works then (List.finRange 16).foldl (fun s n =>
    s.setPortState n { s.ports[n] with ownerPending := if bit v n.val = s.lodgeOwns n then none else some (bit v n.val) }) s else s)

/-- An Ethernet port that the header names (R288). -/
def State.startEth (s : State) (e : Config.EthProfile) : State :=
  let s1 := ((s.setReg (Reg.ethIpv4 e.port) (e.ip.zeroExtend 64)).setReg (Reg.ethMac e.port) (e.mac.zeroExtend 64)).setFld
    (Reg.ethCtrl e.port) 3 2 e.fec.toNat
  if e.mac = 0 ∨ bit e.mac 40 then (s1.setFlag (Reg.ethCtrl e.port) 0 false).profileReport
  else s1.setFlag (Reg.ethCtrl e.port) 0 true

/-- STANDALONE_START (R288): with AUTOSTART, once the handshake reads READY or beyond: the pool, the Ethernet ports, then every
profiled port. -/
def execStandaloneStart (s : State) : Out :=
  match Config.profileSet s.lodge.profile with
  | none => ok s
  | some x =>
    if !s.works || s.lodge.inReset || s.hifState == 0 || s.lodge.autoStarted || !x.autostart then ok s
    else
      let s1 := { s with lodge := { s.lodge with autoStarted := true } }.poolWrite x.pool
      let s2 := (x.eth.filter (fun e => decide (e.port < 2))).foldl State.startEth s1
      ok ((x.ports.take 16).foldl (fun s q => s.startPort x q) s2)

end Sys2Proof.Machine
end

