-- ==== Sys2Proof/Machine/RegAccess.lean ====
section
/-! DEFINITION. Register accesses with no row of their own: writes by the host or the Lodge, and reads that clear (R5, R7, R8,
R397–R408). A write to a register that a row names takes that row's meaning. -/

namespace Sys2Proof.Machine

/-! ## What an access covers (R397) -/

/-- The field lies wholly in the bytes accessed. -/
def RegAccess.covers (acc : RegAccess) (f : FieldDesc) : Bool :=
  match acc with
  | .full8 => true
  | .low4 => decide (f.hi < 32) && f.access != .rwWide
  | .high4 => decide (32 ≤ f.lo) && f.access != .rwWide
  | .other _ => false
  | .resizableBar => false

/-- The bytes written, at their place in the slot. -/
def placed (acc : RegAccess) (v : W64) : W64 := match acc with
  | .high4 => v <<< 32
  | _ => v

/-- The register after a write: RW fields take the value written, RW1C fields are cleared where 1 is written, all others stay
(R7). -/
def writeFields (acc : RegAccess) (w old : W64) (fs : List FieldDesc) : W64 :=
  fs.foldl (fun r f =>
    if !RegAccess.covers acc f then r
    else match f.access with
      | .rw | .rwWide => setField r f.hi f.lo (field w f.hi f.lo)
      | .rw1c => setField r f.hi f.lo (field (old &&& ~~~w) f.hi f.lo)
      | _ => r) old

/-- What a write says to a row's meaning: RW fields after it, and the bits written to RW1C and WO fields. -/
def writtenBits (acc : RegAccess) (w old : W64) (fs : List FieldDesc) : W64 :=
  fs.foldl (fun r f => match f.access with
    | .rw | .rwWide => setField r f.hi f.lo (if RegAccess.covers acc f then field w f.hi f.lo else field old f.hi f.lo)
    | .rw1c | .wo => if RegAccess.covers acc f then setField r f.hi f.lo (field w f.hi f.lo) else r
    | _ => r) 0

/-- The field where it lies in a range, else a value that the register takes instead. -/
def inRange (w : W64) (hi lo least most other : Nat) : W64 :=
  let v := field w hi lo
  if least ≤ v ∧ v ≤ most then w else setField w hi lo other

/-! ## Values that read back otherwise, and writes that are ignored -/

/-- A context other than 0 exists (R197). -/
def State.anyContext (s : State) : Bool := s.contexts.any (fun x => x.id != 0)

/-- Offset of a register within its instance of a block. -/
def within (off base stride : Nat) : Nat := (off - base) % stride
/-- The instance. -/
def instance_ (off base stride : Nat) : Nat := (off - base) / stride

/-- The value a register takes from a write (R218, R245, R291, R307, R335, R365, R404). -/
def State.taken (s : State) (off : Nat) (old new : W64) : W64 :=
  if off = Reg.hifHbTimeout then inRange new 13 0 50 10000 (field old 13 0)
  else if off = Reg.ldgXltRegionBase then (if s.anyContext then old else new)
  else if off = Reg.ldgXltRegionSize then (if s.anyContext || decide (262144 < field new 18 0) then old else new)
  else if off = Reg.ldgTraceCtrl then inRange new 15 11 8 24 8
  else if off = Reg.synCtrl then inRange new 15 2 100 10000 1000
  else if off = Reg.rnkPairCtrl then BitVec.ofNat 64 (pairValue new.toNat)
  else if off = Reg.vcDecQbase then inRange new 3 0 4 10 4
  else if 0x800000 ≤ off ∧ off < 0x880000 ∧ within off 0x800000 0x10000 = 0x10 then
    inRange (inRange (inRange new 23 20 6 12 8) 19 10 0 1000 20) 7 0 1 128 8
  else if 0x800000 ≤ off ∧ off < 0x880000 ∧ within off 0x800000 0x10000 = 0x18 then inRange new 7 0 1 168 24
  else if 0x1000000 ≤ off ∧ off < 0x1100000 ∧ within off 0x1000000 0x10000 = 0x300 then inRange new 19 10 1 1000 10
  else if 0x1000000 ≤ off ∧ off < 0x1100000 ∧ within off 0x1000000 0x10000 = 0x310 then inRange new 31 0 1000000 4000000000 33333333
  else new

/-- A write that its block ignores: the control master and triggers of a port that the other party owns, a list that runs, and
shadow sets and blocks that are pending (R258, R279, R404). -/
def State.ignoresWrite (s : State) (lodge : Bool) (off : Nat) : Bool :=
  if 0x1000000 ≤ off ∧ off < 0x1100000 then
    let n : PortId := Fin.ofNat 16 (instance_ off 0x1000000 0x10000)
    let o := within off 0x1000000 0x10000
    (decide (0x200 ≤ o) && lodge != s.lodgeOwns n) || (decide (0x400 ≤ o) && s.ccmBusy n)
  else if 0x1200000 ≤ off ∧ off < 0x1280000 then
    let o := within off 0x1200000 0x40000
    decide (0x10000 ≤ o) && decide (o < 0x20000) &&
      s.flag (Reg.ispPending (instance_ off 0x1200000 0x40000)) ((o - 0x10000) / 0x1000)
  else if 0x1410000 ≤ off ∧ off < 0x1412000 then s.flag Reg.vcEncPending ((off - 0x1410000) / 0x100)
  else false

/-- What follows a write of plain fields: a trigger schedule is planned anew, unless its trigger is already due (R250, R404); a
context counts its compared jobs from its enrolment (R330); a disabled Ethernet port has no link (R291). -/
def State.afterWrite (s s1 : State) (off : Nat) : State :=
  if 0x1000000 ≤ off ∧ off < 0x1100000 then
    let n : PortId := Fin.ofNat 16 (instance_ off 0x1000000 0x10000)
    let o := within off 0x1000000 0x10000
    let on := s1.flag (Reg.camTrigCtrl n.val) 0
    if o = 0x300 then (if on && !s.flag (Reg.camTrigCtrl n.val) 0 then s1.trigPlan n else s1)
    else if (o = 0x308 ∨ o = 0x310) ∧ on ∧ s.gate.toNat < (s1.ports[n]).trigNext then s1.trigPlan n
    else s1
  else if 0x301040 ≤ off ∧ off < 0x301080 then
    (if s1.flag off 31 then
      { s1 with models := s1.models.map (fun (m : Model) => if m.ctx.val = s1.fld off 9 0 then { m with jobsSinceEnrol := 0 } else m) }
     else s1)
  else if off = Reg.rnkPairCtrl ∨ (Reg.rnkPairCtx 0 ≤ off ∧ off ≤ Reg.rnkPairCtx 15) then s1.parkPaired
  else if off = Reg.ethCtrl 0 then (if s1.flag off 0 then s1 else s1.ethDown 0)
  else if off = Reg.ethCtrl 1 then (if s1.flag off 0 then s1 else s1.ethDown 1)
  else s1

/-- A write of plain fields. -/
def State.plainWrite (s : State) (lodge : Bool) (off : Nat) (new : W64) : State :=
  if s.ignoresWrite lodge off then s else s.afterWrite (s.setReg off (s.taken off (s.reg off) new)) off

/-! ## Registers that rows name -/

/-- Writes to the host interface. -/
def hifWrite (lodge : Bool) (off : Nat) (acc : RegAccess) (v full new : W64) (s : State) : Out :=
  if off = Reg.hifDrvVersion then execVersionCheck (full.setWidth 32) s
  else if off = Reg.hifRingBase then execRingBaseWrite false full s
  else if off = Reg.hifRingSize then execRingBaseWrite true full s
  else if off = Reg.hifRingCtrl then (if bit full 0 then execRingEnable (bit full 1) s else execRingDisable (bit full 1) s)
  else if off = Reg.hifRingTail then execRingDoorbell full s
  else if off = Reg.hifHeartbeat then execHostHeartbeat acc v s
  else ok (s.plainWrite lodge off new)

/-- Writes to the Lodge's, the power, the time-base, Synchro and Rink registers. -/
def lodgeWrite (lodge : Bool) (off : Nat) (full new : W64) (s : State) : Out :=
  if off = Reg.ldgLogSel then execLogSelect full s
  else if off = Reg.ldgFlashCmd then
    (let units : BitVec 32 := BitVec.ofNat 32 (field full 63 32)
     match field full 7 0 with
     | 1 => execFlashErase units s
     | 2 => execFlashProgram units s
     | 3 => execFlashCompare units s
     | _ => ok s)
  else if off = Reg.ldgPatrolCtrl then (if bit full 0 then execPatrolRestart s else ok s)
  else if off = Reg.pwrCtrl then execPowerModeWrite (full.setWidth 32) s
  else if 0x300100 ≤ off ∧ off < 0x300180 then
    (let n : GateSlot := Fin.ofNat 16 ((off - 0x300100) / 8)
     if bit full 1 then execStartGateDisarm n (s.writeSgCtrl n (full.setWidth 32))
     else if bit full 0 then execStartGateArm n (full.setWidth 32) s
     else ok (s.writeSgCtrl n (full.setWidth 32)))
  else ok (s.plainWrite lodge off new)

/-- Writes to the sensor ports. -/
def camWrite (lodge : Bool) (off : Nat) (full new : W64) (s : State) : Out :=
  let n : PortId := Fin.ofNat 16 (instance_ off 0x1000000 0x10000)
  let o := within off 0x1000000 0x10000
  if o = 0 then (if bit full 0 then execPocEnable n (full.setWidth 32) s else execPocDisable n (full.setWidth 32) s)
  else if o = 0x200 then ok (s.ccmWrite n lodge (full.setWidth 32))
  else ok (s.plainWrite lodge off new)

/-- Writes to the pipes and codecs. -/
def mediaWrite (lodge : Bool) (off : Nat) (full new : W64) (s : State) : Out :=
  if off = Reg.ispCommit 0 then execIspCommit 0 ⟨lodge, full.setWidth 16⟩ s
  else if off = Reg.ispCommit 1 then execIspCommit 1 ⟨lodge, full.setWidth 16⟩ s
  else if off = Reg.vcEncCommit then execEncCommit ⟨lodge, full.setWidth 32⟩ s
  else if off = Reg.vcDecTail then execDecoderDoorbell (full.setWidth 16) s
  else if off = Reg.vcSaOwner then execSaOwnerWrite (full.setWidth 16) s
  else if off = Reg.vcPoolSize then execPoolSizeWrite (full.setWidth 32) s
  else if 0x1400200 ≤ off ∧ off < 0x1400300 then execRingReadPointerWrite (Fin.ofNat 32 ((off - 0x1400200) / 8)) full s
  else ok (s.plainWrite lodge off new)

/-- Writes to clusters, the Piste and the recorder. A host write to LFT_FAULT_CTRL is ignored (R172, R398). -/
def unitWrite (lodge : Bool) (off : Nat) (full new : W64) (s : State) : Out :=
  match (List.finRange 12).find? (fun l => off == Reg.lftFaultCtrl l.val) with
  | some l => if lodge && bit full 0 then execLiftResume l s else ok s
  | none =>
    if off = Reg.errRptr then execErrRptrWrite full s
    else if off = Reg.errFirstValid then execFirstErrorRearm (full.setWidth 32) s
    else ok (s.plainWrite lodge off new)

/-- The access writes some field. -/
def RegAccess.writes (acc : RegAccess) (fs : List FieldDesc) : Bool :=
  fs.any (fun f => RegAccess.covers acc f && (f.access == .rw || f.access == .rwWide || f.access == .rw1c || f.access == .wo))

/-- A write of BAR2's Resizable BAR control register sets the size of BAR2, where the capability offers it (R219; log 132). -/
def State.resizeBar (s : State) (v : W64) : State :=
  let n := field v 13 8 + 20
  if bar2Sizes.contains n then { s with board := { s.board with bar2Log2 := n } } else s

/-- The party reaches the registers: the Lodge while it runs, the host through a link that answers (R225, R347). -/
def State.partyReaches (s : State) (lodge : Bool) : Bool := if lodge then !s.lodge.inReset else s.hostReaches

/-- REGISTER_WRITE (R5, R7, R219, R397, R398). An access that covers no field writes nothing, but for HIF_HEARTBEAT, where any write
counts (R242). A write to no register, or not aligned to a slot, writes nothing. DMC_FREEZE_CTRL has
only the row DRAM_THAW (log 57). -/
def execRegisterWrite (lodge : Bool) (off : Nat) (acc : RegAccess) (v : BitVec 64) (s : State) : Out :=
  if !s.works || !s.partyReaches lodge then ok s
  else if acc = .resizableBar then ok (if lodge then s else s.resizeBar v)
  else if off % 8 != 0 then ok s
  else match regFields off with
    | none => ok s
    | some fs =>
      if !RegAccess.writes acc fs && !(off == Reg.hifHeartbeat && RegAccess.named acc) then ok s
      else
      let w := placed acc v
      let new := writeFields acc w (s.reg off) fs
      let full := writtenBits acc w (s.reg off) fs
      if off < 0x100000 then hifWrite lodge off acc v full new s
      else if off < 0x800000 then lodgeWrite lodge off full new s
      else if off < 0x1000000 then ok (s.plainWrite lodge off new)
      else if off < 0x1200000 then camWrite lodge off full new s
      else if off < 0x1600000 then mediaWrite lodge off full new s
      else if off < 0x1800000 then ok (s.plainWrite lodge off new)
      else unitWrite lodge off full new s

/-! ## Reads -/

/-- A word of one bit per index below n. -/
def bitsOf (n : Nat) (f : Nat → Bool) : W64 := BitVec.ofNat 64 (((List.range n).map (fun i => if f i then 2 ^ i else 0)).sum)

/-- A core has a fill in progress or to come for an index it holds (R170). -/
def fillsDue (c : Core) : Bool := c.seats.any (fun x => x.held.any (fun h => decide (h.filled.length < x.streams.length)))

/-- LFT_STATUS (R172): the commands active and requests outstanding of the Lift, its streams, its stops, and whether it works; a
cluster Lift works too while it loads a model (R208). -/
def State.liftStatus (s : State) (l : LiftId) : W64 :=
  let own := (List.finRange 8).find? (fun k => k.val == l.val)
  let active := s.liftActive l.val
  let streams := own.any (fun k => (s.core k).seats.any (fun x => !x.streams.isEmpty))
  let filling := own.any (fun k => fillsDue (s.core k))
  let fault := s.stopped.any (fun x => x.lift == l.val)
  BitVec.ofNat 64 (min (s.outstanding l.val) 4096 * 2 ^ 16 + min active 16 * 256 + streams.toNat * 4 + fault.toNat * 2 +
    (decide (0 < active) || filling).toNat)

/-- LFT_FAULT_POS (R172). -/
def Stopped.position (x : Stopped) : W64 :=
  BitVec.ofNat 64 ((match x.work with
    | .fill _ j => 2 ^ 63 + j.val * 2 ^ 61
    | .command _ _ => x.seq % 2 ^ 28 * 2 ^ 32) + x.destination.toNat * 2 ^ 60 + x.offset % 2 ^ 32)

/-- What a register shows that other state decides (R96, R118, R172, R192, R238, R245, R274, R335). DESIGN CHOICE: R172 says what
LFT_FAULT_VA and LFT_FAULT_POS hold of the oldest stopped command or fill, and nothing of a Lift where none is stopped: they read 0
(log 133). -/
def State.live (s : State) (off : Nat) : Option W64 :=
  if off = Reg.gtbCount then some s.gate
  else if Reg.hifFeature 0 ≤ off ∧ off ≤ Reg.hifFeature 7 then some (s.board.features.getD ((off - Reg.hifFeature 0) / 8) 0)
  else if Reg.hifCtxLive 0 ≤ off ∧ off ≤ Reg.hifCtxLive 15 then
    some (bitsOf 64 (fun i => s.contexts.any (fun x => x.id != 0 && x.id.val == (off - Reg.hifCtxLive 0) / 8 * 64 + i)))
  else if off = Reg.pstTcBound then some (bitsOf 64 (fun i => (s.counters.toList.getD i none).isSome))
  else match (List.range 2).find? (fun p => off == Reg.ispDestStatus p) with
    | some p => some (BitVec.ofNat 64 (((List.range 8).map (fun j => match (s.standing.toList.getD (8 * p + j) none) with
        | some x => x.held.toNat * 2 ^ (8 * j)
        | none => 0)).sum))
    | none => match (List.finRange 8).find? (fun k => off == Reg.ccStatus k.val) with
      | some k => some (setField (setField (s.reg off) 0 0 ((s.core k).tile.isSome && !((s.core k).phase == .halted ||
          (s.core k).phase == .recorded)).toNat) 1 1 ((s.core k).phase == .halted || (s.core k).phase == .recorded).toNat)
      | none => match (List.finRange 12).find? (fun l => off == Reg.lftStatus l.val || off == Reg.lftFaultVa l.val ||
            off == Reg.lftFaultPos l.val) with
        | some l => (match s.stopped.find? (fun x => x.lift == l.val) with
          | some x => some (if off = Reg.lftStatus l.val then s.liftStatus l else if off = Reg.lftFaultVa l.val then x.va else x.position)
          | none => some (if off = Reg.lftStatus l.val then s.liftStatus l else 0))
        | none => match (List.finRange 4).find? (fun c => off == Reg.dppStatus c.val) with
          | some c => some (setField (s.reg off) 0 0 ((List.finRange 8).any (fun k => clusterOf k == c.val &&
              ((s.core k).queue 3).any (fun x => x.phase != .waiting))).toNat)
          | none => none

/-- What a read of a register returns: WO fields and reserved bits read 0 (R5, R7). -/
def State.readReg (s : State) (off : Nat) : W64 :=
  match regFields off with
  | none => 0
  | some fs =>
    let v := (s.live off).getD (s.reg off)
    fs.foldl (fun r f => match f.access with
      | .wo => r
      | _ => setField r f.hi f.lo (field v f.hi f.lo)) 0

/-- The bytes of a read: an access of another size reads 0 (R397), and the control register of BAR2 shows its size (R219). -/
def State.readBytes (s : State) (v : W64) : RegAccess → List Byte
  | .full8 => leBytes 8 v.toNat
  | .low4 => leBytes 4 v.toNat
  | .high4 => leBytes 4 (v.toNat / 2 ^ 32)
  | .other n => List.replicate n 0
  | .resizableBar => leBytes 4 ((s.board.bar2Log2 - 20) * 256)

/-- RC_FIELD_READ (R7, R8, R397, R398): the value, and every RC field that the read covers is cleared. -/
def execRcFieldRead (off : Nat) (acc : RegReading) (s : State) : Out :=
  if !s.works || !s.partyReaches acc.lodge then ok s
  else
    let v := if off % 8 = 0 then s.readReg off else 0
    let bytes := s.readBytes v acc.size
    let fs := if off % 8 = 0 then ((regFields off).getD []).filter (fun f => f.access == .rc && RegAccess.covers acc.size f) else []
    let s1 := fs.foldl (fun s f => s.setFld off f.hi f.lo 0) s
    ok (if acc.lodge then { s1 with lodge := { s1.lodge with readData := bytes } }
      else { s1 with host := { s1.host with readData := bytes } })

end Sys2Proof.Machine
end

