-- ==== Sys2Proof/Machine/Dispatch.lean ====
section
/-! DEFINITION. One arm per command of the table, each a direct call of the command's meaning. -/

namespace Sys2Proof.Machine

/-- The effect of a command on everything but the queue of waiting commands. -/
def exec (i : Instr) (s : State) : Host.Outcome State Fault Refusal :=
  match i with
  | .ccNop k w => Sys2Proof.Machine.execCcNop k w s
  | .ccAdd k w => Sys2Proof.Machine.execCcAdd k w s
  | .ccAddi k w => Sys2Proof.Machine.execCcAddi k w s
  | .ccSub k w => Sys2Proof.Machine.execCcSub k w s
  | .ccMul k w => Sys2Proof.Machine.execCcMul k w s
  | .ccMulhs k w => Sys2Proof.Machine.execCcMulhs k w s
  | .ccMulhu k w => Sys2Proof.Machine.execCcMulhu k w s
  | .ccDivs k w => Sys2Proof.Machine.execCcDivs k w s
  | .ccDivu k w => Sys2Proof.Machine.execCcDivu k w s
  | .ccRems k w => Sys2Proof.Machine.execCcRems k w s
  | .ccRemu k w => Sys2Proof.Machine.execCcRemu k w s
  | .ccAnd k w => Sys2Proof.Machine.execCcAnd k w s
  | .ccAndi k w => Sys2Proof.Machine.execCcAndi k w s
  | .ccOr k w => Sys2Proof.Machine.execCcOr k w s
  | .ccOri k w => Sys2Proof.Machine.execCcOri k w s
  | .ccXor k w => Sys2Proof.Machine.execCcXor k w s
  | .ccXori k w => Sys2Proof.Machine.execCcXori k w s
  | .ccShl k w => Sys2Proof.Machine.execCcShl k w s
  | .ccShli k w => Sys2Proof.Machine.execCcShli k w s
  | .ccShr k w => Sys2Proof.Machine.execCcShr k w s
  | .ccShri k w => Sys2Proof.Machine.execCcShri k w s
  | .ccSra k w => Sys2Proof.Machine.execCcSra k w s
  | .ccSrai k w => Sys2Proof.Machine.execCcSrai k w s
  | .ccMin k w => Sys2Proof.Machine.execCcMin k w s
  | .ccMax k w => Sys2Proof.Machine.execCcMax k w s
  | .ccMinu k w => Sys2Proof.Machine.execCcMinu k w s
  | .ccMaxu k w => Sys2Proof.Machine.execCcMaxu k w s
  | .ccMovi k w => Sys2Proof.Machine.execCcMovi k w s
  | .ccMovh k w => Sys2Proof.Machine.execCcMovh k w s
  | .ccMadd k w => Sys2Proof.Machine.execCcMadd k w s
  | .ccSel k w => Sys2Proof.Machine.execCcSel k w s
  | .ccCmp k w => Sys2Proof.Machine.execCcCmp k w s
  | .ccCmpi k w => Sys2Proof.Machine.execCcCmpi k w s
  | .ccPlog k w => Sys2Proof.Machine.execCcPlog k w s
  | .ccRds k w => Sys2Proof.Machine.execCcRds k w s
  | .ccLidx k w => Sys2Proof.Machine.execCcLidx k w s
  | .ccBr k w => Sys2Proof.Machine.execCcBr k w s
  | .ccJr k w => Sys2Proof.Machine.execCcJr k w s
  | .ccCall k w => Sys2Proof.Machine.execCcCall k w s
  | .ccRet k w => Sys2Proof.Machine.execCcRet k w s
  | .ccLoop k w => Sys2Proof.Machine.execCcLoop k w s
  | .ccBreak k w => Sys2Proof.Machine.execCcBreak k w s
  | .ccEnd k w => Sys2Proof.Machine.execCcEnd k w s
  | .ccHalt k w => Sys2Proof.Machine.execCcHalt k w s
  | .ccTrace k w => Sys2Proof.Machine.execCcTrace k w s
  | .ccLd k w => Sys2Proof.Machine.execCcLd k w s
  | .ccLw k w => Sys2Proof.Machine.execCcLw k w s
  | .ccLwu k w => Sys2Proof.Machine.execCcLwu k w s
  | .ccSt k w => Sys2Proof.Machine.execCcSt k w s
  | .ccSw k w => Sys2Proof.Machine.execCcSw k w s
  | .ccRld k w => Sys2Proof.Machine.execCcRld k w s
  | .ccRst k w => Sys2Proof.Machine.execCcRst k w s
  | .ccAadd k w => Sys2Proof.Machine.execCcAadd k w s
  | .ccAcas k w => Sys2Proof.Machine.execCcAcas k w s
  | .ccFence k w => Sys2Proof.Machine.execCcFence k w s
  | .ccPush k w => Sys2Proof.Machine.execCcPush k w s
  | .ccPushd k w => Sys2Proof.Machine.execCcPushd k w s
  | .ccTwait k w => Sys2Proof.Machine.execCcTwait k w s
  | .ccTsig k w => Sys2Proof.Machine.execCcTsig k w s
  | .ccTdec k w => Sys2Proof.Machine.execCcTdec k w s
  | .ccClaim k w => Sys2Proof.Machine.execCcClaim k w s
  | .tokenWaitSatisfied k => Sys2Proof.Machine.execTokenWaitSatisfied k s
  | .queueRoomFreed k => Sys2Proof.Machine.execQueueRoomFreed k s
  | .rowReadReturn k n => Sys2Proof.Machine.execRowReadReturn k n s
  | .claimServed c => Sys2Proof.Machine.execClaimServed c s
  | .mstream k => Sys2Proof.Machine.execMstream k s
  | .mload k => Sys2Proof.Machine.execMload k s
  | .mswap k => Sys2Proof.Machine.execMswap k s
  | .mtwid k => Sys2Proof.Machine.execMtwid k s
  | .mread k => Sys2Proof.Machine.execMread k s
  | .mspill k => Sys2Proof.Machine.execMspill k s
  | .mfill k => Sys2Proof.Machine.execMfill k s
  | .mspin k => Sys2Proof.Machine.execMspin k s
  | .mparam k => Sys2Proof.Machine.execMparam k s
  | .activityWindowEnd k offered => Sys2Proof.Machine.execActivityWindowEnd k offered s
  | .vld k => Sys2Proof.Machine.execVld k s
  | .vst k => Sys2Proof.Machine.execVst k s
  | .vparam k => Sys2Proof.Machine.execVparam k s
  | .vBcast k => Sys2Proof.Machine.execVBcast k s
  | .vShuf k => Sys2Proof.Machine.execVShuf k s
  | .vAdd k => Sys2Proof.Machine.execVAdd k s
  | .vSub k => Sys2Proof.Machine.execVSub k s
  | .vMul k => Sys2Proof.Machine.execVMul k s
  | .vMulh k => Sys2Proof.Machine.execVMulh k s
  | .vMin k => Sys2Proof.Machine.execVMin k s
  | .vMax k => Sys2Proof.Machine.execVMax k s
  | .vNeg k => Sys2Proof.Machine.execVNeg k s
  | .vAbs k => Sys2Proof.Machine.execVAbs k s
  | .vAnd k => Sys2Proof.Machine.execVAnd k s
  | .vOr k => Sys2Proof.Machine.execVOr k s
  | .vXor k => Sys2Proof.Machine.execVXor k s
  | .vNot k => Sys2Proof.Machine.execVNot k s
  | .vShl k => Sys2Proof.Machine.execVShl k s
  | .vShr k => Sys2Proof.Machine.execVShr k s
  | .vSra k => Sys2Proof.Machine.execVSra k s
  | .vSrar k => Sys2Proof.Machine.execVSrar k s
  | .vNrw k => Sys2Proof.Machine.execVNrw k s
  | .vCmp k => Sys2Proof.Machine.execVCmp k s
  | .vSel k => Sys2Proof.Machine.execVSel k s
  | .vDiv k => Sys2Proof.Machine.execVDiv k s
  | .vRem k => Sys2Proof.Machine.execVRem k s
  | .vFadd k => Sys2Proof.Machine.execVFadd k s
  | .vFsub k => Sys2Proof.Machine.execVFsub k s
  | .vFmul k => Sys2Proof.Machine.execVFmul k s
  | .vFma k => Sys2Proof.Machine.execVFma k s
  | .vFmin k => Sys2Proof.Machine.execVFmin k s
  | .vFmax k => Sys2Proof.Machine.execVFmax k s
  | .vFneg k => Sys2Proof.Machine.execVFneg k s
  | .vFabs k => Sys2Proof.Machine.execVFabs k s
  | .vFcmp k => Sys2Proof.Machine.execVFcmp k s
  | .vCvtf k => Sys2Proof.Machine.execVCvtf k s
  | .vCvti k => Sys2Proof.Machine.execVCvti k s
  | .vFdiv k => Sys2Proof.Machine.execVFdiv k s
  | .vFsqrt k => Sys2Proof.Machine.execVFsqrt k s
  | .vRcp k => Sys2Proof.Machine.execVRcp k s
  | .vRsqrt k => Sys2Proof.Machine.execVRsqrt k s
  | .vExp k => Sys2Proof.Machine.execVExp k s
  | .vExp2 k => Sys2Proof.Machine.execVExp2 k s
  | .vLog k => Sys2Proof.Machine.execVLog k s
  | .vLog2 k => Sys2Proof.Machine.execVLog2 k s
  | .vSin k => Sys2Proof.Machine.execVSin k s
  | .vCos k => Sys2Proof.Machine.execVCos k s
  | .vTanh k => Sys2Proof.Machine.execVTanh k s
  | .vSigm k => Sys2Proof.Machine.execVSigm k s
  | .vErf k => Sys2Proof.Machine.execVErf k s
  | .vRsum k => Sys2Proof.Machine.execVRsum k s
  | .vRmax k => Sys2Proof.Machine.execVRmax k s
  | .vRmin k => Sys2Proof.Machine.execVRmin k s
  | .vAmax k => Sys2Proof.Machine.execVAmax k s
  | .vDerive k => Sys2Proof.Machine.execVDerive k s
  | .vWgeom k => Sys2Proof.Machine.execVWgeom k s
  | .vWload k => Sys2Proof.Machine.execVWload k s
  | .vDw k => Sys2Proof.Machine.execVDw k s
  | .vGrp k => Sys2Proof.Machine.execVGrp k s
  | .vMaxp k => Sys2Proof.Machine.execVMaxp k s
  | .vMinp k => Sys2Proof.Machine.execVMinp k s
  | .vSump k => Sys2Proof.Machine.execVSump k s
  | .detect c => Sys2Proof.Machine.execDetect c s
  | .lcopy k n => Sys2Proof.Machine.execLcopy k n s
  | .lskew k n => Sys2Proof.Machine.execLskew k n s
  | .lfill k n => Sys2Proof.Machine.execLfill k n s
  | .laddr k n => Sys2Proof.Machine.execLaddr k n s
  | .commandBegin k q => Sys2Proof.Machine.execCommandBegin k q s
  | .commandComplete k q n => Sys2Proof.Machine.execCommandComplete k q n s
  | .hungCoreHalt k => Sys2Proof.Machine.execHungCoreHalt k s
  | .haltRecord k => Sys2Proof.Machine.execHaltRecord k s
  | .tileComplete k => Sys2Proof.Machine.execTileComplete k s
  | .tileLaunch k => Sys2Proof.Machine.execTileLaunch k s
  | .storeRequestPromotion st wait busy => Sys2Proof.Machine.execStoreRequestPromotion st wait busy s
  | .pisteTransferPromotion wait => Sys2Proof.Machine.execPisteTransferPromotion wait s
  | .rowWriteArrival src => Sys2Proof.Machine.execRowWriteArrival src s
  | .liftFault work => Sys2Proof.Machine.execLiftFault work s
  | .liftResume l => Sys2Proof.Machine.execLiftResume l s
  | .streamClaim k => Sys2Proof.Machine.execStreamClaim k s
  | .streamFill k j => Sys2Proof.Machine.execStreamFill k j s
  | .jobLaunch ctx job => Sys2Proof.Machine.execJobLaunch ctx job s
  | .preemption k => Sys2Proof.Machine.execPreemption k s
  | .abandonment k => Sys2Proof.Machine.execAbandonment k s
  | .stageStarvationReturn k ctx model stage => Sys2Proof.Machine.execStageStarvationReturn k ctx model stage s
  | .ringDoorbell v => Sys2Proof.Machine.execRingDoorbell v s
  | .ringEnable clearErr => Sys2Proof.Machine.execRingEnable clearErr s
  | .ringDisable clearErr => Sys2Proof.Machine.execRingDisable clearErr s
  | .ringBaseWrite size v => Sys2Proof.Machine.execRingBaseWrite size v s
  | .versionCheck v => Sys2Proof.Machine.execVersionCheck v s
  | .ringNop e => Sys2Proof.Machine.execRingNop e s
  | .barrier e => Sys2Proof.Machine.execBarrier e s
  | .fenceRegister e => Sys2Proof.Machine.execFenceRegister e s
  | .fenceRelease e => Sys2Proof.Machine.execFenceRelease e s
  | .ctxCreate e => Sys2Proof.Machine.execCtxCreate e s
  | .ctxSet e => Sys2Proof.Machine.execCtxSet e s
  | .ctxDestroy e => Sys2Proof.Machine.execCtxDestroy e s
  | .ctxInvalidate e => Sys2Proof.Machine.execCtxInvalidate e s
  | .ctxFault e => Sys2Proof.Machine.execCtxFault e s
  | .modelRegister e => Sys2Proof.Machine.execModelRegister e s
  | .modelUnregister e => Sys2Proof.Machine.execModelUnregister e s
  | .modelHint e => Sys2Proof.Machine.execModelHint e s
  | .jobSubmit e => Sys2Proof.Machine.execJobSubmit e s
  | .standingBind e => Sys2Proof.Machine.execStandingBind e s
  | .standingUnbind e => Sys2Proof.Machine.execStandingUnbind e s
  | .barrierComplete n => Sys2Proof.Machine.execBarrierComplete n s
  | .ctxSetComplete n => Sys2Proof.Machine.execCtxSetComplete n s
  | .invalidationComplete n => Sys2Proof.Machine.execInvalidationComplete n s
  | .modelVerificationComplete ctx model => Sys2Proof.Machine.execModelVerificationComplete ctx model s
  | .modelUnregisterComplete ctx model => Sys2Proof.Machine.execModelUnregisterComplete ctx model s
  | .standingUnbindComplete d => Sys2Proof.Machine.execStandingUnbindComplete d s
  | .ctxDestroyComplete ctx => Sys2Proof.Machine.execCtxDestroyComplete ctx s
  | .jobComplete ctx job => Sys2Proof.Machine.execJobComplete ctx job s
  | .modelLoadComplete ctx model => Sys2Proof.Machine.execModelLoadComplete ctx model s
  | .faultSlotWrite ctx => Sys2Proof.Machine.execFaultSlotWrite ctx s
  | .faultWaitTimeout ctx => Sys2Proof.Machine.execFaultWaitTimeout ctx s
  | .slalomGateEvaluate ctx job => Sys2Proof.Machine.execSlalomGateEvaluate ctx job s
  | .fallbackLaunch ctx job => Sys2Proof.Machine.execFallbackLaunch ctx job s
  | .statusBlockWrite => Sys2Proof.Machine.execStatusBlockWrite s
  | .hostHeartbeat acc v => Sys2Proof.Machine.execHostHeartbeat acc v s
  | .hostLoss => Sys2Proof.Machine.execHostLoss s
  | .perstNAssert => Sys2Proof.Machine.execPerstNAssert s
  | .functionLevelReset => Sys2Proof.Machine.execFunctionLevelReset s
  | .busMasterEnableClear => Sys2Proof.Machine.execBusMasterEnableClear s
  | .d3hotEntry => Sys2Proof.Machine.execD3hotEntry s
  | .bar2Access write offset bytes => Sys2Proof.Machine.execBar2Access write offset bytes s
  | .registerWrite lodge offset acc v => Sys2Proof.Machine.execRegisterWrite lodge offset acc v s
  | .csi2Packet port pkt => Sys2Proof.Machine.execCsi2Packet port pkt s
  | .frameStart p st => Sys2Proof.Machine.execFrameStart p st s
  | .frameEnd p st => Sys2Proof.Machine.execFrameEnd p st s
  | .linePacket p st => Sys2Proof.Machine.execLinePacket p st s
  | .frameTimeout p st => Sys2Proof.Machine.execFrameTimeout p st s
  | .frameFirstLineOut p st => Sys2Proof.Machine.execFrameFirstLineOut p st s
  | .slotDescriptorWrite d => Sys2Proof.Machine.execSlotDescriptorWrite d s
  | .slotRelease d slot => Sys2Proof.Machine.execSlotRelease d slot s
  | .ispCommit p v => Sys2Proof.Machine.execIspCommit p v s
  | .ccmGo port lodge v => Sys2Proof.Machine.execCcmGo port lodge v s
  | .ccmArm port lodge v => Sys2Proof.Machine.execCcmArm port lodge v s
  | .ccmArmedStart port => Sys2Proof.Machine.execCcmArmedStart port s
  | .ccmTransactionComplete port nack data => Sys2Proof.Machine.execCcmTransactionComplete port nack data s
  | .ccmStretchTimeout port => Sys2Proof.Machine.execCcmStretchTimeout port s
  | .frameSyncTrigger port => Sys2Proof.Machine.execFrameSyncTrigger port s
  | .pocEnable port v => Sys2Proof.Machine.execPocEnable port v s
  | .pocDisable port v => Sys2Proof.Machine.execPocDisable port v s
  | .pocTrip port mA => Sys2Proof.Machine.execPocTrip port mA s
  | .pocRetry port => Sys2Proof.Machine.execPocRetry port s
  | .pocBlankingEnd port => Sys2Proof.Machine.execPocBlankingEnd port s
  | .pocOpen port mA => Sys2Proof.Machine.execPocOpen port mA s
  | .encCommit v => Sys2Proof.Machine.execEncCommit v s
  | .encodeFrameComplete n unit => Sys2Proof.Machine.execEncodeFrameComplete n unit s
  | .ringReadPointerWrite n v => Sys2Proof.Machine.execRingReadPointerWrite n v s
  | .decoderDoorbell v => Sys2Proof.Machine.execDecoderDoorbell v s
  | .decodeComplete r => Sys2Proof.Machine.execDecodeComplete r s
  | .poolSizeWrite v => Sys2Proof.Machine.execPoolSizeWrite v s
  | .saOwnerWrite v => Sys2Proof.Machine.execSaOwnerWrite v s
  | .rtcpSenderReport n => Sys2Proof.Machine.execRtcpSenderReport n s
  | .ethLinkChange p up => Sys2Proof.Machine.execEthLinkChange p up s
  | .ethFrameReceive p f => Sys2Proof.Machine.execEthFrameReceive p f s
  | .ptpLock => Sys2Proof.Machine.execPtpLock s
  | .ptpLockLoss => Sys2Proof.Machine.execPtpLockLoss s
  | .standaloneStart => Sys2Proof.Machine.execStandaloneStart s
  | .dramRequest r => Sys2Proof.Machine.execDramRequest r s
  | .dramRequestServed d ch o => Sys2Proof.Machine.execDramRequestServed d ch o s
  | .dramAgePromotion d ch n => Sys2Proof.Machine.execDramAgePromotion d ch n s
  | .dramPortPromotion d n => Sys2Proof.Machine.execDramPortPromotion d n s
  | .refreshDue d ch rfm => Sys2Proof.Machine.execRefreshDue d ch rfm s
  | .calibrationDue d ch tracking inLimits => Sys2Proof.Machine.execCalibrationDue d ch tracking inLimits s
  | .scrubRead d o => Sys2Proof.Machine.execScrubRead d o s
  | .initBlock d => Sys2Proof.Machine.execInitBlock d s
  | .selfRefreshEntry d ch abandoned => Sys2Proof.Machine.execSelfRefreshEntry d ch abandoned s
  | .selfRefreshExit d ch => Sys2Proof.Machine.execSelfRefreshExit d ch s
  | .modeRegisterCheck d ch readback => Sys2Proof.Machine.execModeRegisterCheck d ch readback s
  | .dramFreeze d hist => Sys2Proof.Machine.execDramFreeze d hist s
  | .frozenRequest r => Sys2Proof.Machine.execFrozenRequest r s
  | .dramThaw d lodge v again hist => Sys2Proof.Machine.execDramThaw d lodge v again hist s
  | .linkTrainingComplete n peer => Sys2Proof.Machine.execLinkTrainingComplete n peer s
  | .linkSignalLoss n => Sys2Proof.Machine.execLinkSignalLoss n s
  | .linkFecFailure n => Sys2Proof.Machine.execLinkFecFailure n s
  | .controlFlit n f => Sys2Proof.Machine.execControlFlit n f s
  | .controlFlitSend n => Sys2Proof.Machine.execControlFlitSend n s
  | .exchangeDataFlit n h x => Sys2Proof.Machine.execExchangeDataFlit n h x s
  | .completionUpdate n h u => Sys2Proof.Machine.execCompletionUpdate n h u s
  | .signatureRecord n h r => Sys2Proof.Machine.execSignatureRecord n h r s
  | .startGateArmFlit n h a => Sys2Proof.Machine.execStartGateArmFlit n h a s
  | .enumerationFlit n h m => Sys2Proof.Machine.execEnumerationFlit n h m s
  | .takeoverNotice n h t => Sys2Proof.Machine.execTakeoverNotice n h t s
  | .taiOffsetFlit n h offset => Sys2Proof.Machine.execTaiOffsetFlit n h offset s
  | .timeStampExchange n stamps => Sys2Proof.Machine.execTimeStampExchange n stamps s
  | .taiOffsetSend => Sys2Proof.Machine.execTaiOffsetSend s
  | .treeRebuild => Sys2Proof.Machine.execTreeRebuild s
  | .startGateArm slot v => Sys2Proof.Machine.execStartGateArm slot v s
  | .startGateDisarm slot => Sys2Proof.Machine.execStartGateDisarm slot s
  | .startGateFire slot => Sys2Proof.Machine.execStartGateFire slot s
  | .cascadeAbort ctx job cause => Sys2Proof.Machine.execCascadeAbort ctx job cause s
  | .pairsHeartbeatSend => Sys2Proof.Machine.execPairsHeartbeatSend s
  | .pairsTakeover => Sys2Proof.Machine.execPairsTakeover s
  | .synchroPendingTimeout n => Sys2Proof.Machine.execSynchroPendingTimeout n s
  | .porAssert pulse => Sys2Proof.Machine.execPorAssert pulse s
  | .porRelease b => Sys2Proof.Machine.execPorRelease b s
  | .bootRetry flash => Sys2Proof.Machine.execBootRetry flash s
  | .patrolReset => Sys2Proof.Machine.execPatrolReset s
  | .lodgeRestore => Sys2Proof.Machine.execLodgeRestore s
  | .patrolRestart => Sys2Proof.Machine.execPatrolRestart s
  | .rollbackAdvance => Sys2Proof.Machine.execRollbackAdvance s
  | .flashErase units => Sys2Proof.Machine.execFlashErase units s
  | .flashProgram units => Sys2Proof.Machine.execFlashProgram units s
  | .flashCompare units => Sys2Proof.Machine.execFlashCompare units s
  | .flashOperationComplete ok => Sys2Proof.Machine.execFlashOperationComplete ok s
  | .logSelect seq => Sys2Proof.Machine.execLogSelect seq s
  | .traceRecordWrite => Sys2Proof.Machine.execTraceRecordWrite s
  | .eventQueueScan c => Sys2Proof.Machine.execEventQueueScan c s
  | .powerEstimate watts => Sys2Proof.Machine.execPowerEstimate watts s
  | .powerControlTick acked => Sys2Proof.Machine.execPowerControlTick acked s
  | .powerModeWrite v => Sys2Proof.Machine.execPowerModeWrite v s
  | .thermalSample readings => Sys2Proof.Machine.execThermalSample readings s
  | .supplyFault => Sys2Proof.Machine.execSupplyFault s
  | .referenceClockLoss c => Sys2Proof.Machine.execReferenceClockLoss c s
  | .counterDeltaTransfer offset => Sys2Proof.Machine.execCounterDeltaTransfer offset s
  | .errorReportAccept => Sys2Proof.Machine.execErrorReportAccept s
  | .errRptrWrite v => Sys2Proof.Machine.execErrRptrWrite v s
  | .firstErrorRearm v => Sys2Proof.Machine.execFirstErrorRearm v s
  | .illegalOpcode k word => Sys2Proof.Machine.execIllegalOpcode k word s
  | .unknownRingOpcode opcode e => Sys2Proof.Machine.execUnknownRingOpcode opcode e s
  | .rcFieldRead offset acc => Sys2Proof.Machine.execRcFieldRead offset acc s
  | .patrolHeartbeat => Sys2Proof.Machine.execPatrolHeartbeat s
  | .referenceClockReturn c => Sys2Proof.Machine.execReferenceClockReturn c s
  | .perstNRelease => Sys2Proof.Machine.execPerstNRelease s
  | .busMasterEnableSet => Sys2Proof.Machine.execBusMasterEnableSet s
  | .vddAonLoss => Sys2Proof.Machine.execVddAonLoss s

end Sys2Proof.Machine
end

