-- ==== Sys2Proof/WellFormed.lean ====
section
/-! DEFINITION. Which commands a sender can send: the checks on operands that their types do not make. A command that
fails one stands for nothing on the device, and no claim is made of it. -/

namespace Sys2Proof

/-- A CSI-2 packet: 16 virtual channels, a 16-bit word count, and no payload behind a short packet's data types (R247). -/
def Csi2Packet.ok (p : Csi2Packet) : Bool :=
  decide (p.vc < 16) && decide (p.payload.length < 65536) && (decide (16 ≤ p.dt.toNat) || p.payload.isEmpty)

/-- A DRAM request: one 64-byte unit, with its data where it writes; a BAR2 write may be shorter (R297, R300). -/
def DramRequest.ok (r : DramRequest) : Bool :=
  let bar2 := r.requester == .bar2
  (bar2 || r.addr % 64 == 0) && (!r.write || (r.addr % 64 == 0 && r.data.length == 64) ||
    (bar2 && !r.data.isEmpty && decide (r.addr % 64 + r.data.length ≤ 64)))

/-- A flit: 248 bytes of payload (R310). -/
def FlitHeader.ok (h : FlitHeader) : Bool := h.payload.length == 248

/-- Where a cascade abort comes from: an abort over a link comes in a flit (R325). -/
def AbortSource.ok : AbortSource → Bool
  | .here => true
  | .link _ h _ => h.ok

/-- The command's operands lie in their ranges. -/
def Instr.wellFormed : Instr → Bool
  | .ccNop _ _ => true
  | .ccAdd _ _ => true
  | .ccAddi _ _ => true
  | .ccSub _ _ => true
  | .ccMul _ _ => true
  | .ccMulhs _ _ => true
  | .ccMulhu _ _ => true
  | .ccDivs _ _ => true
  | .ccDivu _ _ => true
  | .ccRems _ _ => true
  | .ccRemu _ _ => true
  | .ccAnd _ _ => true
  | .ccAndi _ _ => true
  | .ccOr _ _ => true
  | .ccOri _ _ => true
  | .ccXor _ _ => true
  | .ccXori _ _ => true
  | .ccShl _ _ => true
  | .ccShli _ _ => true
  | .ccShr _ _ => true
  | .ccShri _ _ => true
  | .ccSra _ _ => true
  | .ccSrai _ _ => true
  | .ccMin _ _ => true
  | .ccMax _ _ => true
  | .ccMinu _ _ => true
  | .ccMaxu _ _ => true
  | .ccMovi _ _ => true
  | .ccMovh _ _ => true
  | .ccMadd _ _ => true
  | .ccSel _ _ => true
  | .ccCmp _ _ => true
  | .ccCmpi _ _ => true
  | .ccPlog _ _ => true
  | .ccRds _ _ => true
  | .ccLidx _ _ => true
  | .ccBr _ _ => true
  | .ccJr _ _ => true
  | .ccCall _ _ => true
  | .ccRet _ _ => true
  | .ccLoop _ _ => true
  | .ccBreak _ _ => true
  | .ccEnd _ _ => true
  | .ccHalt _ _ => true
  | .ccTrace _ _ => true
  | .ccLd _ _ => true
  | .ccLw _ _ => true
  | .ccLwu _ _ => true
  | .ccSt _ _ => true
  | .ccSw _ _ => true
  | .ccRld _ _ => true
  | .ccRst _ _ => true
  | .ccAadd _ _ => true
  | .ccAcas _ _ => true
  | .ccFence _ _ => true
  | .ccPush _ _ => true
  | .ccPushd _ _ => true
  | .ccTwait _ _ => true
  | .ccTsig _ _ => true
  | .ccTdec _ _ => true
  | .ccClaim _ _ => true
  | .tokenWaitSatisfied _ => true
  | .queueRoomFreed _ => true
  | .rowReadReturn _ _ => true
  | .claimServed _ => true
  | .mstream _ => true
  | .mload _ => true
  | .mswap _ => true
  | .mtwid _ => true
  | .mread _ => true
  | .mspill _ => true
  | .mfill _ => true
  | .mspin _ => true
  | .mparam _ => true
  | .activityWindowEnd _ offered => decide (offered.matrix ≤ 256) && decide (offered.vector ≤ 256)
  | .vld _ => true
  | .vst _ => true
  | .vparam _ => true
  | .vBcast _ => true
  | .vShuf _ => true
  | .vAdd _ => true
  | .vSub _ => true
  | .vMul _ => true
  | .vMulh _ => true
  | .vMin _ => true
  | .vMax _ => true
  | .vNeg _ => true
  | .vAbs _ => true
  | .vAnd _ => true
  | .vOr _ => true
  | .vXor _ => true
  | .vNot _ => true
  | .vShl _ => true
  | .vShr _ => true
  | .vSra _ => true
  | .vSrar _ => true
  | .vNrw _ => true
  | .vCmp _ => true
  | .vSel _ => true
  | .vDiv _ => true
  | .vRem _ => true
  | .vFadd _ => true
  | .vFsub _ => true
  | .vFmul _ => true
  | .vFma _ => true
  | .vFmin _ => true
  | .vFmax _ => true
  | .vFneg _ => true
  | .vFabs _ => true
  | .vFcmp _ => true
  | .vCvtf _ => true
  | .vCvti _ => true
  | .vFdiv _ => true
  | .vFsqrt _ => true
  | .vRcp _ => true
  | .vRsqrt _ => true
  | .vExp _ => true
  | .vExp2 _ => true
  | .vLog _ => true
  | .vLog2 _ => true
  | .vSin _ => true
  | .vCos _ => true
  | .vTanh _ => true
  | .vSigm _ => true
  | .vErf _ => true
  | .vRsum _ => true
  | .vRmax _ => true
  | .vRmin _ => true
  | .vAmax _ => true
  | .vDerive _ => true
  | .vWgeom _ => true
  | .vWload _ => true
  | .vDw _ => true
  | .vGrp _ => true
  | .vMaxp _ => true
  | .vMinp _ => true
  | .vSump _ => true
  | .detect _ => true
  | .lcopy _ _ => true
  | .lskew _ _ => true
  | .lfill _ _ => true
  | .laddr _ _ => true
  | .commandBegin _ _ => true
  | .commandComplete _ _ _ => true
  | .hungCoreHalt _ => true
  | .haltRecord _ => true
  | .tileComplete _ => true
  | .tileLaunch _ => true
  | .storeRequestPromotion _ wait busy => decide (1 ≤ wait) && decide (busy.conflicts ≤ wait)
  | .pisteTransferPromotion wait => decide (1 ≤ wait)
  | .rowWriteArrival _ => true
  | .liftFault _ => true
  | .liftResume _ => true
  | .streamClaim _ => true
  | .streamFill _ _ => true
  | .jobLaunch _ _ => true
  | .preemption _ => true
  | .abandonment _ => true
  | .stageStarvationReturn _ _ _ _ => true
  | .ringDoorbell _ => true
  | .ringEnable _ => true
  | .ringDisable _ => true
  | .ringBaseWrite _ _ => true
  | .versionCheck _ => true
  | .ringNop _ => true
  | .barrier _ => true
  | .fenceRegister _ => true
  | .fenceRelease _ => true
  | .ctxCreate _ => true
  | .ctxSet _ => true
  | .ctxDestroy _ => true
  | .ctxInvalidate _ => true
  | .ctxFault _ => true
  | .modelRegister _ => true
  | .modelUnregister _ => true
  | .modelHint _ => true
  | .jobSubmit _ => true
  | .standingBind _ => true
  | .standingUnbind _ => true
  | .barrierComplete _ => true
  | .ctxSetComplete _ => true
  | .invalidationComplete _ => true
  | .modelVerificationComplete _ _ => true
  | .modelUnregisterComplete _ _ => true
  | .standingUnbindComplete _ => true
  | .ctxDestroyComplete _ => true
  | .jobComplete _ _ => true
  | .modelLoadComplete _ _ => true
  | .faultSlotWrite _ => true
  | .faultWaitTimeout _ => true
  | .slalomGateEvaluate _ _ => true
  | .fallbackLaunch _ _ => true
  | .statusBlockWrite => true
  | .hostHeartbeat _ _ => true
  | .hostLoss => true
  | .perstNAssert => true
  | .functionLevelReset => true
  | .busMasterEnableClear => true
  | .d3hotEntry => true
  | .bar2Access _ _ bytes => !bytes.isEmpty && decide (bytes.length ≤ 4096)
  | .registerWrite _ offset _ _ => decide (offset < 0x2000000) && offset % 8 == 0
  | .csi2Packet _ pkt => pkt.ok
  | .frameStart _ _ => true
  | .frameEnd _ _ => true
  | .linePacket _ _ => true
  | .frameTimeout _ _ => true
  | .frameFirstLineOut _ _ => true
  | .slotDescriptorWrite _ => true
  | .slotRelease _ _ => true
  | .ispCommit _ _ => true
  | .ccmGo _ _ _ => true
  | .ccmArm _ _ _ => true
  | .ccmArmedStart _ => true
  | .ccmTransactionComplete _ _ _ => true
  | .ccmStretchTimeout _ => true
  | .frameSyncTrigger _ => true
  | .pocEnable _ _ => true
  | .pocDisable _ _ => true
  | .pocTrip _ mA => decide (mA < 1024)
  | .pocRetry _ => true
  | .pocBlankingEnd _ => true
  | .pocOpen _ mA => decide (mA < 1024)
  | .encCommit _ => true
  | .encodeFrameComplete _ _ => true
  | .ringReadPointerWrite _ _ => true
  | .decoderDoorbell _ => true
  | .decodeComplete _ => true
  | .poolSizeWrite _ => true
  | .saOwnerWrite _ => true
  | .rtcpSenderReport _ => true
  | .ethLinkChange _ _ => true
  | .ethFrameReceive _ _ => true
  | .ptpLock => true
  | .ptpLockLoss => true
  | .standaloneStart => true
  | .dramRequest r => r.ok && !(r.requester == .scrub || r.requester == .initialise)
  | .dramRequestServed _ _ o => decide (o.bad.Nodup)
  | .dramAgePromotion _ _ _ => true
  | .dramPortPromotion _ _ => true
  | .refreshDue _ _ _ => true
  | .calibrationDue _ _ _ _ => true
  | .scrubRead _ _ => true
  | .initBlock _ => true
  | .selfRefreshEntry _ _ _ => true
  | .selfRefreshExit _ _ => true
  | .modeRegisterCheck _ _ _ => true
  | .dramFreeze _ _ => true
  | .frozenRequest r => r.ok && !(r.requester == .scrub || r.requester == .initialise)
  | .dramThaw _ _ _ _ _ => true
  | .linkTrainingComplete _ _ => true
  | .linkSignalLoss _ => true
  | .linkFecFailure _ => true
  | .controlFlit _ f => f.header.ok && f.credits.length == 3
  | .controlFlitSend _ => true
  | .exchangeDataFlit _ h x => h.ok && decide (x.bytes.length ≤ 224)
  | .completionUpdate _ h u => h.ok && decide (u.member < 16)
  | .signatureRecord _ h _ => h.ok
  | .startGateArmFlit _ h _ => h.ok
  | .enumerationFlit _ h _ => h.ok
  | .takeoverNotice _ h _ => h.ok
  | .taiOffsetFlit _ h _ => h.ok
  | .timeStampExchange _ stamps => decide (stamps.t1 ≤ stamps.t4)
  | .taiOffsetSend => true
  | .treeRebuild => true
  | .startGateArm _ _ => true
  | .startGateDisarm _ => true
  | .startGateFire _ => true
  | .cascadeAbort _ _ a => a.source.ok
  | .pairsHeartbeatSend => true
  | .pairsTakeover => true
  | .synchroPendingTimeout _ => true
  | .porAssert _ => true
  | .porRelease b => b.trained.length == 8 && b.channels.length == 32 && b.flash.all (fun r => decide (r.1 + r.2.length ≤ 2 ^ 29))
  | .bootRetry flash => flash.all (fun r => decide (r.1 + r.2.length ≤ 2 ^ 29))
  | .patrolReset => true
  | .lodgeRestore => true
  | .patrolRestart => true
  | .rollbackAdvance => true
  | .flashErase _ => true
  | .flashProgram _ => true
  | .flashCompare _ => true
  | .flashOperationComplete _ => true
  | .logSelect _ => true
  | .traceRecordWrite => true
  | .eventQueueScan _ => true
  | .powerEstimate _ => true
  | .powerControlTick _ => true
  | .powerModeWrite _ => true
  | .thermalSample readings => readings.sensors.length == 24
  | .supplyFault => true
  | .referenceClockLoss _ => true
  | .counterDeltaTransfer offset => decide (offset < 0x2000000) && offset % 8 == 0
  | .errorReportAccept => true
  | .errRptrWrite _ => true
  | .firstErrorRearm _ => true
  | .illegalOpcode _ _ => true
  | .unknownRingOpcode _ _ => true
  | .rcFieldRead offset _ => decide (offset < 0x2000000) && offset % 8 == 0
  | .patrolHeartbeat => true
  | .referenceClockReturn _ => true
  | .perstNRelease => true
  | .busMasterEnableSet => true
  | .vddAonLoss => true

end Sys2Proof
end

