-- ==== Sys2Proof/Safety.lean ====
section
/-! DEFINITION. What counts as a safe run, and the terms in which the statements say what a command does: what it
answers, what it leaves unchanged, and when a Milac instruction or an engine command may act. -/

namespace Sys2Proof

open Machine

/-- A step from this state answers a next state. -/
def Safe (s : State) : Prop := ∃ t, step s = .next t

/-- A command has an effect in a state. -/
def Completes (i : Instr) (s : State) : Prop := ∃ t, exec i s = .next t

/-- A command answers a next state, of which P holds. -/
def Gives (i : Instr) (s : State) (P : State → Prop) : Prop := ∃ u, exec i s = .next u ∧ P u

/-! ## Frames -/

/-- Only these registers may differ. -/
def SameRegs (offs : List Nat) (s u : State) : Prop := ∀ o, o ∉ offs → u.reg o = s.reg o

/-- The registers that a write to DRAM may move: the controllers' marks and what follows from them (R295). -/
def initRegs : List Nat := (List.range 8).flatMap (fun d => [Reg.dmcInitMark d, Reg.dmcStatus d])

/-- The counts of requests that frozen controllers discard (R305). -/
def frozenCounts : List Nat := (List.range 8).map Reg.dmcFrzDiscardCount

/-- Nothing differs but core k and these registers: memory, the other cores and every queue of the device stay. -/
structure OnlyCore (k : CoreId) (offs : List Nat) (s u : State) : Prop where
  rest : u = { s with cores := u.cores, regs := u.regs }
  cores : ∀ j, j ≠ k → u.core j = s.core j
  regs : SameRegs offs s u

/-! ## Counts of the clockless side (R37, R363) -/

/-- By how much a list of counts, as offset and rise, raises the count at an offset. -/
def riseAt (l : List (Nat × Nat)) (o : Nat) : Nat := ((l.filter (fun e => e.1 == o)).map (·.2)).sum

/-- A delta after its count has risen by n: what stays at the source, and what is sent to the register, a multiple of 4,096. -/
def splitDelta (old n : Nat) : Nat × Nat := if n = 0 then (old, 0) else ((old + n) % 4096, (old + n) / 4096 * 4096)

/-- What a count sends to its register as it rises. -/
def sentBy (l : List (Nat × Nat)) (s : State) (o : Nat) : Nat := (splitDelta (lookupD 0 s.deltas o) (riseAt l o)).2

/-- Exactly these counts have risen, each at its source and, for each 4,096 reached, in its register, which saturates; only these
registers and the listed ones may differ. -/
structure Counted (l : List (Nat × Nat)) (offs : List Nat) (s u : State) : Prop where
  waits : ∀ o, lookupD 0 u.deltas o = (splitDelta (lookupD 0 s.deltas o) (riseAt l o)).1
  sent : ∀ e ∈ l, u.reg e.1 = if sentBy l s e.1 = 0 then s.reg e.1
    else BitVec.ofNat 64 (satAdd (regWidth e.1) (s.reg e.1).toNat (sentBy l s e.1))
  regs : SameRegs (l.map (·.1) ++ offs) s u

/-! ## Milac instructions (R100, R103, R107, R140) -/

/-- Core k runs tile t and may issue the instruction w: no field is set but its guard and those of the mask (R103), and its
guard is true. -/
structure Ready (s : State) (k : CoreId) (w : BitVec 56) (used : Nat) (t : Tile) : Prop where
  running : (s.core k).phase = .running
  tile : (s.core k).tile = some t
  fields : reservedSet w used = false
  guard : guardTrue (s.core k) w = true

/-- The charge of R140 has room for n steps more. -/
def Room (s : State) (k : CoreId) (n : Nat) : Prop := s.charge k .ctl + n ≤ 20000

/-- As `Ready`; the instruction that follows lies in the partition (R106), and the charge has room. -/
structure Issues (s : State) (k : CoreId) (w : BitVec 56) (used steps : Nat) (t : Tile) : Prop where
  ready : Ready s k w used t
  follow : inPartition t (sequel (s.core k).loops (s.core k).pc).2 = true
  room : Room s k steps

/-- The step monitor of core k has counted n control-core steps more, and nothing else (R140). -/
structure Charged (k : CoreId) (n : Nat) (s u : State) : Prop where
  ctl : u.charge k .ctl = s.charge k .ctl + n
  mtx : u.charge k .mtx = s.charge k .mtx
  vec : u.charge k .vec = s.charge k .vec

/-- The control has gone on as R107 says: to the next instruction, or to the start of a loop that repeats. -/
structure WentOn (k : CoreId) (s u : State) : Prop where
  pc : (u.core k).pc = BitVec.ofNat 18 (sequel (s.core k).loops (s.core k).pc).2
  loops : (u.core k).loops = (sequel (s.core k).loops (s.core k).pc).1

/-- The instruction wrote v to gD, went on, and changed nothing else of the machine but its charge. -/
structure WroteG (k : CoreId) (w : BitVec 56) (steps : Nat) (v : W64) (s u : State) : Prop where
  only : OnlyCore k [Reg.ccTileCharge k] s u
  core : u.core k = { s.core k with g := (u.core k).g, pc := (u.core k).pc, loops := (u.core k).loops }
  dest : (u.core k).gr (fD w) = if fD w = 0 then 0 else v
  others : ∀ r, r ≠ fD w → (u.core k).gr r = (s.core k).gr r
  went : WentOn k s u
  charged : Charged k steps s u

/-- The instruction wrote b to p[D[2:0]], went on, and changed nothing else of the machine but its charge. -/
structure WroteP (k : CoreId) (w : BitVec 56) (b : Bool) (s u : State) : Prop where
  only : OnlyCore k [Reg.ccTileCharge k] s u
  core : u.core k = { s.core k with p := (u.core k).p, pc := (u.core k).pc, loops := (u.core k).loops }
  dest : (u.core k).pr (field w 49 47) = if field w 49 47 = 0 then true else b
  others : ∀ j, j < 8 → j ≠ field w 49 47 → (u.core k).pr j = (s.core k).pr j
  went : WentOn k s u
  charged : Charged k 1 s u

/-- The control of core k has gone to an address, with the g registers and loop levels given, and nothing else of the
machine changed but the charge. -/
structure Jumped (k : CoreId) (target : Nat) (loops : List LoopLevel) (s u : State) : Prop where
  only : OnlyCore k [Reg.ccTileCharge k] s u
  core : u.core k = { s.core k with g := (u.core k).g, pc := BitVec.ofNat 18 target, loops := loops }
  charged : Charged k 1 s u

/-- Core k has halted with this report, its queues empty and its program state as it was (R115, R118). -/
structure Halted (k : CoreId) (src reason detail pc addr : Nat) (s u : State) : Prop where
  phase : (u.core k).phase = .halted
  status : u.reg (Reg.ccHaltStatus k) = BitVec.ofNat 64 (src * 2 ^ 12 + reason)
  detail : u.reg (Reg.ccHaltDetail k) = BitVec.ofNat 64 detail
  pc : u.reg (Reg.ccHaltPc k) = BitVec.ofNat 64 pc
  addr : u.reg (Reg.ccHaltAddr k) = BitVec.ofNat 64 addr
  queues : ∀ q, (u.core k).queue q = []
  g : (u.core k).g = (s.core k).g
  p : (u.core k).p = (s.core k).p
  dstore : (u.core k).dstore = (s.core k).dstore
  others : ∀ j, j ≠ k → u.core j = s.core j

/-- One byte of the data store of core k. -/
def dataByte (s : State) (k : CoreId) (a : Nat) : Byte := lookupD 0 (s.core k).dstore a

/-- The checks of R112 and R127 pass for a batch of descriptors, the queue has room for it and the charge too. -/
def Appends (s : State) (k : CoreId) (t : Tile) (q : QueueId) (ds : List Desc) : Prop :=
  ∃ s1, appendBatch s k t q ds = .ok s1

/-- The batch stands at the end of queue q, in order, each command waiting with its position and the address of its PUSH. -/
structure Appended (k : CoreId) (q : QueueId) (ds : List Desc) (s u : State) : Prop where
  queue : ∃ cs : List Cmd, (u.core k).queue q = (s.core k).queue q ++ cs ∧ cs.map (·.desc) = ds ∧
    cs.map (·.pos) = List.range ds.length ∧ (∀ c ∈ cs, c.phase = .waiting ∧ c.pc = (s.core k).pc)
  others : ∀ r, r ≠ q → (u.core k).queue r = (s.core k).queue r
  last : ds ≠ [] → (u.core k).lastAppended[q] = ds.getLast?
  core : u.core k = { s.core k with
    queues := (u.core k).queues, lastAppended := (u.core k).lastAppended, skew := (u.core k).skew,
    chainAppended := (u.core k).chainAppended, geomAppended := (u.core k).geomAppended,
    tile := (s.core k).tile.map (fun x => { x with appended := x.appended + ds.length }),
    phase := (u.core k).phase, pc := (u.core k).pc, loops := (u.core k).loops }
  only : OnlyCore k [Reg.ccTileCharge k] s u

/-! ## Engine commands (R67, R68, R124, R125) -/

/-- Core k runs tile t, and a command of its vector queue with this code is the one whose turn it is (R67, R68, R138). -/
structure VectorTurn (s : State) (k : CoreId) (t : Tile) (code n : Nat) (cmd : Cmd) : Prop where
  tile : (s.core k).tile = some t
  live : (s.core k).phase ≠ .halted
  next : nextVector s k code = some (n, cmd)

/-- The same of the matrix queue: the first command of this code that nothing before it holds back (R53, R138). -/
structure MatrixTurn (s : State) (k : CoreId) (t : Tile) (code n : Nat) (cmd : Cmd) : Prop where
  tile : (s.core k).tile = some t
  live : (s.core k).phase ≠ .halted
  next : nextMatrix s k code = some (n, cmd)

/-- The tail of the open chain, if one is open, can be taken for the n-th command of the matrix queue (R50, R164). -/
def TailReady (s : State) (k : CoreId) (t : Tile) (n : Nat) : Prop :=
  ∃ s0, endChain s k t (((s.core k).queue 0).take n) = .done s0

/-- A chain as slices enter it: the slices that it holds, the vectors that it owes, and those that have had their last slice. -/
structure Sliding where
  slices : List (List Nat)
  owed : List OwedVector
  landed : List (OwedVector × List Nat)

/-- One slice enters, and with it the vector that it begins, if it begins one: once as many slices are there as the array is deep,
the oldest vector owed is element i of the i-th of them, and the oldest slice leaves (R50). -/
def slide (depth : Nat) (a : Sliding) (p : List Nat × Option OwedVector) : Sliding :=
  let l := a.slices ++ [p.1]
  let owed := a.owed ++ p.2.toList
  if l.length < depth then ⟨l, owed, a.landed⟩
  else match owed with
    | [] => ⟨l.drop 1, [], a.landed⟩
    | o :: rest => ⟨l.drop 1, rest, a.landed ++ [(o, (List.range l.length).map (fun i => (l.getD i []).getD i 0))]⟩

/-- Vectors land one after another: the core with its accumulators after them, and the flags they raise (R52, R54, R56, R60). -/
def landAll (l : List (OwedVector × List Nat)) (c : Core) : Core × Nat :=
  l.foldl (fun a p => ((applyVector p.1 p.2 a.1).1, a.2 ||| (applyVector p.1 p.2 a.1).2)) (c, 0)

/-- A begun read-out, spill or fill whose turn it is, with no chain due to end (R50, R53). -/
structure AccTurn (s : State) (k : CoreId) (t : Tile) (code n : Nat) (cmd : Cmd) : Prop where
  turn : MatrixTurn s k t code n cmd
  chain : chainDue (s.core k) = false

/-- The n-th command of queue q has had its effect, and the queues are else as they were. -/
structure Executed (k : CoreId) (q : QueueId) (n : Nat) (s u : State) : Prop where
  mark : (u.core k).queue q = modifyNth (fun c => { c with phase := .executed }) n ((s.core k).queue q)
  others : ∀ r, r ≠ q → (u.core k).queue r = (s.core k).queue r

/-- Lane i of vector register r of core k. -/
def laneOf (s : State) (k : CoreId) (r i : Nat) : W32 := ((s.core k).vreg r).getD i 0

/-- The second source of register j of a run: the register VB + j, or SCALAR in every lane (R130). -/
def secondSource (d : Desc) (j : Nat) (ρ : Nat → Nat → W32) : Nat → W32 :=
  if d.getLsbD 54 then fun _ => d.extractLsb' 0 32 else ρ (d.vb + j)

/-- A register operation: the lanes of the result from the lanes of its three sources, and the sticky flags it raises (R96). -/
abbrev RegOp := (Nat → W32) → (Nat → W32) → (Nat → W32) → (Nat → W32) × ArithFlags

/-- The flags of all lanes together. -/
def allFlags (f : Nat → ArithFlags) : ArithFlags := (List.range 256).foldl (fun a i => a.or (f i)) ArithFlags.none

/-- A lane operation on registers: each lane from the lanes of that number. -/
def laneWise (f : W32 → W32 → W32 → W32 × ArithFlags) : RegOp := fun a b c =>
  (fun i => (f (a i) (b i) (c i)).1, allFlags (fun i => (f (a i) (b i) (c i)).2))

/-- The register file after a run of m registers from register j, and the flags raised (R67, R130): the registers in turn, each
from its sources as they then are. -/
def runFile (d : Desc) (f : RegOp) : Nat → Nat → (Nat → Nat → W32) → (Nat → Nat → W32) × ArithFlags
  | 0, _, ρ => (ρ, .none)
  | m + 1, j, ρ =>
    let r := f (ρ (d.va + j)) (secondSource d j ρ) (ρ (d.vc + j))
    let rest := runFile d f m (j + 1) (fun x i => if x = d.vd + j ∧ i < 256 then r.1 i else ρ x i)
    (rest.1, r.2.or rest.2)

/-- The number of source lanes that a test accepts among those a run reads, each register as it then is. -/
def runCount (d : Desc) (f : RegOp) (p : W32 → Bool) : Nat → Nat → (Nat → Nat → W32) → Nat
  | 0, _, _ => 0
  | m + 1, j, ρ =>
    ((List.range 256).filter (fun i => p (ρ (d.va + j) i))).length + runCount d f p m (j + 1) (fun x i =>
      if x = d.vd + j ∧ i < 256 then (f (ρ (d.va + j)) (secondSource d j ρ) (ρ (d.vc + j))).1 i else ρ x i)

/-- What a command of core k's vector engine may change of the core: vector registers and its queues. -/
def OnlyLanes (k : CoreId) (s u : State) : Prop :=
  u.core k = { s.core k with vregs := (u.core k).vregs, queues := (u.core k).queues }

/-- A run of a register operation: the lanes as `runFile` says, its flags set, and nothing else of the machine changed. -/
structure RegRun (k : CoreId) (n : Nat) (cmd : Cmd) (f : RegOp) (s u : State) : Prop where
  lanes : ∀ r i, i < 256 → laneOf u k r i = (runFile cmd.desc f (Desc.run cmd.desc) 0 (laneOf s k)).1 r i
  flags : u.reg (Reg.vxeArithStatus k) = s.reg (Reg.vxeArithStatus k) |||
    BitVec.ofNat 64 (runFile cmd.desc f (Desc.run cmd.desc) 0 (laneOf s k)).2.mask
  executed : Executed k 1 n s u
  core : OnlyLanes k s u
  only : OnlyCore k [Reg.vxeArithStatus k] s u

/-- The counts that a conversion raises (R36, R37). -/
def convCounts (k : CoreId) (t : ConvTally) : List (Nat × Nat) :=
  [(Reg.vxeConvCount k, t.conv), (Reg.vxeClipCount k, t.clip), (Reg.vxeNanCount k, t.nan)]

/-- The registers that hold them, and the status that goes with them. -/
def convRegs (k : CoreId) : List Nat := [Reg.vxeConvStatus k, Reg.vxeConvCount k, Reg.vxeClipCount k, Reg.vxeNanCount k]

/-- A count that has sent to its register reads its greatest value: SAT is set (R37). -/
def saturates (l : List (Nat × Nat)) (s u : State) (o : Nat) : Bool := sentBy l s o != 0 && (u.reg o).toNat == 2 ^ 64 - 1

/-- What a conversion adds to the counts and flags of core k (R36–R38); `more` are other counts that rise with it, and `offs` other
registers that may differ. -/
structure Converted (k : CoreId) (t : ConvTally) (more : List (Nat × Nat)) (offs : List Nat) (s u : State) : Prop where
  counts : Counted (convCounts k t ++ more) (Reg.vxeConvStatus k :: offs) s u
  flags : u.reg (Reg.vxeConvStatus k) = s.reg (Reg.vxeConvStatus k) |||
    BitVec.ofNat 64 ((if 0 < t.clip then 1 else 0) + (if 0 < t.nan then 2 else 0) + (if 0 < t.ovf then 4 else 0) +
      (if (convCounts k t).any (fun e => saturates (convCounts k t ++ more) s u e.1) then 8 else 0))
  tile : (u.core k).tile = (s.core k).tile.map (fun x =>
    { x with conv := x.conv + t.conv, clip := x.clip + t.clip, nan := x.nan + t.nan })

/-- Row writes of a command of core k go on their way: n rows from row r of a store, whose bytes begin with bs. -/
def SentRows (k : CoreId) (q : QueueId) (cmd : Cmd) (t : Tile) (st r n : Nat) (bs : List Byte) (s u : State) : Prop :=
  ∃ new : List RowWrite, u.writes = s.writes ++ new ∧ new.map (·.row) = (List.range n).map (fun i => rowAddr st (r + i)) ∧
    (∀ x ∈ new, x.part = false ∧ x.offset = 0 ∧ x.tag = some (t.tag k) ∧ x.owner = some (k, q, cmd.seq) ∧ x.data.length = 512) ∧
    (new.flatMap (·.data)).take bs.length = bs

/-- A row write enters an accumulate window of the stage that made it (R188). -/
def entersWindow (s : State) (w : RowWrite) (st r : Nat) : Bool :=
  match w.tag with
  | some t => s.inWindow t st r
  | none => false

/-- A row write has been performed at row r of store st (R119, R147, R154, R185, R188, R331): a late one is dropped and counted,
one into an accumulate window of its stage is added as FP32 elements and counted, any other replaces its bytes; a write of a tile
that still runs enters that tile's signature, but for one into its core's own local store. Nothing else changes. -/
structure Landed (w : RowWrite) (st r : Nat) (s u : State) : Prop where
  late : s.late st w.tag = true → u.mem = s.mem ∧ ∀ k, (u.core k).tile = (s.core k).tile
  plain : s.late st w.tag = false → entersWindow s w st r = false → ∀ x, u.byteAt x =
    if w.row + w.offset ≤ x ∧ x < w.row + w.offset + w.data.length then w.data.getD (x - (w.row + w.offset)) 0 else s.byteAt x
  window : s.late st w.tag = false → entersWindow s w st r = true → w.data.length % 4 = 0 →
    (∀ x, (x < w.row + w.offset ∨ w.row + w.offset + w.data.length ≤ x) → u.byteAt x = s.byteAt x) ∧
    ∀ i, 4 * i < w.data.length → BitVec.ofNat 32 (leAt (u.rd (w.row + w.offset) w.data.length) (4 * i) 4) =
      (fadd (BitVec.ofNat 32 (leAt (s.rd (w.row + w.offset) w.data.length) (4 * i) 4)) (BitVec.ofNat 32 (leAt w.data (4 * i) 4))).1
  signature : s.late st w.tag = false → ∀ t, w.tag = some t → ∀ k, (u.core k).tile =
    if k = t.core ∧ st ≠ k.val ∧ w.signs = true then (s.core k).tile.map (fun x => { x with
      sig := x.sig ^^^ sigWord (s.rowSigAddr t st r) (if w.part then u.rd w.row 512 else w.data) })
    else (s.core k).tile
  unsigned : w.tag = none → ∀ k, (u.core k).tile = (s.core k).tile
  counts : Counted (if s.late st w.tag = true then [(Reg.stoEpochDropCount st, 1)]
    else if entersWindow s w st r = true then [(Reg.stoAccumCount st, 1)] else []) [] s u
  cores : ∀ k, u.core k = { s.core k with tile := (u.core k).tile, accesses := (u.core k).accesses }
  rest : u = { s with mem := u.mem, cores := u.cores, writes := u.writes, deltas := u.deltas, regs := u.regs }

/-! ## The command ring (R228–R230, R234, R238) -/

/-- The ring's header checks, payload checks, context check and fence check all pass for an entry (R228, R230). -/
structure Admitted (opcode : Nat) (e : RingEntry) (scope : RingScope) (bad : List Nat) (s : State) : Prop where
  ready : s.ringReady = true
  running : s.hifState = 4 ∨ opcode = 1 ∨ opcode = 2
  fields : headerBad e scope ++ bad = []
  context : s.contextRefusal (RingEntry.ctx e) scope = none
  fence : RingEntry.fen e = true → s.fenceUsable e scope (opcode == 0x12) = true

/-- The entry is consumed: HEAD has moved past it and the status block has been written once (R229, R238). -/
structure Consumed (s u : State) : Prop where
  head : u.fld Reg.hifRingHead 15 0 = (s.fld Reg.hifRingHead 15 0 + 1) % s.ringSize % 65536
  status : u.host.statusSeq = s.host.statusSeq + 1

/-- The entry is consumed with a refusal: nothing else has happened than the answer. -/
structure RefusedWith (result detail : Nat) (s u : State) : Prop where
  answer : u = s.respond result detail 0
  consumed : Consumed s u
  rest : u = { s with regs := u.regs, hostMem := u.hostMem, host := u.host }

/-- The command is accepted: outstanding under its number until complete (R229). -/
structure Accepted (opcode arg : Nat) (ctx : Option CtxId) (done : Bool) (s u : State) : Prop where
  consumed : Consumed s u
  ids : u.ringIds = s.ringIds + 1
  kept : ∀ w ∈ s.ringWork, w.id ≠ s.ringIds → w ∈ u.ringWork
  new : ∀ w ∈ u.ringWork, w ∉ s.ringWork → done = false ∧ w.id = s.ringIds ∧ w.opcode = opcode ∧ w.ctx = ctx ∧ w.arg = arg
  outstanding : done = false → ∃ w ∈ u.ringWork, w.id = s.ringIds ∧ w.opcode = opcode
  gone : done = true → ∀ w ∈ u.ringWork, w.id ≠ s.ringIds

/-- The command of this number has completed: it is outstanding no longer, and the others are (R229). -/
structure WorkDone (id : Nat) (s u : State) : Prop where
  gone : ∀ w ∈ u.ringWork, w.id ≠ id
  kept : ∀ w ∈ s.ringWork, w.id ≠ id → w ∈ u.ringWork
  none : ∀ w ∈ u.ringWork, w ∈ s.ringWork

/-- What raising a fence and answering a command may touch: registers, memory of host and device, the controllers that initialise or
hold it, fences, raises and held writes, the list of outstanding commands, reports. Contexts, models, jobs, cores, counters and everything else stay. -/
def RingFrame (s u : State) : Prop :=
  u = { s with regs := u.regs, mem := u.mem, hostMem := u.hostMem, host := u.host, fences := u.fences, raises := u.raises,
               heldWrites := u.heldWrites, dmc := u.dmc, ringWork := u.ringWork, ringIds := u.ringIds, reports := u.reports,
               reservedUsed := u.reservedUsed }

/-! ## Register writes (R397, R398, R401–R407) -/

/-- Registers that a row names, each alone. -/
def namedRegs : List Nat :=
  [Reg.hifDrvVersion, Reg.hifRingBase, Reg.hifRingSize, Reg.hifRingCtrl, Reg.hifRingTail, Reg.hifHeartbeat, Reg.ldgLogSel,
    Reg.ldgFlashCmd, Reg.ldgPatrolCtrl, Reg.pwrCtrl, Reg.ispCommit 0, Reg.ispCommit 1, Reg.vcEncCommit, Reg.vcDecTail, Reg.vcSaOwner,
    Reg.vcPoolSize, Reg.errRptr, Reg.errFirstValid]

/-- A write to one of these answers what its row answers. `full` holds the RW fields after the write and the bits written to RW1C and
WO fields. -/
structure TakesRow (lodge : Bool) (off : Nat) (acc : RegAccess) (v full : W64) (s : State) : Prop where
  version : off = Reg.hifDrvVersion → exec (.registerWrite lodge off acc v) s = exec (.versionCheck (full.setWidth 32)) s
  base : off = Reg.hifRingBase → exec (.registerWrite lodge off acc v) s = exec (.ringBaseWrite false full) s
  size : off = Reg.hifRingSize → exec (.registerWrite lodge off acc v) s = exec (.ringBaseWrite true full) s
  ctrl : off = Reg.hifRingCtrl → exec (.registerWrite lodge off acc v) s =
    if full.getLsbD 0 then exec (.ringEnable (full.getLsbD 1)) s else exec (.ringDisable (full.getLsbD 1)) s
  tail : off = Reg.hifRingTail → exec (.registerWrite lodge off acc v) s = exec (.ringDoorbell full) s
  heartbeat : off = Reg.hifHeartbeat → exec (.registerWrite lodge off acc v) s = exec (.hostHeartbeat acc v) s
  log : off = Reg.ldgLogSel → exec (.registerWrite lodge off acc v) s = exec (.logSelect full) s
  flash : off = Reg.ldgFlashCmd → ∀ units : BitVec 32, units.toNat = field full 63 32 →
    (field full 7 0 = 1 → exec (.registerWrite lodge off acc v) s = exec (.flashErase units) s) ∧
    (field full 7 0 = 2 → exec (.registerWrite lodge off acc v) s = exec (.flashProgram units) s) ∧
    (field full 7 0 = 3 → exec (.registerWrite lodge off acc v) s = exec (.flashCompare units) s) ∧
    (field full 7 0 ∉ [1, 2, 3] → exec (.registerWrite lodge off acc v) s = .next s)
  patrol : off = Reg.ldgPatrolCtrl → exec (.registerWrite lodge off acc v) s = if full.getLsbD 0 then exec .patrolRestart s else .next s
  power : off = Reg.pwrCtrl → exec (.registerWrite lodge off acc v) s = exec (.powerModeWrite (full.setWidth 32)) s
  pipe : ∀ p : Fin 2, off = Reg.ispCommit p → exec (.registerWrite lodge off acc v) s = exec (.ispCommit p ⟨lodge, full.setWidth 16⟩) s
  encoder : off = Reg.vcEncCommit → exec (.registerWrite lodge off acc v) s = exec (.encCommit ⟨lodge, full.setWidth 32⟩) s
  decoder : off = Reg.vcDecTail → exec (.registerWrite lodge off acc v) s = exec (.decoderDoorbell (full.setWidth 16)) s
  owner : off = Reg.vcSaOwner → exec (.registerWrite lodge off acc v) s = exec (.saOwnerWrite (full.setWidth 16)) s
  pool : off = Reg.vcPoolSize → exec (.registerWrite lodge off acc v) s = exec (.poolSizeWrite (full.setWidth 32)) s
  rptr : off = Reg.errRptr → exec (.registerWrite lodge off acc v) s = exec (.errRptrWrite full) s
  rearm : off = Reg.errFirstValid → exec (.registerWrite lodge off acc v) s = exec (.firstErrorRearm (full.setWidth 32)) s

/-- A register that a row names by one of several: start gates, sensor ports' power and control master, read pointers of the bitstream
rings and fault controls of the Lifts. -/
def inRowFamily (off : Nat) : Bool :=
  (decide (0x300100 ≤ off) && decide (off < 0x300180)) ||
  (decide (0x1000000 ≤ off) && decide (off < 0x1100000) && (off % 0x10000 == 0 || off % 0x10000 == 0x200)) ||
  (decide (0x1400200 ≤ off) && decide (off < 0x1400300)) || (List.finRange 12).any (fun l => off == Reg.lftFaultCtrl l.val)

/-- A register after whose write something else follows: the trigger schedule, the enrolment and the pairing of contexts, and the
Ethernet ports. -/
def hasSequel (off : Nat) : Bool :=
  (decide (0x1000000 ≤ off) && decide (off < 0x1100000) && (off % 0x10000 == 0x300 || off % 0x10000 == 0x308 || off % 0x10000 == 0x310)) ||
  (decide (0x301040 ≤ off) && decide (off < 0x301080)) || off == Reg.rnkPairCtrl ||
  (decide (Reg.rnkPairCtx 0 ≤ off) && decide (off ≤ Reg.rnkPairCtx 15)) || off == Reg.ethCtrl 0 || off == Reg.ethCtrl 1

/-- Fields that take another value than one written out of their range: register, bits, least and greatest value, and the value taken
(R218, R291, R307, R335, R404). -/
def rangedFields : List (Nat × Nat × Nat × Nat × Nat × Nat) :=
  [(Reg.ldgTraceCtrl, 15, 11, 8, 24, 8), (Reg.synCtrl, 15, 2, 100, 10000, 1000), (Reg.vcDecQbase, 3, 0, 4, 10, 4)] ++
  (List.range 8).flatMap (fun d => [(0x800010 + 0x10000 * d, 23, 20, 6, 12, 8), (0x800010 + 0x10000 * d, 19, 10, 0, 1000, 20),
    (0x800010 + 0x10000 * d, 7, 0, 1, 128, 8), (0x800018 + 0x10000 * d, 7, 0, 1, 168, 24)]) ++
  (List.range 16).flatMap (fun n => [(0x1000300 + 0x10000 * n, 19, 10, 1, 1000, 10),
    (0x1000310 + 0x10000 * n, 31, 0, 1000000, 4000000000, 33333333)])

/-- Registers that take every value written to their RW fields. -/
def takesAll (off : Nat) : Bool :=
  rangedFields.all (fun r => r.1 != off) && off != Reg.hifHbTimeout && off != Reg.ldgXltRegionBase && off != Reg.ldgXltRegionSize &&
  off != Reg.rnkPairCtrl

/-! ## Host loss (R243, R245) -/

/-- The host is lost: RUNNING has ended with a record that names why, the ring's registers are as at reset, nothing is written
to the host any more, contexts that are not autonomous are parked, the others and every running tile go on. -/
structure HostLost (detail : Nat) (s u : State) : Prop where
  state : u.hifState = 5
  ring : u.ringOn = false ∧ u.reg Reg.hifRingHead = 0 ∧ u.reg Reg.hifRingTail = 0 ∧ u.reg Reg.hifRingBase = 0
  mastering : u.host.mastering = false ∧ u.host.heartbeatTimer = false
  count : (u.reg Reg.hifHostlossCount).toNat = satAdd 32 (s.reg Reg.hifHostlossCount).toNat 1
  parked : ∀ x ∈ s.contexts, x.id ≠ 0 → s.autonomousNow x = false → { x with parked := true } ∈ u.contexts
  others : ∀ c, (∀ x ∈ s.contexts, x.id = c → s.autonomousNow x = true) → u.ctx? c = s.ctx? c
  logged : u.lodge.log = s.lodge.log ++ [⟨s.gate, 5, 1, 4, [BitVec.ofNat 64 detail]⟩]
  tiles : ∀ k, (u.core k).tile = (s.core k).tile ∧ (u.core k).phase = (s.core k).phase ∧
    (u.core k).queues = (s.core k).queues ∧ (u.core k).g = (s.core k).g
  mem : u.mem = s.mem ∧ u.hostMem = s.hostMem

/-! ## Flits (R310, R312, R316) -/

/-- A checked flit of a type and its class that is the next of its link (R310–R312). -/
structure FlitNext (s : State) (n : RinkPort) (h : FlitHeader) (ty : Nat) : Prop where
  live : s.rinkLive = true
  up : s.linkUp n = true
  crc : h.crcOk = true
  code : h.typeCode.toNat = ty
  known : ty < 8 ∧ h.cls.toNat = classOf ty ∧ h.reserved = 0
  seq : h.seq = (s.links[n]).expectSeq

/-- Such a flit that is for this device (R316). -/
structure FlitTaken (s : State) (n : RinkPort) (h : FlitHeader) (ty : Nat) : Prop where
  next : FlitNext s n h ty
  here : h.dest = 0xFFF ∨ h.dest.toNat = s.devId

/-- The state in which a message that has come in its place is delivered: its corrected codewords are counted, and the link expects
the next flit (R312, R335). -/
def Arrived (s : State) (n : RinkPort) (h : FlitHeader) : State := (s.countFec n h).tookFlit n h

/-- The device holds a message for a destination at a port, sent and not acknowledged or waiting for its grant (R312, R313). -/
def Holds (u : State) (p : RinkPort) (dest : BitVec 12) (m : RinkMsg) : Prop :=
  (dest, m) ∈ (u.links[p]).retry ++ (u.links[p]).waiting.map (·.2)

/-- A message goes along the path to a destination, where one leads there (R316). -/
def GoesTo (s u : State) (dest : BitVec 12) (m : RinkMsg) : Prop :=
  ∀ r, s.rink.routes.find? (fun r => r.1 == dest) = some r → s.linkUp r.2 = true → Holds u r.2 dest m

/-- A job is over on this device: it has ended, and no core that is active runs a tile of it (R186, R325). -/
structure Aborted (uid : W32) (u : State) : Prop where
  ended : ∀ y ∈ u.jobs, y.uid = uid → y.state = .ended
  stopped : ∀ k, (u.core k).phase.active = true → u.runsTile uid k = false

/-! ## Boot and stop (R343, R348, R359) -/

/-- STAGE reads FAILED (R343). -/
def BootFailed (u : State) : Prop := u.fld Reg.ldgBootStatus 3 0 = 5

/-- The boot is DONE: the kernel runs, the handshake is at READY, every controller is trained or failed, and DRAM holds nothing. -/
structure BootDone (u : State) : Prop where
  stage : u.fld Reg.ldgBootStatus 3 0 = 4
  kernel : u.lodge.inReset = false ∧ u.lodge.patrolBeat = u.gate
  ready : u.hifState = 1
  dram : ∀ d : DmcId, u.dmcState d = 1 ∨ u.dmcState d = 3
  mem : ∀ a, a < 2 ^ 41 → u.byteAt a = 0

/-- The firmware entries that the ROM tries, from the flash of a state (R338, R343). -/
def firmwareTried (s : State) : List (Nat × Nat × Nat × Nat) :=
  match s.directory with
  | some (_, es) => (entriesOf .firmware es).take 2
  | none => []

/-- An entry boots: part 1 verifies, and the rest has the digest that part 1 carries (R340, R343). -/
def entryBoots (s : State) (e : Nat × Nat × Nat × Nat) : Bool := (s.imageCause .firmware e).isNone && s.restOk e

/-- A boot from the flash, slots and counter of s has ended: DONE with the first entry that boots, or FAILED where none does. -/
structure Booted (s u : State) : Prop where
  failed : (∀ e ∈ firmwareTried s, entryBoots s e = false) → BootFailed u
  done : ∀ e, (firmwareTried s).find? (entryBoots s) = some e → BootDone u ∧ u.fld Reg.ldgBootStatus 7 4 = e.1 % 16 ∧
    u.lodge.bootImage = some (e.1, e.2.2.1, e.2.2.2)

/-- Every core is stopped without a halt, or keeps the halt it had, and one that was active has neither a tile nor a queued command
left (R118, R186). -/
def AllStopped (s u : State) : Prop :=
  ∀ k, (u.core k).phase = (s.core k).phase.stop ∧
    ((s.core k).phase.active = true → (u.core k).tile = none ∧ ∀ q, (u.core k).queue q = [])

/-- The device has shut down until POR_N (R359). -/
structure ShutDown (thermal : Bool) (s u : State) : Prop where
  power : u.power.stopped = true
  cause : u.flag Reg.pwrShutdownCause 0 = thermal
  cores : AllStopped s u
  lodge : u.lodge.inReset = true
  host : u.host.answering = false ∧ u.host.mastering = false
  links : u.flag (Reg.ethStatus 0) 0 = false ∧ u.flag (Reg.ethStatus 1) 0 = false
  refresh : ∀ (d : DmcId) (ch : ChannelId), (u.dmc[d]).selfRefresh[ch] = true
  mem : u.mem = s.mem

/-! ## The instruction words (R102–R104) -/

/-- Every Milac instruction but LOOP, with the bits of its word that its format uses; the others are reserved, but for the opcode
and the guard (R102, R104). -/
def milacFields (k : CoreId) (w : BitVec 56) : List (Instr × Nat) :=
  [Instr.ccNop k w, .ccRet k w, .ccBreak k w].map (·, 0) ++
  [Instr.ccAdd k w, .ccSub k w, .ccMul k w, .ccMulhs k w, .ccMulhu k w, .ccDivs k w, .ccDivu k w, .ccRems k w,
    .ccRemu k w, .ccAnd k w, .ccOr k w, .ccXor k w, .ccShl k w, .ccShr k w, .ccSra k w, .ccMin k w, .ccMax k w,
    .ccMinu k w, .ccMaxu k w, .ccAadd k w, .ccPush k w].map (·, mD + mA + mB) ++
  [Instr.ccMadd k w, .ccAcas k w].map (·, mD + mA + mB + mC) ++
  [Instr.ccSel k w].map (·, mD + mA + mB + bits 34 32) ++
  [Instr.ccAddi k w, .ccAndi k w, .ccOri k w, .ccXori k w, .ccShli k w, .ccShri k w, .ccSrai k w, .ccLd k w,
    .ccLw k w, .ccLwu k w, .ccSt k w, .ccSw k w].map (·, mD + mA + mImm) ++
  [Instr.ccMovi k w, .ccMovh k w, .ccRds k w].map (·, mD + mImm) ++
  [Instr.ccCmp k w].map (·, bits 49 47 + mA + mB + mC) ++
  [Instr.ccCmpi k w].map (·, bits 49 47 + mA + mB + mImm) ++
  [Instr.ccPlog k w].map (·, bits 49 47 + bits 44 42 + bits 39 37 + bits 35 32) ++
  [Instr.ccLidx k w].map (·, mD + bits 1 0) ++
  [Instr.ccBr k w, .ccCall k w].map (·, mImm) ++
  [Instr.ccJr k w].map (·, mA) ++
  [Instr.ccEnd k w].map (·, bits 0 0) ++
  [Instr.ccHalt k w].map (·, bits 7 0) ++
  [Instr.ccTrace k w].map (·, bits 15 0) ++
  [Instr.ccRld k w, .ccRst k w].map (·, mD + mA) ++
  [Instr.ccFence k w].map (·, bits 4 0) ++
  [Instr.ccPushd k w].map (·, mD + mA + bits 30 24 + bits 15 0) ++
  [Instr.ccTwait k w, .ccTsig k w, .ccTdec k w].map (·, bits 20 0) ++
  [Instr.ccClaim k w].map (·, mD + bits 11 8 + bits 2 0)

/-- The opcode map of the instruction set (R104), with the low 56 bits of a word. -/
def milacOpcodes (k : CoreId) (w : BitVec 56) : List (Nat × Instr) :=
  [(0x01, .ccNop k w)] ++
  [(0x10, .ccAdd k w), (0x11, .ccAddi k w), (0x12, .ccSub k w), (0x13, .ccMul k w), (0x14, .ccMulhs k w), (0x15, .ccMulhu k w),
    (0x16, .ccDivs k w), (0x17, .ccDivu k w), (0x18, .ccRems k w), (0x19, .ccRemu k w), (0x1A, .ccAnd k w), (0x1B, .ccAndi k w),
    (0x1C, .ccOr k w), (0x1D, .ccOri k w), (0x1E, .ccXor k w), (0x1F, .ccXori k w)] ++
  [(0x20, .ccShl k w), (0x21, .ccShli k w), (0x22, .ccShr k w), (0x23, .ccShri k w), (0x24, .ccSra k w), (0x25, .ccSrai k w),
    (0x26, .ccMin k w), (0x27, .ccMax k w), (0x28, .ccMinu k w), (0x29, .ccMaxu k w), (0x2A, .ccMovi k w), (0x2B, .ccMovh k w),
    (0x2C, .ccMadd k w), (0x2D, .ccSel k w)] ++
  [(0x30, .ccCmp k w), (0x31, .ccCmpi k w), (0x32, .ccPlog k w), (0x38, .ccRds k w), (0x39, .ccLidx k w)] ++
  [(0x40, .ccBr k w), (0x41, .ccJr k w), (0x42, .ccCall k w), (0x43, .ccRet k w), (0x44, .ccLoop k w), (0x45, .ccBreak k w),
    (0x46, .ccEnd k w), (0x47, .ccHalt k w), (0x48, .ccTrace k w)] ++
  [(0x50, .ccLd k w), (0x51, .ccLw k w), (0x52, .ccLwu k w), (0x53, .ccSt k w), (0x54, .ccSw k w), (0x58, .ccRld k w),
    (0x59, .ccRst k w), (0x5A, .ccAadd k w), (0x5B, .ccAcas k w), (0x5C, .ccFence k w)] ++
  [(0x60, .ccPush k w), (0x61, .ccPushd k w), (0x64, .ccTwait k w), (0x65, .ccTsig k w), (0x66, .ccTdec k w), (0x68, .ccClaim k w)]

/-- A code of the word is reserved: the condition of CMP and CMPI (R104). -/
def reservedCode (i : Instr) : Bool :=
  match i with
  | .ccCmp _ w => decide (6 ≤ (fC w).toNat)
  | .ccCmpi _ w => decide (6 ≤ (fB w).toNat)
  | _ => false

end Sys2Proof
end

