-- ==== Sys2Proof/Certificates/Slice0/Obligations.lean ====
section
/-! DEFINITION. The statements for the provers. -/

open Sys2Proof Sys2Proof.Machine

/-! ## The step, reset, memory -/

/-- A step takes the command at the front of the queue and carries it out with the queue's rest. On an empty queue only the
gate count rises, by one: that is the model's choice (log 3), no rule of the specification. -/
def Obligations.StepRunsTheFront : Prop :=
  (∀ (c : Instr) (rest : List Instr) (s : State), s.pending = c :: rest → step s = exec c { s with pending := rest }) ∧
  (∀ s : State, s.pending = [] → step s = .next { s with gate := s.gate + 1 })

/-- R7, R8, R65, R97, R118, R174, R193, R225, R335, R388: after reset the gate count is 0, POR_N is low and PERST_N asserted,
every core is idle with empty queues and its halt registers 0, no context but the Lodge's exists, no counter is bound, the host
interface is at RESET, and every register reads as the register map says, which is 0 where the specification gives no reset value (log
5). That memory and stores, whose contents at power-on the specification leaves open, read 0 at every address is the model's choice (log
4). -/
def Obligations.ResetState : Prop :=
  State.reset.pending = [] ∧ State.reset.gate = 0 ∧ State.reset.board.porLow = true ∧ State.reset.host.perst = true ∧
  State.reset.hifState = 0 ∧ State.reset.ringOn = false ∧ State.reset.contexts.map (·.id) = [0] ∧
  State.reset.models = [] ∧ State.reset.jobs = [] ∧ State.reset.fences = [] ∧ State.reset.reports = [] ∧
  (∀ p : CounterId, State.reset.counters[p] = none) ∧ (∀ d : DestId, State.reset.standing[d] = none) ∧
  (∀ k : CoreId, (State.reset.core k).phase = .idle ∧ (State.reset.core k).tile = none ∧ (State.reset.core k).seats = [] ∧
    (∀ q, (State.reset.core k).queue q = []) ∧ State.reset.reg (Reg.ccHaltStatus k) = 0 ∧
    State.reset.reg (Reg.ccTileCharge k) = 0) ∧
  (∀ off, State.reset.reg off = regReset off) ∧ (∀ a, State.reset.byteAt a = 0)

/-- A step ends in a next state, but for a DRAM request outside the memory of the device, which is the only fault; no command is
refused. That an event which cannot happen in a state answers that state is the model's choice (log 2), and so is the stop at an address
that no controller holds (NOTES.md, Stops): the interleave of R293 and R296 gives such an address no place. -/
def Obligations.OnlyAbsentMemoryStops : Prop :=
  ∀ s : State, (∃ t, step s = .next t) ∨
    (∃ a, step s = .fault (.noSuchMemory a) ∧ s.dramAt a = none ∧
      ∃ r rest, (s.pending = .dramRequest r :: rest ∨ s.pending = .frozenRequest r :: rest) ∧ r.addr = a)

/-- Device memory keeps its canonical form in every step: strictly rising addresses, and no byte listed that reads as an
unlisted one. -/
def Obligations.MemoryStaysCanonical : Prop :=
  ∀ s t : State, Memory.wf s.mem = true → step s = .next t → Memory.wf t.mem = true

/-- Device memory has its canonical form after reset. -/
def Obligations.MemoryCanonicalAtReset : Prop :=
  Memory.wf State.reset.mem = true

/-! ## The control core: Milac (R97–R123, R409) -/

/-- R104, R105: the value that each arithmetic instruction gives gD, with its issue steps, for every operand; nothing else of
the machine changes but the control and the charge.
R105: quotients and remainders, the edges of MIN ÷ −1 and of a zero divisor, and the sticky DIVZ bit of CC_STATUS. -/
def Obligations.ArithmeticResults : Prop :=
  (∀ (s : State) (k : CoreId) (w : BitVec 56) (t : Tile) (a b c imm : W64),
     (s.core k).gr (fA w) = a → (s.core k).gr (fB w) = b → (s.core k).gr (fC w) = c →
     (w.extractLsb' 0 32).signExtend 64 = imm →
     (Issues s k w (mD + mA + mB) 1 t →
       Gives (.ccAdd k w) s (WroteG k w 1 (a + b) s) ∧
       Gives (.ccSub k w) s (WroteG k w 1 (a - b) s) ∧
       Gives (.ccAnd k w) s (WroteG k w 1 (a &&& b) s) ∧
       Gives (.ccOr k w) s (WroteG k w 1 (a ||| b) s) ∧
       Gives (.ccXor k w) s (WroteG k w 1 (a ^^^ b) s) ∧
       Gives (.ccShl k w) s (WroteG k w 1 (a <<< b.toNat) s) ∧
       Gives (.ccShr k w) s (WroteG k w 1 (a >>> b.toNat) s) ∧
       Gives (.ccSra k w) s (WroteG k w 1 (a.sshiftRight b.toNat) s) ∧
       Gives (.ccMin k w) s (WroteG k w 1 (if b.slt a then b else a) s) ∧
       Gives (.ccMax k w) s (WroteG k w 1 (if a.slt b then b else a) s) ∧
       Gives (.ccMinu k w) s (WroteG k w 1 (if b.ult a then b else a) s) ∧
       Gives (.ccMaxu k w) s (WroteG k w 1 (if a.ult b then b else a) s)) ∧
     (Issues s k w (mD + mA + mB) 3 t →
       Gives (.ccMul k w) s (WroteG k w 3 (a * b) s) ∧
       Gives (.ccMulhs k w) s (WroteG k w 3 ((a.signExtend 128 * b.signExtend 128).extractLsb' 64 64) s) ∧
       Gives (.ccMulhu k w) s (WroteG k w 3 ((a.zeroExtend 128 * b.zeroExtend 128).extractLsb' 64 64) s)) ∧
     (Issues s k w (mD + mA + mB + mC) 3 t → Gives (.ccMadd k w) s (WroteG k w 3 (a * b + c) s)) ∧
     (Issues s k w (mD + mA + mImm) 1 t →
       Gives (.ccAddi k w) s (WroteG k w 1 (a + imm) s) ∧
       Gives (.ccAndi k w) s (WroteG k w 1 (a &&& imm) s) ∧
       Gives (.ccOri k w) s (WroteG k w 1 (a ||| imm) s) ∧
       Gives (.ccXori k w) s (WroteG k w 1 (a ^^^ imm) s) ∧
       Gives (.ccShli k w) s (WroteG k w 1 (a <<< (w.extractLsb' 0 32).toNat) s) ∧
       Gives (.ccShri k w) s (WroteG k w 1 (a >>> (w.extractLsb' 0 32).toNat) s) ∧
       Gives (.ccSrai k w) s (WroteG k w 1 (a.sshiftRight (w.extractLsb' 0 32).toNat) s)) ∧
     (Issues s k w (mD + mImm) 1 t →
       Gives (.ccMovi k w) s (WroteG k w 1 imm s) ∧
       Gives (.ccMovh k w) s (WroteG k w 1 (w.extractLsb' 0 32 ++ ((s.core k).gr (fD w)).extractLsb' 0 32) s)) ∧
     (Issues s k w (mD + mA + mB + bits 34 32) 1 t →
       Gives (.ccSel k w) s (WroteG k w 1 (if (s.core k).pr (field w 34 32) then a else b) s))) ∧
  (∀ (s : State) (k : CoreId) (w : BitVec 56) (t : Tile) (a b : W64),
     (s.core k).gr (fA w) = a → (s.core k).gr (fB w) = b → Issues s k w (mD + mA + mB) 34 t →
     let Divided := fun (v : W64) (u : State) =>
       OnlyCore k [Reg.ccTileCharge k, Reg.ccStatus k] s u ∧
       u.core k = { s.core k with g := (u.core k).g, pc := (u.core k).pc, loops := (u.core k).loops } ∧
       (u.core k).gr (fD w) = (if fD w = 0 then 0 else v) ∧ (∀ r, r ≠ fD w → (u.core k).gr r = (s.core k).gr r) ∧
       u.reg (Reg.ccStatus k) = (if b = 0 then s.reg (Reg.ccStatus k) ||| 4 else s.reg (Reg.ccStatus k)) ∧
       WentOn k s u ∧ Charged k 34 s u
     Gives (.ccDivs k w) s (Divided (if b = 0 then (if a.slt 0 then BitVec.intMin 64 else BitVec.intMax 64) else a.sdiv b)) ∧
     Gives (.ccDivu k w) s (Divided (if b = 0 then BitVec.allOnes 64 else a.udiv b)) ∧
     Gives (.ccRems k w) s (Divided (if b = 0 then a else a.srem b)) ∧
     Gives (.ccRemu k w) s (Divided (if b = 0 then a else a.umod b)))

/-- R104: CMP and CMPI write the relation their code names, PLOG the entry of its truth table; p0 discards the write.
R101, R104: RDS reads the selector's value from the running tile or the feature words, a selector not listed reading 0;
LIDX reads the index of an active loop level, 0 innermost. -/
def Obligations.PredicatesAndTileState : Prop :=
  (∀ (s : State) (k : CoreId) (w : BitVec 56) (t : Tile) (a b imm : W64),
     (s.core k).gr (fA w) = a → (s.core k).gr (fB w) = b → (w.extractLsb' 0 32).signExtend 64 = imm →
     let rel := fun (code : Nat) (x y : W64) =>
       ([x == y, x != y, x.slt y, !x.slt y, x.ult y, !x.ult y]).getD code false
     (Issues s k w (bits 49 47 + mA + mB + mC) 1 t → (fC w).toNat < 6 →
       Gives (.ccCmp k w) s (WroteP k w (rel (fC w).toNat a b) s)) ∧
     (Issues s k w (bits 49 47 + mA + mB + mImm) 1 t → (fB w).toNat < 6 →
       Gives (.ccCmpi k w) s (WroteP k w (rel (fB w).toNat a imm) s)) ∧
     (Issues s k w (bits 49 47 + bits 44 42 + bits 39 37 + bits 35 32) 1 t →
       Gives (.ccPlog k w) s (WroteP k w (w.getLsbD (32 + 2 * ((s.core k).pr (field w 44 42)).toNat +
         ((s.core k).pr (field w 39 37)).toNat)) s))) ∧
  (∀ (s : State) (k : CoreId) (w : BitVec 56) (t : Tile),
     (Issues s k w (mD + mImm) 1 t → (w.extractLsb' 0 32).toNat ≤ 0x1FF →
       let word := fun (j : Nat) => s.board.features.getD j 0
       let table : List (Nat × W64) := [(0x000, (s.core k).pc.zeroExtend 64), (0x001, t.index), (0x002, t.epoch.zeroExtend 64),
         (0x003, BitVec.ofNat 64 t.ctx), (0x004, BitVec.ofNat 64 k), (0x005, BitVec.ofNat 64 (k / 2)),
         (0x006, if t.strict then 1 else 0), (0x100, word 0), (0x101, word 1), (0x102, word 2), (0x103, word 3),
         (0x104, word 4), (0x105, word 5), (0x106, word 6), (0x107, word 7),
         (0x108, BitVec.ofNat 64 (t.ipart * 65536 + t.dpart))]
       Gives (.ccRds k w) s (WroteG k w 1 ((table.lookup (w.extractLsb' 0 32).toNat).getD 0) s)) ∧
     (Issues s k w (mD + bits 1 0) 1 t → ∀ l, (s.core k).loops[field w 1 0]? = some l →
       Gives (.ccLidx k w) s (WroteG k w 1 (l.i.zeroExtend 64) s)))

/-- R104, R106: BR, JR, CALL and RET go to their target when it lies in the partition, is a multiple of 8 and does not leave
the body of the innermost loop (from which CALL is exempt); CALL keeps the return address in g31.
R107: LOOP opens a level, or passes over its body when the count is 0 or the guard false; BREAK leaves the innermost
level. -/
def Obligations.BranchesAndLoops : Prop :=
  (∀ (s : State) (k : CoreId) (w : BitVec 56) (t : Tile) (target : Nat),
     let stays := leavesLoop (s.core k).loops (s.core k).pc target = false
     let rel := ((s.core k).pc.zeroExtend 64 + 8 * (w.extractLsb' 0 32).signExtend 64 : W64).toNat
     target < t.ipart * 4096 → target % 8 = 0 → Room s k 1 →
     (Ready s k w mImm t → stays → target = rel →
       Gives (.ccBr k w) s (fun u => Jumped k target (s.core k).loops s u ∧ (u.core k).g = (s.core k).g)) ∧
     (Ready s k w mA t → stays → target = ((s.core k).gr (fA w)).toNat →
       Gives (.ccJr k w) s (fun u => Jumped k target (s.core k).loops s u ∧ (u.core k).g = (s.core k).g)) ∧
     (Ready s k w mImm t → target = rel →
       Gives (.ccCall k w) s (fun u => Jumped k target (s.core k).loops s u ∧
         (u.core k).gr 31 = BitVec.ofNat 64 ((s.core k).pc.toNat + 8) ∧
         ∀ r, r ≠ 31 → (u.core k).gr r = (s.core k).gr r)) ∧
     (Ready s k w 0 t → stays → target = ((s.core k).gr 31).toNat →
       Gives (.ccRet k w) s (fun u => Jumped k target (s.core k).loops s u ∧ (u.core k).g = (s.core k).g))) ∧
  (∀ (s : State) (k : CoreId) (w : BitVec 56) (t : Tile) (n : W32),
     (s.core k).phase = .running → (s.core k).tile = some t → Room s k 1 →
     let first := (s.core k).pc.toNat + 8
     let last := (s.core k).pc.toNat + 8 * field w 15 0
     (reservedSet w (mA + bits 31 0) = false → field w 15 0 ≠ 0 →
       inPartition t first = true → inPartition t last = true →
       n = (if fA w = 0 then BitVec.ofNat 32 (field w 31 16) else ((s.core k).gr (fA w)).extractLsb' 0 32) →
       (n ≠ 0 → guardTrue (s.core k) w = true → (s.core k).loops.length < 4 →
         Gives (.ccLoop k w) s (fun u => (u.core k).g = (s.core k).g ∧
           Jumped k first (⟨BitVec.ofNat 18 first, BitVec.ofNat 18 last, n, 0⟩ :: (s.core k).loops) s u)) ∧
       (n = 0 ∨ guardTrue (s.core k) w = false → inPartition t (last + 8) = true →
         Gives (.ccLoop k w) s (fun u => (u.core k).g = (s.core k).g ∧ Jumped k (last + 8) (s.core k).loops s u))) ∧
     (reservedSet w 0 = false → guardTrue (s.core k) w = true → ∀ l r, (s.core k).loops = l :: r →
       inPartition t (l.last.toNat + 8) = true →
       Gives (.ccBreak k w) s (fun u => (u.core k).g = (s.core k).g ∧ Jumped k (l.last.toNat + 8) r s u)))

/-- R104, R108, R121, R351: NOP only goes on; TRACE posts a trace point
where its context is traced; FENCE leaves a mark behind the accesses it orders; END ends the tile with its Slalom mark. -/
def Obligations.SmallInstructions : Prop :=
  ∀ (s : State) (k : CoreId) (w : BitVec 56) (t : Tile),
    let only := fun (u : State) => OnlyCore k [Reg.ccTileCharge k] s u ∧ WentOn k s u ∧ Charged k 1 s u ∧
      u.core k = { s.core k with pc := (u.core k).pc, loops := (u.core k).loops }
    let traced := s.flag Reg.ldgTraceCtrl 0 = true ∧ s.fld Reg.ldgTraceCtrl 10 1 = t.ctx.val
    (Issues s k w 0 1 t → Gives (.ccNop k w) s only) ∧
    (Issues s k w (bits 15 0) 1 t → ¬ traced → Gives (.ccTrace k w) s only) ∧
    (Issues s k w (bits 15 0) 1 t → traced → (s.lodge.events[clusterFin k]).length < 256 →
      Gives (.ccTrace k w) s (fun u => WentOn k s u ∧ Charged k 1 s u ∧
        u.lodge.traces = s.lodge.traces ++
          [⟨s.gate, k, t.index, (s.core k).pc, BitVec.ofNat 16 (field w 15 0), t.ctx⟩] ∧
        u.lodge.events[clusterFin k] = s.lodge.events[clusterFin k] ++ [.trace] ∧ u.mem = s.mem ∧
        (u.core k).g = (s.core k).g)) ∧
    (Issues s k w (bits 4 0) 1 t → (field w 4 0 = 0 ∨ (s.core k).accesses = []) → Gives (.ccFence k w) s only) ∧
    (Issues s k w (bits 4 0) 1 t → field w 4 0 ≠ 0 → (s.core k).accesses ≠ [] →
      Gives (.ccFence k w) s (fun u => OnlyCore k [Reg.ccTileCharge k] s u ∧ WentOn k s u ∧ Charged k 1 s u ∧
        ((u.core k).accesses.map (·.kind)) =
          (s.core k).accesses.map (·.kind) ++ [.fence (BitVec.ofNat 5 (field w 4 0))] ∧ (u.core k).g = (s.core k).g)) ∧
    (Ready s k w (bits 0 0) t → Room s k 1 → (∀ d, (s.core k).lastAppended[(2 : Fin 4)] = some d → Desc.cmd d ≠ 4) →
      Gives (.ccEnd k w) s (fun u => OnlyCore k [Reg.ccTileCharge k] s u ∧ Charged k 1 s u ∧
        u.core k = { s.core k with phase := .ending (w.getLsbD 0) }))

/-- R103: a reserved field or a reserved code halts every instruction with 0x02 whatever the guard, an opcode outside the map
with 0x01; an instruction whose guard is false has no other effect than one step of issue, and a LOOP then is one with count 0.
R104: HALT, where its guard is true, halts with 0x10 and its IMM[7:0]. R102, R104: a word stands for the instruction that its
OP, bits 63 to 56, names. -/
def Obligations.GuardsAndEncodingChecks : Prop :=
  (∀ (k : CoreId) (word : BitVec 64),
    decodeMilac k word = (milacOpcodes k (word.extractLsb' 0 56)).lookup (word.extractLsb' 56 8).toNat ∧
    opcodeKnown (field word 63 56) = (decodeMilac k word).isSome) ∧
  ∀ (s : State) (k : CoreId) (w : BitVec 56) (word : BitVec 64) (t : Tile),
    (s.core k).phase = .running → (s.core k).tile = some t →
    let pc := (s.core k).pc.toNat
    let p := (s.core k).pr (field w 54 52)
    let only := fun (u : State) => OnlyCore k [Reg.ccTileCharge k] s u ∧ WentOn k s u ∧ Charged k 1 s u ∧
      u.core k = { s.core k with pc := (u.core k).pc, loops := (u.core k).loops }
    (guardTrue (s.core k) w = if w.getLsbD 55 then !p else p) ∧
    (∀ x ∈ milacFields k w, (reservedSet w x.2 || reservedCode x.1) = true → Gives x.1 s (Halted k 0 0x02 0 pc 0 s)) ∧
    (reservedSet w (mA + bits 31 0) = true → Gives (.ccLoop k w) s (Halted k 0 0x02 0 pc 0 s)) ∧
    (opcodeKnown (field word 63 56) = false → Gives (.illegalOpcode k word) s (Halted k 0 0x01 0 pc 0 s)) ∧
    (guardTrue (s.core k) w = false → Room s k 1 →
      (inPartition t (sequel (s.core k).loops (s.core k).pc).2 = true →
        ∀ x ∈ milacFields k w, (reservedSet w x.2 || reservedCode x.1) = false → Gives x.1 s only) ∧
      (reservedSet w (mA + bits 31 0) = false → field w 15 0 ≠ 0 →
        inPartition t (pc + 8 * field w 15 0) = true → inPartition t (pc + 8 * field w 15 0 + 8) = true →
        Gives (.ccLoop k w) s (fun u => (u.core k).g = (s.core k).g ∧
          Jumped k (pc + 8 * field w 15 0 + 8) (s.core k).loops s u))) ∧
    (reservedSet w (bits 7 0) = false → guardTrue (s.core k) w = true →
      Gives (.ccHalt k w) s (Halted k 0 0x10 (field w 7 0) pc 0 s))

/-- R98, R109: the data-store instructions. A load of 8 or 4 bytes, little-endian; a store changes the bytes at the address
and no other; an address outside the data partition or not aligned halts with 0x0D. -/
def Obligations.DataStoreAccesses : Prop :=
  ∀ (s : State) (k : CoreId) (w : BitVec 56) (t : Tile) (a : Nat),
    a = ((s.core k).gr (fA w) + (w.extractLsb' 0 32).signExtend 64).toNat →
    let at_ := fun (i : Nat) => (dataByte s k (t.dbase * 4096 + a + i))
    let word := at_ 3 ++ at_ 2 ++ at_ 1 ++ at_ 0
    let upper := at_ 7 ++ at_ 6 ++ at_ 5 ++ at_ 4
    let fits := fun (n : Nat) => a + n ≤ t.dpart * 4096 ∧ a % n = 0 ∧ slotPending (s.core k) a n = false
    let stored := fun (n : Nat) (u : State) => OnlyCore k [Reg.ccTileCharge k] s u ∧ WentOn k s u ∧ Charged k 1 s u ∧
      u.core k = { s.core k with dstore := (u.core k).dstore, pc := (u.core k).pc, loops := (u.core k).loops } ∧
      ∀ x, dataByte u k x = if t.dbase * 4096 + a ≤ x ∧ x < t.dbase * 4096 + a + n
        then ((s.core k).gr (fD w)).extractLsb' (8 * (x - (t.dbase * 4096 + a))) 8 else dataByte s k x
    (Issues s k w (mD + mA + mImm) 2 t →
      (fits 8 → Gives (.ccLd k w) s (WroteG k w 2 (upper ++ word) s)) ∧
      (fits 4 → Gives (.ccLw k w) s (WroteG k w 2 (word.signExtend 64) s)) ∧
      (fits 4 → Gives (.ccLwu k w) s (WroteG k w 2 (word.zeroExtend 64) s))) ∧
    (Issues s k w (mD + mA + mImm) 1 t →
      (fits 8 → Gives (.ccSt k w) s (stored 8)) ∧ (fits 4 → Gives (.ccSw k w) s (stored 4))) ∧
    (Ready s k w (mD + mA + mImm) t →
      ((t.dpart * 4096 < a + 8 ∨ a % 8 ≠ 0) →
        ∀ i ∈ [Instr.ccLd k w, .ccSt k w], Gives i s (Halted k 0 0x0D 0 (s.core k).pc.toNat a s)) ∧
      ((t.dpart * 4096 < a + 4 ∨ a % 4 ≠ 0) →
        ∀ i ∈ [Instr.ccLw k w, .ccLwu k w, .ccSw k w], Gives i s (Halted k 0 0x0D 0 (s.core k).pc.toNat a s)))

/-- R110, R111, R119: row loads and stores and atomics join the core's accesses at issue, RST with the slot's contents
captured; the atomics stall the core.
R110, R111, R119, R185: when an access is performed, a load brings the row into its slot; AADD and ACAS return the word as
it was, and change it at its place of the row and nowhere else (ACAS only where it equals the expected value); one that carries
a late epoch changes nothing and is counted. -/
def Obligations.RowAccesses : Prop :=
  (∀ (s : State) (k : CoreId) (w : BitVec 56) (t : Tile) (row off : Nat),
     let c := s.core k
     let d := (c.gr (fD w)).toNat
     let a := (c.gr (fA w)).toNat
     let slot := d + 512 ≤ t.dpart * 4096 ∧ d % 512 = 0 ∧ slotPending c d 512 = false
     let issued := fun (kind : AccessKind) (u : State) => OnlyCore k [Reg.ccTileCharge k] s u ∧
       (u.core k).accesses = c.accesses ++ [⟨row, kind, t.tag k⟩] ∧ (u.core k).g = c.g ∧ (u.core k).dstore = c.dstore
     (Issues s k w (mD + mA) 2 t → slot → rowOf s t a 512 false = .ok (row, off) →
       Gives (.ccRld k w) s (fun u => issued (.load d) u ∧ WentOn k s u ∧ Charged k 2 s u ∧ (u.core k).phase = .running)) ∧
     (Issues s k w (mD + mA) 1 t → slot → rowOf s t a 512 true = .ok (row, off) →
       Gives (.ccRst k w) s (fun u => WentOn k s u ∧ Charged k 1 s u ∧ (u.core k).phase = .running ∧
         issued (.store ((List.range 512).map (fun i => dataByte s k (t.dbase * 4096 + d + i)))) u)) ∧
     (Issues s k w (mD + mA + mB) 2 t → rowOf s t a 8 true = .ok (row, off) →
       Gives (.ccAadd k w) s (fun u => issued (.add off (fD w) (c.gr (fB w))) u ∧ Charged k 2 s u ∧
         (u.core k).phase = .waitAtomic ∧ (u.core k).pc = c.pc)) ∧
     (Issues s k w (mD + mA + mB + mC) 2 t → rowOf s t a 8 true = .ok (row, off) →
       Gives (.ccAcas k w) s (fun u => issued (.cas off (fD w) (c.gr (fB w)) (c.gr (fC w))) u ∧ Charged k 2 s u ∧
         (u.core k).phase = .waitAtomic ∧ (u.core k).pc = c.pc))) ∧
  (∀ (s : State) (k : CoreId) (n : Nat) (x : Access) (t : Tile) (st r : Nat),
     (s.core k).ready? n = some x → (s.core k).tile = some t → storeOf x.row = some (st, r) →
     let c := s.core k
     let late := s.late st (some x.tag)
     let atomic := fun (d : BitVec 5) (old : W64) (changes : Bool) (off : Nat) (new : W64) (u : State) =>
       (u.core k).gr d = (if d = 0 then 0 else old) ∧ (∀ e, e ≠ d → (u.core k).gr e = c.gr e) ∧
       (c.phase = .waitAtomic → (u.core k).phase = .running ∧ WentOn k s u) ∧
       u.core k = { c with g := (u.core k).g, pc := (u.core k).pc, loops := (u.core k).loops, phase := (u.core k).phase,
                           accesses := (u.core k).accesses } ∧
       (∀ j, j ≠ k → u.core j = s.core j) ∧ u = { s with mem := u.mem, cores := u.cores, deltas := u.deltas, regs := u.regs } ∧
       Counted [(Reg.stoEpochDropCount st, if late then 1 else 0)] [] s u ∧
       ∀ y, u.byteAt y = if late = false ∧ changes = true ∧ x.row + off ≤ y ∧ y < x.row + off + 8
         then new.extractLsb' (8 * (y - (x.row + off))) 8 else s.byteAt y
     (∀ slot, x.kind = .load slot →
       Gives (.rowReadReturn k n) s (fun u => OnlyCore k [] s u ∧
         u.core k = { c with dstore := (u.core k).dstore, accesses := (u.core k).accesses } ∧
         (∀ y, dataByte u k y = if t.dbase * 4096 + slot ≤ y ∧ y < t.dbase * 4096 + slot + 512
           then s.byteAt (x.row + (y - (t.dbase * 4096 + slot))) else dataByte s k y))) ∧
     (∀ off d b, x.kind = .add off d b → off + 8 ≤ 512 →
       let old := BitVec.ofNat 64 (leAt (s.rd x.row 512) off 8)
       Gives (.rowReadReturn k n) s (atomic d old true off (old + b))) ∧
     (∀ off d b e, x.kind = .cas off d b e → off + 8 ≤ 512 →
       let old := BitVec.ofNat 64 (leAt (s.rd x.row 512) off 8)
       Gives (.rowReadReturn k n) s (atomic d old (old == e) off b)))

/-- R112, R121, R124, R140: PUSH appends the descriptor {b, a} and PUSHD its batch to the queue D names; where the queue lacks
room, or a FENCE with SP holds them back, both stall with nothing appended and nothing charged, and QUEUE_ROOM_FREED lets them
append. -/
def Obligations.QueueAppends : Prop :=
  ∀ (s : State) (k : CoreId) (w : BitVec 56) (t : Tile) (q : QueueId),
    (fD w).toNat = q.val → queueAbsent s q.val = false →
    let c := s.core k
    let push : List Desc := [c.gr (fB w) ++ c.gr (fA w)]
    let n := field w 30 24 + 1
    let a := batchAddr c w
    let batch := batchDescs c t a n
    let okBatch := dataOk t a 16 (16 * n) = true ∧ n ≤ queueDepth q ∧ slotPending c a (16 * n) = false
    let full := fun (ds : List Desc) => queueDepth q < c.occupied q + ds.length ∨ spClear c = false
    (Issues s k w (mD + mA + mB) 1 t → Appends s k t q push →
      Gives (.ccPush k w) s (fun u => Appended k q push s u ∧ WentOn k s u ∧ (u.core k).phase = .running ∧
        u.charge k .ctl = s.charge k .ctl + 1)) ∧
    (Ready s k w (mD + mA + mB) t → full push →
      Gives (.ccPush k w) s (fun u => OnlyCore k [] s u ∧ u.core k = { c with phase := .waitRoom false w })) ∧
    (Issues s k w (mD + mA + bits 30 24 + bits 15 0) n t → okBatch → Appends s k t q batch →
      Gives (.ccPushd k w) s (fun u => Appended k q batch s u ∧ WentOn k s u ∧ (u.core k).phase = .running ∧
        u.charge k .ctl = s.charge k .ctl + n)) ∧
    (Ready s k w (mD + mA + bits 30 24 + bits 15 0) t → okBatch → full batch →
      Gives (.ccPushd k w) s (fun u => OnlyCore k [] s u ∧ u.core k = { c with phase := .waitRoom true w })) ∧
    (∀ b, c.phase = .waitRoom b w → c.tile = some t → Appends s k t q (if b then batch else push) →
      inPartition t (sequel c.loops c.pc).2 = true → Room s k (if b then n else 1) →
      Gives (.queueRoomFreed k) s (fun u => Appended k q (if b then batch else push) s u ∧ WentOn k s u ∧
        (u.core k).phase = .running ∧ u.charge k .ctl = s.charge k .ctl + (if b then n else 1)))

/-- R113, R136: TWAIT takes n tokens or stalls, where n are left once the waits of the engine queues have been tested; TSIG adds
n unless the counter would pass 65,535; TDEC subtracts n unless the counter holds less. The halts leave the counter as it was.
R113, R114, R136, R179: a TWAIT that stalled takes its tokens once they are there; CLAIM joins the waiting claims of the
counter that the job has bound, and stalls; without a bound counter it halts with 0x13. -/
def Obligations.TokensAndClaims : Prop :=
  (∀ (s : State) (k : CoreId) (w : BitVec 56) (t : Tile) (j : Fin 32) (n : Nat),
     j.val = field w 20 16 → n = field w 15 0 → Issues s k w (bits 20 0) 1 t →
     let c := s.core k
     let v := (c.token j).toNat
     let set := fun (m : Nat) (u : State) => OnlyCore k [Reg.ccTileCharge k] s u ∧ WentOn k s u ∧ Charged k 1 s u ∧
       u.core k = { c with tokens := (u.core k).tokens, pc := (u.core k).pc, loops := (u.core k).loops } ∧
       ((u.core k).token j).toNat = m ∧ ∀ i, i ≠ j → (u.core k).token i = c.token i
     (c.tokensFor 4 j ≤ v ∧ ((∀ q w, c.headWait q = some w → w.1 ≠ j) → c.tokensFor 4 j = v)) ∧
     (n ≤ c.tokensFor 4 j → Gives (.ccTwait k w) s (set (v - n))) ∧
     (c.tokensFor 4 j < n → Gives (.ccTwait k w) s (fun u => OnlyCore k [Reg.ccTileCharge k] s u ∧ Charged k 1 s u ∧
       u.core k = { c with phase := .waitToken j n })) ∧
     (n ≤ v → Gives (.ccTdec k w) s (set (v - n))) ∧
     (v < n → Gives (.ccTdec k w) s (fun u => Halted k 0 0x04 0 c.pc.toNat 0 s u ∧ (u.core k).tokens = c.tokens)) ∧
     (v + n ≤ 65535 → Gives (.ccTsig k w) s (set (v + n))) ∧
     (65535 < v + n →
       Gives (.ccTsig k w) s (fun u => Halted k 0 0x05 0 c.pc.toNat 0 s u ∧ (u.core k).tokens = c.tokens))) ∧
  (∀ (s : State) (k : CoreId) (w : BitVec 56) (t : Tile),
     let c := s.core k
     (∀ j n, c.phase = .waitToken j n → n ≤ c.tokensFor 4 j →
       Gives (.tokenWaitSatisfied k) s (fun u => OnlyCore k [] s u ∧ WentOn k s u ∧ (u.core k).phase = .running ∧
         ((u.core k).token j).toNat = (c.token j).toNat - n ∧ (∀ i, i ≠ j → (u.core k).token i = c.token i) ∧
         u.core k = { c with tokens := (u.core k).tokens, pc := (u.core k).pc, loops := (u.core k).loops, phase := .running })) ∧
     (∀ (p : CounterId) (j : Job) (x : Counter), Issues s k w (mD + bits 11 8 + bits 2 0) 1 t →
       s.job? t.job = some j → j.bound? (field w 11 8) = some p → s.counters[p] = some x →
       Gives (.ccClaim k w) s (fun u => Charged k 1 s u ∧
         u.core k = { c with phase := .waitClaim p (fD w) (BitVec.ofNat 3 (field w 2 0)) } ∧ SameRegs [Reg.ccTileCharge k] s u ∧
         u.counters[p] = some { x with waiting := x.waiting ++ [.control k] } ∧ (∀ r, r ≠ p → u.counters[r] = s.counters[r]) ∧
         (∀ i, i ≠ k → u.core i = s.core i) ∧ u.mem = s.mem)) ∧
     (Ready s k w (mD + bits 11 8 + bits 2 0) t → (s.job? t.job).bind (fun j => j.bound? (field w 11 8)) = none →
       Gives (.ccClaim k w) s (Halted k 0 0x13 0 c.pc.toNat 0 s)))

/-! ## The vector engine and the window path (R67–R88, R130–R132) -/

/-- R67, R71–R78, R81, R96, R130: each lane operation writes every lane of every register of its run from the lanes of its
sources, one register after another, and sets the sticky flags its lanes raise; nothing else of the machine changes. That SEL reads its
mask at the width of the command is the model's reading (log 21). -/
def Obligations.LaneOperations : Prop :=
  ∀ (s : State) (k : CoreId) (t : Tile) (n : Nat) (cmd : Cmd),
    let d : Desc := cmd.desc
    let F := Desc.form d
    let val := F.read
    let none' := fun (v : W32) => (v, ArithFlags.none)
    let rows : List (Instr × Nat × (W32 → W32 → W32 → W32 × ArithFlags)) := [
      (.vAdd k, 0x10, fun x y _ => F.finish (val x + val y)),
      (.vSub k, 0x11, fun x y _ => F.finish (val x - val y)),
      (.vMul k, 0x12, fun x y _ => F.finish (val x * val y)),
      (.vMulh k, 0x13, fun x y _ => none' (F.write (val x * val y / (2 ^ F.w : Nat)))),
      (.vMin k, 0x14, fun x y _ => none' (F.write (min (val x) (val y)))),
      (.vMax k, 0x15, fun x y _ => none' (F.write (max (val x) (val y)))),
      (.vNeg k, 0x16, fun x _ _ => F.finish (-(val x))),
      (.vAbs k, 0x17, fun x _ _ => F.finish (val x).natAbs),
      (.vAnd k, 0x18, fun x y _ => none' (F.write ((x &&& y).toNat : Int))),
      (.vOr k, 0x19, fun x y _ => none' (F.write ((x ||| y).toNat : Int))),
      (.vXor k, 0x1A, fun x y _ => none' (F.write ((x ^^^ y).toNat : Int))),
      (.vNot k, 0x1B, fun x _ _ => none' (F.write ((~~~x).toNat : Int))),
      (.vShl k, 0x1C, fun x y _ => F.shl x y),
      (.vShr k, 0x1D, fun x y _ => none' (F.shr x y)),
      (.vSra k, 0x1E, fun x y _ => none' (F.sra x y)),
      (.vSrar k, 0x1F, fun x y _ => none' (F.srar x y)),
      (.vNrw k, 0x20, fun x _ _ => F.finish (if F.sgn then x.toInt else (x.toNat : Int))),
      (.vCmp k, 0x21, fun x y _ => none' (if F.cmp (field d 53 52) x y then 0xFFFFFFFF else 0)),
      (.vSel k, 0x22, fun x y m => none' (F.write (if val m = 0 then val y else val x))),
      (.vDiv k, 0x23, fun x y _ => F.divRem false x y),
      (.vRem k, 0x24, fun x y _ => F.divRem true x y),
      (.vFadd k, 0x30, fun x y _ => fadd x y), (.vFsub k, 0x31, fun x y _ => fsub x y),
      (.vFmul k, 0x32, fun x y _ => fmul x y), (.vFma k, 0x33, fun x y z => ffma x y z),
      (.vFmin k, 0x34, fun x y _ => none' (fmin x y)), (.vFmax k, 0x35, fun x y _ => none' (fmax x y)),
      (.vFneg k, 0x36, fun x _ _ => fneg x), (.vFabs k, 0x37, fun x _ _ => fabs x),
      (.vFcmp k, 0x38, fun x y _ => none' (if fcmp (field d 53 52) x y then 0xFFFFFFFF else 0)),
      (.vCvtf k, 0x39, fun x _ _ => none' (cvtf x)),
      (.vFdiv k, 0x3B, fun x y _ => fdiv x y), (.vFsqrt k, 0x3C, fun x _ _ => fsqrt x),
      (.vRcp k, 0x40, fun x _ _ => special xRcp x), (.vRsqrt k, 0x41, fun x _ _ => special xRsqrt x),
      (.vExp k, 0x42, fun x _ _ => special xExp x), (.vExp2 k, 0x43, fun x _ _ => special xExp2 x),
      (.vLog k, 0x44, fun x _ _ => special xLog x), (.vLog2 k, 0x45, fun x _ _ => special xLog2 x),
      (.vSin k, 0x46, fun x _ _ => special xSin x), (.vCos k, 0x47, fun x _ _ => special xCos x),
      (.vTanh k, 0x48, fun x _ _ => special xTanh x), (.vSigm k, 0x49, fun x _ _ => special xSigm x),
      (.vErf k, 0x4A, fun x _ _ => special xErf x)]
    ∀ row ∈ rows, VectorTurn s k t row.2.1 n cmd → Gives row.1 s (RegRun k n cmd (laneWise row.2.2) s)

/-- R72: the result of an integer lane operation. In range it is exact; out of it the wrap form gives the value modulo 2^W and
raises IWRAP, the saturate form the nearer bound and ISAT; the lane holds the W-bit value sign- or zero-extended.
R54: an integer accumulator is exact: its low 40 bits and its wrap count stand for one number, to which a contribution adds
itself, while fewer than eight wraps of either sign have happened.
R59: what a spill writes of an accumulator, a fill brings back. -/
def Obligations.ExactIntegers : Prop :=
  (∀ (F : IntForm) (v : Int), (F.w = 8 ∨ F.w = 16 ∨ F.w = 32) →
     let r := F.finish v
     (F.lo ≤ v ∧ v ≤ F.hi → F.read r.1 = v ∧ r.2 = .none) ∧
     (F.sat = true → v < F.lo → F.read r.1 = F.lo ∧ r.2 = { isat := true }) ∧
     (F.sat = true → F.hi < v → F.read r.1 = F.hi ∧ r.2 = { isat := true }) ∧
     (F.sat = false → (v < F.lo ∨ F.hi < v) → (F.read r.1 - v) % (2 ^ F.w : Nat) = 0 ∧ r.2 = { iwrap := true }) ∧
     F.lo ≤ F.read r.1 ∧ F.read r.1 ≤ F.hi ∧
     (F.sgn = true → r.1.toInt = F.read r.1) ∧ (F.sgn = false → (r.1.toNat : Int) = F.read r.1)) ∧
  (∀ (low : BitVec 40) (w : BitVec 4) (p : Int), -2 ^ 40 < p → p < 2 ^ 40 →
     let r := accAdd low w p
     (w.toInt < 7 → -8 < w.toInt → r.1.toInt + 2 ^ 40 * r.2.toInt = low.toInt + 2 ^ 40 * w.toInt + p) ∧
     (-2 ^ 39 ≤ low.toInt + p → low.toInt + p < 2 ^ 39 → r.2 = w ∧ r.1.toInt = low.toInt + p)) ∧
  (∀ a : Acc, fillAcc (ofLe (spillBytes a)) = a)

/-- R67, R71, R78, R80, R96, R130: BCAST and SHUF move lanes, the reductions leave lane 0 the result and the other lanes 0
(integers in one exact sum or extreme, then wrapped or saturated; floats by the eight-level tree, each addition rounded), CVTI
converts, and each NaN lane that it converts gives 0, sets NANIN and adds to the NaN-input count. Whether a reduction reads its
lanes as floats or integers is open in the specification (Config.crossLaneFloat, log 22).
R87, R88: AMAX leaves the largest, the smallest and the absolute maximum of each group in one lane of three registers, or
those of all its elements in lane 0 (with those lanes taken in when it continues); one NaN makes all three NaN. DERIVE writes the
scale codes and the values of the three modes. That its U8 mode writes a tensor's result
in lane 0 alone is the model's reading (log 77). -/
def Obligations.CrossLaneOperations : Prop :=
  (∀ (s : State) (k : CoreId) (t : Tile) (n : Nat) (cmd : Cmd),
     let d : Desc := cmd.desc
     let F := Desc.form d
     let lanes := fun (a : Nat → W32) => (List.range 256).map a
     let ints := fun (a : Nat → W32) => (lanes a).map F.read
     let first := fun (r : W32 × ArithFlags) => (fun (i : Nat) => if i = 0 then r.1 else (0 : W32), r.2)
     let float := Config.crossLaneFloat d = true
     let tree := fun (f : W32 → W32 → W32 × ArithFlags) (a : Nat → W32) =>
       (treeLevels (fun (x y : W32 × ArithFlags) => ((f x.1 y.1).1, (x.2.or y.2).or (f x.1 y.1).2)) 8
         ((lanes a).map (fun v => (v, ArithFlags.none)))).headD (0, .none)
     let cvt : RegOp := laneWise (fun x _ _ => ((cvti (d.getLsbD 51) x).1, { isat := (cvti (d.getLsbD 51) x).2.1 }))
     let nans := runCount d cvt (fun x => (val32 x).isNan) (Desc.run d) 0 (laneOf s k)
     (VectorTurn s k t 0x04 n cmd →
       Gives (.vBcast k) s (RegRun k n cmd (fun a _ _ => (fun _ => a (field d 7 0), .none)) s)) ∧
     (VectorTurn s k t 0x05 n cmd →
       Gives (.vShuf k) s (RegRun k n cmd (fun a b _ => (fun i => a ((b i).toNat % 256), .none)) s)) ∧
     (VectorTurn s k t 0x50 n cmd → Gives (.vRsum k) s (RegRun k n cmd
       (fun a _ _ => first (if float then tree fadd a else F.finish (ints a).sum)) s)) ∧
     (VectorTurn s k t 0x51 n cmd → Gives (.vRmax k) s (RegRun k n cmd
       (fun a _ _ => first (if float then tree (fun x y => (fmax x y, .none)) a
         else F.finish ((ints a).foldl max (F.read (a 0))))) s)) ∧
     (VectorTurn s k t 0x52 n cmd → Gives (.vRmin k) s (RegRun k n cmd
       (fun a _ _ => first (if float then tree (fun x y => (fmin x y, .none)) a
         else F.finish ((ints a).foldl min (F.read (a 0))))) s)) ∧
     (VectorTurn s k t 0x3A n cmd → Gives (.vCvti k) s (fun u => Executed k 1 n s u ∧
       (∀ r i, i < 256 → laneOf u k r i = (runFile d cvt (Desc.run d) 0 (laneOf s k)).1 r i) ∧
       u.reg (Reg.vxeArithStatus k) = s.reg (Reg.vxeArithStatus k) |||
         BitVec.ofNat 64 (runFile d cvt (Desc.run d) 0 (laneOf s k)).2.mask ∧
       Converted k ⟨0, 0, nans, 0⟩ [] [Reg.vxeArithStatus k] s u ∧
       u.core k = { s.core k with vregs := (u.core k).vregs, queues := (u.core k).queues, tile := (u.core k).tile } ∧
       OnlyCore k (Reg.vxeArithStatus k :: convRegs k) { s with deltas := u.deltas } u))) ∧
  ((∀ (l : List W32), l ≠ [] →
     let e := extremes l
     ((∃ x ∈ l, (val32 x).isNan = true) → e = (0x7FC00000, 0x7FC00000, 0x7FC00000)) ∧
     ((∀ x ∈ l, (val32 x).isNan = false) → e.1 ∈ l ∧ e.2.1 ∈ l ∧ (∃ x ∈ l, e.2.2 = (fabs x).1) ∧
       (e.1 = 0x80000000 → (0 : W32) ∉ l) ∧ (e.2.1 = 0 → (0x80000000 : W32) ∉ l) ∧
       ∀ x ∈ l, fcmp 3 x e.1 = true ∧ fcmp 3 e.2.1 x = true ∧ fcmp 3 (fabs x).1 e.2.2 = true)) ∧
   ∀ (s : State) (k : CoreId) (t : Tile) (n : Nat) (cmd : Cmd),
     let d : Desc := cmd.desc
     let c := s.core k
     let f := field d 37 34
     let sc := field d 33 32
     let group := groupSize (field d 31 30)
     let lane0 := fun (r : Nat) => (c.vreg r).getD 0 0
     let codes := unpackRows (fmtBits f) (s.rowsFrom k (field d 29 15) (field d 14 0))
     let vals := (codes.zipIdx).map (fun p => amaxLane f sc (field d 45 38) p.1
       (if sc = 0 then 0 else scaleLane s c (Desc.va d) (field d 53 46) (p.2 / group)))
     let e := extremes (vals.map (·.1))
     let kept := if d.getLsbD 54 then
         (fmax e.1 (lane0 (Desc.vd d)), fmin e.2.1 (lane0 (Desc.vd d + 1)), fmax e.2.2 (lane0 (Desc.vd d + 2))) else e
     let ef := field d 60 57
     let wrote := fun (count : Nat) (out : Nat → W32 × W32 × W32) (u : State) => Executed k 1 n s u ∧ OnlyLanes k s u ∧
       OnlyCore k [Reg.vxeArithStatus k] { s with draws := u.draws } u ∧
       u.reg (Reg.vxeArithStatus k) = s.reg (Reg.vxeArithStatus k) |||
         BitVec.ofNat 64 (vals.foldl (fun a r => a.or r.2) ArithFlags.none).mask ∧
       (∀ r i, i < 256 → laneOf u k r i =
         if i < count ∧ r = Desc.vd d then (out i).1 else if i < count ∧ r = Desc.vd d + 1 then (out i).2.1
         else if i < count ∧ r = Desc.vd d + 2 then (out i).2.2 else laneOf s k r i)
     let derived := fun (u : State) => Executed k 1 n s u ∧ OnlyLanes k s u ∧ OnlyCore k [] s u
     (VectorTurn s k t 0x58 n cmd → d.getLsbD 55 = true → Gives (.vAmax k) s (wrote 1 (fun _ => kept))) ∧
     (VectorTurn s k t 0x58 n cmd → d.getLsbD 55 = false → cdiv vals.length group ≤ 256 →
       Gives (.vAmax k) s (wrote (cdiv vals.length group) (fun g => extremes (((vals.map (·.1)).drop (g * group)).take group)))) ∧
     (VectorTurn s k t 0x59 n cmd →
       (field d 63 62 = 0 → Gives (.vDerive k) s (fun u => derived u ∧
         ∀ r i, i < 256 →
           let code := deriveE8M0 ef (d.getLsbD 61) (val32 (laneOf s k (Desc.va d + 2) i))
           laneOf u k r i = if r = Desc.vd d then BitVec.ofNat 32 code
             else if r = Desc.vd d + 1 then round32 (decodeScale 1 (BitVec.ofNat 32 code).toNat) else laneOf s k r i)) ∧
       (field d 63 62 = 1 → Gives (.vDerive k) s (fun u => derived u ∧
         ∀ r i, i < 256 → laneOf u k r i = if r = Desc.vd d then 0
             else if r = Desc.vd d + 1 then round32 (decodeScale 2 (deriveBF16 ef (val32 (laneOf s k (Desc.va d + 2) i))))
             else laneOf s k r i)) ∧
       (field d 63 62 = 2 → Gives (.vDerive k) s (fun u => derived u ∧
         let zs := deriveU8 (val32 (lane0 (Desc.va d))) (val32 (lane0 (Desc.va d + 1)))
         ∀ r i, i < 256 → laneOf u k r i = if i = 0 ∧ r = Desc.vd d then BitVec.ofNat 32 zs.2
             else if i = 0 ∧ r = Desc.vd d + 1 then round32 (decodeScale 2 zs.1) else laneOf s k r i))))

/-- R20, R39, R69, R70, R132: VLD decodes the elements of the rows from ROW into the lanes of its run, or brings their codes as
they are (RAW), and raises LDOVF where a scaled value overflows; VST converts the lanes, with the draws of the VPARAM before it
where it rounds stochastically, counts the conversions and sends the packed rows on their way; VPARAM only supplies the VST
after it. A VLD whose run covers its own scale register reads the scales as they were before it (log 103). -/
def Obligations.VectorLoadsAndStores : Prop :=
  ∀ (s : State) (k : CoreId) (t : Tile) (n : Nat) (cmd : Cmd),
    let d : Desc := cmd.desc
    let c := s.core k
    let f := field d 37 34
    let sc := field d 33 32
    let raw := d.getLsbD 39
    let scale := fun (e : Nat) => if sc = 0 then 0 else scaleLane s c (Desc.va d) (field d 58 51) (e / groupSize (field d 31 30))
    let codes := (unpackRows (fmtBits f) (s.rowsFrom k (field d 29 15) (vecRows f (Desc.run d)))).take (256 * Desc.run d)
    let loaded := (codes.zipIdx).map (fun p => if raw then (BitVec.ofNat 32 p.1, ArithFlags.none)
      else decodeLane f sc (zeroPoint c d) p.1 (scale p.2))
    (VectorTurn s k t 0x01 n cmd → Gives (.vld k) s (fun u => Executed k 1 n s u ∧ OnlyLanes k s u ∧
      OnlyCore k [Reg.vxeArithStatus k] { s with draws := u.draws } u ∧
      (∀ x, lookupD 0 (u.core k).vregs x =
        if 256 * Desc.vd d ≤ x ∧ x < 256 * Desc.vd d + loaded.length
        then (loaded.map (·.1)).getD (x - 256 * Desc.vd d) 0 else lookupD 0 c.vregs x) ∧
      u.reg (Reg.vxeArithStatus k) = s.reg (Reg.vxeArithStatus k) |||
        BitVec.ofNat 64 (loaded.foldl (fun a r => a.or r.2) ArithFlags.none).mask)) ∧
    (VectorTurn s k t 0x02 n cmd → Gives (.vst k) s (fun u => Executed k 1 n s u ∧
      u.core k = { c with queues := (u.core k).queues, tile := (u.core k).tile } ∧
      OnlyCore k (convRegs k) { s with draws := u.draws, deltas := u.deltas, writes := u.writes } u ∧
      ∃ out : List (Nat × ConvTally), out.length = 256 * Desc.run d ∧
      (∀ e r, out[e]? = some r → ∃ draw, (d.getLsbD 41 = false → draw = none) ∧
        (∀ b j, d.getLsbD 41 = true → cmd.before = some b → s.job? t.job = some j →
          draw = some (draw24 j.seed (field b 63 48) (field b 47 0 + e))) ∧
        r = if raw then ((lookupD 0 c.vregs (256 * Desc.vd d + e)).toNat, ConvTally.zero)
          else convert f (d.getLsbD 40) (zeroPoint c d) draw
            (storeValue d (lookupD 0 c.vregs (256 * Desc.vd d + e)) (scale e))) ∧
      Converted k (out.foldl (fun a r => a.add r.2) .zero) [] [] s u ∧
      let rows := packRows (fmtBits f) 0 (out.map (·.1))
      SentRows k 1 cmd t k (field d 29 15) rows.length rows.flatten s u)) ∧
    (VectorTurn s k t 0x03 n cmd → Gives (.vparam k) s (fun u => OnlyCore k [] s u ∧ Executed k 1 n s u ∧
      u.core k = { s.core k with queues := (u.core k).queues }))

/-- R83–R86, R132: WGEOM sets the geometry, WLOAD fills weight-buffer rows, and the convolutions and poolings write, position by
position, the lanes of the window's taps, and raise their flags; with integers a sum of products is exact. -/
def Obligations.WindowCommands : Prop :=
  ∀ (s : State) (k : CoreId) (t : Tile) (n : Nat) (cmd : Cmd) (g : W64),
    let d : Desc := cmd.desc
    let c := s.core k
    let only := fun (u : State) => OnlyCore k [] s u ∧ Executed k 1 n s u ∧
      u.core k = { c with queues := (u.core k).queues, wgeom := (u.core k).wgeom, wbuf := (u.core k).wbuf, wrows := (u.core k).wrows }
    let wrote := fun (lanes : Nat → List (W32 × ArithFlags)) (u : State) =>
      let res := gather ((List.range (windowPositions d)).flatMap lanes)
      let vals := res.1
      OnlyCore k [Reg.vxeArithStatus k] s u ∧ Executed k 1 n s u ∧ OnlyLanes k s u ∧
      u.reg (Reg.vxeArithStatus k) = s.reg (Reg.vxeArithStatus k) ||| BitVec.ofNat 64 res.2.mask ∧
      ∀ x, lookupD 0 (u.core k).vregs x = if 256 * Desc.vd d ≤ x ∧ x < 256 * Desc.vd d + vals.length
        then vals.getD (x - 256 * Desc.vd d) 0 else lookupD 0 c.vregs x
    (VectorTurn s k t 0x60 n cmd → Gives (.vWgeom k) s (fun u => only u ∧ (u.core k).wgeom = some (d.extractLsb' 0 64) ∧
      (u.core k).wbuf = c.wbuf ∧ (u.core k).wrows = c.wrows)) ∧
    (VectorTurn s k t 0x61 n cmd → Gives (.vWload k) s (fun u => only u ∧ (u.core k).wgeom = c.wgeom ∧
      (∀ x, lookupD 0 (u.core k).wbuf x =
        if 512 * field d 56 50 ≤ x ∧ x < 512 * (field d 56 50 + (field d 63 57 + 1))
        then s.byteAt (rowAddr k (field d 29 15) + (x - 512 * field d 56 50)) else lookupD 0 c.wbuf x) ∧
      (∀ r, r ∈ (u.core k).wrows ↔ r ∈ c.wrows ∨ (field d 56 50 ≤ r ∧ r < field d 56 50 + (field d 63 57 + 1))))) ∧
    (c.wgeom = some g →
      (VectorTurn s k t 0x62 n cmd → Gives (.vDw k) s (wrote (fun j => convLanes s k g d j))) ∧
      (VectorTurn s k t 0x63 n cmd → Gives (.vGrp k) s (wrote (fun j => convLanes s k g d j))) ∧
      (VectorTurn s k t 0x64 n cmd → Gives (.vMaxp k) s (wrote (fun j => poolLanes 0x64 s k g d j))) ∧
      (VectorTurn s k t 0x65 n cmd → Gives (.vMinp k) s (wrote (fun j => poolLanes 0x65 s k g d j))) ∧
      (VectorTurn s k t 0x66 n cmd → Gives (.vSump k) s (wrote (fun j => poolLanes 0x66 s k g d j)))) ∧
    (∀ (f : Nat) (xs : List (Int × Int)), fmtInt f = true →
      windowSum f (xs.map (fun p => (XR.ofInt p.1, XR.ofInt p.2))) = plain (BitVec.ofInt 32 ((xs.map (fun p => p.1 * p.2)).sum)))

/-! ## The matrix engine and the post-processor (R42–R66, R89–R96, R128, R129, R164) -/

/-- R47, R48, R50, R63, R66, R129: MLOAD fills the shadow set from its rows or from the direct port, whose rows it takes as they
come, MTWID from the twiddle ROM
after it has ended an open chain, MSWAP exchanges the sets, MSPIN names the spin level, MPARAM only supplies the read-out after
it. -/
def Obligations.MatrixSetCommands : Prop :=
  ∀ (s : State) (k : CoreId) (t : Tile) (n : Nat) (cmd : Cmd),
    let d : Desc := cmd.desc
    let c := s.core k
    let f := field d 71 68
    let sc := field d 73 72
    let grp := field d 75 74
    let rows := mloadRows d.shape d.cls f grp sc
    let count := mxCols d.shape d.cls * mxDepth d.shape d.cls
    let loaded := fun (data scales : List Byte) => some (⟨d.shape, d.cls, d.getLsbD 79, f, sc, grp,
      (unpackRows (streamBits d.cls f) data).take count,
      if sc = 0 then [] else (unpackRows (8 * scaleBytes sc) scales).take (count / groupSize grp)⟩ : MatrixSet)
    let only := fun (u : State) => OnlyCore k [] s u ∧ Executed k 0 n s u
    (MatrixTurn s k t 2 n cmd → d.getLsbD 78 = false → Gives (.mload k) s (fun u => only u ∧
      (u.core k).shadow = loaded (s.rowsFrom k (field d 55 41) rows.1) (s.rowsFrom k (field d 40 26) rows.2) ∧
      u.core k = { c with queues := (u.core k).queues, shadow := (u.core k).shadow })) ∧
    (MatrixTurn s k t 2 n cmd → d.getLsbD 78 = true →
      ∀ (took : List (List Byte)) (rest : List PortEntry) (had : Nat), cmd.got.length = 512 * had → took ≠ [] →
      (∀ r ∈ took, r.length = 512) → c.port.map (·.data) = took.map .row ++ rest.map (·.data) →
      let got := cmd.got ++ took.flatten
      (had + took.length < rows.1 + rows.2 → rest = [] → Gives (.mload k) s (fun u => OnlyCore k [] s u ∧
        (u.core k).queue 0 = modifyNth (fun x => { x with got := got }) n (c.queue 0) ∧
        u.core k = { c with queues := (u.core k).queues, port := [] })) ∧
      (had + took.length = rows.1 + rows.2 → Gives (.mload k) s (fun u => only u ∧
        (u.core k).port.map (·.data) = rest.map (·.data) ∧
        (u.core k).shadow = loaded (got.take (512 * rows.1)) (got.drop (512 * rows.1)) ∧
        u.core k = { c with queues := (u.core k).queues, port := (u.core k).port, shadow := (u.core k).shadow }))) ∧
    (MatrixTurn s k t 3 n cmd → Gives (.mswap k) s (fun u => only u ∧
      u.core k = { c with queues := (u.core k).queues, stationary := c.shadow, shadow := c.stationary })) ∧
    (MatrixTurn s k t 4 n cmd → TailReady s k t n →
      let twiddled := fun (u : State) => (u.core k).stationary = c.stationary ∧
        ∃ set, (u.core k).shadow = some set ∧ set.cls = 2 ∧ set.shape = 0 ∧ set.fmt = f ∧ set.sc = 0 ∧
        set.elems.length = 128 * 128 ∧
        ∀ row col, row < 128 → col < 128 → set.elems[col * 128 + row]? =
          some (convertFloat f false none (twiddleElem (d.getLsbD 62) (if d.getLsbD 63 then 128 else 64)
            (field d 61 60 / 2 * 128 + row) (field d 61 60 % 2 * 128 + col))).1
      Gives (.mtwid k) s (fun u => twiddled u ∧ (u.core k).chain = none ∧ u.mem = s.mem ∧ (u.core k).g = c.g ∧
        (∃ x, ((u.core k).queue 0)[n]? = some x ∧ x.phase = .executed ∧ x.desc = cmd.desc) ∧
        (∀ j, j ≠ k → u.core j = s.core j) ∧
        (c.chain = none → (∀ x ∈ c.queue 0, isAccAccess x.desc = true → x.phase ≠ .begun) →
          only u ∧ u.core k = { c with queues := (u.core k).queues, shadow := (u.core k).shadow }))) ∧
    (MatrixTurn s k t 8 n cmd → Gives (.mspin k) s (fun u => only u ∧
      u.core k = { c with queues := (u.core k).queues, matrixActivity := { c.matrixActivity with
        spinLevel := field d 63 55, spinWindows := if field d 54 39 = 0 then none else some (field d 54 39) } })) ∧
    (MatrixTurn s k t 9 n cmd → Gives (.mparam k) s (fun u => only u ∧
      u.core k = { c with queues := (u.core k).queues }))

/-- R46, R50, R129, R164: an MSTREAM continues the open chain, or opens its own once the tail of the one before it has entered, and
takes its slices from the local store, or those that have arrived at the direct port. They enter one by one, each with the vector it
begins; what the chain then holds and owes, and which vectors have landed in the accumulators, is `slide`'s and `landAll`'s to say.
With slices still to come it waits; with CHAIN the chain stays open with this command as its last; without it its own tail enters and
the chain is closed. When the tail of a chain can be taken: from rows that translate, or from the port, in which its last slice
carries the mark. -/
def Obligations.MatrixStreams : Prop :=
  ∀ (s : State) (k : CoreId) (t : Tile) (n : Nat) (cmd : Cmd) (set : MatrixSet),
    let d : Desc := cmd.desc
    let c := s.core k
    let m := field d 14 0
    let quiet := ∀ x ∈ c.queue 0, isAccAccess x.desc = true → x.phase ≠ .begun
    let loads := ∃ x ∈ (c.queue 0).take n, x.open = true ∧ Desc.cmd x.desc = 2 ∧ usesPort x.desc = true
    let going := c.chain.map (fun x => x.last.seq) = some cmd.seq
    let tailRows := fun (sh cl b : Nat) (hd : Desc) => badRow s t.ctx k [(field hd 55 41 + field hd 14 0 * mxDepth sh cl / perRow b,
      cdiv ((field hd 14 0 + (mxDepth sh cl - 1)) * mxDepth sh cl) (perRow b) - field hd 14 0 * mxDepth sh cl / perRow b)] = none
    (∀ h, c.chain = some h →
      let hd : Desc := h.last.desc
      let left := mxDepth h.shape h.cls - 1 - h.tailIn
      (hd.getLsbD 78 = false → tailRows h.shape h.cls (streamBits hd.cls hd.streamFmt) hd → TailReady s k t n) ∧
      (hd.getLsbD 78 = true → (∃ sls, portSlices c.port left true = .ok sls ∧ sls.length = left) → ¬ loads → TailReady s k t n)) ∧
    (MatrixTurn s k t 1 n cmd → c.stationary = some set →
      ∀ (s0 s1 : State) (h : Chain) (sls : List (List Nat)),
      (going → s1 = s) →
      (¬ going → (if d.getLsbD 76 = true ∧ ∃ h, c.chain = some h ∧ h.shape = d.shape ∧ h.cls = d.cls then s0 = s
          else endChain s k t ((c.queue 0).take n) = .done s0) ∧
        s1 = (s0.drain k t).setCore k { (s0.drain k t).core k with chain := some (match ((s0.drain k t).core k).chain with
          | some x => { x with last := cmd }
          | none => ⟨d.shape, d.cls, cmd, [], [], 0⟩) }) →
      (s1.core k).chain = some h → h.shape = d.shape → h.cls = d.cls → h.last.desc = d → h.last.seq = cmd.seq →
      let depth := mxDepth d.shape d.cls
      let left := m - cmd.resumeAt
      let port := (s1.core k).port
      (if d.getLsbD 78 = true then portSlices port left false = .ok sls else sls = localSlices s1 k d cmd.resumeAt left) →
      let begun := (sls.zipIdx).map (fun p => (p.1, ((owedVectors s1 k cmd set).drop cmd.resumeAt)[p.2]?))
      let after := fun (tail : List (List Nat)) => (begun ++ tail.map (fun x => (x, none))).foldl (slide depth) ⟨h.slices, h.owed, []⟩
      let entered := fun (tail : List (List Nat)) (u : State) => (u.core k).stationary = some set ∧ (u.core k).g = c.g ∧
        u.mem = s.mem ∧ (∀ j, j ≠ k → u.core j = s.core j) ∧
        (u.core k).port = (if d.getLsbD 78 = true then port.drop (sls.length + tail.length) else port) ∧
        (quiet → OnlyCore k [Reg.mxeAccStatus k] s1 u ∧
          u.core k = { s1.core k with queues := (u.core k).queues, chain := (u.core k).chain, acc := (u.core k).acc,
                                      port := (u.core k).port } ∧
          (u.core k).acc = (landAll (after tail).landed (s1.core k)).1.acc ∧
          u.reg (Reg.mxeAccStatus k) = s1.reg (Reg.mxeAccStatus k) |||
            BitVec.ofNat 64 (landAll (after tail).landed (s1.core k)).2)
      let stays := fun (u : State) => ∃ x, (u.core k).chain = some x ∧ x.shape = d.shape ∧ x.cls = d.cls ∧ x.last = h.last ∧
        x.slices = (after []).slices ∧ x.owed = (after []).owed
      let ends := fun (u : State) => ∃ x, ((u.core k).queue 0)[n]? = some x ∧ x.phase = .executed ∧ x.desc = cmd.desc
      (sls ≠ [] → sls.length < left → Gives (.mstream k) s (fun u => entered [] u ∧ stays u ∧
        ∃ x, ((u.core k).queue 0)[n]? = some x ∧ x.phase = .begun ∧ x.desc = cmd.desc ∧ x.resumeAt = cmd.resumeAt + sls.length)) ∧
      (sls.length = left → d.getLsbD 76 = true → Gives (.mstream k) s (fun u => entered [] u ∧ stays u ∧ ends u)) ∧
      (sls.length = left → d.getLsbD 76 = false → ∀ tail,
        (if d.getLsbD 78 = true then portSlices (port.drop left) (depth - 1 - h.tailIn) true = .ok tail ∧
            tail.length = depth - 1 - h.tailIn ∧ ¬ loads
          else tail = localSlices s1 k d m (depth - 1) ∧ tailRows d.shape d.cls (streamBits d.cls d.streamFmt) d) →
        Gives (.mstream k) s (fun u => entered tail u ∧ (u.core k).chain = none ∧ ends u)))

/-- R50, R52, R54, R56, R60: when the last slice of the oldest owed vector enters, the vector is element i of the i-th of its
slices, and its products land in the columns of its entry, the clear flag starting them from zero; the accumulators outside the
entry stay. A pair of plain integer operands accumulates in integers, every other pair in FP32 with one rounding. An accumulator
of the other type counts as zero, which without the clear flag sets TYPE. -/
def Obligations.VectorLandsInItsEntry : Prop :=
  (∀ (s : State) (k : CoreId) (t : Tile) (sl : List Nat) (h : Chain) (o : OwedVector) (rest : List OwedVector),
    let c := s.core k
    let sls := h.slices ++ [sl]
    c.chain = some h → h.owed = o :: rest → sls.length = mxDepth h.shape h.cls →
    (∀ x ∈ c.queue 0, isAccAccess x.desc = true → x.phase ≠ .begun) →
    let vec := (List.range sls.length).map (fun i => (sls.getD i []).getD i 0)
    let r := applyVector o vec { c with chain := some { h with slices := sls.drop 1, owed := rest } }
    (feedSlice k t sl s).core k = r.1 ∧ OnlyCore k [Reg.mxeAccStatus k] s (feedSlice k t sl s) ∧
    (feedSlice k t sl s).reg (Reg.mxeAccStatus k) = s.reg (Reg.mxeAccStatus k) ||| BitVec.ofNat 64 r.2) ∧
  ∀ (o : OwedVector) (vec : List Nat) (c : Core),
    let d : Desc := o.desc
    let cols := mxCols d.shape d.cls
    let depth := mxDepth d.shape d.cls
    let u := (applyVector o vec c).1
    let column := fun (j : Nat) => (o.set.elems.drop (j * depth)).take depth
    u = { c with acc := u.acc } ∧
    (∀ x, (x < o.entry * cols ∨ o.entry * cols + cols ≤ x) → u.accAt x = c.accAt x) ∧
    (intPair d o.set = true → ∀ j, j < cols →
      let p := passInt d o.set (column j) vec
      ∀ low w, (c.accAt (o.entry * cols + j) = .int low w ∨ (o.clear = true ∧ low = 0 ∧ w = 0)) →
        u.accAt (o.entry * cols + j) =
          if o.clear then .int (accAdd 0 0 p).1 (accAdd 0 0 p).2 else .int (accAdd low w p).1 (accAdd low w p).2) ∧
    (intPair d o.set = false → ∀ j, j < cols →
      let groups := depth / groupSize (field d 75 74)
      let p := passFloat (groupTerms d o.set (column j) vec ((o.set.scales.drop (j * groups)).take groups) o.scales)
      ∀ b, (c.accAt (o.entry * cols + j) = .fp b ∨ (o.clear = true ∧ b = 0)) →
        u.accAt (o.entry * cols + j) = .fp (round32 ((val32 (if o.clear then 0 else b)).add (val32 p)))) ∧
    (intPair d o.set = true → ∀ j, j < cols → ∀ b, c.accAt (o.entry * cols + j) = .fp b →
      let p := passInt d o.set (column j) vec
      u.accAt (o.entry * cols + j) = .int (accAdd 0 0 p).1 (accAdd 0 0 p).2) ∧
    (intPair d o.set = false → ∀ j, j < cols → ∀ low w, c.accAt (o.entry * cols + j) = .int low w →
      let groups := depth / groupSize (field d 75 74)
      let p := passFloat (groupTerms d o.set (column j) vec ((o.set.scales.drop (j * groups)).take groups) o.scales)
      u.accAt (o.entry * cols + j) = .fp (round32 ((val32 (0 : W32)).add (val32 p)))) ∧
    ((applyVector o vec c).2.testBit 3 = true ↔ o.clear = false ∧ ∃ j, j < cols ∧ (match c.accAt (o.entry * cols + j) with
      | .int _ _ => intPair d o.set = false
      | .fp _ => intPair d o.set = true))

/-- R20, R36, R52, R58, R59: MREAD sends the converted entries in its order to rows from DROW (the bytes past the 640 elements of
a row of 6-bit elements as 0) and counts the conversions and the entries that had wrapped; MSPILL sends 8 bytes an accumulator,
MFILL brings such bytes back; the accumulators that MREAD and MSPILL read stay. -/
def Obligations.ReadOutSpillFill : Prop :=
  ∀ (s : State) (k : CoreId) (t : Tile) (n : Nat) (cmd : Cmd),
    let d : Desc := cmd.desc
    let c := s.core k
    let cols := mxCols d.shape d.cls
    let num := field d 22 11
    let e0 := field d 33 23
    let accs := entryAccs d.shape d.cls e0 num
    let f := field d 71 68
    let b := fmtBits f
    let p := mreadParamRows d
    let prow := s.rowsFrom k (field d 48 34) (p.1 + p.2)
    let place := fun (e : Nat) => if d.getLsbD 79 then (e % num, e / num) else (e / cols, e % cols)
    let kept := fun (offs : List Nat) (u : State) => Executed k 0 n s u ∧
      u.core k = { c with queues := (u.core k).queues, tile := (u.core k).tile } ∧
      OnlyCore k offs { s with draws := u.draws, deltas := u.deltas, writes := u.writes } u
    (AccTurn s k t 5 n cmd → b ≠ 0 → 0 < num → Gives (.mread k) s (fun u =>
      kept (Reg.mxeWrapCount k :: Reg.mxeAccStatus k :: convRegs k) u ∧
      ∃ out : List (Nat × ConvTally × Bool), out.length = num * cols ∧
      (∀ e r, out[e]? = some r → ∃ draw, (d.getLsbD 78 = false → draw = none) ∧
        (∀ x j, d.getLsbD 78 = true → cmd.before = some x → s.job? t.job = some j →
          draw = some (draw24 j.seed (field x 63 48) (field x 47 0 + e))) ∧
        r = readElemExact d (readMult d prow (place e).2) (readBias d prow (place e).2) draw
          (c.accAt (((e0 + (place e).1) % mxEntries d.shape d.cls) * cols + (place e).2))) ∧
      let codes := out.map (·.1)
      let whole := codes.length / perRow b * perRow b
      let wraps := (out.filter (·.2.2)).length
      let tally := out.foldl (fun a r => a.add r.2.1) ConvTally.zero
      Converted k tally [(Reg.mxeWrapCount k, wraps)] [Reg.mxeAccStatus k] s u ∧
      u.reg (Reg.mxeAccStatus k) = s.reg (Reg.mxeAccStatus k) ||| (if 0 < wraps then 1 else 0) ∧
      SentRows k 0 cmd t k (field d 63 49) (cdiv (num * cols) (perRow b))
        ((packRows b 0 (codes.take whole)).flatten ++ packBytes b (codes.drop whole)) s u ∧
      (b = 6 → ∀ w ∈ u.writes.drop s.writes.length, w.data.drop 480 = List.replicate 32 0))) ∧
    (AccTurn s k t 6 n cmd → Gives (.mspill k) s (fun u => kept [] u ∧ u.deltas = s.deltas ∧
      SentRows k 0 cmd t k (field d 63 49) (cdiv (8 * accs.length) 512)
        (accs.flatMap (fun i => spillBytes (c.accAt i))) s u)) ∧
    (AccTurn s k t 7 n cmd → num ≤ mxEntries d.shape d.cls →
      Gives (.mfill k) s (fun u => Executed k 0 n s u ∧ OnlyCore k [] s u ∧
      u.core k = { c with queues := (u.core k).queues, acc := (u.core k).acc } ∧
      (∀ e i, accs[e]? = some i → (u.core k).accAt i =
        fillAcc (leAt (s.rowsFrom k (field d 63 49) (spillRows d)) (8 * e) 8)) ∧
      (∀ i, i ∉ accs → (u.core k).accAt i = c.accAt i)))

/-- R64–R66, R355, R357, R359: at the end of a window the active count of the matrix engine, and of the vector engine with its window
path, has moved towards what work or the spin offers by no more than its slope limit; its ceiling falls while the limiter is engaged
or the device has shut down, and else rises; the spin ends after its windows or with real work; and nothing but the activity of the
core changes. That the window which first reaches the level counts as one of those it is held for, and that with WIN 0 real work ends
the spin in any window, is the model's choice (log 102). A device held in reset has no window.
R151, R153, R154: each step in which a store request is refused is counted, and those for a busy bank; a request refused in
32 steps, or a Piste transfer that has waited 128 slots, is promoted and counted, and the longest wait in steps is kept, without
the reads of the matrix shadow load; no result of the machine changes. -/
def Obligations.ActivityAndPromotions : Prop :=
  (∀ (s : State) (k : CoreId) (offered : ActivityOffered),
     let falls := s.power.limiter || s.power.stopped
     let moved := fun (a b : Activity) (L work : Nat) =>
       let want := max work a.spinLevel
       let n := b.count
       n ≤ a.count + L ∧ n ≤ 256 ∧
       b.ceiling = (if falls then a.ceiling - L else min 256 (a.ceiling + L)) ∧
       (falls = true → n ≤ max b.ceiling (a.count - L)) ∧
       (falls = false → a.ceiling = 256 → a.count ≤ 256 → a.count ≤ n + L ∧
         (want ≤ 256 → a.count ≤ want + L → want ≤ a.count + L → n = want)) ∧
       (a.spinWindows = none → b.spinWindows = none ∧ b.spinLevel = if 0 < work then 0 else a.spinLevel) ∧
       (∀ w, a.spinWindows = some w → 0 < a.spinLevel → a.spinLevel ≤ n →
         if w ≤ 1 then b.spinLevel = 0 else b.spinLevel = a.spinLevel ∧ b.spinWindows = some (w - 1)) ∧
       (∀ w, a.spinWindows = some w → n < a.spinLevel → b.spinLevel = a.spinLevel ∧ b.spinWindows = some w)
     (s.board.porLow = true → Gives (.activityWindowEnd k offered) s (fun u => u = s)) ∧
     (s.board.porLow = false → Gives (.activityWindowEnd k offered) s (fun u => OnlyCore k [] s u ∧
       u.core k = { s.core k with matrixActivity := (u.core k).matrixActivity, vectorActivity := (u.core k).vectorActivity } ∧
       moved (s.core k).matrixActivity (u.core k).matrixActivity s.power.matrixLimit offered.matrix ∧
       moved (s.core k).vectorActivity (u.core k).vectorActivity s.power.vectorLimit offered.vector))) ∧
  (∀ (s : State) (st : StoreId) (wait conflicts : Nat) (shadow : Bool),
     conflicts ≤ wait →
     Gives (.storeRequestPromotion st wait ⟨conflicts, shadow⟩) s (fun u =>
       u = { s with regs := u.regs, deltas := u.deltas } ∧
       (u.reg (Reg.stoMaxWait st)).toNat =
         (if shadow = true then (s.reg (Reg.stoMaxWait st)).toNat else max (s.reg (Reg.stoMaxWait st)).toNat (min wait 65535)) ∧
       Counted ([(Reg.stoRefuseCount st, wait), (Reg.stoConflictCount st, conflicts)] ++
         if shadow = false ∧ 32 ≤ wait then [(Reg.stoPromoteCount st, 1)] else []) [Reg.stoMaxWait st] s u) ∧
     Gives (.pisteTransferPromotion wait) s (fun u =>
       u = { s with regs := u.regs, deltas := u.deltas } ∧
       (u.reg Reg.pstMaxWait).toNat = max (s.reg Reg.pstMaxWait).toNat (min (2 * wait) 65535) ∧
       Counted (if 128 ≤ wait then [(Reg.pstPromoteCount, 1)] else []) [Reg.pstMaxWait] s u))

/-- R89, R94, R96, R133: DETECT of a cluster carries out the command its post-processor has begun, with the parameter row read when
it began: the output rows go on their way to the output that row names, the flags PAIROVF, TRUNC and NONFIN are set and a truncated
image is counted.
R93: suppression keeps the pairs in their order, at most max_det of them, and no kept pair of a class overlaps an earlier kept
one of that class by more than the threshold. -/
def Obligations.DetectAndSuppression : Prop :=
  (∀ (s : State) (cl : ClusterId) (k : CoreId) (t : Tile) (n : Nat) (cmd : Cmd),
     (begunDetect s (evenCore cl) = some (k, n, cmd) ∨
       (begunDetect s (evenCore cl) = none ∧ begunDetect s (oddCore cl) = some (k, n, cmd))) →
     (s.core k).tile = some t →
     let p := detectParams cl cmd.row
     let r := runDetect s p
     Gives (.detect cl) s (fun u => Executed k 3 n s u ∧
       u.core k = { s.core k with queues := (u.core k).queues } ∧
       OnlyCore k [Reg.dppStatus cl, Reg.dppTruncCount cl] { s with writes := u.writes, deltas := u.deltas } u ∧
       SentRows k 3 cmd t p.out.st p.out.row r.1.length r.1.flatten s u ∧
       u.reg (Reg.dppStatus cl) = s.reg (Reg.dppStatus cl) |||
         BitVec.ofNat 64 (2 * r.2.1.toNat + 4 * r.2.2.1.toNat + 8 * r.2.2.2.toNat) ∧
       Counted [(Reg.dppTruncCount cl, r.2.2.1.toNat)] [Reg.dppStatus cl] s u)) ∧
  (∀ (thr : W32) (maxDet : Nat) (l : List Pair),
     let kept := (suppress thr maxDet l []).1
     kept.length ≤ maxDet ∧ kept.Sublist l ∧
     (fcmp 3 0x3F800000 thr = false →
       kept.Pairwise (fun a b => a.cls = b.cls → fcmp 2 thr (iouOf a.box b.box) = false)) ∧
     ((suppress thr maxDet l []).2 = false → fcmp 3 0x3F800000 thr = true → kept = l))

/-! ## Queues, tokens and the Lifts (R112, R124–R136, R155–R172) -/

/-- R50, R125, R133, R135, R136, R156: the first waiting command of a queue that its engine can take, for which the waits tested
before its own leave enough tokens and whose begin check passes, consumes them and begins, a DETECT with the parameter row it
reads; the tokens of other counters and the other queues stay. A chain that is due to end ends first, and at a cluster's Lift a load
of the Lodge whose turn it is goes first; the turn then passes on. That loads pass the Lift so is log 81, the model's choice.
R96, R125, R135, R158: a command that has had its effect, whose row writes are all performed and whose entries have left the
direct port leaves its queue and posts its tokens, and a completed DETECT is counted: PCNT are added, or subtracted; the add halts
with 0x05 past 65,535, the subtraction with 0x04 below 0. -/
def Obligations.CommandsBeginAndComplete : Prop :=
  (∀ (s : State) (k : CoreId) (q : QueueId) (t : Tile) (n : Nat) (cmd : Cmd),
     let c := s.core k
     let d : Desc := cmd.desc
     let v := if q = 2 then s.lodgeTakes (clusterFin k) else s
     c.tile = some t → c.phase ≠ .halted →
     (∀ s1, chainDue c = true → endChain s k t (beforeChainEnd c) = .done s1 →
       exec (.commandBegin k 0) s = exec (.commandBegin k 0) (s1.drain k t)) ∧
     ((q = 0 → chainDue c = false) → firstIdx (fun x => x.phase == .waiting) (c.queue q) = some n → (c.queue q)[n]? = some cmd →
       mayBegin v k q n cmd = true → (d.wcnt = 0 ∨ d.wcnt ≤ c.tokensFor q d.wctr) →
       (beginCheck v k t q d = none →
         Gives (.commandBegin k q) s (fun u =>
           (u.core k).queue q =
             modifyNth (fun x => { x with phase := .begun, row := if q = 3 then s.detectRowOf k d else [] }) n (c.queue q) ∧
           (∀ r, r ≠ q → (u.core k).queue r = c.queue r) ∧
           (d.wcnt ≠ 0 → ((u.core k).token d.wctr).toNat = (c.token d.wctr).toNat - d.wcnt) ∧
           (∀ i, (i ≠ d.wctr ∨ d.wcnt = 0) → (u.core k).token i = c.token i) ∧
           u.core k = { c with tokens := (u.core k).tokens, queues := (u.core k).queues } ∧
           (∀ j, j ≠ k → u.core j = s.core j) ∧
           u = { v with cores := u.cores, dppTurn := u.dppTurn, liftTurn := u.liftTurn } ∧
           (∀ x, u.dppTurn[x] = if q = 3 ∧ x = clusterFin k then k.val % 2 == 0 else s.dppTurn[x]) ∧
           (∀ x, u.liftTurn[x] = if q = 2 ∧ d.cmd ≠ 4 ∧ d.unit = true ∧ x = clusterFin k then liftSourceNo k + 1
             else v.liftTurn[x]))) ∧
       (∀ e, beginCheck v k t q d = some e → c.phase.active = true → cmd.pos < 256 → e.1 < 256 →
         Gives (.commandBegin k q) s (Halted k (q.val + 1) e.1 cmd.pos cmd.pc.toNat e.2 s)))) ∧
  (∀ (s : State) (k : CoreId) (q : QueueId) (n : Nat) (cmd : Cmd),
     let c := s.core k
     let d : Desc := cmd.desc
     let v := (c.token d.pctr).toNat
     c.phase ≠ .halted → (q = 0 → chainDue c = false) → (c.queue q)[n]? = some cmd → cmd.phase = .executed →
     s.writesPending k q cmd.seq = false → owes c q cmd = false →
     let posted := fun (m : Nat) (u : State) =>
       (u.core k).queue q = removeNth n (c.queue q) ∧ (∀ r, r ≠ q → (u.core k).queue r = c.queue r) ∧
       ((u.core k).token d.pctr).toNat = m ∧ (∀ i, i ≠ d.pctr → (u.core k).token i = c.token i) ∧
       u.core k = { c with tokens := (u.core k).tokens, queues := (u.core k).queues } ∧
       (∀ j, j ≠ k → u.core j = s.core j) ∧ u = { s with cores := u.cores, deltas := u.deltas, regs := u.regs } ∧
       Counted (if q = 3 then [(Reg.dppImageCount (clusterFin k), 1)] else []) [] s u
     (d.pkind = 0 → v + d.pcnt ≤ 65535 → Gives (.commandComplete k q n) s (posted (v + d.pcnt))) ∧
     (d.pkind ≠ 0 → d.pcnt ≤ v → Gives (.commandComplete k q n) s (posted (v - d.pcnt))) ∧
     (d.pkind = 0 → 65535 < v + d.pcnt → c.phase.active = true → cmd.pos < 256 →
       Gives (.commandComplete k q n) s (Halted k (q.val + 1) 0x05 cmd.pos cmd.pc.toNat 0 s)) ∧
     (d.pkind ≠ 0 → v < d.pcnt → c.phase.active = true → cmd.pos < 256 →
       Gives (.commandComplete k q n) s (Halted k (q.val + 1) 0x04 cmd.pos cmd.pc.toNat 0 s)))

/-- R156–R165, R172: a begun LCOPY, LSKEW or LFILL whose source can be read delivers what it makes and counts its requests and packed
bytes: rows on their way to a store; as many of its entries as the direct port's buffer of 8 rows' worth has room for, in order, the
rest later; or, at virtual addresses, the units that its LADDR describes, as far as the Lift can hold the requests. LCOPY makes the
rows it reads, LFILL rows of its 16-bit value. LADDR has no effect of its own. That the requests counted are those on the
virtual-address side is log 81, the model's choice.
R163: element k of slice i of an LSKEW carries element k of vector v0 + i − k of its sequence, and outside the sequence
the edge code; with TAIL the slices run on until every kept element has left. -/
def Obligations.LiftCommands : Prop :=
  (∀ (s : State) (k : CoreId) (t : Tile) (n : Nat) (cmd : Cmd),
     let d : Desc := cmd.desc
     let c := s.core k
     let need := liftNeed c cmd
     let r := liftSource s t.ctx cmd need
     let out := liftOutput c cmd r.bytes
     let l := liftOf k d
     let reads := [(Reg.lftReqCount l, r.reqs), (Reg.lftPkIn l, r.packed), (Reg.lftPkOut l, r.decoded)]
     let kept := fun (u : State) => (u.core k).skewTail = (keepVectors c cmd r.bytes).skewTail
     let plain := fun (u : State) => Counted reads [] s u ∧ (∀ j, j ≠ k → u.core j = s.core j) ∧
       u = { s with cores := u.cores, writes := u.writes, deltas := u.deltas, regs := u.regs } ∧
       u.core k = { c with queues := (u.core k).queues, skewTail := (u.core k).skewTail, port := (u.core k).port }
     let goesOn := fun (f : Cmd → Cmd) (u : State) => (u.core k).queue 2 = modifyNth f n (c.queue 2) ∧
       (∀ q, q ≠ 2 → (u.core k).queue q = c.queue q) ∧ (u.core k).skewTail = c.skewTail
     (c.phase ≠ .halted → ∀ p ∈ [(Instr.lcopy k n, 1), (.lskew k n, 2), (.lfill k n, 3)],
       liftReady? s k n (some p.2) = some (t, cmd) →
       (r.stop = none → d.dst < 12 → Gives p.1 s (fun u => plain u ∧ Executed k 2 n s u ∧ kept u ∧ (u.core k).port = c.port ∧
         SentRows k 2 cmd t d.dst (field d 46 30) out.rows.length out.rows.flatten s u)) ∧
       (d.dst = 13 →
         let fit := portFit c cmd
         let sent := fun (u : State) => u.writes = s.writes ∧ (u.core k).port =
           c.port ++ ((out.entries.drop cmd.resumeAt).take fit).map (fun e => ⟨e, cmd.seq, entryBytes d⟩)
         (fit = 0 → Gives p.1 s (fun u => u = s)) ∧
         (fit ≠ 0 → r.stop = none → cmd.resumeAt + fit = portEntries d →
           Gives p.1 s (fun u => plain u ∧ Executed k 2 n s u ∧ kept u ∧ sent u)) ∧
         (fit ≠ 0 → r.stop = none → cmd.resumeAt + fit ≠ portEntries d → Gives p.1 s (fun u => plain u ∧ sent u ∧
           goesOn (fun x => { x with resumeAt := cmd.resumeAt + fit, got := r.raw }) u))) ∧
       (r.stop = none → d.dst = 12 → ∀ (s2 : State) (o : Nat) (stop : Option LiftStop),
         writeUnits k t cmd.seq
           ((List.zip (runAddrs (cmd.before.getD 0) out.rows.flatten.length)
             (groupsOf 64 (out.rows.flatten.length / 64) out.rows.flatten)).drop (cmd.resumeAt / 64)) cmd.resumeAt
           (s.countRead l r) = (s2, o, stop) →
         let made := fun (u : State) => Counted [(Reg.lftReqCount l, (o - cmd.resumeAt) / 64)] [] s2 u ∧
           (∀ j, j ≠ k → u.core j = s2.core j) ∧ u = { s2 with cores := u.cores, deltas := u.deltas, regs := u.regs } ∧
           u.core k = { s2.core k with queues := (u.core k).queues, skewTail := (u.core k).skewTail }
         (stop = none → Gives p.1 s (fun u => made u ∧ Executed k 2 n s u ∧ kept u)) ∧
         (∀ w, stop = some (.wait w) →
           Gives p.1 s (fun u => made u ∧ goesOn (fun x => { x with resumeAt := w, got := r.raw }) u)))) ∧
     Counted reads [] s (s.countRead l r) ∧
     (d.dst ≠ 13 → d.cmd = 1 → need = field d 29 13) ∧
     (d.cmd = 1 → d.getLsbD 74 = false → d.src < 12 → r.stop = none ∧
       out.rows.flatten = s.rd (rowAddr d.src (field d 63 47)) (512 * need)) ∧
     (d.cmd = 3 → r.stop = none ∧ out.rows = List.replicate (field d 29 13)
       ((List.range 512).map (fun i => d.extractLsb' (48 + 8 * (i % 2)) 8))) ∧
     (∀ x, (c.queue 2)[n]? = some x → x.phase = .begun → Desc.cmd x.desc = 4 →
       Gives (.laddr k n) s (fun u => OnlyCore k [] s u ∧ Executed k 2 n s u ∧
         u.core k = { c with queues := (u.core k).queues }))) ∧
  (∀ (d : Desc) (vecs : List (List Nat)) (i j : Nat),
     let code := fun (c : Nat) => skewElem (field d 69 68) (field d 67 64) (field d 14 7) c
     (skewedSlices d [] vecs 0).length = field d 29 15 + (if d.getLsbD 72 then skewDepth d - 1 else 0) ∧
     (i < skewSlices d → j < skewDepth d →
       (((skewedSlices d [] vecs 0).getD i []).getD j 0) =
         if i < j then code (edgeCode d) else match vecs[i - j]? with
           | some v => code (v.getD j 0)
           | none => code (edgeCode d)))

/-- R171, R197: what a Lift writes at virtual addresses of a context other than the Lodge's never reaches the table region
or lies beyond the plain DRAM: no program can change a translation. -/
def Obligations.LiftWritesSpareTheTables : Prop :=
  ∀ (k : CoreId) (t : Tile) (seq o : Nat) (units : List (Nat × List Byte)) (s : State) (a : Nat),
    t.ctx ≠ 0 → (∀ x ∈ units, x.1 % 64 = 0 ∧ x.2.length = 64) →
    (s.tableRegion.1 ≤ a ∧ a < s.tableRegion.1 + s.tableRegion.2 ∨ s.codecBase ≤ a) →
    (writeUnits k t seq units o s).1.byteAt a = s.byteAt a

/-! ## Tiles, counters, stores (R99, R108, R115–R123, R137, R141, R151–R154, R170, R177–R188, R209) -/

/-- R99, R118, R124, R137, R174, R194, R209, R212: a launched tile starts at its entry with g1 the tile index, g2 its argument block,
g3 the epoch and every other register 0, no loop, no token, empty queues and no accumulator; its block holds the arguments of its own
job, and ARGWORD of block 0 the row of that job's frame slot; it holds the context's attributes of this boundary; the halt registers
and the charge of the core are cleared, memory and the other cores stay, and an index that the launcher claims now is counted. With no
tile to launch the core stays free and its launchers' claims wait at their counters (R179). Three clauses are the model's choice: the
launchers that the Lodge had stopped go on (log 109), the attributes are those of a core that is at its boundary (log 92), and the
Lodge takes the core's notes of the END before (log 125).
R108, R137, R180: when the waits of END are over the core is free again, tokens left are cleared and counted, and the
tile's index is complete at its counter, and the Lodge is told (R364); a tile that still waits stays. -/
def Obligations.TilesLaunchAndComplete : Prop :=
  (∀ (s : State) (k : CoreId),
     let v := (s.takeNote (clusterFin k) (.ended k)).takeNote (clusterFin k) (.gate k)
     (s.core k).free = true → s.lodge.inReset = false →
     (∀ (l : Launch) (x : Seat) (g : Stage), v.pickLaunch k = some (l, x) → v.stageOf l.job x.stage = some g →
     let cleared := [Reg.ccHaltStatus k, Reg.ccHaltDetail k, Reg.ccHaltPc k, Reg.ccHaltAddr k, Reg.ccTileCharge k]
     let blk := x.dbase * 4096 + g.argBlk
     let own := blk + l.slot * g.argStride
     let inArgs := fun (a : Nat) => own ≤ a ∧ a < own + l.job.argData.length
     let inWord := fun (a : Nat) => ∃ im e r, v.imageOf l.job = some im ∧ im.input = some e ∧ l.job.slotRow = some r ∧
       blk + e.argWord ≤ a ∧ a < blk + e.argWord + 4
     Gives (.tileLaunch k) s (fun u =>
       let c := u.core k
       c.phase = .running ∧ c.pc = BitVec.ofNat 18 g.entry ∧ c.loops = [] ∧ c.p = 1 ∧
       (∀ r : BitVec 5, c.gr r = if r = 1 then BitVec.ofNat 64 l.index else if r = 2 then
         BitVec.ofNat 64 (g.argBlk + l.slot * g.argStride) else if r = 3 then x.epoch.zeroExtend 64 else 0) ∧
       (∀ i, c.token i = 0) ∧ (∀ q, c.queue q = []) ∧ c.acc = [] ∧ c.chain = none ∧ c.stationary = none ∧ c.accesses = [] ∧
       (∃ t, c.tile = some t ∧ t.ctx = x.ctx ∧ t.model = x.model ∧ t.stage = x.stage ∧ t.job = l.job.uid ∧
         t.counter = l.p.val ∧ t.index = BitVec.ofNat 64 l.index ∧ t.epoch = x.epoch ∧ t.ipart = x.ipart ∧ t.dpart = x.dpart ∧
         t.claimed = [] ∧ t.conv = 0 ∧ t.clip = 0 ∧ t.nan = 0 ∧ t.sig = 0 ∧
         ∀ cx, s.ctx? x.ctx = some cx → t.abandon = cx.abandon ∧ t.faultWait = cx.faultWait ∧ t.autonomous = cx.autonomous) ∧
       c.istore = (s.core k).istore ∧ u.mem = s.mem ∧ (∀ j, j ≠ k → u.core j = s.core j) ∧
       (∀ a, ¬ inArgs a → ¬ inWord a → lookupD 0 c.dstore a = lookupD 0 (s.core k).dstore a) ∧
       (x.argOwner.contains (l.slot, l.job.uid) = false → ∀ a, inArgs a → ¬ inWord a →
         lookupD 0 c.dstore a = l.job.argData.getD (a - own) 0) ∧
       (∀ im e r, v.imageOf l.job = some im → im.input = some e → l.job.slotRow = some r → ∀ i, i < 4 →
         lookupD 0 c.dstore (blk + e.argWord + i) = (leBytes 4 r).getD i 0) ∧
       (∀ c1, l.claimed = some c1 → u.counters[l.p] = some c1) ∧ (l.claimed = none → u.counters = s.counters) ∧
       (∀ o ∈ cleared, u.reg o = 0) ∧
       Counted (if l.claimed.isSome then [(Reg.pstTcClaimCount, 1)] else []) cleared s u)) ∧
     (v.pickLaunch k = none → Gives (.tileLaunch k) s (fun u =>
       u = { v with cores := u.cores, counters := u.counters } ∧ (∀ j, j ≠ k → u.core j = s.core j) ∧
       u.core k = { s.core k with seats := (s.core k).seats.map (fun (x : Seat) => { x with launcherStopped := false }) } ∧
       (∀ p : CounterId, s.counters[p] = none → u.counters[p] = none) ∧
       ∀ (p : CounterId) (c : Counter), s.counters[p] = some c → ∃ new : List Claimer, u.counters[p] = some { c with waiting := c.waiting ++ new } ∧
         ∀ w ∈ new, ∃ st, w = .launcher k st))) ∧
  (∀ (s : State) (k : CoreId) (t : Tile) (gate : Bool),
     (s.core k).phase = .ending gate → (s.core k).tile = some t → chainDue (s.core k) = false →
     (tileOver s k = false → Gives (.tileComplete k) s (fun u => u = s)) ∧
     (tileOver s k = true →
     Gives (.tileComplete k) s (fun u =>
       (u.core k).phase = .idle ∧ (u.core k).tile = none ∧ (∀ i, (u.core k).token i = 0) ∧ u.mem = s.mem ∧
       (u.core k).g = (s.core k).g ∧ (u.core k).dstore = (s.core k).dstore ∧ (u.core k).vregs = (s.core k).vregs ∧
       ((∃ i, (s.core k).token i ≠ 0) → (u.reg (Reg.ccTokenStatus k)).getLsbD 0 = true ∧
         lookupD 0 u.deltas (Reg.ccTokenResidueCount k) = (splitDelta (lookupD 0 s.deltas (Reg.ccTokenResidueCount k)) 1).1) ∧
       ((∀ i, (s.core k).token i = 0) → u.reg (Reg.ccTokenStatus k) = s.reg (Reg.ccTokenStatus k) ∧
         lookupD 0 u.deltas (Reg.ccTokenResidueCount k) = lookupD 0 s.deltas (Reg.ccTokenResidueCount k)) ∧
       (u.lodge.events[clusterFin k].length < 256 → .ended k ∈ u.lodge.events[clusterFin k] ∧
         (gate = true → .gate k ∈ u.lodge.events[clusterFin k])) ∧
       (∀ c, t.claimed = [] → s.counters[(Fin.ofNat 64 t.counter : CounterId)] = some c → c.members = [] →
         ∃ c', u.counters[(Fin.ofNat 64 t.counter : CounterId)] = some c' ∧
           c'.outstanding = c.outstanding.erase t.index.toNat ∧ c'.next = c.next ∧ c'.returns = c.returns ∧
           (t.index.toNat < c'.doneLow ∨ t.index.toNat ∈ c'.done) ∧ c.doneLow ≤ c'.doneLow))))

/-- R114, R170, R179: a claim is served with the lowest returned index, else with NEXT when it is released; with 4,096 indices
outstanding, or NEXT not released, it waits and holds back the others; else it learns that the counter is exhausted. A control
core receives the answer in its register and predicate and goes on; a stage's launcher or stream holds the index.
R178, R180: DONE_LOW never falls, and rises only past indices that are complete. -/
def Obligations.ClaimsAndCompletionOrder : Prop :=
  (∀ (s : State) (p : CounterId) (c : Counter) (j : Job) (who : Claimer),
     s.counters[p] = some c → c.nextClaim = some who → s.job? c.job = some j →
     let left := { c with waiting := c.waiting.erase who, blocked := false }
     let frame := fun (u : State) => u = { s with counters := u.counters, cores := u.cores, deltas := u.deltas, regs := u.regs } ∧
       ∀ q, q ≠ p → u.counters[q] = s.counters[q]
     let told := fun (v : W64) (ok : Bool) (new : List (Nat × Nat)) (u : State) => ∀ k, who = .control k → ∀ d pr,
       waitsOn (s.core k) p = some (d, pr) →
       (u.core k).gr d = (if d = 0 then 0 else v) ∧ (∀ e, e ≠ d → (u.core k).gr e = (s.core k).gr e) ∧
       (u.core k).pr pr.toNat = (if pr = 0 then true else ok) ∧
       (∀ i, i < 8 → i ≠ pr.toNat → (u.core k).pr i = (s.core k).pr i) ∧
       (u.core k).phase = .running ∧ WentOn k s u ∧ (∀ i, i ≠ k → u.core i = s.core i) ∧
       u.core k = { s.core k with
         g := (u.core k).g, p := (u.core k).p, pc := (u.core k).pc, loops := (u.core k).loops, phase := .running, tile := (s.core k).tile.map (fun t => { t with claimed := t.claimed ++ new }) }
     let given := fun (i : Nat) (u : State) =>
       told (BitVec.ofNat 64 i) true [(p.val, i)] u ∧
       (∀ k st n x, who = .launcher k st → (s.core k).seatIdx j.ctx j.running st = some n → (s.core k).seats[n]? = some x →
         (∃ y, (u.core k).seats[n]? = some y ∧ y.claims = x.claims + 1 ∧ y.epoch = x.epoch ∧
           y.held = x.held ++ [⟨j.uid, p.val, i, x.epoch, x.claims % x.slots, [], []⟩]) ∧
         (∀ m, m ≠ n → (u.core k).seats[m]? = (s.core k).seats[m]?) ∧
         u.core k = { s.core k with seats := (u.core k).seats } ∧ ∀ i, i ≠ k → u.core i = s.core i) ∧
       Counted [(Reg.pstTcClaimCount, 1)] [] s u
     (s.claims j p who = true → c.returns ≠ [] → c.outstanding.length < 4096 → Gives (.claimServed p) s (fun u =>
       frame u ∧ ∃ i ∈ c.returns, (∀ b ∈ c.returns, i ≤ b) ∧ given i u ∧
         u.counters[p] = some { left with returns := c.returns.erase i, outstanding := c.outstanding ++ [i] })) ∧
     (s.claims j p who = true → c.returns = [] → c.next < c.limit → s.released j c c.next = true → c.outstanding.length < 4096 →
       Gives (.claimServed p) s (fun u => frame u ∧ given c.next u ∧
         u.counters[p] = some { left with next := c.next + 1, outstanding := c.outstanding ++ [c.next] })) ∧
     (s.claims j p who = true → ((c.returns ≠ [] ∧ 4096 ≤ c.outstanding.length) ∨
         (c.returns = [] ∧ c.next < c.limit ∧ (s.released j c c.next = false ∨ 4096 ≤ c.outstanding.length))) →
       Gives (.claimServed p) s (fun u => frame u ∧ u.cores = s.cores ∧ Counted [] [] s u ∧
         u.counters[p] = some { c with waiting := who :: c.waiting.erase who, blocked := true })) ∧
     (s.claims j p who = true → c.returns = [] → c.limit ≤ c.next → Gives (.claimServed p) s (fun u =>
       frame u ∧ told (BitVec.allOnes 64) false [] u ∧ u.counters[p] = some left ∧ Counted [] [] s u ∧
         ((∃ k st, who = .launcher k st) → u.cores = s.cores))) ∧
     (s.claims j p who = false → Gives (.claimServed p) s (fun u => u = { s with counters := u.counters } ∧
       u.counters[p] = some left ∧ ∀ q, q ≠ p → u.counters[q] = s.counters[q]))) ∧
  (∀ (c : Counter) (self : Nat),
     let c' := c.settle self
     c.doneLow ≤ c'.doneLow ∧ (c.doneLow ≤ c.limit → c'.doneLow ≤ c.limit) ∧
     (∀ i, c.doneLow ≤ i → i < c'.doneLow → i ∈ c.done ∧ c.othersDone self i = true) ∧
     (∀ i ∈ c.done, i ∈ c'.done ∨ (c.doneLow ≤ i ∧ i < c'.doneLow)) ∧ c'.outstanding = c.outstanding ∧ c'.next = c.next)

/-- R170: the first stage of a core with prefetch streams that holds fewer than DEPTH + 1 indices, and whose job has more,
puts a claim at its counter.
R170, R171, R172, R201: STREAM_FILL fills the next slot of a stream whose index is held: the rows at base + index × stride,
decoded where the stream is packed, go on their way to the slot, and the slot counts as filled. LIFT_FAULT stops the command or
fill that finds no translation, with its saved position and the bytes it has read, counts what it has read and the fault, and tells
the Lodge where its event queue has room. LIFT_RESUME lets the stopped work of the earliest context of the Lift go on from there; the
bytes of a fill go to the index that they were read for. -/
def Obligations.StreamsAndLiftFaults : Prop :=
  (∀ (s : State) (k : CoreId) (p : CounterId) (st : StageNo) (c : Counter),
     let wants := (s.core k).seats.filterMap (fun x =>
       if x.streams.isEmpty || x.halts || decide (x.slots ≤ x.held.length) || !s.ctxRuns x.ctx then none
       else match s.claimable x with
         | some (_, p) => if s.claimWaits k x.stage p then none else some (p, x.stage)
         | none => none)
     wants.head? = some (p, st) → s.counters[p] = some c →
     Gives (.streamClaim k) s (fun u => u = { s with counters := u.counters } ∧
       u.counters[p] = some { c with waiting := c.waiting ++ [.launcher k st] } ∧ ∀ q, q ≠ p → u.counters[q] = s.counters[q])) ∧
  (∀ (s : State) (k : CoreId) (t : Tile) (n : Nat),
     let reads := fun (l : Nat) (r : LiftRead) =>
       [(Reg.lftReqCount l, r.reqs), (Reg.lftPkIn l, r.packed), (Reg.lftPkOut l, r.decoded)]
     let stopped := fun (st : Stopped) (r : LiftRead) (u : State) =>
       u.stopped = s.stopped ++ [st] ∧ u.mem = s.mem ∧ (∀ j, (u.core j).g = (s.core j).g) ∧
       u.contexts = s.contexts.map (fun (x : Context) =>
         if x.id = st.ctx then { x with faultSeq := x.faultSeq + 1, lastFault := some st } else x) ∧
       (u.reg Reg.ldgXltFaultCount).toNat = satAdd 32 (s.reg Reg.ldgXltFaultCount).toNat 1 ∧
       Counted (reads st.lift r) [Reg.ldgXltFaultCount, Reg.ldgEvqStatus, Reg.ldgEvqOverrunCount] s u ∧
       u.lodge.events = s.lodge.events.set (liftCluster st.lift) (if s.lodge.events[liftCluster st.lift].length < 256 then
         s.lodge.events[liftCluster st.lift] ++ [st.note] else s.lodge.events[liftCluster st.lift])
     (∀ (j : StreamNo) (i hn : Nat) (seat : Seat) (h : Held) (d : StreamDesc), s.off = false →
       fillTarget s k j = some (i, seat, hn, h, d) →
       let va := d.base + h.index * d.stride
       let kept := h.before j
       let r := if d.pk then decodeChunks (keeping kept (packedVa s seat.ctx va)) kept.length d.rows 0 d.rows d.rows
         else s.readOn seat.ctx kept ((List.range (8 * d.rows)).map (fun x => va + 64 * x))
       (∀ (row : Nat), slotRow s k seat d h.slot = some row → r.stop = none →
         Gives (.streamFill k j) s (fun u => (∀ m, m ≠ k → u.core m = s.core m) ∧ Counted (reads k.val r) [] s u ∧
           u = { s with cores := u.cores, writes := u.writes, deltas := u.deltas, regs := u.regs } ∧
           (∃ new : List RowWrite, u.writes = s.writes ++ new ∧
             new.map (·.row) = (List.range (rowsOf r.bytes).length).map (fun x => rowAddr k (row + x)) ∧
             new.map (·.data) = rowsOf r.bytes ∧
             ∀ x ∈ new, x.tag = some ⟨seat.ctx, seat.model, seat.stage, k, h.epoch⟩ ∧ x.part = false ∧ x.owner = none) ∧
           let fill := fun (y : Held) => { y with filled := y.filled ++ [j.val] }
           u.core k = { s.core k with seats := modifyNth (fun x => { x with held := modifyNth fill hn x.held }) i (s.core k).seats })) ∧
       (∀ (o a cause level : Nat), r.stop = some (.fault o a cause level) →
         let st : Stopped := ⟨k.val, .fill k j, seat.ctx, BitVec.ofNat 64 a, cause, level, j.val, false, o, s.gate,
           some (seat.model, seat.stage), some (h.counter, h.index), r.raw⟩
         s.faultWaitOf st ≠ some 0 → cause ≠ 3 → (∃ x ∈ s.contexts, x.id = seat.ctx) →
         Gives (.liftFault (.fill k j)) s (stopped st r))) ∧
     (∀ (cmd : Cmd) (s1 : State) (dest : Bool) (o va cause level : Nat) (got : List Byte),
       liftReady? s k n none = some (t, cmd) → liftRun s k t n cmd = .fault s1 dest o va cause level got →
       cause ≠ 3 → t.faultWait ≠ 0 →
       let r := liftSource s t.ctx cmd (liftNeed (s.core k) cmd)
       got = r.raw ∧
       Gives (.liftFault (.command k n)) s (fun u =>
         (∃ x, ((u.core k).queue 2)[n]? = some x ∧ x.phase = .stopped ∧ x.desc = cmd.desc) ∧
         ∃ st, u.stopped = s.stopped ++ [st] ∧ st.lift = liftOf k cmd.desc ∧ st.work = .command k n ∧ st.ctx = t.ctx ∧
           st.va = BitVec.ofNat 64 va ∧ st.cause = cause ∧ st.level = level ∧ st.seq = cmd.seq ∧ st.destination = dest ∧
           st.offset = o ∧ st.gate = s.gate ∧ st.got = got ∧ (dest = false → stopped st r u))) ∧
     (∀ (l : LiftId) (f : Stopped), s.lodge.inReset = false → s.stopped.find? (fun x => x.lift == l.val) = some f →
       let goes := fun (x : Stopped) => x.ctx == f.ctx && x.lift == l.val
       Gives (.liftResume l) s (fun u => u.stopped = s.stopped.filter (fun x => !goes x) ∧
         u = { s with cores := u.cores, stopped := u.stopped, lodge := { s.lodge with events := u.lodge.events } } ∧
         (∀ j, u.core j = { s.core j with queues := (u.core j).queues, seats := (u.core j).seats }) ∧
         (∀ x ∈ s.stopped, goes x = true → ∀ j m c, x.work = .command j m → c ∈ (s.core j).queue 2 → c.seq = x.seq →
           c.phase = .stopped → ∃ y ∈ (u.core j).queue 2, y.seq = x.seq ∧ y.desc = c.desc ∧ y.phase = .begun) ∧
         (s.stopped.filter goes = [f] →
           (∀ j m, f.work = .command j m → (u.core j).queue 2 = ((s.core j).queue 2).map (fun c =>
             if c.seq = f.seq ∧ c.phase = .stopped then
               { c with phase := .begun, got := f.got, resumeAt := if f.destination then f.offset else c.resumeAt }
             else c)) ∧
           (∀ j m, f.work = .fill j m → ∀ (i hn : Nat) (y : Seat) (h : Held), (s.core j).seats[i]? = some y → y.ctx = f.ctx →
             f.stage = some (y.model, y.stage) → y.held[hn]? = some h →
             ∃ y' h', (u.core j).seats[i]? = some y' ∧ y'.held[hn]? = some h' ∧ h'.index = h.index ∧
               (h.filled.contains m.val = false → f.index = some (h.counter, h.index) → h'.before m = f.got) ∧
               (f.index ≠ some (h.counter, h.index) → h' = h))))))

/-- R119, R147, R153, R154, R185, R188, R331: a row write that reaches its store changes its bytes and no others; a late one
changes nothing; one in an accumulate window of its stage adds FP32 elements. Writes to one row, and those of one source that take
one way over the Piste, arrive in their order; a control core's store is performed in the order of R119 and R121.
R119, R121: an access that may be performed has no earlier access to its row still to come, and no earlier access that a
FENCE between the two orders before it. -/
def Obligations.RowWritesArrive : Prop :=
  (∀ (s : State),
     (∀ (n : Nat) (w : RowWrite) (st r : Nat), s.writes[n]? = some w → storeOf w.row = some (st, r) →
       ((∀ x ∈ s.writes.take n, x.row ≠ w.row ∧ s.sameRoute x w = false) → Gives (.rowWriteArrival (.engine n)) s (fun u =>
         Landed w st r s u ∧ u.writes = removeNth n s.writes ∧ ∀ k, (u.core k).accesses = (s.core k).accesses)) ∧
       ((∃ x ∈ s.writes.take n, x.row = w.row ∨ s.sameRoute x w = true) → Gives (.rowWriteArrival (.engine n)) s (fun u => u = s))) ∧
     (∀ (k : CoreId) (m : Nat) (x : Access) (data : List Byte) (st r : Nat), (s.core k).ready? m = some x →
       x.kind = .store data → storeOf x.row = some (st, r) → Gives (.rowWriteArrival (.control k m)) s (fun u =>
         Landed ⟨x.row, false, 0, data, some x.tag, none, true⟩ st r s u ∧ u.writes = s.writes ∧
         (u.core k).accesses = dropFences (removeNth m (s.core k).accesses) ∧
         ∀ j, j ≠ k → (u.core j).accesses = (s.core j).accesses))) ∧
  (∀ (c : Core) (n m f : Nat) (x y : Access),
     c.ready? n = some x → m < n → c.accesses[m]? = some y → (∀ k, y.kind ≠ .fence k) →
     y.row / 512 ≠ x.row / 512 ∧
     (m < f → f < n → ∀ z mask, c.accesses[f]? = some z → z.kind = .fence mask →
       (mask.getLsbD 0 = true → ¬ (y.kind.isLoad = true ∧ x.kind.isLoad = true)) ∧
       (mask.getLsbD 1 = true → ¬ (y.kind.isLoad = true ∧ x.kind.isStore = true)) ∧
       (mask.getLsbD 2 = true → ¬ (y.kind.isStore = true ∧ x.kind.isLoad = true)) ∧
       (mask.getLsbD 3 = true → ¬ (y.kind.isStore = true ∧ x.kind.isStore = true))))

/-- R115, R117, R141: the step monitor halts a core that nothing can advance with 0x08; once the accesses of a halted core are
performed the Lodge copies the halt into an error record, ends the job of the tile and leaves the core free. -/
def Obligations.HungAndHaltedCores : Prop :=
  ∀ (s : State) (k : CoreId),
    ((s.core k).phase.active = true → coreMoves s k = false →
      Gives (.hungCoreHalt k) s (Halted k 5 0x08 0 (s.core k).pc.toNat 0 s)) ∧
    (coreMoves s k = true → Gives (.hungCoreHalt k) s (fun u => u = s)) ∧
    (s.lodge.inReset = false → (s.core k).phase = .halted → (s.core k).accesses ≠ [] →
      Gives (.haltRecord k) s (fun u => u = s)) ∧
    (s.lodge.inReset = false → (s.core k).phase = .halted → (s.core k).accesses = [] → ∀ t, (s.core k).tile = some t →
      Gives (.haltRecord k) s (fun u => (u.core k).phase = .recorded ∧ (u.core k).tile = none ∧ u.mem = s.mem ∧
        (u.core k).g = (s.core k).g ∧ (u.core k).pc = (s.core k).pc ∧
        (∃ r ∈ u.reports, r.cls = 1 ∧ r.unit = 0x100 + k ∧ r.cause = s.fld (Reg.ccHaltStatus k) 7 0 ∧
          r.gate = (s.core k).haltGate ∧ r.addr = s.reg (Reg.ccHaltAddr k)) ∧
        (∀ j ∈ u.jobs, j.uid = t.job → j.state = .ended)))

/-- R179, R184, R186, R187, R209: the Lodge takes a core from a stage: its claims wait nowhere any more, the indices it holds
there go back to their counters and its epoch on the core rises, so that writes it still makes there are late; fills stopped for an
index that is held no more are gone. At the largest epoch the whole stage gives back what has not launched and halts, to be loaded
again with its epochs at 0 (log 126, the model's choice). Pre-emption takes an idle core, abandonment stops a migratable
stage's tile that has waited on a fault for too long, starvation gives back a stage's unlaunched indices that another tile has kept
off the core for longer than ABANDON. -/
def Obligations.StagesGiveCoresBack : Prop :=
  ∀ (s : State) (k : CoreId) (x : Seat) (n : Nat) (t : Tile),
    s.lodge.inReset = false → (s.core k).seats[n]? = some x →
    let ours := fun (y : Seat) => y.ctx = x.ctx ∧ y.model = x.model ∧ y.stage = x.stage
    let gone := fun (u : State) => u.mem = s.mem ∧
      (∃ y, (u.core k).seats[n]? = some y ∧ y.held = [] ∧ ours y ∧
        y.epoch = if x.epoch = BitVec.allOnes 32 then x.epoch else x.epoch + 1) ∧
      (x.epoch ≠ BitVec.allOnes 32 → ∀ (st : StoreId), ∀ e ∈ u.epochTable[st], e.ctx = x.ctx → e.model = x.model →
        e.stage = x.stage → e.floors[k] = x.epoch + 1) ∧
      (x.epoch = BitVec.allOnes 32 → u.epochTable = s.epochTable ∧ (∀ i, ∀ y ∈ (u.core i).seats, ours y → y.restart = true) ∧
        (∀ i, i ≠ k → ∀ y ∈ (s.core i).seats, ours y → ∀ h ∈ y.held, (s.core i).runsIndex y h = false → ∀ c,
          u.counters[(Fin.ofNat 64 h.counter : CounterId)] = some c → h.index ∈ c.returns)) ∧
      (∀ h ∈ x.held, ∀ c, u.counters[(Fin.ofNat 64 h.counter : CounterId)] = some c → h.index ∈ c.returns) ∧
      (∀ y ∈ u.stopped, y.wanted u = true) ∧
      ∀ (p : CounterId) (c : Counter) (j : Job), u.counters[p] = some c → u.job? c.job = some j → j.ctx = x.ctx → j.running = x.model →
        Claimer.launcher k x.stage ∉ c.waiting
    ((s.core k).phase = .idle → lastSeat (s.core k) = some (x, n) → x.held ≠ [] →
      Gives (.preemption k) s (fun u => gone u ∧ (u.core k).phase = .idle ∧ u.writes = s.writes)) ∧
    ((s.core k).phase.active = true → (s.core k).tile = some t → s.overdue k t = true → s.migratable t = true →
      (s.core k).seatIdx t.ctx t.model t.stage = some n →
      Gives (.abandonment k) s (fun u => gone u ∧ (u.core k).phase = .idle ∧ (u.core k).tile = none ∧
        (∀ q, (u.core k).queue q = []) ∧ (∀ w ∈ u.writes, w.ownedBy k = false) ∧ u.jobs = s.jobs ∧ u.reports = s.reports)) ∧
    ((s.core k).tile = some t → s.migratable t = false → Gives (.abandonment k) s (fun u => u = s)) ∧
    (∀ (ctx : CtxId) (m : ModelNo) (st : StageNo), (s.core k).tile = some t → (s.core k).seatIdx ctx m st = some n →
      ¬ (t.ctx = ctx ∧ t.model = m ∧ t.stage = st) → x.held ≠ [] → x.starved s.gate = true →
      Gives (.stageStarvationReturn k ctx m st) s (fun u => gone u ∧ (u.core k).phase = (s.core k).phase ∧
        (u.core k).tile = some t ∧ u.writes = s.writes))

/-! ## Jobs, residence, faults of contexts (R38, R171, R177, R178, R200–R202, R205–R217, R233, R236, R239, R320, R350) -/

/-- R177, R178, R209, R211, R214, R323–R325: a queued job that nothing holds back launches: its model's counters are bound at their
first index, those of a cascade with their members and the updates held for the job; its copy of ARGS is taken, a relative deadline
counts from now, a start gate of its model fires; memory changes in the rows of the model only. A cascade job whose members do not
name this device, or are not all enumerated, is aborted at its launch, which every other member hears of. An armed start gate of the
model whose gate count has not come holds the job back (R320).
R232, R320: a job whose model has an armed start gate with a gate count still to come does not launch, nor does one that is
not the next of its model; no tile, counter or memory changes.
R177, R236, R239: a job that is over leaves the machine: its counters are free, its context has completed one job more,
and its record is 64 bytes, which give its label, its status, its flags, its launch and completion and its counts. A record that
meets a frozen controller waits for it (R376), one without a translation is counted (R235). -/
def Obligations.JobsLaunchAndComplete : Prop :=
  (∀ (s : State) (ctx : CtxId) (n : W32) (j : Job) (m : Model) (im : Image) (ps : List Place) (args : List Byte),
     s.lodge.inReset = false → s.findJob ctx n = some j → j.state = .queued → s.ctxRuns ctx = true → s.isNext j = true →
     s.gateHolds j = false → s.model? ctx j.model = some m → m.residence = .resident ps → m.image = some im →
     s.frozenIn ctx j.args.toNat im.argBytes = none → s.readVa ctx j.args.toNat im.argBytes = .ok args →
     im.counters.length ≤ s.freePlaces.length →
     let ours := fun (x : Completion) => x.ctx == j.ctx && x.model == j.model && x.job == j.nModel
     let went := fun (u : State) =>
       (∀ p : CounterId, s.counters[p] ≠ none → u.counters[p] = s.counters[p]) ∧
       (∀ g ∈ s.slotsFor j, (u.gates[g]).armed = false ∧ u.flag (Reg.gtbSgCtrl g) 4 = true) ∧
       (∀ g : GateSlot, g ∉ s.slotsFor j → u.gates[g] = s.gates[g]) ∧
       (∀ a, (∀ p ∈ ps, ∀ r ∈ p.runs, a < rowAddr r.1 r.2.2.1 ∨ rowAddr r.1 (r.2.2.1 + r.2.2.2) ≤ a) →
         u.byteAt a = s.byteAt a) ∧ u.hostMem = s.hostMem ∧ u.models = s.models ∧
       u.rink.heldUpdates = s.rink.heldUpdates.filter (fun x => !ours x)
     ((im.cascade ≠ [] → s.cascadeFault im = none) → Gives (.jobLaunch ctx n) s (fun u => went u ∧ u.links = s.links ∧
       ∃ j' ∈ u.jobs, j'.uid = j.uid ∧ j'.state = .running ∧ j'.launch = s.gate ∧ j'.argData = args ∧
         j'.deadline = (if j.deadline = 0 ∨ j.absolute = true then j.deadline else s.gate + j.deadline) ∧
         (∀ i c, im.counters[i]? = some c → ∃ (p : CounterId) (x : Counter), j'.bound? i = some p ∧ s.counters[p] = none ∧ u.counters[p] = some x ∧
           x.job = j.uid ∧ x.number = i ∧ x.limit = (if c.1 = 0 then j.limit else c.1) ∧ x.next = 0 ∧ x.doneLow = 0 ∧
           x.segs = c.2 ∧ x.returns = [] ∧ x.outstanding = [] ∧ (∀ e, im.cascade.find? (fun e => e.counter == i) = some e →
             x.members = e.members) ∧
           x.remote = (s.rink.heldUpdates.filter (fun y => ours y && y.counter.val == i)).map (fun y => (y.member, y.index.toNat))))) ∧
     (∀ cause, im.cascade ≠ [] → s.cascadeFault im = some cause → Gives (.jobLaunch ctx n) s (fun u => went u ∧ Aborted j.uid u ∧
       (∀ y ∈ u.jobs, y.uid = j.uid → y.status = 2) ∧
       (u.reg Reg.rnkCascadeAbortCount).toNat = satAdd 32 (s.reg Reg.rnkCascadeAbortCount).toNat 1 ∧
       ∀ d ∈ s.membersOf j, d ≠ s.devId → GoesTo s u (BitVec.ofNat 12 d) (.abort j.ctx j.model j.nModel cause false)))) ∧
  (∀ (s : State) (ctx : CtxId) (n : W32) (j : Job) (m : Model) (ps : List Place),
     s.findJob ctx n = some j → j.state = .queued → s.model? ctx j.model = some m → m.residence = .resident ps →
     (s.gateHolds j = true ∨ s.isNext j = false ∨ s.ctxRuns ctx = false) → Gives (.jobLaunch ctx n) s (fun u => u = s)) ∧
  ((∀ (s : State) (ctx : CtxId) (n : W32) (j : Job) (x : Context) (st : Nat),
     s.lodge.inReset = false → s.findJob ctx n = some j → s.jobOver j = some st → s.ctx? ctx = some x →
     Gives (.jobComplete ctx n) s (fun u =>
       (∀ y ∈ u.jobs, y.uid ≠ j.uid) ∧ (∀ y ∈ s.jobs, y.uid ≠ j.uid → y ∈ u.jobs) ∧
       (∀ (p : CounterId) (c : Counter), u.counters[p] = some c → c.job ≠ j.uid) ∧
       (∃ y, u.ctx? ctx = some y ∧ y.jobsDone = x.jobsDone + 1) ∧
       (s.recordWaits ctx (s.recordAddr j) = true → s.lastWrite j st ∈ u.heldWrites) ∧
       (∀ e, s.recordWaits ctx (s.recordAddr j) = false → s.writeVa ctx (s.recordAddr j) (s.jobRecord j st) = .error e →
         (u.reg Reg.hifRecordDropCount).toNat = satAdd 32 (s.reg Reg.hifRecordDropCount).toNat 1))) ∧
   (∀ (s : State) (j : Job) (st : Nat), st < 256 →
     let r := s.jobRecord j st
     r.length = 64 ∧ leAt r 0 8 = j.label.toNat ∧ leAt r 8 1 = st ∧ leAt r 9 1 = s.recordFlags j ∧
     leAt r 16 8 = (s.launchStamp j).toNat ∧ leAt r 24 8 = s.gate.toNat ∧ leAt r 32 8 = j.conv % 2 ^ 64 ∧
     leAt r 40 8 = j.clip % 2 ^ 64 ∧ leAt r 48 8 = j.nan % 2 ^ 64 ∧
     leAt r 10 1 = j.haltReason % 256 ∧ leAt r 11 1 = j.haltSource % 8 * 16 + j.haltCore % 8 ∧ leAt r 12 4 = j.haltPc % 2 ^ 32 ∧
     (j.switched = none → leAt r 58 1 = 0xFF ∧ leAt r 60 4 = 0) ∧
     (∀ g, j.switched = some g → leAt r 58 1 = g.1 % 256 ∧ leAt r 60 4 = g.2 % 2 ^ 32) ∧
     leAt r 56 2 = (if j.conv = 0 then 0 else min (j.clip * 65536 / j.conv) 65535)))

/-- R156, R184, R203, R205, R208, R350: a model whose sections have all been read, the Lift of every cluster it goes to having taken
the load in its turn, is resident in the places it was given; the load is counted and logged. A load that finds no translation ends
the jobs that wait for it (R233). A stage of a resident model that restarts and of which nothing is on its way is loaded again, with
its epochs and floors at 0. That a load passes a Lift as one command is log 81, how a stage restarts log 126: the model's choices.
R213–R216: at a gate that is complete a job with a deadline that will be missed, and whose fall-back ends earlier, begins
to switch: no launcher's claim of it waits any more, and fills that had stopped are gone; else it only has seen the gate. When its tiles have ended the fall-back takes over from its entry stage, holding no
index of the primary. -/
def Obligations.ResidenceAndSlalom : Prop :=
  (∀ (s : State) (ctx : CtxId) (mo : ModelNo) (m : Model) (im : Image) (ps : List Place),
     let v := (List.finRange 4).foldl State.lodgeTakes s
     s.lodge.inReset = false → s.model? ctx mo = some m → s.wanted m = false → m.image = some im →
     (∀ i, i < cdiv m.length 64 → s.frozenFor ctx (m.va.toNat + 64 * i) = false) →
     (∀ (began : W64) (taken : List ClusterId), m.residence = .loading ps began taken →
       (∀ c : ClusterId, loadsVia ps c = true → c ∈ taken) →
       (s.allSections m im = none → Gives (.modelLoadComplete ctx mo) s (fun u =>
         ∀ j ∈ u.jobs, ¬ (j.ctx = ctx ∧ j.model = mo ∧ j.state = .queued))) ∧
       (∀ secs, s.allSections m im = some secs → Gives (.modelLoadComplete ctx mo) s (fun u =>
         (∃ y, u.model? ctx mo = some y ∧ y = { m with residence := .resident ps }) ∧
         (u.reg Reg.ldgResLoadCount).toNat = satAdd 32 (s.reg Reg.ldgResLoadCount).toNat 1 ∧
         u.lodge.log = s.lodge.log ++ [⟨s.gate, 3, 0, 1, [BitVec.ofNat 64 ctx.val, BitVec.ofNat 64 mo.val, began]⟩] ∧
         u.jobs = s.jobs ∧ u.counters = s.counters ∧ u.contexts = s.contexts ∧ u.hostMem = s.hostMem ∧
         (∀ k, ((u.core k).g, (u.core k).phase, (u.core k).queues) = ((s.core k).g, (s.core k).phase, (s.core k).queues))))) ∧
     (∀ (began : W64) (taken : List ClusterId) (c : ClusterId), v.model? ctx mo = some { m with residence := .loading ps began taken } →
       loadsVia ps c = true → c ∉ taken → Gives (.modelLoadComplete ctx mo) s (fun u => u = v)) ∧
     (m.residence = .resident ps → ∀ secs, v.allSections m im = some secs → Gives (.modelLoadComplete ctx mo) s (fun u =>
       (v.restarting m = [] → u = v) ∧
       ∀ x ∈ v.restarting m, (∀ k, ∀ y ∈ (u.core k).seats, x.sameStage y = true → y.epoch = 0 ∧ y.restart = false) ∧
         ∀ (st : StoreId), ∀ e ∈ u.epochTable[st], e.ctx = x.ctx → e.model = x.model → e.stage = x.stage →
           ∀ i : CoreId, e.floors[i] = 0))) ∧
  ((∀ (s : State) (ctx : CtxId) (n : W32) (j : Job) (im : Image) (g : SlalomGate) (i : Nat),
     s.lodge.inReset = false → s.findJob ctx n = some j → j.state = .running → j.deadline ≠ 0 → j.switched = none → s.ctxEnds ctx = false →
     s.imageOf j = some im → firstGate (s.readyGates j im) = some (g, i) →
     (s.switchesAt j im g = false → Gives (.slalomGateEvaluate ctx n) s (fun u => u = { s with jobs := u.jobs } ∧
       ∃ y ∈ u.jobs, y = { j with gatesSeen := j.gatesSeen ++ [i] })) ∧
     (s.switchesAt j im g = true → Gives (.slalomGateEvaluate ctx n) s (fun u =>
       (∃ y ∈ u.jobs, y.uid = j.uid ∧ y.state = .switching ∧ y.switched = some (g.counter, g.index) ∧
         y.entryStage = if g.entry = 0xFF then 0 else g.entry) ∧
       (u.reg Reg.ldgSlalomSwitchCount).toNat = satAdd 32 (s.reg Reg.ldgSlalomSwitchCount).toNat 1 ∧
       u.cores = s.cores ∧ u.mem = s.mem ∧ (∀ y ∈ u.stopped, y.wanted u = true) ∧
       (∀ (p : CounterId) (c : Counter), u.counters[p] = some c → c.job = j.uid → ∀ w ∈ c.waiting, ∃ k, w = .control k) ∧
       ∀ p : CounterId, (∀ c : Counter, s.counters[p] = some c → c.job ≠ j.uid) → u.counters[p] = s.counters[p]))) ∧
   (∀ now launch total remain frem load margin deadline : Nat,
     let per := (now - launch) * (256 + margin)
     let needs := fun r => cdiv (r * per) ((total - remain) * 256)
     (switches now launch total remain frem load margin deadline = true ↔
       deadline < now + needs remain ∧ now + load + needs frem < now + needs remain)) ∧
   (∀ (s : State) (ctx : CtxId) (n : W32) (j : Job) (f : Model) (ps : List Place) (im : Image),
     s.lodge.inReset = false → s.findJob ctx n = some j → j.state = .switching → s.ctxRuns ctx = true →
     (∀ k, s.runsTile j.uid k = false) → s.model? ctx (Fin.ofNat 16 j.fallback) = some f → f.residence = .resident ps →
     f.image = some im → im.counters.length ≤ (s.freeCounters j.uid).freePlaces.length →
     Gives (.fallbackLaunch ctx n) s (fun u =>
       (∃ y ∈ u.jobs, y = { j with state := .running, runsFallback := true, bindings := y.bindings }) ∧
       (∀ k, ∀ x ∈ (u.core k).seats, ∀ h ∈ x.held, h.job ≠ j.uid) ∧ u.mem = s.mem ∧ u.hostMem = s.hostMem)))

/-- R171, R200–R202: the fault slot shows the context's earliest unresolved fault, or the last one refused at once;
when FAULT_WAIT has passed since the earliest every fault of the context
is refused: recorded, and a core stopped on it halts with reason 0x07 and the faulting address. That the slot shows a fault refused at
once is log 113, the model's choice. -/
def Obligations.FaultsAreReportedOrRefused : Prop :=
  ∀ (s : State) (ctx : CtxId), s.lodge.inReset = false →
    (∀ x f, s.ctx? ctx = some x → s.slotFault x = some f → s.masters = true →
      Gives (.faultSlotWrite ctx) s (fun u =>
        let b := u.hostRd x.status.toNat 32
        leAt b 0 8 = f.va.toNat ∧ leAt b 8 2 = x.id.val ∧ leAt b 10 1 = f.cause % 256 ∧ leAt b 11 1 = f.level % 256 ∧
        leAt b 12 1 = f.lift % 256 ∧
        leAt b 13 1 = ((s.stopped.filter (fun y => y.ctx == ctx)).map (·.lift)).dedup.length % 256 ∧ leAt b 14 2 = 0 ∧ leAt b 16 8 = f.gate.toNat ∧ leAt b 24 8 = x.faultSeq.toNat ∧
        u.mem = s.mem ∧ u.stopped = s.stopped ∧ u.cores = s.cores ∧
        ∀ a, a < x.status.toNat ∨ x.status.toNat + 32 ≤ a → u.hostByteAt a = s.hostByteAt a)) ∧
    (∀ x, s.ctx? ctx = some x → (∀ f, s.firstFault ctx = some f → s.slotFault x = some f) ∧
      (s.firstFault ctx = none → s.slotFault x = if x.slotSeq = x.faultSeq then none else x.lastFault)) ∧
    (∀ f, s.firstFault ctx = some f → s.waitedOut f = false → Gives (.faultWaitTimeout ctx) s (fun u => u = s)) ∧
    (∀ f, s.firstFault ctx = some f → s.waitedOut f = true → Gives (.faultWaitTimeout ctx) s (fun u =>
      (∀ x ∈ u.stopped, x.ctx ≠ ctx ∧ x ∈ s.stopped) ∧
      (∀ x ∈ s.stopped, x.ctx = ctx → ∃ r ∈ u.reports, r.cls = 2 ∧ r.cause = x.cause ∧ r.addr = x.va ∧
        r.ctx = x.ctx.val ∧ r.gate = x.gate) ∧
      (∀ (k : CoreId) (x : Stopped) (n : Nat) (c : Cmd), s.stopped.filter (fun x => x.ctx == ctx) = [x] →
        x.work = .command k n → ((s.core k).queue 2).find? (fun c => c.seq == x.seq) = some c →
        (s.core k).phase.active = true → c.pos < 256 → Halted k 3 0x07 c.pos c.pc.toNat x.va.toNat s u)))

/-! ## The command ring (R193, R194, R199, R202, R207, R210, R226–R235, R240, R270) -/

/-- R228, R229, R238: an answer moves HEAD to the next entry, puts RESULT, DETAIL and VALUE into the entry's last 8 bytes where
the status block does not lie over them, and writes the status block with the next sequence number at both its ends.
R227, R229, R230: the checks of a ring entry in their order: with the interface refused only NOP and BARRIER pass (0x0A),
then reserved fields and ranges by their lowest offset (0x02), then the context (0x03, 0x04, 0x0B), then the fence (0x05); an
opcode of no command is 0x01. With nothing to consume nothing happens. -/
def Obligations.RingChecksAndAnswers : Prop :=
  (∀ (s : State) (result detail : Nat) (value : W32), s.masters = true →
     let u := s.respond result detail value
     let a := (s.reg Reg.hifRingBase).toNat + 64 * s.fld Reg.hifRingHead 15 0 + 56
     let b := (s.reg Reg.hifStatusAddr).toNat
     Consumed s u ∧ u = { s with regs := u.regs, hostMem := u.hostMem, host := u.host } ∧ SameRegs [Reg.hifRingHead] s u ∧
     (a + 8 ≤ b ∨ b + 64 ≤ a → leAt (u.hostRd a 8) 0 1 = result % 256 ∧ leAt (u.hostRd a 8) 1 1 = detail % 256 ∧
       leAt (u.hostRd a 8) 4 4 = value.toNat) ∧
     (let h := u.hostRd b 64
      leAt h 0 8 = (s.host.statusSeq + 1).toNat ∧ leAt h 56 8 = (s.host.statusSeq + 1).toNat ∧
      leAt h 8 2 = u.fld Reg.hifRingHead 15 0 ∧ leAt h 10 1 = s.hifState ∧ leAt h 16 8 = s.host.heartbeat.toNat ∧
      leAt h 24 8 = s.gate.toNat ∧ leAt h 32 8 = (s.reg Reg.errWptr).toNat)) ∧
  (∀ (s : State) (e : RingEntry) (opcode arg : Nat) (scope : RingScope) (bad : List Nat) (body : State → Nat → RingAnswer),
     let go := consume opcode e scope bad arg body s
     (s.ringReady = false → go = s) ∧
     (s.ringReady = true → s.hifState = 3 → opcode ≠ 1 → opcode ≠ 2 → RefusedWith 0x0A 0 s go) ∧
     (s.ringReady = true → (s.hifState = 4 ∨ opcode = 1 ∨ opcode = 2) →
       (∀ o ∈ headerBad e scope ++ bad, (∀ i ∈ headerBad e scope ++ bad, o ≤ i) → RefusedWith 0x02 o s go) ∧
       (headerBad e scope ++ bad = [] →
         (∀ r, s.contextRefusal (RingEntry.ctx e) scope = some r → RefusedWith r 0 s go) ∧
         (s.contextRefusal (RingEntry.ctx e) scope = none → RingEntry.fen e = true →
           s.fenceUsable e scope (opcode == 0x12) = false → RefusedWith 0x05 0 s go))) ∧
     (∀ op : Byte, s.ringReady = true → op.toNat ∉ [1, 2, 3, 4, 0x10, 0x11, 0x12, 0x13, 0x14, 0x20, 0x21, 0x22, 0x30, 0x31, 0x32] →
       Gives (.unknownRingOpcode op e) s (RefusedWith 0x01 0 s)))

/-- R231, R232, R234, R235: NOP changes nothing, BARRIER is outstanding while earlier commands are, a registered fence has its
owner, address and first value, a released one exists no longer, none of its raises is left, and no binding raises it any more. A
SPACE above 1 is checked in device scope: log 129, the model's choice.
R194, R199, R202, R231, R239, R240: a context is created with its attributes; CTX_SET writes the attributes that its mask
names and is outstanding while tiles of the context run; CTX_DESTROY withdraws what is queued and the context's
bindings, tells the other members of every cascade job among them, and stays outstanding;
CTX_INVALIDATE stays outstanding; CTX_FAULT resumes or refuses everything that is stopped. -/
def Obligations.DeviceAndContextCommands : Prop :=
  (∀ (s : State) (e : RingEntry),
     let u := RingEntry.at e
     (Admitted 1 e .device (payloadBad e []) s → Gives (.ringNop e) s (fun t => Accepted 1 0 none true s t ∧ RingFrame s t)) ∧
     (Admitted 2 e .device (payloadBad e []) s →
       Gives (.barrier e) s (fun t => Accepted 2 0 none s.ringWork.isEmpty s t ∧ RingFrame s t)) ∧
     (let scope := if u 24 1 = 0 then RingScope.context else .device
      Admitted 3 e scope (payloadBad e [(16, 8), (24, 3), (32, 8)] ++ tooBig e 24 1 1 ++ tooBig e 25 2 4095) s →
      s.fence? (u 25 2) = none → u 16 8 % 8 = 0 →
      Gives (.fenceRegister e) s (fun t => RingFrame s t ∧
        Accepted 3 (u 25 2) (if u 24 1 = 0 then some (RingEntry.ctx e) else none) true s t ∧
        t.fence? (u 25 2) = some ⟨u 25 2, if u 24 1 = 0 then some (RingEntry.ctx e) else none, BitVec.ofNat 64 (u 16 8),
          BitVec.ofNat 64 (u 32 8)⟩)) ∧
     (let scope := if RingEntry.ctx e = 0 then RingScope.device else .context
      let owner := if RingEntry.ctx e = 0 then none else some (RingEntry.ctx e)
      Admitted 4 e scope (payloadBad e [(25, 2)] ++ tooBig e 25 2 4095) s →
      ∀ f, s.fence? (u 25 2) = some f → f.owner = owner →
      Gives (.fenceRelease e) s (fun t => RingFrame { s with standing := t.standing, withdrawn := t.withdrawn } t ∧
        (∀ d b, t.bound d = some b → b.fence ≠ some (u 25 2) ∧ ∃ b0, s.bound d = some b0 ∧ b = { b0 with fence := b.fence }) ∧
        (∀ h ∈ t.heldWrites, h.fence ≠ some (u 25 2)) ∧ Accepted 4 (u 25 2) owner true s t ∧ t.fence? (u 25 2) = none ∧
        ((RingEntry.fen e = true → RingEntry.fence e ≠ u 25 2) → ∀ r ∈ t.raises, r.fence ≠ u 25 2)))) ∧
  (∀ (s : State) (e : RingEntry),
     let u := RingEntry.at e
     let c := RingEntry.ctx e
     (Admitted 0x10 e .create (payloadBad e [(16, 24)] ++ attrBad e 0x1F) s → u 24 8 % 128 = 0 → s.goodTable (u 16 8) 512 = true →
       Gives (.ctxCreate e) s (fun t => Accepted 0x10 0 (some c) true s t ∧
         t.ctx? c = some ⟨c, BitVec.ofNat 64 (u 16 8), BitVec.ofNat 64 (u 24 8), BitVec.ofNat 8 (u 32 1), u 33 1 == 1, u 34 2,
           u 36 4, s.standsBy c, false, 0, 1, 0, none, 0⟩ ∧
         (∀ d, d ≠ c → t.ctx? d = s.ctx? d) ∧ t.models = s.models ∧ t.jobs = s.jobs ∧ t.cores = s.cores)) ∧
     (let m := u 40 1
      Admitted 0x11 e .context (payloadBad e [(24, 17)] ++ attrBad e m ++ tooBig e 40 1 63 ++
        (if m.testBit 5 && !m.testBit 0 then [40] else [])) s →
      (m.testBit 0 = true → u 24 8 % 128 = 0) → ∀ x, s.ctx? c = some x →
      Gives (.ctxSet e) s (fun t => Accepted 0x11 0 (some c) (s.tilesOf c).isEmpty s t ∧
        t.ctx? c = some { x with
          status := if m.testBit 0 then BitVec.ofNat 64 (u 24 8) else x.status
          priority := if m.testBit 1 then BitVec.ofNat 8 (u 32 1) else x.priority
          autonomous := if m.testBit 2 then u 33 1 == 1 else x.autonomous
          faultWait := if m.testBit 3 then u 34 2 else x.faultWait
          abandon := if m.testBit 4 then u 36 4 else x.abandon
          parked := x.parked && !m.testBit 5 } ∧
        (∀ d, d ≠ c → t.ctx? d = s.ctx? d) ∧ t.models = s.models ∧ t.jobs = s.jobs ∧ t.cores = s.cores)) ∧
     (Admitted 0x12 e .context (payloadBad e []) s → ∀ x, s.ctx? c = some x →
       Gives (.ctxDestroy e) s (fun t => Accepted 0x12 0 (some c) false s t ∧
         t.ctx? c = some { x with destroying := true } ∧ t.jobs.length = s.jobs.length ∧
         (∀ j ∈ t.jobs, j.ctx = c → j.state ≠ .queued ∧ j.state ≠ .switching) ∧
         (∀ j ∈ s.jobs, ¬ (j.ctx = c ∧ (j.state = .queued ∨ j.state = .switching)) → j ∈ t.jobs) ∧
         (∀ d, t.bound d = if (s.bound d).any (fun b => decide (b.ctx = c)) = true then none else s.bound d) ∧
         (∀ d b, s.bound d = some b → b.ctx = c → (d, b) ∈ t.withdrawn) ∧ t.models = s.models ∧
         (∀ k, (∀ j ∈ s.jobs, s.membersOf j ≠ [] → s.runsTile j.uid k = false) → t.core k = s.core k) ∧
         ∀ j ∈ s.jobs, j.ctx = c → (j.state = .queued ∨ j.state = .switching) → s.job? j.uid = some j →
           ∀ d ∈ s.membersOf j, d ≠ s.devId → GoesTo s t (BitVec.ofNat 12 d) (.abort j.ctx j.model j.nModel .memberJobEnded false))) ∧
     (Admitted 0x13 e .context (payloadBad e []) s →
       Gives (.ctxInvalidate e) s (fun t => Accepted 0x13 0 (some c) false s t ∧ RingFrame s t)) ∧
     (Admitted 0x14 e .context (payloadBad e [(16, 1)] ++ tooBig e 16 1 1) s →
       (u 16 1 = 0 → Gives (.ctxFault e) s (fun t => Accepted 0x14 0 (some c) true s t ∧
         t.stopped = s.stopped.filter (fun x => x.ctx != c) ∧
         ∀ k, (t.core k).phase = (s.core k).phase ∧ ∀ x ∈ s.stopped, x.ctx = c → ∀ n, x.work = .command k n →
           ∀ y ∈ (t.core k).queue 2, y.seq = x.seq → y.phase ≠ .stopped)) ∧
       (u 16 1 = 1 → Gives (.ctxFault e) s (fun t => Accepted 0x14 0 (some c) true s t ∧
         (∀ x ∈ t.stopped, x.ctx ≠ c ∧ x ∈ s.stopped) ∧
         ∀ x ∈ s.stopped, x.ctx = c → ∃ r ∈ t.reports, r.cls = 2 ∧ r.cause = x.cause ∧ r.addr = x.va))))

/-- R207, R210, R231–R233: a model number is occupied in verification, freed on request once nothing uses it, and keeps the
hint it is given; DROP makes an idle model non-resident. That a model on its way out loses its hint is log 130, the model's choice.
R16, R190, R211, R214, R232, R270: an accepted job joins the queue under its context's next number with the fields of its
entry, or, a cascade job of which an abort has come already, as ended with STATUS 2 (R325); a destination is bound with its first frame still to come, and unbound at once where every frame is over. -/
def Obligations.ModelAndJobCommands : Prop :=
  (∀ (s : State) (e : RingEntry),
     let u := RingEntry.at e
     let c := RingEntry.ctx e
     let m := RingEntry.model e
     (Admitted 0x20 e .context (payloadBad e [(16, 1), (24, 16)] ++ tooBig e 16 1 15) s → s.model? c m = none →
       u 24 8 % 64 = 0 → Gives (.modelRegister e) s (fun t => Accepted 0x20 (u 16 1) (some c) false s t ∧
         t.model? c m = some ⟨c, m, BitVec.ofNat 64 (u 24 8), u 32 8, 1, none, 0, .parked, 0, 0, 0, none, false⟩ ∧
         (∀ d n, (d, n) ≠ (c, m) → t.model? d n = s.model? d n) ∧ t.jobs = s.jobs ∧ t.contexts = s.contexts)) ∧
     (Admitted 0x21 e .context (payloadBad e [(16, 1)] ++ tooBig e 16 1 15) s → ∀ x, s.model? c m = some x →
       x.unregistering = none → Gives (.modelUnregister e) s (fun t => Accepted 0x21 (u 16 1) (some c) false s t ∧
         t.model? c m = some { x with unregistering := some s.ringIds, hint := 0 } ∧ t.jobs = s.jobs)) ∧
     (Admitted 0x22 e .context (payloadBad e [(16, 2)] ++ tooBig e 16 1 15 ++ tooBig e 17 1 4) s → ∀ x, s.model? c m = some x →
       x.unregistering = none → x.state = 2 → (u 17 1 = 1 → s.canPin x = true) →
       Gives (.modelHint e) s (fun t => Accepted 0x22 (u 16 1) (some c) true s t ∧
         (∃ y, t.model? c m = some y ∧ y.hint = u 17 1 ∧ y.image = x.image ∧ y.state = 2 ∧
           (u 17 1 = 4 → x.isResident = true → s.jobsOf c m = [] → s.busy x = false →
             (∀ j ∈ s.jobs, j.ctx = c → j.state = .switching → j.fallback ≠ m.val) → y.residence = .parked) ∧
           ((u 17 1 = 0 ∨ u 17 1 = 2) → y = { x with hint := u 17 1 })) ∧ t.jobs = s.jobs ∧ t.contexts = s.contexts))) ∧
  (∀ (s : State) (e : RingEntry),
     let u := RingEntry.at e
     let c := RingEntry.ctx e
     let m := RingEntry.model e
     (Admitted 0x30 e .context (payloadBad e [(16, 40)] ++ tooBig e 16 1 15 ++ tooBig e 17 1 3 ++ fallbackBad e) s →
       ∀ x y, s.model? c m = some x → x.unregistering = none → x.state = 2 → s.ctx? c = some y → fallbackFits e x = true →
       u 32 8 % 64 = 0 → strictRefused e x = false → s.queuedJobs c < 256 →
       Gives (.jobSubmit e) s (fun t => Accepted 0x30 (u 16 1) (some c) false s t ∧
         (∃ j, t.jobs = s.jobs ++ [j] ∧ j.ctx = c ∧ j.model = m ∧ j.number = y.nextJob ∧
           j.state = (if (x.ctx, x.number, x.jobsSinceReg + 1) ∈ s.rink.aborted then .ended else .queued) ∧
           ((x.ctx, x.number, x.jobsSinceReg + 1) ∈ s.rink.aborted → j.status = 2) ∧
           j.uid = s.uids ∧ j.work = some s.ringIds ∧ j.strict = (u 17 1 % 2 == 1) ∧ j.absolute = (u 17 1 / 2 % 2 == 1) ∧
           j.margin = u 18 1 ∧ j.fallback = u 19 1 ∧ j.limit = u 20 4 ∧ j.args.toNat = u 24 8 ∧ j.record.toNat = u 32 8 ∧
           j.seed.toNat = u 40 8 ∧ j.deadline.toNat = u 48 8 ∧ j.fvalue = RingEntry.fvalue e ∧ j.nModel = x.jobsSinceReg + 1) ∧
         (∃ y', t.ctx? c = some y' ∧
           y'.nextJob = if y.nextJob = BitVec.allOnes 32 then 1 else y.nextJob + 1))) ∧
     (let d : DestId := Fin.ofNat 16 (u 20 1)
      Admitted 0x31 e .context (payloadBad e [(16, 6), (24, 28)] ++ tooBig e 16 1 15 ++ tooBig e 17 1 1 ++ fallbackBad e ++
        tooBig e 20 1 15 ++ (if u 21 1 < 4 then [21] else tooBig e 21 1 16)) s →
      ∀ x im i, s.model? c m = some x → x.unregistering = none → x.state = 2 → x.image = some im → im.input = some i →
      fallbackFits e x = true → strictRefused e x = false → s.bound d = none →
      Gives (.standingBind e) s (fun t => Accepted 0x31 d.val (some c) true s t ∧
        (∃ b, t.bound d = some b ∧ b.ctx = c ∧ b.model = m ∧ b.strict = (u 17 1 == 1) ∧ b.margin = u 18 1 ∧ b.fallback = u 19 1 ∧
          b.recLog2 = u 21 1 ∧ b.args.toNat = u 24 8 ∧ b.record.toNat = u 32 8 ∧ b.seed.toNat = u 40 8 ∧ b.deadline = u 48 4 ∧
          b.fence = (if RingEntry.fen e then some (RingEntry.fence e) else none) ∧ b.seqNo = 0 ∧ b.finishedLow = 0 ∧
          b.slots = i.slots ∧ b.part = s.freePart x.ctx x.number ∧ b.held = 0 ∧ b.unbinding = none) ∧ (∀ f, f ≠ d → t.bound f = s.bound f) ∧ t.jobs = s.jobs)) ∧
     (let d : DestId := Fin.ofNat 16 (u 20 1)
      Admitted 0x32 e .context (payloadBad e [(20, 1)] ++ tooBig e 20 1 15) s →
      ∀ b, s.bound d = some b → b.ctx = c → b.unbinding = none →
      Gives (.standingUnbind e) s (fun t => Accepted 0x32 d.val (some c) b.over s t ∧
        t.bound d = (if b.over then none else some { b with unbinding := some s.ringIds }) ∧
        (∀ f, f ≠ d → t.bound f = s.bound f) ∧ t.jobs = s.jobs)))

/-- R199, R210, R229, R231, R233, R234, R240: what completes each outstanding command: BARRIER when nothing before it is
outstanding, CTX_SET when none of its tiles still runs, CTX_INVALIDATE when no write of the context that was translated is held at a
frozen controller, a registration with its verdict, an unregistration with
the model's number free, an unbinding with the destination free, a destruction with everything of the context gone, once no record of it waits for a frozen controller. -/
def Obligations.RingCommandsComplete : Prop :=
  ∀ s : State, s.lodge.inReset = false →
    (∀ n w, s.work? n 2 = some w → (∀ x ∈ s.ringWork, n ≤ x.id) →
      Gives (.barrierComplete n) s (fun u => WorkDone n s u ∧ RingFrame s u)) ∧
    (∀ n w, s.work? n 0x11 = some w → (∀ x ∈ w.tiles, s.stillRuns x = false) →
      Gives (.ctxSetComplete n) s (fun u => WorkDone n s u ∧ RingFrame s u)) ∧
    (∀ n w, s.work? n 0x13 = some w →
      (s.postsWait w.ctx = false → Gives (.invalidationComplete n) s (fun u => WorkDone n s u ∧ RingFrame s u)) ∧
      (s.postsWait w.ctx = true → Gives (.invalidationComplete n) s (fun u => u = s))) ∧
    (∀ ctx mo m w, s.model? ctx mo = some m → m.state = 1 → s.registration ctx mo = some w →
      Gives (.modelVerificationComplete ctx mo) s (fun u => WorkDone w.id s u ∧
        u.model? ctx mo = some { m with state := (s.verifyModel m).1, image := (s.verifyModel m).2 } ∧
        ((s.verifyModel m).1 = 2 ↔ ((s.verifyModel m).2).isSome = true) ∧ u.jobs = s.jobs ∧ u.contexts = s.contexts)) ∧
    (∀ ctx mo m id, s.model? ctx mo = some m → m.state ≠ 1 → m.unregistering = some id → s.jobsOf ctx mo = [] → s.boundTo ctx mo = false →
      Gives (.modelUnregisterComplete ctx mo) s (fun u => WorkDone id s u ∧ u.model? ctx mo = none ∧
        (∀ k, ∀ x ∈ (u.core k).seats, ¬ (x.ctx = ctx ∧ x.model = mo)) ∧ u.jobs = s.jobs ∧
        ∀ h ∈ u.rink.heldUpdates, ¬ (h.ctx = ctx ∧ h.model = mo))) ∧
    (∀ d x id, s.bound d = some x → x.unbinding = some id → x.over = true →
      Gives (.standingUnbindComplete d) s (fun u => WorkDone id s u ∧ u.bound d = none ∧
        ∀ f, f ≠ d → u.bound f = s.bound f)) ∧
    (∀ ctx x, s.ctx? ctx = some x → s.destructionWaits ctx = true → Gives (.ctxDestroyComplete ctx) s (fun u => u = s)) ∧
    (∀ ctx x, s.ctx? ctx = some x → x.destroying = true → s.destructionWaits ctx = false →
      Gives (.ctxDestroyComplete ctx) s (fun u => u.ctx? ctx = none ∧ (∀ m ∈ u.models, m.ctx ≠ ctx) ∧
        (∀ j ∈ u.jobs, j.ctx ≠ ctx) ∧ (∀ f ∈ u.fences, f.owner ≠ some ctx) ∧ (∀ x ∈ u.stopped, x.ctx ≠ ctx) ∧
        (∀ k t, (u.core k).phase.active = true → (u.core k).tile = some t → t.ctx ≠ ctx) ∧
        (∀ w ∈ u.writes, w.ofContext ctx = false) ∧ (∀ k, ∀ x ∈ (u.core k).accesses, x.tag.ctx ≠ ctx) ∧
        (∀ w ∈ u.withdrawn, w.2.ctx ≠ ctx) ∧ (∀ h ∈ u.rink.heldUpdates, h.ctx ≠ ctx) ∧
        (∀ d b, s.bound d = some b → b.ctx ≠ ctx → ∃ b', u.bound d = some b' ∧ b' = { b with fence := b'.fence } ∧
          ((∀ f ∈ s.fences, b.fence = some f.index → f.owner ≠ some ctx) → b'.fence = b.fence)) ∧
        (∀ p : Fin 2, ∀ i : StreamId, ∀ f ∈ (u.streams[p])[i].frame.toList ++ (u.streams[p])[i].out, f.slotCtx = ctx → f.slot = none) ∧
        (∀ w ∈ u.ringWork, w.ctx ≠ some ctx) ∧ ∀ d, d ≠ ctx → (u.ctx? d).isSome = (s.ctx? d).isSome))

/-! ## The host interface (R5, R7, R219–R227, R238, R242–R245, R390, R397) -/

/-- R225–R227, R238, R242, R245: the ring's registers (enable, disable, base and size, doorbell), the version check with its
verdict, the status block and the heartbeat. -/
def Obligations.HostInterfaceCommands : Prop :=
  ∀ s : State,
    (s.hostReaches = true → ∀ clear : Bool,
      (s.ringOn = false → Gives (.ringEnable clear) s (fun u =>
        u.ringOn = true ∧ (clear = true → u.flag Reg.hifRingCtrl 1 = false) ∧
        (s.lodge.inReset = false → s.hifState = 2 ∨ s.hifState = 3 → u.host.mastering = s.host.busMaster ∧
          u.host.heartbeatGate = s.gate ∧ u.host.heartbeatTimer = true ∧ u.host.statusSeq = s.host.statusSeq + 1) ∧
        u.hifState = (if s.hifState = 2 ∧ s.lodge.inReset = false then 4 else s.hifState) ∧
        (s.lodge.inReset = true → u = { s with regs := u.regs }) ∧
        SameRegs [Reg.hifRingCtrl, Reg.hifHandshake] s u ∧ u.contexts = s.contexts ∧ u.mem = s.mem)) ∧
      (s.ringOn = true → Gives (.ringEnable clear) s (fun u => u = { s with regs := u.regs } ∧ u.ringOn = true ∧
        (clear = true → u.flag Reg.hifRingCtrl 1 = false) ∧ SameRegs [Reg.hifRingCtrl] s u)) ∧
      Gives (.ringDisable clear) s (fun u => u = { s with regs := u.regs } ∧ u.ringOn = false ∧
        (clear = true → u.flag Reg.hifRingCtrl 1 = false) ∧ SameRegs [Reg.hifRingCtrl] s u)) ∧
    (s.hostReaches = true → s.ringOn = false → ∀ (size : Bool) (v : W64),
      Gives (.ringBaseWrite size v) s (fun u => u = { s with regs := u.regs } ∧ u.reg Reg.hifRingHead = 0 ∧
        u.reg Reg.hifRingTail = 0 ∧
        (size = false → (u.reg Reg.hifRingBase).toNat = v.toNat / 4096 * 4096 ∧
          SameRegs [Reg.hifRingBase, Reg.hifRingHead, Reg.hifRingTail] s u) ∧
        (size = true → (u.reg Reg.hifRingSize).toNat = (if 4 ≤ field v 4 0 ∧ field v 4 0 ≤ 16 then field v 4 0 else 4) ∧
          SameRegs [Reg.hifRingSize, Reg.hifRingHead, Reg.hifRingTail] s u))) ∧
    (s.hostReaches = true → ∀ v : W64,
      let t := field v 15 0
      let ahead := fun x => (x + s.ringSize - s.fld Reg.hifRingHead 15 0 % s.ringSize) % s.ringSize
      let legal := t < s.ringSize ∧ ahead (s.fld Reg.hifRingTail 15 0) ≤ ahead t
      (legal → Gives (.ringDoorbell v) s (fun u => u = { s with regs := u.regs } ∧ (u.reg Reg.hifRingTail).toNat = t ∧
        SameRegs [Reg.hifRingTail] s u)) ∧
      (¬ legal → Gives (.ringDoorbell v) s (fun u => u.reg Reg.hifRingTail = s.reg Reg.hifRingTail ∧
        u.flag Reg.hifRingCtrl 1 = true ∧ u.mem = s.mem ∧ u.hostMem = s.hostMem ∧ u.contexts = s.contexts))) ∧
    (s.hostReaches = true → s.lodge.inReset = false → s.hifState ≠ 0 → s.hifState ≠ 4 → ∀ v : BitVec 32,
      Gives (.versionCheck v) s (fun u =>
        let same := field v 31 16 = s.fld Reg.hifFwVersion 31 16
        u.reg Reg.hifDrvVersion = v.zeroExtend 64 ∧
        u.fld Reg.hifHandshake 15 8 = (if same then (if s.fld Reg.hifFwVersion 15 0 < field v 15 0 then 2 else 0) else 1) ∧
        u.hifState = (if same then (if s.ringOn = true then 4 else 2) else 3) ∧
        u.lodge.log = s.lodge.log ++ [⟨s.gate, 5, 0, 1, [v.zeroExtend 64, if same then 2 else 3]⟩] ∧
        u.contexts = s.contexts ∧ u.mem = s.mem)) ∧
    (s.hostReaches = true → s.lodge.inReset = true → s.hifState ≠ 0 → s.hifState ≠ 4 → ∀ v : BitVec 32,
      Gives (.versionCheck v) s (fun u => u = { s with regs := u.regs, host := { s.host with versionWaits := true } } ∧
        u.reg Reg.hifDrvVersion = v.zeroExtend 64 ∧ SameRegs [Reg.hifDrvVersion] s u)) ∧
    (s.hostLive = true → s.lodge.inReset = false →
      Gives .statusBlockWrite s (fun u => u = { s with hostMem := u.hostMem, host := u.host } ∧
        u.host.statusSeq = s.host.statusSeq + 1 ∧
        (s.masters = true →
          leAt (u.hostRd (s.reg Reg.hifStatusAddr).toNat 64) 0 8 = u.host.statusSeq.toNat ∧
          leAt (u.hostRd (s.reg Reg.hifStatusAddr).toNat 64) 24 8 = s.gate.toNat))) ∧
    (s.hostReaches = true → ∀ (acc : RegAccess) (v : W64),
      (acc ∈ [.low4, .high4, .full8] → Gives (.hostHeartbeat acc v) s (fun u => u = { s with host := u.host } ∧
        u.host.heartbeatGate = s.gate ∧ u.host.heartbeat = merge64 acc s.host.heartbeat v)) ∧
      (acc ∉ [RegAccess.low4, .high4, .full8] → Gives (.hostHeartbeat acc v) s (fun u => u = s)))

/-- R219, R223, R225, R243–R245: an event of host loss, where the host is live and the device has not stopped, ends RUNNING, resets
the ring's registers, stops mastering and parks every context that is not autonomous while its running tiles go on; and each event
acts on the interface whether the host was live or not. PERST_N and a Function Level Reset give BAR2 its size at reset. -/
def Obligations.HostLossAndReturn : Prop :=
  ∀ s : State,
    let live := s.hostLive = true ∧ s.off = false
    let reset := { s.board with bar2Log2 := 28 }
    (live → s.host.heartbeatTimer = true → s.lodge.inReset = false →
      s.host.heartbeatGate.toNat + s.fld Reg.hifHbTimeout 13 0 * 1000000 ≤ s.gate.toNat → Gives .hostLoss s (HostLost 0 s)) ∧
    Gives .perstNAssert s (fun u => u.host.perst = true ∧ u.host.busMaster = false ∧ u.host.mastering = false ∧
      u.host.answering = false ∧ u.board = reset ∧ (live → HostLost 1 s u) ∧ (¬ live → u = { s with host := u.host, board := reset })) ∧
    (s.host.perst = false → s.host.answering = true →
      Gives .functionLevelReset s (fun u => u.host.busMaster = false ∧ u.host.mastering = false ∧ u.board = reset ∧
        (live → HostLost 2 s u) ∧ (¬ live → u = { s with host := u.host, board := reset })) ∧
      Gives .busMasterEnableClear s (fun u => u.host.busMaster = false ∧ u.host.mastering = false ∧
        (live → HostLost 3 s u) ∧ (¬ live → u = { s with host := u.host })) ∧
      Gives .d3hotEntry s (fun u => u.host.d3hot = true ∧ u.host.mastering = false ∧
        (live → HostLost 4 s u) ∧ (¬ live → u = { s with host := u.host })) ∧
      Gives .busMasterEnableSet s (fun u => u = { s with host := u.host } ∧ u.host.busMaster = true ∧
        u.host.mastering = (s.hostLive || s.host.mastering))) ∧
    (s.host.perst = true ∨ s.host.answering = false → ∀ i ∈ [Instr.functionLevelReset, .busMasterEnableClear, .d3hotEntry, .busMasterEnableSet],
      Gives i s (fun u => u = s)) ∧
    Gives .perstNRelease s (fun u => u = { s with host := u.host } ∧ u.host.perst = false ∧
      u.host.answering = (s.host.answering || s.pcieReady))

/-- R5, R7, R8, R172, R218, R219, R221, R305, R397, R398: a register write gives RW fields the value written, clears the RW1C bits
written 1 and leaves every other field; a field with a range takes its default for a value outside; a write to a register that a row
names has that row's meaning. A host write to LFT_FAULT_CTRL is ignored. A read clears the RC fields it covers and nothing else; an
access of another size reads 0 and writes nothing. An access through BAR2 reaches usable memory behind no frozen controller byte by
byte through its controllers, and any byte dropped is counted once. The model's choices: DMC_FREEZE_CTRL has only the row DRAM_THAW
(log 57), a BAR2 read is answered at once (log 35), and the size of BAR2 is written as a register of its own (log 132, PRESUMED). -/
def Obligations.RegisterAndWindowAccess : Prop :=
  (∀ (s : State) (lodge : Bool) (off : Nat) (acc : RegAccess) (v : W64) (fs : List FieldDesc),
    s.works = true → s.partyReaches lodge = true → off % 8 = 0 → regFields off = some fs →
    let w := placed acc v
    let new := writeFields acc w (s.reg off) fs
    let full := writtenBits acc w (s.reg off) fs
    let low : BitVec 32 := full.setWidth 32
    let go := exec (.registerWrite lodge off acc v) s
    (RegAccess.writes acc fs = false → acc ≠ .resizableBar → off ≠ Reg.hifHeartbeat → go = .next s) ∧
    (RegAccess.writes acc fs = true →
      TakesRow lodge off acc v full s ∧
      (∀ n : GateSlot, off = Reg.gtbSgCtrl n → go = if full.getLsbD 1 then exec (.startGateDisarm n) (s.writeSgCtrl n low)
        else if full.getLsbD 0 then exec (.startGateArm n low) s else .next (s.writeSgCtrl n low)) ∧
      (∀ n : PortId, off = 0x1000000 + 0x10000 * n.val → go = if full.getLsbD 0 then exec (.pocEnable n low) s else exec (.pocDisable n low) s) ∧
      (∀ n : PortId, off = 0x1000200 + 0x10000 * n.val → go = .next (s.ccmWrite n lodge low)) ∧
      (∀ n : Fin 32, off = 0x1400200 + 8 * n.val → go = exec (.ringReadPointerWrite n full) s) ∧
      (∀ l : LiftId, off = Reg.lftFaultCtrl l → go = if lodge && full.getLsbD 0 then exec (.liftResume l) s else .next s) ∧
      (off ∉ namedRegs → inRowFamily off = false →
        (s.ignoresWrite lodge off = true → go = .next s) ∧
        (s.ignoresWrite lodge off = false → ∃ u, go = .next u ∧
          (hasSequel off = false → u = { s with regs := u.regs } ∧ SameRegs [off] s u ∧ u.reg off = s.taken off (s.reg off) new) ∧
          (∀ p, p < 2 → off = Reg.ethCtrl p → u = { s with regs := u.regs } ∧ SameRegs [off, Reg.ethStatus p] s u ∧
            u.reg off = new ∧ (new.getLsbD 0 = false → u.flag (Reg.ethStatus p) 0 = false)) ∧
          (0x301040 ≤ off → off < 0x301080 → SameRegs [off] s u ∧ u.reg off = new ∧ u = { s with regs := u.regs, models := u.models } ∧
            (new.getLsbD 31 = true → ∀ m ∈ u.models, m.ctx.val = field new 9 0 → m.jobsSinceEnrol = 0)) ∧
          (off = Reg.rnkPairCtrl ∨ (Reg.rnkPairCtx 0 ≤ off ∧ off ≤ Reg.rnkPairCtx 15) →
            let s1 := s.setReg off (s.taken off (s.reg off) new)
            (s1.pairsOn = true → s1.isPrimary = false → ∀ x ∈ u.contexts, x.id ≠ 0 → s1.isPaired x.id = true → x.parked = true) ∧
            (s1.pairsOn = false ∨ s1.isPrimary = true → u = s1)) ∧
          (∀ n : PortId, 0x1000300 + 0x10000 * n.val ≤ off → off ≤ 0x1000310 + 0x10000 * n.val → SameRegs [off] s u ∧
            u.reg off = s.taken off (s.reg off) new ∧ u = { s with regs := u.regs, ports := u.ports } ∧
            (∀ m, m ≠ n → u.ports[m] = s.ports[m]) ∧ u.ports[n] = { s.ports[n] with trigNext := (u.ports[n]).trigNext }))))) ∧
  (∀ (s : State) (off : Nat) (old new : W64),
    (takesAll off = true → s.taken off old new = new) ∧
    (∀ r ∈ rangedFields, r.1 = off → field (s.taken off old new) r.2.1 r.2.2.1 =
      if r.2.2.2.1 ≤ field new r.2.1 r.2.2.1 ∧ field new r.2.1 r.2.2.1 ≤ r.2.2.2.2.1 then field new r.2.1 r.2.2.1 else r.2.2.2.2.2) ∧
    (field (s.taken Reg.hifHbTimeout old new) 13 0 =
      if 50 ≤ field new 13 0 ∧ field new 13 0 ≤ 10000 then field new 13 0 else field old 13 0) ∧
    s.taken Reg.ldgXltRegionBase old new = (if s.anyContext then old else new) ∧
    s.taken Reg.ldgXltRegionSize old new = (if s.anyContext = true ∨ 262144 < field new 18 0 then old else new) ∧
    (field (s.taken Reg.rnkPairCtrl old new) 11 8 = if 2 ≤ field new 11 8 then field new 11 8 else 8)) ∧
  (∀ (acc : RegAccess) (w old : W64) (fs : List FieldDesc) (f : FieldDesc),
    fs.Pairwise (fun a b => a.hi < b.lo ∨ b.hi < a.lo) → (∀ a ∈ fs, a.lo ≤ a.hi ∧ a.hi < 64) → f ∈ fs →
    field (writeFields acc w old fs) f.hi f.lo =
      if RegAccess.covers acc f then
        (match f.access with
         | .rw => field w f.hi f.lo
         | .rwWide => field w f.hi f.lo
         | .rw1c => field (old &&& ~~~w) f.hi f.lo
         | _ => field old f.hi f.lo)
      else field old f.hi f.lo) ∧
  (∀ (s : State) (off : Nat) (acc : RegReading) (fs : List FieldDesc), s.works = true → s.partyReaches acc.lodge = true → off % 8 = 0 →
    regFields off = some fs → fs.Pairwise (fun a b => a.hi < b.lo ∨ b.hi < a.lo) → (∀ a ∈ fs, a.lo ≤ a.hi ∧ a.hi < 64) →
    Gives (.rcFieldRead off acc) s (fun u => u = { s with regs := u.regs, host := u.host, lodge := u.lodge } ∧ SameRegs [off] s u ∧
      (∀ f ∈ fs, u.fld off f.hi f.lo = if f.access = .rc ∧ RegAccess.covers acc.size f = true then 0 else s.fld off f.hi f.lo) ∧
      let data := match acc.size with
        | .full8 => leBytes 8 (s.readReg off).toNat
        | .low4 => leBytes 4 (s.readReg off).toNat
        | .high4 => leBytes 4 ((s.readReg off).toNat / 2 ^ 32)
        | .other n => List.replicate n 0
        | .resizableBar => leBytes 4 ((s.board.bar2Log2 - 20) * 256)
      (acc.lodge = false → u.host = { s.host with readData := data } ∧ u.lodge = s.lodge) ∧
      (acc.lodge = true → u.lodge = { s.lodge with readData := data } ∧ u.host = s.host))) ∧
  (∀ (s : State) (off : Nat) (v : W64), s.works = true → s.hostReaches = true →
    Gives (.registerWrite false off .resizableBar v) s (fun u => u = { s with board := u.board } ∧
      u.board = { s.board with bar2Log2 := if 8 ≤ field v 13 8 ∧ field v 13 8 ≤ 18 then field v 13 8 + 20 else s.board.bar2Log2 })) ∧
  (∀ (s : State) (offset : Nat) (bytes : List Byte), s.hostReaches = true →
    offset + bytes.length ≤ 2 ^ s.board.bar2Log2 →
    let a := s.bar2Addr offset
    let lost := ∃ i, i < bytes.length ∧ s.bar2Reaches (a + i) = false
    let counted := fun u : State => (lost → (u.reg Reg.hifBar2DropCount).toNat = satAdd 32 (s.reg Reg.hifBar2DropCount).toNat 1) ∧
      (¬ lost → u.reg Reg.hifBar2DropCount = s.reg Reg.hifBar2DropCount)
    let idle := ∀ d : DmcId, s.dmc[d].input = []
    Gives (.bar2Access true offset bytes) s (fun u => counted u ∧ u = { s with regs := u.regs, mem := u.mem, dmc := u.dmc } ∧
      (idle → ∀ x,
        (a ≤ x ∧ x < a + bytes.length ∧ s.bar2Reaches x = true → u.byteAt x = bytes.getD (x - a) 0 ∨
          ∃ (d : DmcId), ∃ q ∈ u.dmc[d].input, q.req.write = true ∧ q.req.bar2 = true ∧ q.req.addr ≤ x ∧
            q.req.data[x - q.req.addr]? = some (bytes.getD (x - a) 0)) ∧
        (¬ (a ≤ x ∧ x < a + bytes.length ∧ s.bar2Reaches x = true) → u.byteAt x = s.byteAt x))) ∧
    Gives (.bar2Access false offset bytes) s (fun u => counted u ∧
      u = { s with regs := u.regs, mem := u.mem, dmc := u.dmc, host := u.host } ∧ (idle → u.mem = s.mem) ∧
      u.host = { s.host with readData := (List.range bytes.length).map (fun i =>
        if s.bar2Reaches (a + i) = true then s.bar2Byte (a + i) else 0) }))

/-! ## Sensor ports, frames, store destinations, camera control, triggers, power over coax (R14, R246–R274, R404) -/

/-- R247, R248, R257, R259, R290: a packet with an uncorrectable header is counted and lost to the streams of its port and channel;
one of a type that ports do not take is discarded and counted, one that no stream matches is counted, and so is one that stopped
streams alone match; any other waits at every stream that it matches and that takes it, a long one where the port's buffer of 96 KiB
holds it, and is lost to them where not. A frame start that no stream takes brings the port's new owner. -/
def Obligations.SensorPackets : Prop :=
  ∀ (s : State) (n : PortId) (k : Csi2Packet), s.portReceives n = true →
    let waits := fun (u : State) => ∀ (p : PipeId) (st : StreamId), (u.stream p st).arrived =
      (s.stream p st).arrived ++ (match s.arrival n k p st with
        | some a => if s.takes p st a = true then [a] else []
        | none => [])
    let counts := fun (r : Nat) (u : State) => (u.reg r).toNat = satAdd 32 (s.reg r).toNat 1
    let good := k.ecc ≠ .uncorrectable ∧ k.vcx = 0 ∧ k.vc ≤ 3 ∧ typeTaken k.dt.toNat = true
    let plain := good ∧ lineSync k.dt.toNat = false
    let taken := ∃ p st a, s.arrival n k p st = some a ∧ s.takes p st a = true
    let alone := fun (c : Nat) (u : State) => counts c u ∧
      ((k.dt ≠ 0 ∨ (s.ports[n]).ownerPending = none) → u = { s with regs := u.regs } ∧ SameRegs [Reg.camCntEccFix n, c] s u) ∧
      (∀ lodge, k.dt = 0 → (s.ports[n]).ownerPending = some lodge → (u.ports[n]).ownerPending = none ∧ u.flag Reg.vcSaOwner n = lodge)
    (k.ecc = .uncorrectable → Gives (.csi2Packet n k) s (fun u => counts (Reg.camCntHdrErr n) u ∧ waits u ∧ u.mem = s.mem ∧
      SameRegs [Reg.camCntHdrErr n] s u)) ∧
    (k.ecc ≠ .uncorrectable → (k.vcx ≠ 0 ∨ 3 < k.vc ∨ typeTaken k.dt.toNat = false) →
      Gives (.csi2Packet n k) s (fun u => u = { s with regs := u.regs } ∧ counts (Reg.camCntDiscard n) u ∧
        (k.ecc = .corrected → counts (Reg.camCntEccFix n) u) ∧ SameRegs [Reg.camCntDiscard n, Reg.camCntEccFix n] s u)) ∧
    (plain → taken → (16 ≤ k.dt.toNat → s.buffered n + k.payload.length ≤ 98304) →
      Gives (.csi2Packet n k) s (fun u => waits u ∧ u.mem = s.mem ∧
        (16 ≤ k.dt.toNat → k.crcOk = false → counts (Reg.camCntCrc n) u) ∧
        (u.ports[n]).packets = (s.ports[n]).packets + (if 16 ≤ k.dt.toNat then 1 else 0) ∧
        SameRegs [Reg.camCntEccFix n, Reg.camCntCrc n] s u)) ∧
    (plain → taken → 16 ≤ k.dt.toNat → 98304 < s.buffered n + k.payload.length →
      Gives (.csi2Packet n k) s (fun u => counts (Reg.camCntOverrun n) u ∧ u.mem = s.mem ∧
        ∀ (p : PipeId) (st : StreamId), (u.stream p st).arrived = (s.stream p st).arrived ++ (match s.arrival n k p st with
          | some a => if s.takes p st a = true then [.lost false] else []
          | none => []))) ∧
    (plain → (∀ p st, s.arrival n k p st = none) → Gives (.csi2Packet n k) s (alone (Reg.camCntUnmatched n))) ∧
    (plain → (∃ p st a, s.arrival n k p st = some a) → (∀ p st a, s.arrival n k p st = some a → s.takes p st a = false) →
      Gives (.csi2Packet n k) s (alone (Reg.camCntDiscard n))) ∧
    (good → lineSync k.dt.toNat = true →
      let at_ := fun (p : PipeId) (st : StreamId) => (exposureOf (s.matchSet p st false) n k.vc).isSome = true
      ((∀ p st, ¬ at_ p st) → Gives (.csi2Packet n k) s (alone (Reg.camCntUnmatched n))) ∧
      ((∃ p st, at_ p st) → (∀ p st, at_ p st → s.goesOn p st false = false) →
        Gives (.csi2Packet n k) s (alone (Reg.camCntDiscard n))) ∧
      ((∃ p st, at_ p st ∧ s.goesOn p st false = true) → Gives (.csi2Packet n k) s (fun u =>
        u = { s with regs := u.regs } ∧ SameRegs [Reg.camCntEccFix n] s u)))

/-- R255–R259, R290: a frame start takes what is pending and opens a frame, unless the set then active stops the stream; lines
are placed, cut or padded to the set's size, those that are complete with every exposure in rotation over the streams; the frame ends
of all its exposures (log 54, the model's choice: R255 names one), or a time-out, close the frame and count it. Packets that find no
frame are counted, those of a stopped stream as discarded. -/
def Obligations.FramesAreAssembled : Prop :=
  ∀ (s : State) (p : PipeId) (st : StreamId) (rest : List Arrived), s.works = true →
    let x := s.stream p st
    let closes := fun (f : Frame) (u : State) => (u.stream p st).frame = none ∧
      (u.reg (Reg.camCntFrames (setPort f.set))).toNat = satAdd 32 (s.reg (Reg.camCntFrames (setPort f.set))).toNat 1
    (x.arrived = .frameStart 0 :: rest → (∀ f, x.frame = some f → setPort f.set < 16) →
      let n : PortId := Fin.ofNat 16 (setPort (s.matchSet p st true))
      let shadow := s.regBytes (Reg.ispShadow p st) 512
      let stops := if s.setPending p st = true then !setOk p.val shadow else x.stopped
      Gives (.frameStart p st) s (fun u => (u.stream p st).arrived = rest ∧
        (∀ lodge, (s.ports[n]).ownerPending = some lodge → (u.ports[n]).ownerPending = none ∧ u.flag Reg.vcSaOwner n = lodge) ∧
        ((s.ports[n]).ownerPending = none → u.setPending p st = false ∧ (u.stream p st).stopped = stops ∧
          u.activeSet p st = (if s.setPending p st = true then shadow else s.activeSet p st) ∧
          (stops = true → (u.stream p st).frame = none) ∧
          (stops = false → (u.stream p st).frame =
            some ⟨u.activeSet p st, 0, [], 0, [], [], s.gate, 0, false, none, 0, none, [], u.encBlock (encOf p st)⟩)))) ∧
    (∀ e f, x.arrived = .frameEnd e :: rest → x.frame = some f → setPort f.set < 16 →
      let ended := if f.ended.contains e then f.ended else e :: f.ended
      Gives (.frameEnd p st) s (fun u => (u.stream p st).arrived = rest ∧
        (ended.length < setExposures f.set → (u.stream p st).frame = some { f with ended := ended } ∧ u.regs = s.regs) ∧
        (setExposures f.set ≤ ended.length → closes f u))) ∧
    (∀ e ok bs no f, x.arrived = .line e ok bs no :: rest → x.frame = some f → s.lineTurn p st = false →
      Gives (.linePacket p st) s (fun u => u = s)) ∧
    (∀ e ok bs no, x.arrived = .line e ok bs no :: rest → x.frame = none →
      let c := if x.stopped then Reg.camCntDiscard (setPort x.known) else Reg.camCntOrphan (setPort x.known)
      Gives (.linePacket p st) s (fun u => (u.stream p st).arrived = rest ∧ (u.stream p st).frame = none ∧
        (u.reg c).toNat = satAdd 32 (s.reg c).toNat 1 ∧ SameRegs [c] s u ∧ u.mem = s.mem)) ∧
    (∀ ok bs no f, x.arrived = .embedded ok bs no :: rest → x.frame = some f →
      Gives (.linePacket p st) s (fun u => (u.stream p st).arrived = rest ∧ u.mem = s.mem ∧ u.regs = s.regs ∧
        ∃ f', (u.stream p st).frame = some f' ∧ f'.lines = f.lines ∧ f'.embedded = (f.embedded ++ bs).take 384 ∧
          f'.crcFails = f.crcFails + (if ok then 0 else 1) ∧ (ok = false → f'.flags.getLsbD 4 = true))) ∧
    (∀ header f, x.arrived = .lost header :: rest → x.frame = some f →
      Gives (.linePacket p st) s (fun u => (u.stream p st).arrived = rest ∧ u.mem = s.mem ∧ u.regs = s.regs ∧
        (u.stream p st).frame = some (f.mark (if header then 3 else 5)))) ∧
    (∀ e ok bs no f, x.arrived = .line e ok bs no :: rest → x.frame = some f → s.lineTurn p st = true →
      let px := unpackPixels (setDt f.set) bs
      Gives (.linePacket p st) s (fun u => (u.stream p st).arrived = rest ∧ u.mem = s.mem ∧
        u.pipeTurn = (if x.lineReady = true then s.pipeTurn.set p st else s.pipeTurn) ∧
        ∃ f', (u.stream p st).frame = some f' ∧ f'.set = f.set ∧
          f'.lines = f.lines ++ [(e, if setHeight f.set ≤ linesOf f.lines e then [] else px.take (setWidth f.set))] ∧
          f'.crcFails = f.crcFails + (if ok then 0 else 1) ∧
          (ok = false → f'.flags.getLsbD 4 = true) ∧ (setHeight f.set ≤ linesOf f.lines e → f'.flags.getLsbD 1 = true) ∧
          (linesOf f.lines e < setHeight f.set → px.length ≠ setWidth f.set → f'.flags.getLsbD 2 = true))) ∧
    (∀ f, x.frame = some f → f.startGate.toNat + setTimeout f.set * 1000000 ≤ s.gate.toNat →
      setPort f.set < 16 → Gives (.frameTimeout p st) s (closes f))

/-- R13, R14, R257, R270, R276: when the first line of a frame leaves the pipe, the store branch takes the next free slot of its
destination and the next number; with every slot held, or its context parked, or its slots in no place (log 111, the model's choice),
the frame is skipped and counted under the next number, and with no binding it is counted; whatever the codec branch does. A frame that closed before goes on the same way.
R16, R214, R232, R270, R271, R273: a delivered frame's tensor rows stand in its slot, its descriptor row after them, and its
job in the queue; rows beyond the slot's own, less the descriptor's, are not written (log 55, the model's choice). A slot is free again when the counter that the image names has passed its index. -/
def Obligations.SlotsOfDestinations : Prop :=
  (∀ (s : State) (p : PipeId) (st : StreamId) (f : Frame),
     let d := setDest f.set
     let skips := fun (u : State) => (u.reg (Reg.ispDestSkipCount (d.val / 8) (d.val % 8))).toNat =
       satAdd 32 (s.reg (Reg.ispDestSkipCount (d.val / 8) (d.val % 8))).toNat 1
     s.works = true →
     ((s.stream p st).out.find? (fun f => !f.firstOut) = none → (s.stream p st).frame = some f →
       f.firstOut = false → f.hasLine = true →
       Gives (.frameFirstLineOut p st) s (fun u => ∃ f', (u.stream p st).frame = some f' ∧ f'.firstOut = true ∧ f'.lines = f.lines ∧
         f'.set = f.set ∧ f'.flags = f.flags ∧
         (setEnable f.set 1 = false → f'.slot = none ∧ u.standing = s.standing) ∧
         (setEnable f.set 1 = true → s.bound d = none → f'.slot = none ∧ skips u ∧ u.standing = s.standing) ∧
         (∀ b, setEnable f.set 1 = true → s.bound d = some b → b.unbinding = none →
           (∀ k base, s.ctxRuns b.ctx = true → b.freeSlot? = some k → s.slotBase b = some base →
             f'.slot = some (b.seqNo + 1, k) ∧ f'.slotCtx = b.ctx ∧
             u.bound d = some { b with seqNo := b.seqNo + 1, held := setBit b.held k true, lastSlot := k }) ∧
           ((s.ctxRuns b.ctx = false ∨ b.freeSlot? = none ∨ s.slotBase b = none) → f'.slot = none ∧ skips u ∧
             ∃ b', u.bound d = some b' ∧ b'.seqNo = b.seqNo + 1 ∧ b'.held = b.held)))) ∧
     ((s.stream p st).out.find? (fun f => !f.firstOut) = some f →
       Gives (.frameFirstLineOut p st) s (fun u => (u.stream p st).frame = (s.stream p st).frame ∧
         ((u.stream p st).out.filter (fun f => !f.firstOut)).length + 1 = ((s.stream p st).out.filter (fun f => !f.firstOut)).length ∧
         (∀ b, setEnable f.set 1 = true → s.bound d = some b → b.unbinding = none →
           ∃ b', u.bound d = some b' ∧ b'.seqNo = b.seqNo + 1))) ∧
     ((s.stream p st).out.find? (fun f => !f.firstOut) = none → (s.stream p st).frame = some f →
       (f.firstOut = true ∨ f.hasLine = false) → Gives (.frameFirstLineOut p st) s (fun u => u = s))) ∧
  ((∀ (s : State) (d : DestId) (p : PipeId) (st : StreamId) (f : Frame) (n : W64) (k : Nat) (x : Standing) (store first : Nat)
     (m : Model),
     s.works = true → s.lodge.inReset = false → s.deliverable d = some (p, st, f, n, k) → s.bindingOf f.slotCtx d = some x →
     s.slotBase x = some (store, first) → s.model? x.ctx x.model = some m → s.ctxRuns x.ctx = true → f.embedded.length ≤ 384 →
     let t := tensorOf f.set (s.defects p) f.lines
     let fit := min (rowsOf t.1).length (x.slotRows - 1)
     let a := rowAddr store (first + x.slotRows * k)
     Gives (.slotDescriptorWrite d) s (fun u =>
       u.rd a (512 * fit) = ((rowsOf t.1).take fit).flatten ∧
       u.rd (a + 512 * fit) 512 = descriptorRow f n k (replacements f.set (s.defects p) f.lines) t.2 ∧
       (∀ y, y < a ∨ a + 512 * (fit + 1) ≤ y → u.byteAt y = s.byteAt y) ∧
       (∃ j, u.jobs = s.jobs ++ [j] ∧ j.ctx = x.ctx ∧ j.model = x.model ∧ j.seed = x.seed + n ∧
         j.state = (if (m.ctx, m.number, m.jobsSinceReg + 1) ∈ s.rink.aborted then .ended else .queued) ∧
         j.standing = some (d, n, k) ∧ j.strict = x.strict ∧ j.args = x.args ∧
         j.deadline = if x.deadline = 0 then 0 else s.gate + BitVec.ofNat 64 x.deadline) ∧
       ∃ y, u.bindingOf f.slotCtx d = some y ∧ y = { x with slotJobs := x.slotJobs ++ [(k, s.uids)] })) ∧
   (∀ (s : State) (d : DestId) (p : PipeId) (st : StreamId) (f : Frame) (n : W64) (k : Nat) (x : Standing),
     s.works = true → s.deliverable d = some (p, st, f, n, k) → s.bindingOf f.slotCtx d = some x → s.ctxRuns x.ctx = false →
     Gives (.slotDescriptorWrite d) s (fun u => u.jobs = s.jobs ∧ u.cores = s.cores)) ∧
   (∀ (f : Frame) (n : W64) (k defects : Nat) (t : ConvTally), f.embedded.length ≤ 384 →
     let r := descriptorRow f n k defects t
     r.length = 512 ∧ leAt r 0 8 = n.toNat ∧ leAt r 8 1 = setPort f.set ∧ leAt r 9 1 = k % 256 ∧ leAt r 10 2 = f.flags.toNat ∧
     leAt r 12 2 = linesOf f.lines 0 % 65536 ∧ leAt r 14 2 = filledLines f.set f.lines % 65536 ∧ leAt r 32 4 = f.crcFails % 2 ^ 32 ∧
     leAt r 36 4 = defects % 2 ^ 32 ∧ leAt r 40 4 = t.conv % 2 ^ 32 ∧ leAt r 44 4 = t.clip % 2 ^ 32 ∧
     leAt r 48 2 = f.embedded.length ∧
     leAt r 16 8 = f.startGate.toNat ∧ leAt r 24 8 = f.endGate.toNat ∧ (r.drop 128).take f.embedded.length = f.embedded) ∧
   (∀ (s : State) (d : DestId) (slot : SlotNo) (x : Standing) (uid : W32) (i : Nat) (im : InputEntry) (j : Job) (c : Counter),
     s.lodge.inReset = false → s.bound d = some x → x.slotJobs.find? (fun q => q.1 == slot.val) = some (i, uid) →
     (s.model? x.ctx x.model).bind (fun m => m.image.bind (·.input)) = some im → s.jobs.find? (fun j => j.uid == uid) = some j →
     s.jobCounter j im.counter = some c → im.index < c.doneLow →
     Gives (.slotRelease d slot) s (fun u => u = { s with standing := u.standing } ∧
       (∃ y, u.bound d = some y ∧ y.held = setBit x.held slot false ∧ (∀ q ∈ y.slotJobs, q.1 ≠ slot.val) ∧ y.seqNo = x.seqNo) ∧
       ∀ e, e ≠ d → u.bound e = s.bound e)))

/-- R249, R250, R404: a list of the camera control master starts at once, or at its armed gate count, goes entry by entry to
LAST, stores what it reads, and stops with its cause at a NACK, a stretched clock or a reserved bit; a trigger is raised, or its message sent, at its
gate count and planned one period on.
R251–R253: a supervised supply switches on from OFF or LATCHED, trips above the level in force, retries as often as it may
and then latches, reports an open load without switching off, and is off when disabled. -/
def Obligations.CameraControlAndPower : Prop :=
  (∀ (s : State) (n : PortId), s.works = true →
     let x := s.ports[n]
     let ended := fun (t cause : Nat) (u : State) => (u.ports[n]).ccmRunning = false ∧ (u.ports[n]).ccmArmed = false ∧
       u.fld (Reg.camCcmStatus n) 15 8 = t % 256 ∧ u.fld (Reg.camCcmStatus n) 5 4 = cause ∧
       u.flag (Reg.camCcmStatus n) 1 = true ∧ u.flag (Reg.camCcmStatus n) 0 = false
     let at_ := fun (t : Nat) (u : State) =>
       if s.fld (Reg.camCcmList n (2 * t)) 51 16 = 0 then
         (u.ports[n]).ccmRunning = true ∧ (u.ports[n]).ccmArmed = false ∧ (u.ports[n]).ccmIndex = t
       else ended t 3 u
     (∀ (lodge : Bool) (v : BitVec 32), lodge = s.lodgeOwns n → s.ccmBusy n = false →
       Gives (.ccmGo n lodge v) s (fun u => at_ 0 u ∧ u.fld (Reg.camCcmCtrl n) 13 8 = field v 13 8) ∧
       Gives (.ccmArm n lodge v) s (fun u => u.fld (Reg.camCcmCtrl n) 13 8 = field v 13 8 ∧
         if bit v 0 = true ∨ (s.reg (Reg.camCcmGate n)).toNat ≤ s.gate.toNat then at_ 0 u
         else (u.ports[n]).ccmArmed = true ∧ (u.ports[n]).ccmRunning = x.ccmRunning ∧ u.flag (Reg.camCcmStatus n) 0 = true)) ∧
     (x.ccmArmed = true → (s.reg (Reg.camCcmGate n)).toNat ≤ s.gate.toNat → Gives (.ccmArmedStart n) s (at_ 0)) ∧
     (x.ccmRunning = true →
       (∀ data, Gives (.ccmTransactionComplete n true data) s (ended x.ccmIndex 1)) ∧
       (∀ data, let last := s.fld (Reg.camCcmCtrl n) 13 8
         let w := s.reg (Reg.camCcmList n (2 * x.ccmIndex))
         Gives (.ccmTransactionComplete n false data) s (fun u =>
           (x.ccmIndex < last → at_ (x.ccmIndex + 1) u) ∧ (last ≤ x.ccmIndex → ended x.ccmIndex 0 u) ∧
           (x.ccmIndex < 64 → bit w 56 = true → u.fld (Reg.camCcmList n (2 * x.ccmIndex + 1)) (8 * field w 54 52 + 7) 0 =
             data.toNat % 2 ^ (8 * field w 54 52 + 8)))) ∧
       Gives (.ccmStretchTimeout n) s (ended x.ccmIndex 2)) ∧
     (s.flag (Reg.camTrigCtrl n) 0 = true → x.trigNext ≤ s.gate.toNat →
       let start := (s.reg (Reg.camTrigStart n)).toNat
       let period := s.fld (Reg.camTrigPeriod n) 31 0
       Gives (.frameSyncTrigger n) s (fun u => u = { s with ports := u.ports } ∧ (∀ j : PortId, j ≠ n → u.ports[j] = s.ports[j]) ∧
         (n.val < 12 → (u.ports[n]).trigSent = x.trigSent ++ [BitVec.ofNat 64 x.trigNext] ∧ (u.ports[n]).trigHigh = x.trigHigh) ∧
         (12 ≤ n.val → (u.ports[n]).trigSent = x.trigSent ∧ (u.ports[n]).trigHigh = x.trigNext + s.fld (Reg.camTrigCtrl n) 19 10 * 1000) ∧
         (x.trigNext < start → (u.ports[n]).trigNext = start) ∧
         (start ≤ x.trigNext → 0 < period → x.trigNext < (u.ports[n]).trigNext ∧ (u.ports[n]).trigNext ≤ x.trigNext + period ∧
           ∃ i, (u.ports[n]).trigNext = start + i * period)))) ∧
  (∀ (s : State) (n : PortId), s.works = true → n.val < 12 →
     let st := s.pocState n
     let c := Reg.camPocStatus n
     let goes := fun (x : Nat) (u : State) => u.pocState n = x ∧ (u.ports[n]).pocPin = (x == 1) ∧
       (u.ports[n]).blanking = (x == 1 && u.fld (Reg.camPocCtrl n) 17 11 != 0) ∧ u.mem = s.mem
     (∀ v : BitVec 32,
       Gives (.pocEnable n v) s (fun u => (u.reg (Reg.camPocCtrl n)).toNat = pocValue (setBit v 0 true) ∧
         ((st = 0 ∨ st = 3) → goes 1 u ∧ u.fld c 15 8 = 0) ∧ (¬ (st = 0 ∨ st = 3) → u.reg c = s.reg c ∧ u.ports = s.ports)) ∧
       Gives (.pocDisable n v) s (fun u => goes 0 u ∧ (u.reg (Reg.camPocCtrl n)).toNat = pocValue (setBit v 0 false))) ∧
     (∀ mA, st = 1 → s.tripLevel n < mA → Gives (.pocTrip n mA) s (fun u => goes 2 u ∧ u.flag c 4 = true ∧
       (u.reg (Reg.camPocTripCount n)).toNat = satAdd 32 (s.reg (Reg.camPocTripCount n)).toNat 1)) ∧
     (st = 2 → Gives (.pocRetry n) s (fun u =>
       if s.fld c 15 8 < s.fld (Reg.camPocCtrl n) 30 28 then goes 1 u ∧ u.fld c 15 8 = s.fld c 15 8 + 1
       else goes 3 u ∧ u.fld c 15 8 = s.fld c 15 8)) ∧
     Gives (.pocBlankingEnd n) s (fun u => u = { s with ports := u.ports } ∧ (u.ports[n]).blanking = false ∧
       (u.ports[n]).pocPin = (s.ports[n]).pocPin ∧ u.tripLevel n = s.fld (Reg.camPocCtrl n) 10 4 * 10) ∧
     (∀ mA, st = 1 → mA < 5 → Gives (.pocOpen n mA) s (fun u => u.flag c 5 = true ∧ u.pocState n = 1 ∧ u.ports = s.ports ∧
       u.mem = s.mem)))

/-! ## Encoders, decoder, Ethernet, stand-alone operation (R258, R275–R291) -/

/-- R258, R277, R279, R281, R282, R287, R288, R290: a commit takes the streams of the party that commits, and leaves every other; the
pool and the ring's read pointer take a legal value and ignore any other; an owner bit waits for the port's next frame start; sender
reports go to DST_PORT + 1 on the links that are up; a device without autostart does nothing at STANDALONE_START. A committed set that
names no port and channel, for a stream that knows none yet, stops the stream at the commit (R259; log 54, the model's choice of when).
R276, R278, R280, R281, R305: an access unit that keeps the block's rules ends the oldest frame of its encoder: it enters the
ring whole, behind a wrap header where the ring's end is too near, or is lost and counted, with an IDR frame to follow; a unit that
breaks a rule ends no frame. The model's choices among these clauses: the bytes of a wrap header after its length (log 53); what counts
as an access unit of this encoder (log 115); and, where a controller is frozen, that the frame ends without an access unit, and that a
record with a dropped part is lost without a count (log 131).
R283, R286: the same access unit leaves as RTP on each Ethernet port that OUT names and whose link is up, its packets in
sequence, all with the timestamp of the frame start and the marker on the last; on a port whose link is down they are discarded and
counted. No payload exceeds what the MTU leaves.
R277, R282, R305: a completed descriptor has its rows in memory before STATUS, and HEAD behind it; the decoder's share of the codec
region returns when the queue empties; a concealed frame is the reference frame unchanged, and after an error only an IDR frame is
decoded as such; a refused descriptor writes no rows; a bad result that is no output of the decoder ends no descriptor; behind a frozen
controller reads give zeros and writes are dropped. The model's choices: HEAD moves round the queue (log 52), and rows that have not the
stream's form end no descriptor (log 115). -/
def Obligations.CodecCommands : Prop :=
  (∀ s : State,
     (s.works = true →
     (∀ (p : PipeId) (lodge : Bool) (v : BitVec 16),
       let taken := fun (st : StreamId) => v.getLsbD st.val && s.owns lodge p st
       let unnamed := fun (st : StreamId) =>
         taken st && decide ((s.stream p st).known = [] ∧ namesPort (s.regBytes (Reg.ispShadow p st) 1) = false)
       ((∀ st, unnamed st = false) → Gives (.ispCommit p ⟨lodge, v⟩) s (fun u => u = { s with regs := u.regs } ∧
         (∀ st : StreamId, u.setPending p st = (s.setPending p st || taken st)) ∧ SameRegs [Reg.ispPending p] s u)) ∧
       Gives (.ispCommit p ⟨lodge, v⟩) s (fun u =>
         (∀ st, unnamed st = false → u.stream p st = s.stream p st ∧ u.setPending p st = (s.setPending p st || taken st)) ∧
         (∀ st, unnamed st = true → (u.stream p st).stopped = true ∧ u.setPending p st = false ∧
           u.flag (Reg.ispStreamErr p) st = true) ∧
         u.mem = s.mem ∧ u.enc = s.enc ∧ u.ports = s.ports ∧ u.standing = s.standing)) ∧
     (∀ (lodge : Bool) (v : BitVec 32), Gives (.encCommit ⟨lodge, v⟩) s (fun u => u = { s with regs := u.regs } ∧
       (∀ i : EncId, u.flag Reg.vcEncPending i =
         (s.flag Reg.vcEncPending i || (v.getLsbD i.val && s.owns lodge (encPipe i) (encCtx i)))) ∧
       SameRegs [Reg.vcEncPending] s u)) ∧
     (∀ v : BitVec 32,
       let n := v.toNat % 4096 * 64 * 2 ^ 20
       let legal := (∀ i : EncId, (s.enc[i]).active = false) ∧ s.decBusy = false ∧ n ≤ s.lodgeBase ∧
         overlaps (s.lodgeBase - n) n s.tableRegion.1 s.tableRegion.2 = false ∧ s.lastGroup ≤ s.lodgeBase - n
       (legal → Gives (.poolSizeWrite v) s (fun u => u = { s with regs := u.regs } ∧
         (u.reg Reg.vcPoolSize).toNat = v.toNat % 4096 ∧ SameRegs [Reg.vcPoolSize] s u)) ∧
       (¬ legal → Gives (.poolSizeWrite v) s (fun u => u = s))) ∧
     (∀ v : BitVec 16, Gives (.saOwnerWrite v) s (fun u => u = { s with ports := u.ports } ∧
       ∀ n : PortId, u.ports[n] = { s.ports[n] with
         ownerPending := if v.getLsbD n.val = s.lodgeOwns n then none else some (v.getLsbD n.val) })) ∧
     (∀ i : EncId, (s.enc[i]).active = true →
       let b := s.encBlock i
       let report := fun q => EthPacket.senderReport q i (s.ethMac q) (s.ethIp q) (addressing b 1) (ntpOf (s.taiAt s.gate))
         (s.rtpStamp s.gate) ((s.enc[i]).packets % 2 ^ 32) ((s.enc[i]).octets % 2 ^ 32)
       let goes := fun q => encOut b (q + 1) && s.flag (Reg.ethStatus q) 0
       let lost := fun q => encOut b (q + 1) && !s.flag (Reg.ethStatus q) 0
       Gives (.rtcpSenderReport i) s (fun u =>
         u = { s with regs := u.regs, net := { s.net with sent :=
           s.net.sent ++ (if goes 0 then [report 0] else []) ++ (if goes 1 then [report 1] else []) } } ∧
         (∀ q, q < 2 →
           u.reg (Reg.ethTxPktCount q) = (if goes q then BitVec.ofNat 64 (satAdd 64 (s.reg (Reg.ethTxPktCount q)).toNat 1)
             else s.reg (Reg.ethTxPktCount q)) ∧
           u.reg (Reg.ethTxDiscardCount q) = (if lost q then BitVec.ofNat 64 (satAdd 32 (s.reg (Reg.ethTxDiscardCount q)).toNat 1)
             else s.reg (Reg.ethTxDiscardCount q))) ∧
         SameRegs [Reg.ethTxPktCount 0, Reg.ethTxPktCount 1, Reg.ethTxDiscardCount 0, Reg.ethTxDiscardCount 1] s u))) ∧
     (s.works = true → ∀ (i : EncId) (v : W64),
       let legal := (s.reg (Reg.vcEncRptr i)).toNat ≤ v.toNat ∧ v.toNat ≤ (s.reg (Reg.vcEncWptr i)).toNat
       (legal → Gives (.ringReadPointerWrite i v) s (fun u => u = { s with regs := u.regs } ∧ u.reg (Reg.vcEncRptr i) = v ∧
         SameRegs [Reg.vcEncRptr i] s u)) ∧
       (¬ legal → Gives (.ringReadPointerWrite i v) s (fun u => u = s))) ∧
     (s.works = true → ∀ v : BitVec 16, Gives (.decoderDoorbell v) s (fun u => u = { s with regs := u.regs } ∧
       u.reg Reg.vcDecTail = v.zeroExtend 64 ∧ SameRegs [Reg.vcDecTail] s u)) ∧
     (s.works = true → s.lodge.inReset = false → s.hifState ≠ 0 → s.lodge.autoStarted = false →
       (Config.profileSet s.lodge.profile = none → Gives .standaloneStart s (fun u => u = s)) ∧
       (∀ x, Config.profileSet s.lodge.profile = some x →
         (x.autostart = false → Gives .standaloneStart s (fun u => u = s)) ∧
         (x.autostart = true → Gives .standaloneStart s (fun u => u.lodge = { s.lodge with autoStarted := true } ∧
           u.mem = s.mem ∧ u.jobs = s.jobs ∧ u.cores = s.cores ∧
           (∀ e, x.eth = [e] → e.port < 2 →
             u.flag (Reg.ethCtrl e.port) 0 = !decide (e.mac = 0 ∨ e.mac.getLsbD 40 = true) ∧
             u.reg (Reg.ethIpv4 e.port) = e.ip.zeroExtend 64 ∧ u.reg (Reg.ethMac e.port) = e.mac.zeroExtend 64)))))) ∧
  (∀ (s : State) (i : EncId) (unit : AccessUnit) (x : EncInput) (xs : List EncInput) (rest : List StreamId),
     let b := x.block
     let e := s.enc[i]
     let idr := idrDue e b x
     s.works = true → s.encOrder[encPipe i] = encCtx i :: rest → e.inputs = x :: xs → x.picture ≠ none →
     (s.codecFrozen ≠ [] → Gives (.encodeFrameComplete i unit) s (fun u =>
       u = { s with
         enc := u.enc, encOrder := s.encOrder.set (encPipe i) rest, regs := u.regs, draws := s.draws + s.codecFrozen.length } ∧
       (∀ j, j ≠ i → u.enc[j] = s.enc[j]) ∧ u.enc[i] = { e with inputs := xs } ∧
       (∀ (j : Nat) (d : DmcId), s.codecFrozen[j]? = some d → u.reg (Reg.dmcFrzDiscardCount d) =
         BitVec.ofNat 64 (satAdd 32 (s.reg (Reg.dmcFrzDiscardCount d)).toNat (Config.codecRequests (s.draws + j)))) ∧
       SameRegs (s.codecFrozen.map (fun d => Reg.dmcFrzDiscardCount d)) s u)) ∧
     (s.codecFrozen = [] → unitOk b e x idr unit = false → Gives (.encodeFrameComplete i unit) s (fun u => u = s)) ∧
     (s.codecFrozen = [] → unitOk b e x idr unit = true →
       let base := (encRing b).1
       let size := (encRing b).2
       let w := (s.reg (Reg.vcEncWptr i)).toNat
       let flags := idr.toNat + 2 * x.dropBefore.toNat + 4 * e.ringGap.toNat
       let rec_ := auRecord x flags (unitBytes unit)
       let wrap := decide (size < w % size + rec_.length)
       let skip := if wrap then size - w % size else 0
       let place := base + (if skip = 0 then w % size else 0)
       let full := decide (size < skip + rec_.length + (w - (s.reg (Reg.vcEncRptr i)).toNat))
       let cut := (skip != 0 && s.frozenRange (base + w % size) 32) || s.frozenRange place rec_.length
       let lost := encOut b 0 && (full || cut)
       let kept := encOut b 0 && !full && !cut
       let net := encOut b 1 || encOut b 2
       let ps := rtpPayloads b (unitBytes unit)
       let count := fun off (c : Bool) (n : Nat) (u : State) =>
         u.reg off = if c then BitVec.ofNat 64 (satAdd 32 (s.reg off).toNat n) else s.reg off
       Gives (.encodeFrameComplete i unit) s (fun u =>
         u = { s with
           enc := u.enc, encOrder := s.encOrder.set (encPipe i) rest, mem := u.mem, dmc := u.dmc, regs := u.regs
           reports := u.reports, reservedUsed := u.reservedUsed, net := { s.net with sent := u.net.sent } } ∧
         (∀ j, j ≠ i → u.enc[j] = s.enc[j]) ∧
         u.enc[i] = { e with
           inputs := xs, forceIdr := lost, sinceIdr := if idr then 1 else e.sinceIdr + 1, lastCoded := some x.number
           hrdLevel := hrdAfter b e x unit, hrdAt := some x.start, ringGap := if encOut b 0 then lost else e.ringGap
           meanCoded := e.meanCoded + 8000000 * (unitBytes unit).length, meanDue := e.meanDue + meanGain b e x
           rtpSeq := if net then (e.rtpSeq + ps.length) % 65536 else e.rtpSeq
           packets := if net then e.packets + ps.length else e.packets
           octets := if net then e.octets + (ps.map (·.length)).sum else e.octets } ∧
         (kept = true → u.rd place rec_.length = rec_ ∧
           (skip ≠ 0 → u.rd (base + w % size) 32 = recordHeader x 0xFFFFFFFF flags) ∧
           u.reg (Reg.vcEncWptr i) = BitVec.ofNat 64 (w + skip + rec_.length)) ∧
         (kept = false → u.reg (Reg.vcEncWptr i) = s.reg (Reg.vcEncWptr i)) ∧
         (kept = false → cut = false ∨ full = true → u.mem = s.mem ∧ u.dmc = s.dmc) ∧
         (∀ a, ¬ (place ≤ a ∧ a < place + rec_.length) → ¬ (skip ≠ 0 ∧ base + w % size ≤ a ∧ a < base + w % size + 32) →
           u.byteAt a = s.byteAt a) ∧
         (∀ a, s.frozenAt a = true → u.byteAt a = s.byteAt a) ∧
         (s.noneFrozen = true → SameRegs ([Reg.vcEncWptr i, Reg.vcRingDropCount (encPipe i), Reg.vcHrdViolCount (encPipe i),
           Reg.ethTxPktCount 0, Reg.ethTxPktCount 1, Reg.ethTxDiscardCount 0, Reg.ethTxDiscardCount 1, Reg.errClassCount 7,
           Reg.errLostCount] ++ initRegs) s u) ∧
         count (Reg.vcRingDropCount (encPipe i)) (encOut b 0 && full) 1 u ∧
         count (Reg.vcHrdViolCount (encPipe i)) (hrdBroken b e x unit) 1 u ∧
         SameRegs ([Reg.vcEncWptr i, Reg.vcRingDropCount (encPipe i), Reg.vcHrdViolCount (encPipe i), Reg.ethTxPktCount 0,
           Reg.ethTxPktCount 1, Reg.ethTxDiscardCount 0, Reg.ethTxDiscardCount 1, Reg.errClassCount 7, Reg.errLostCount] ++
           initRegs ++ frozenCounts) s u))) ∧
  ((∀ (s : State) (i : EncId) (unit : AccessUnit) (x : EncInput) (xs : List EncInput) (rest : List StreamId),
     let b := x.block
     let e := s.enc[i]
     s.works = true → s.encOrder[encPipe i] = encCtx i :: rest → e.inputs = x :: xs → x.picture ≠ none → s.codecFrozen = [] →
     unitOk b e x (idrDue e b x) unit = true →
     let ps := rtpPayloads b (unitBytes unit)
     let goes := fun q => encOut b (q + 1) && s.flag (Reg.ethStatus q) 0
     let lost := fun q => encOut b (q + 1) && !s.flag (Reg.ethStatus q) 0
     Gives (.encodeFrameComplete i unit) s (fun u =>
       (∃ l0 l1 : List EthPacket, u.net.sent = s.net.sent ++ l0 ++ l1 ∧
         ∀ q, q < 2 →
           let l := if q = 0 then l0 else l1
           l.length = (if goes q then ps.length else 0) ∧
           ∀ j, j < l.length → l[j]? = some (.rtp q i (s.ethMac q) (s.ethIp q) (addressing b 0) ((e.rtpSeq + j) % 65536)
             (s.rtpStamp x.start) (j + 1 == ps.length) (ps.getD j []))) ∧
       ∀ q, q < 2 →
         u.reg (Reg.ethTxPktCount q) = (if goes q then BitVec.ofNat 64 (satAdd 64 (s.reg (Reg.ethTxPktCount q)).toNat ps.length)
           else s.reg (Reg.ethTxPktCount q)) ∧
         u.reg (Reg.ethTxDiscardCount q) = (if lost q then
             BitVec.ofNat 64 (satAdd 32 (s.reg (Reg.ethTxDiscardCount q)).toNat ps.length)
           else s.reg (Reg.ethTxDiscardCount q)))) ∧
   (∀ b unit : List Byte, 576 ≤ leAt b 0x3C 2 → ∀ p ∈ rtpPayloads b unit, p.length + 40 ≤ leAt b 0x3C 2)) ∧
  ((∀ (s : State) (r : DecodeResult),
     let head := s.fld Reg.vcDecHead 15 0 % s.decSize
     let a := s.fld Reg.vcDecQbase 63 12 * 4096 + 64 * head
     let d := (s.rtRead a 64).1
     s.works = true → s.decBusy = true → s.plainDram a 64 = true →
     (s.noneFrozen = true → d = s.rd a 64) ∧
     (∀ n, n < 64 → d[n]? = some (if s.frozenAt (a + n) then 0 else s.byteAt (a + n))) ∧
     (s.decodes d r = none → Gives (.decodeComplete r) s (fun u => u = s)) ∧
     (∀ x, s.decodes d r = some x →
       let pitch := leAt d 32 4
       let inRow := fun (at_ : Nat) (rows : List (List Byte)) (n y : Nat) =>
         n < rows.length ∧ at_ + pitch * n ≤ y ∧ y < at_ + pitch * n + (rows.getD n []).length
       let live := fun (y : Nat) => s.frozenAt y = false
       Gives (.decodeComplete r) s (fun u =>
         u = { s with
           mem := u.mem, dmc := u.dmc, regs := u.regs, reports := u.reports, reservedUsed := u.reservedUsed
           net := { s.net with
             decBytes := if u.decBusy then x.share else 0, decShape := if u.decBusy then x.shape else none, decError := x.error
             reference := if x.status = 1 then (x.luma, x.chroma) else s.net.reference } } ∧
         (live (a + 40) → (u.byteAt (a + 40)).toNat = x.status % 256) ∧ (u.reg Reg.vcDecHead).toNat = (head + 1) % s.decSize ∧
         (∀ n y, live y → inRow (leAt d 24 8) x.chroma n y → (∀ m, n < m → ¬ inRow (leAt d 24 8) x.chroma m y) → y ≠ a + 40 →
           u.byteAt y = (x.chroma.getD n []).getD (y - (leAt d 24 8 + pitch * n)) 0) ∧
         (∀ n y, live y → inRow (leAt d 16 8) x.luma n y → (∀ m, n < m → ¬ inRow (leAt d 16 8) x.luma m y) →
           (∀ m, ¬ inRow (leAt d 24 8) x.chroma m y) → y ≠ a + 40 →
           u.byteAt y = (x.luma.getD n []).getD (y - (leAt d 16 8 + pitch * n)) 0) ∧
         (∀ y, (¬ live y ∨ ∀ n, ¬ inRow (leAt d 16 8) x.luma n y ∧ ¬ inRow (leAt d 24 8) x.chroma n y ∧ y ≠ a + 40) →
           u.byteAt y = s.byteAt y) ∧
         (s.noneFrozen = true → SameRegs ([Reg.vcDecHead, Reg.errClassCount 7, Reg.errLostCount] ++ initRegs) s u) ∧
         SameRegs ([Reg.vcDecHead, Reg.errClassCount 7, Reg.errLostCount] ++ initRegs ++ frozenCounts) s u))) ∧
   (∀ (s : State) (d : List Byte) (r : DecodeResult) (x : Decoded), s.decodes d r = some x →
     (x.status = 1 ∨ x.status = 2 ∨ x.status = 3 ∨ x.status = 4) ∧
     (x.status = 1 → x.error = false ∧ ∃ f, r = .done f x.luma x.chroma ∧ rowsShaped f x.luma x.chroma = true ∧
       codedOk (leAt d 12 1) f = true ∧ (f.dpb = none → s.net.decError = false) ∧
       (∀ n, f.dpb = some n → (n + 1) * frameBuffer (f.width, f.height, f.tenBit.toNat) ≤ x.share ∧
         x.shape = some (f.width, f.height, f.tenBit))) ∧
     (x.status = 2 → x.error = true ∧ x.luma = s.net.reference.1 ∧ x.chroma = s.net.reference.2 ∧
       (r = .concealed ∨ (s.net.decError = true ∧ ∃ f l c, r = .done f l c ∧ f.dpb = none))) ∧
     (x.status = 3 ∨ x.status = 4 → x.luma = [] ∧ x.chroma = [] ∧ x.error = s.net.decError)))

/-- R283–R285: a link comes up on an enabled port with its clock; a frame that is no PTP message is discarded and counted, and a
message of another transport or domain is not heard; a Sync of the chosen master moves the offset, unless the device takes it from
a cascade's master, and a delay request of the mechanism follows it; responses give the mean path delay; a better master is taken;
the clock is locked after 10 s within 1 µs that Syncs without a gap of 3 s show, and no longer after 3 s without a Sync, with the offset
held. The model's choices (log 64): the delay request goes out with the Sync, which master is heard before one has announced itself, and
a master that has not announced itself for the clock's time-out is none any more. -/
def Obligations.EthernetAndPtp : Prop :=
  ∀ (s : State) (p : EthId),
    (s.works = true → s.flag (Reg.ethCtrl p) 0 = true → s.board.clocksLost.contains .eth = false →
      Gives (.ethLinkChange p true) s (fun u => u = { s with regs := u.regs } ∧ u.flag (Reg.ethStatus p) 0 = true ∧
        SameRegs [Reg.ethStatus p] s u)) ∧
    Gives (.ethLinkChange p false) s (fun u => u = { s with regs := u.regs } ∧ u.flag (Reg.ethStatus p) 0 = false ∧
      SameRegs [Reg.ethStatus p] s u) ∧
    (s.works = true → s.flag (Reg.ethStatus p) 0 = true →
      Gives (.ethFrameReceive p .other) s (fun u => u = { s with regs := u.regs } ∧ SameRegs [Reg.ethRxDiscardCount p] s u ∧
        (u.reg (Reg.ethRxDiscardCount p)).toNat = satAdd 32 (s.reg (Reg.ethRxDiscardCount p)).toNat 1) ∧
      ∀ m : PtpMessage,
        let peer := s.flag (Reg.ethPtpCtrl 0) 3
        let gives := fun (P : State → Prop) => Gives (.ethFrameReceive p (.ptp m)) s P
        let sends := fun (x : PtpSent) (u : State) =>
          u.net.sent = s.net.sent ++ [.ptp p (s.ethMac p) (s.ethIp p) m.ieee8023 m.domain x]
        let synced := fun (origin : Nat) (arrival : W64) (u : State) =>
          let off : Int := (origin : Int) + s.net.meanDelay - arrival.toNat
          u = { s with regs := u.regs, net := u.net } ∧ SameRegs [Reg.ethPtpOffset 0, Reg.ethTxPktCount p] s u ∧
          u.net.lastSync = s.gate ∧
          u.net.withinSince = (if -1000 ≤ off ∧ off ≤ 1000 then
            some (if s.gate.toNat < s.net.lastSync.toNat + 3000000000 then s.net.withinSince.getD s.gate else s.gate) else none) ∧
          u.reg (Reg.ethPtpOffset 0) = (if s.isEnum = true ∧ s.isMaster = false then s.reg (Reg.ethPtpOffset 0)
            else s.reg (Reg.ethPtpOffset 0) + BitVec.ofInt 64 off) ∧
          sends (if peer then .pdelayReq else .delayReq) u ∧ u.net.requestAt = some u.ownTai ∧ u.net.syncWaits = none ∧
          u.net.syncPair = some (origin, arrival + (u.reg (Reg.ethPtpOffset 0) - s.reg (Reg.ethPtpOffset 0))) ∧
          u.net.meanDelay = s.net.meanDelay ∧ u.net.best = s.net.best
        (s.ptpHears p m = false → gives (fun u => u = s)) ∧
        (s.ptpHears p m = true →
          (m.body = .other → gives (fun u => u = s)) ∧
          (∀ rank, m.body = .announce rank →
            (s.bestMaster = none →
              gives (fun u => u = { s with net := { s.net with best := some (p, rank, m.source), bestAt := s.gate } })) ∧
            (∀ q r0 src, s.bestMaster = some (q, r0, src) →
              (rank < r0 ∨ (q = p ∧ src = m.source) →
                gives (fun u => u = { s with net := { s.net with best := some (p, rank, m.source), bestAt := s.gate } })) ∧
              (¬ (rank < r0 ∨ (q = p ∧ src = m.source)) → gives (fun u => u = s)))) ∧
          (s.fromMaster p m = true →
            (∀ origin, m.body = .sync (some origin) → gives (synced origin s.ownTai)) ∧
            (m.body = .sync none →
              gives (fun u => u = { s with net := { s.net with syncWaits := some (m.source, s.ownTai) } })) ∧
            (∀ origin arrival, m.body = .followUp origin → s.net.syncWaits = some (m.source, arrival) →
              gives (synced origin arrival)) ∧
            (∀ received origin arrival sent, m.body = .delayResp received → s.net.syncPair = some (origin, arrival) →
              s.net.requestAt = some sent → peer = false →
              gives (fun u => u = { s with net := { s.net with requestAt := none, meanDelay :=
                ((((arrival.toNat : Int) - origin) + ((received : Int) - sent.toNat)) / 2) } }))) ∧
          (s.fromMaster p m = false → (∀ o, m.body = .sync o → gives (fun u => u = s)) ∧
            (∀ o, m.body = .followUp o ∨ m.body = .delayResp o → gives (fun u => u = s))) ∧
          (m.body = .pdelayReq → (peer = false → gives (fun u => u = s)) ∧
            (peer = true → gives (fun u => u = { s with regs := u.regs, net := { s.net with sent := u.net.sent } } ∧
              SameRegs [Reg.ethTxPktCount p] s u ∧ sends (.pdelayResp s.ownTai s.ownTai) u))) ∧
          (∀ received sent left, m.body = .pdelayResp received sent → s.net.requestAt = some left →
            (peer = true → gives (fun u => u = { s with net := { s.net with requestAt := none, meanDelay :=
              ((((s.ownTai.toNat : Int) - left.toNat) - ((sent : Int) - received)) / 2) } })) ∧
            (peer = false → gives (fun u => u = s))))) ∧
    (∀ q r0 src, s.bestMaster = some (q, r0, src) → s.net.best = some (q, r0, src) ∧ s.flag (Reg.ethStatus q) 0 = true ∧
      s.gate.toNat ≤ s.net.bestAt.toNat + Config.announceTimeout) ∧
    (s.works = true → s.flag (Reg.ethPtpCtrl 0) 0 = true → ∀ g, s.net.withinSince = some g →
      (g.toNat + 10000000000 ≤ s.gate.toNat → s.gate.toNat < s.net.lastSync.toNat + 3000000000 →
        Gives .ptpLock s (fun u => u = { s with regs := u.regs } ∧
          u.flag (Reg.ethPtpStatus 0) 0 = true ∧ SameRegs [Reg.ethPtpStatus 0] s u)) ∧
      ((s.gate.toNat < g.toNat + 10000000000 ∨ s.net.lastSync.toNat + 3000000000 ≤ s.gate.toNat) →
        Gives .ptpLock s (fun u => u = s))) ∧
    (s.works = true → s.flag (Reg.ethPtpStatus 0) 0 = true → s.net.lastSync.toNat + 3000000000 ≤ s.gate.toNat →
      Gives .ptpLockLoss s (fun u => u = { s with regs := u.regs, net := { s.net with withinSince := none } } ∧
        u.flag (Reg.ethPtpStatus 0) 0 = false ∧ SameRegs [Reg.ethPtpStatus 0] s u))

/-! ## DRAM controllers (R292–R307) -/

/-- R296: an address of a group's share of usable DRAM lies in its controller g × n + c, c the exclusive or of the w-bit fields of
its 4 KiB block number, at (b >> w) × 4096 + its low 12 bits; and no two addresses lie in one place, for the place gives the address.
R158, R295, R297, R303: a request in reach of a running controller is accepted where its channel's queue has room, and a write
then stands in memory; without room it waits at the input; none is lost or made twice. The Groomer's scrub reads and initialising
writes come in the same way, and an accepted initialising write raises the mark. An address in no DRAM faults, and a frozen
controller takes a request as R305 says. The model's choices: the stop at an address in no DRAM (NOTES.md, Stops), and when the next
scrub read is due (log 117).
R298: what a channel issues next: the oldest promoted request; else, of the first class that waits, a request that 16 have
passed; else one to an open row; else the oldest.
R295, R298, R300–R303: a channel first issues what is due before any request: refresh management, and a refresh once as many are
postponed as the standard permits. It then issues its next request, opening its row where it is closed: the neighbour refresh due in
the bank goes first, and no bank is activated beyond the device's maximum, by that refresh either. The block is checked where its code
is in force, a corrected one counted, an uncorrectable one kept and about to freeze the controller at the place where the address lies;
each activate is counted on its channel and may be drawn for neighbour refresh. Which rows a bank has, and the order of neighbour
refreshes, are the model's reading (log 116).
R301, R302: the neighbour refresh due in a bank activates rows that the draws chose, each counted in its bank and on its channel and
drawn in its turn, and stops at the device's maximum (log 116 orders them).
R153, R297, R298, R301, R304, R305: a request that has waited AGE_LIMIT in its queue is promoted and counted, and one that has
waited at the input; a refresh is postponed while requests wait, up to the limit, and with none waiting all that are postponed are
issued, each to the channel's bank with the most activates; refresh management goes to each bank at the device's threshold; an idle
channel with nothing due enters self-refresh and leaves it for a request; a mode register that reads otherwise, or tracking out of its
limits, is about to freeze the controller. That a refresh goes to the bank with the most activates is the model's reading (log 116), and
that the end of a wait is the command's arrival (log 14). -/
def Obligations.DramService : Prop :=
  (∀ (s : State) (a : Nat),
     let size := s.usable / s.liveGroups.length
     let n := s.groupSize
     let w := groupBits n
     let b := (a % size) / 4096
     (∀ g, s.liveGroups[a / size]? = some g → size ≠ 0 → ∃ d : DmcId, d.val = g * n + xorFields w 30 (b % 2 ^ 30) ∧
       s.dramAt a = some (d, b / 2 ^ w * 4096 + a % 4096)) ∧
     (s.liveGroups[a / size]? = none ∨ size = 0 → s.dramAt a = none) ∧
     (∀ (d : DmcId) (l : Nat), size % 4096 = 0 → s.dramAt a = some (d, l) → s.dramAddr d l = a)) ∧
  ((∀ (s : State) (r : DramRequest),
     (s.dramAt r.addr = none → exec (.dramRequest r) s = .fault (.noSuchMemory r.addr)) ∧
     (∀ (d : DmcId) (l : Nat), s.dramAt r.addr = some (d, l) →
       (s.off = true → Gives (.dramRequest r) s (fun u => u = s)) ∧
       (s.dmcState d = 2 → exec (.dramRequest r) s = exec (.frozenRequest r) s) ∧
       (s.dmcRuns d = true →
         let x := s.dmc[d]
         let c := placeChannel (placeOf d l)
         Gives (.dramRequest r) s (fun u =>
           (((u.dmc[d]).input ++ (u.dmc[d]).queues.toList.flatten).map (·.req)).Perm
             (r :: (x.input ++ x.queues.toList.flatten).map (·.req)) ∧ ∀ e : DmcId, e ≠ d → u.dmc[e] = s.dmc[e]) ∧
         (x.input = [] → queueRoom x.queues[c] r.cls = true → Gives (.dramRequest r) s (fun u => (u.dmc[d]).input = [] ∧
           (u.dmc[d]).queues = x.queues.set c (x.queues[c] ++ [⟨r, false, 0, s.gate, none⟩]) ∧
           u = { s with dmc := u.dmc, mem := u.mem, regs := u.regs } ∧ SameRegs [Reg.dmcInitMark d, Reg.dmcStatus d] s u ∧
           (∀ a, u.byteAt a = if r.write = true ∧ r.addr ≤ a ∧ a < r.addr + r.data.length then r.data.getD (a - r.addr) 0
             else s.byteAt a))) ∧
         (x.input = [] → queueRoom x.queues[c] r.cls = false → Gives (.dramRequest r) s (fun u => u = { s with dmc := u.dmc } ∧
           (u.dmc[d]).input = [⟨r, false, 0, s.gate, none⟩] ∧ (u.dmc[d]).queues = x.queues))))) ∧
   (∀ (s : State) (d : DmcId), s.dmcRuns d = true →
     let x := s.dmc[d]
     let top := s.dmcBytes / 64
     let comes := fun (r : DramRequest) (u : State) =>
       (((u.dmc[d]).input ++ (u.dmc[d]).queues.toList.flatten).map (·.req)).Perm
         (r :: (x.input ++ x.queues.toList.flatten).map (·.req)) ∧ (x.input = [] → ∀ a, u.byteAt a = s.byteAt a)
     (x.scrubBlock < top → x.selfRefresh[placeChannel (placeOf d (64 * x.scrubBlock))] = false →
       ∀ o,
       (s.scrubPeriod d ≤ o →
         Gives (.scrubRead d o) s (fun u => comes ⟨.scrub, false, s.dramAddr d (64 * x.scrubBlock), [], none⟩ u ∧
           (u.dmc[d]).scrubBlock = (if x.scrubBlock + 1 = top then 0 else x.scrubBlock + 1))) ∧
       (o < s.scrubPeriod d → Gives (.scrubRead d o) s (fun u => u = s))) ∧
     (s.initMark d < top →
       Gives (.initBlock d) s (comes ⟨.initialise, true, s.dramAddr d (64 * s.initMark d), [], none⟩)) ∧
     (let l := 64 * s.initMark d
      s.initMark d < top → s.dmcBytes < 2 ^ 64 → s.dramAt (s.dramAddr d l) = some (d, l) → x.input = [] →
      queueRoom x.queues[placeChannel (placeOf d l)] .groom = true →
      Gives (.initBlock d) s (fun u => (∀ a, u.byteAt a = s.byteAt a) ∧ s.initMark d < u.initMark d ∧ u.initMark d ≤ top ∧
        (u.initMark d = top → u.flag (Reg.dmcStatus d) 3 = true))))) ∧
  (∀ (s : State) (d : DmcId) (q : List Queued),
     (s.nextIssue d q = none ↔ q = []) ∧
     ∀ n, s.nextIssue d q = some n → ∃ r, q[n]? = some r ∧
       let first := fun (p : Queued → Bool) => p r = true ∧ ∀ m y, m < n → q[m]? = some y → p y = false
       let mine := fun (y : Queued) => classRank y.req.cls == classRank r.req.cls
       let passed := fun (y : Queued) => mine y && decide (16 ≤ y.passed)
       let opened := fun (y : Queued) => mine y && s.dmc[d].isOpen (s.queuedPlace d y)
       ((∃ y ∈ q, y.promoted = true) → first (fun y => y.promoted)) ∧
       ((∀ y ∈ q, y.promoted = false) →
         (∀ y ∈ q, classRank r.req.cls ≤ classRank y.req.cls) ∧
         ((∃ y ∈ q, passed y = true) → first passed) ∧
         ((∀ y ∈ q, passed y = false) → ((∃ y ∈ q, opened y = true) → first opened) ∧
           ((∀ y ∈ q, opened y = false) → first mine)))) ∧
  (∀ (s : State) (d : DmcId) (ch : ChannelId) (o : DramOutcome),
     let x := s.dmc[d]
     let t := s.issueDue d ch
     let limit := x.postponed[ch] ≠ 0 ∧ Config.refreshPostpone ≤ x.postponed[ch]
     s.dmcRuns d = true → x.selfRefresh[ch] = false →
     ((t.dmc[d]).queues = x.queues ∧ (t.dmc[d]).input = x.input ∧ t.mem = s.mem ∧
       (t.dmc[d]).postponed = (if limit then x.postponed.set ch (x.postponed[ch] - 1) else x.postponed) ∧
       (t.reg (Reg.dmcRfmCount d)) = (if (s.rfmBanks d ch).isEmpty = true then s.reg (Reg.dmcRfmCount d) else
         BitVec.ofNat 64 (satAdd 64 (s.reg (Reg.dmcRfmCount d)).toNat (s.rfmBanks d ch).length)) ∧
       (¬ limit → (s.rfmBanks d ch).isEmpty = true → t = s)) ∧
     Gives (.dramRequestServed d ch o) s (fun u => (u.dmc[d]).postponed = (t.dmc[d]).postponed ∧
       (canonical 0 x.rolling = true → ∀ m b, s.board.rfm = some m →
         lookupD 0 (u.dmc[d]).rolling b ≤ max m.maximum (lookupD 0 x.rolling b))) ∧
     (t.nextIssue d x.queues[ch] = none → Gives (.dramRequestServed d ch o) s (fun u => u = t)) ∧
     ∀ (n : Nat) (r : Queued), t.nextIssue d x.queues[ch] = some n → x.queues[ch][n]? = some r →
       let loc := s.queuedPlace d r
       let bank := placeBank loc
       let row := field loc 48 32
       let opened := (t.dmc[d]).isOpen loc
       let t1 := if opened then t else t.nearFirst d ch bank
       let y := t1.dmc[d]
       let kind := if s.checks d r then o.kind else 0
       let stuck := opened = false ∧ (t1.nearDue d bank || t1.bankFull d bank) = true
       (y.queues = x.queues ∧ t1.mem = s.mem ∧ (opened = false → (∀ b ∈ (t.dmc[d]).neighbours, b.1 ≠ bank) → t1 = t)) ∧
       (stuck → Gives (.dramRequestServed d ch o) s (fun u => u = t1)) ∧
       (¬ stuck → kind ≠ 2 → Gives (.dramRequestServed d ch o) s (fun u =>
         (∃ more, (u.dmc[d]).queues[ch] = removeNth n (passOthers x.queues[ch] n r.req.cls) ++ more ∧
           (x.input = [] → more = [] ∧ u.mem = s.mem)) ∧
         (u.dmc[d]).failing = none ∧
         (r.req.whole = false → ⟨s.gate, Config.dramCommand .read loc⟩ ∈ (u.dmc[d]).history[ch]) ∧
         (r.req.write = true → r.req.whole = false → x.input = [] → s.initMark d ≤ s.queuedBlock r →
           s.dmcBytes < 2 ^ 64 →
           s.queuedBlock r < u.initMark d ∨ s.queuedBlock r ∈ (u.dmc[d]).initialised) ∧
         u.reg (Reg.dmcCeCount d) = (if kind = 1 then BitVec.ofNat 64 (satAdd 64 (s.reg (Reg.dmcCeCount d)).toNat 1)
           else s.reg (Reg.dmcCeCount d)) ∧
         (kind = 1 → ∃ e, e.cls = 3 ∧ e.detail = o.syndrome ∧ e.addr = BitVec.ofNat 64 r.req.addr ∧
           ∃ z : State, z.reports = s.reports ∧ z.reservedUsed = s.reservedUsed ∧ u.reports = (z.report e).reports) ∧
         u.reg (Reg.dmcScrubPassCount d) = (if r.req.requester = .scrub ∧ s.queuedBlock r + 1 = s.dmcBytes / 64 then
           BitVec.ofNat 64 (satAdd 32 (s.reg (Reg.dmcScrubPassCount d)).toNat 1) else s.reg (Reg.dmcScrubPassCount d)) ∧
         (let lo := 16 * classRank r.req.cls
          u.fld (Reg.dmcMaxWait d) (lo + 15) lo =
            max (min ((s.gate.toNat - r.since.toNat) / 10) 65535) (s.fld (Reg.dmcMaxWait d) (lo + 15) lo)))) ∧
       (¬ stuck → kind = 2 → Gives (.dramRequestServed d ch o) s (fun u =>
         (u.dmc[d]).failing = some ⟨if r.req.requester = .scrub then 3 else if r.req.write then 2 else 1,
           r.req.addr / 64 * 64, loc, o.syndrome⟩ ∧
         (u.dmc[d]).queues = x.queues ∧ u.mem = s.mem)) ∧
       (¬ stuck → opened = false →
         let c := placeChannel loc
         let k := y.activates[c]
         let chosen := draw24 (s.reg (Reg.dmcNrSeed d)) (0xFF00 + 4 * d.val + c.val) k < 2 ^ (24 - s.fld (Reg.dmcCtrl d) 23 20)
         Gives (.dramRequestServed d ch o) s (fun u => (u.dmc[d]).activates = y.activates.set c (k + 1) ∧
           (bank, row) ∈ (u.dmc[d]).openRows ∧ (∀ r', (bank, r') ∈ (u.dmc[d]).openRows → r' = row) ∧
           (chosen → u.reg (Reg.dmcNrCount d) = BitVec.ofNat 64 (satAdd 64 (t1.reg (Reg.dmcNrCount d)).toNat 1) ∧
             ∀ r', (bank, r') ∈ (u.dmc[d]).neighbours ↔ (r' + 1 = row ∨ (r' = row + 1 ∧ r' < s.bankRows d))) ∧
           (¬ chosen → u.reg (Reg.dmcNrCount d) = t1.reg (Reg.dmcNrCount d) ∧ ∀ r', (bank, r') ∉ (u.dmc[d]).neighbours)))) ∧
  (∀ (s : State) (d : DmcId) (ch : ChannelId) (bank n : Nat),
     let x := s.dmc[d]
     let u := State.refreshNear d ch bank n s
     let y := u.dmc[d]
     u = { s with dmc := u.dmc, regs := u.regs } ∧ SameRegs [Reg.dmcNrCount d] s u ∧ y.queues = x.queues ∧ y.input = x.input ∧
     (∀ b, b ≠ bank → (∀ row, (b, row) ∈ y.neighbours ↔ (b, row) ∈ x.neighbours) ∧
       (∀ row, (b, row) ∈ y.openRows ↔ (b, row) ∈ x.openRows)) ∧
     (canonical 0 x.rolling = true →
       lookupD 0 y.rolling bank + x.activates[ch] = lookupD 0 x.rolling bank + y.activates[ch] ∧
       (∀ b, b ≠ bank → lookupD 0 y.rolling b = lookupD 0 x.rolling b) ∧
       ∀ m, s.board.rfm = some m → lookupD 0 y.rolling bank ≤ max m.maximum (lookupD 0 x.rolling bank)) ∧
     (∀ r rest, x.neighbours = (bank, r) :: rest → s.bankFull d bank = false → n ≠ 0 → x.activates[ch] < y.activates[ch])) ∧
  (∀ (s : State) (d : DmcId) (ch : ChannelId),
     let x := s.dmc[d]
     s.off = false →
     (∀ (n : Nat) (r : Queued), x.queues[ch][n]? = some r →
       let due := r.promoted = false ∧ s.fld (Reg.dmcCtrl d) 7 0 * 500 ≤ s.gate.toNat - r.since.toNat
       (due → Gives (.dramAgePromotion d ch n) s (fun u => u = { s with dmc := u.dmc, regs := u.regs } ∧
         (u.dmc[d]).queues[ch][n]? = some { r with promoted := true } ∧
         (∀ i, i ≠ n → (u.dmc[d]).queues[ch][i]? = x.queues[ch][i]?) ∧
         (u.reg (Reg.dmcPromoteCount d)).toNat = satAdd 64 (s.reg (Reg.dmcPromoteCount d)).toNat 1 ∧
         SameRegs [Reg.dmcPromoteCount d] s u)) ∧
       (¬ due → Gives (.dramAgePromotion d ch n) s (fun u => u = s))) ∧
     (∀ (n : Nat) (r : Queued), x.input[n]? = some r → Gives (.dramPortPromotion d n) s (fun u =>
       u = { s with dmc := u.dmc } ∧ (u.dmc[d]).input[n]? = some { r with promoted := true } ∧
       (∀ i, i ≠ n → (u.dmc[d]).input[i]? = x.input[i]?) ∧ (u.dmc[d]).queues = x.queues)) ∧
     (s.dmcState d = 1 ∨ s.dmcState d = 2 → x.selfRefresh[ch] = false →
       Gives (.refreshDue d ch true) s (fun u => u = { s with dmc := u.dmc, regs := u.regs } ∧ (u.dmc[d]).queues = x.queues ∧
         SameRegs [Reg.dmcRfmCount d] s u ∧
         ((s.rfmBanks d ch) = [] → u = s) ∧
         ((s.rfmBanks d ch) ≠ [] → (u.reg (Reg.dmcRfmCount d)).toNat =
           satAdd 64 (s.reg (Reg.dmcRfmCount d)).toNat (s.rfmBanks d ch).length) ∧
         (canonical 0 x.rolling = true → ∀ m b, s.board.rfm = some m → 0 < m.threshold →
           lookupD 0 (u.dmc[d]).rolling b =
             (if b / 32 = ch.val ∧ m.threshold ≤ lookupD 0 x.rolling b then lookupD 0 x.rolling b - m.threshold
              else lookupD 0 x.rolling b))) ∧
       (let n := x.postponed[ch] + 1
        let oneRefresh := fun (u : State) =>
         ∀ b v, (b, v) ∈ x.rolling → b / 32 = ch.val → ∃ c w, (c, w) ∈ x.rolling ∧ c / 32 = ch.val ∧ v ≤ w ∧
           (∀ row, (c, row) ∉ (u.dmc[d]).openRows) ∧
           (canonical 0 x.rolling = true → ∀ m, s.board.rfm = some m → lookupD 0 (u.dmc[d]).rolling c = w - m.credit)
        Gives (.refreshDue d ch false) s (fun u => u = { s with dmc := u.dmc } ∧ (u.dmc[d]).queues = x.queues ∧
         (x.queues[ch] = [] → (u.dmc[d]).postponed[ch] = 0 ∧ (n = 1 → oneRefresh u) ∧
           (canonical 0 x.rolling = true → ∀ b, lookupD 0 (u.dmc[d]).rolling b ≤ lookupD 0 x.rolling b ∧
             (b / 32 ≠ ch.val → lookupD 0 (u.dmc[d]).rolling b = lookupD 0 x.rolling b))) ∧
         (x.queues[ch] ≠ [] → Config.refreshPostpone < n → (u.dmc[d]).postponed[ch] = n - 1 ∧ oneRefresh u) ∧
         (x.queues[ch] ≠ [] → n ≤ Config.refreshPostpone → (u.dmc[d]).postponed[ch] = n ∧
           (u.dmc[d]).openRows = x.openRows ∧ (u.dmc[d]).rolling = x.rolling)))) ∧
     (s.dmcRuns d = true → x.selfRefresh[ch] = false → s.fld (Reg.dmcCtrl d) 19 10 ≠ 0 → x.queues[ch] = [] → x.input = [] →
       let t := s.nearAll d ch
       let closed := (fun (u : State) => u = { s with dmc := u.dmc, regs := u.regs } ∧
         ∀ b, b ∈ (u.dmc[d]).openRows ↔ b ∈ (t.dmc[d]).openRows ∧ b.1 / 32 ≠ ch.val)
       ((∀ b ∈ x.neighbours, b.1 / 32 ≠ ch.val) → t = s) ∧
       (∀ e : SelfRefreshTry, e.dueSoon = true ∨ t.upkept d ch = false → Gives (.selfRefreshEntry d ch e) s (fun u => u = t)) ∧
       (t.upkept d ch = true →
         Gives (.selfRefreshEntry d ch ⟨false, false⟩) s (fun u => closed u ∧
           (u.dmc[d]).selfRefresh = x.selfRefresh.set ch true ∧
           (u.reg (Reg.dmcSrEntryCount d)).toNat = satAdd 64 (s.reg (Reg.dmcSrEntryCount d)).toNat 1 ∧
           SameRegs [Reg.dmcSrEntryCount d, Reg.dmcNrCount d] s u) ∧
         Gives (.selfRefreshEntry d ch ⟨false, true⟩) s (fun u => closed u ∧ (u.dmc[d]).selfRefresh = x.selfRefresh ∧
           (u.reg (Reg.dmcSrAbandonCount d)).toNat = satAdd 64 (s.reg (Reg.dmcSrAbandonCount d)).toNat 1 ∧
           SameRegs [Reg.dmcSrAbandonCount d, Reg.dmcNrCount d] s u))) ∧
     (s.fld (Reg.dmcCtrl d) 19 10 = 0 → ∀ e, Gives (.selfRefreshEntry d ch e) s (fun u => u = s)) ∧
     (x.selfRefresh[ch] = true → x.queues[ch] ≠ [] → Gives (.selfRefreshExit d ch) s (fun u => u = { s with dmc := u.dmc } ∧
       (u.dmc[d]).selfRefresh = x.selfRefresh.set ch false ∧ (u.dmc[d]).queues = x.queues)) ∧
     (s.dmcRuns d = true → ∀ b : Byte, Gives (.modeRegisterCheck d ch b) s (fun u => u = { s with dmc := u.dmc } ∧
       (u.dmc[d]).queues = x.queues ∧ (u.dmc[d]).openRows = x.openRows ∧
       (u.dmc[d]).failing = if b = x.modeReg[ch] then none else some ⟨4, 0, channelLoc ch, 0⟩)) ∧
     (s.dmcRuns d = true → x.selfRefresh[ch] = false → ∀ tracking inLimits : Bool,
       Gives (.calibrationDue d ch tracking inLimits) s (fun u => u = { s with dmc := u.dmc } ∧
         (u.dmc[d]).queues = x.queues ∧ (u.dmc[d]).openRows = x.openRows ∧
         (u.dmc[d]).failing = if tracking = true ∧ inLimits = false then some ⟨5, 0, channelLoc ch, 0⟩ else none)))

/-- R305, R307: the freeze captures cause, address, location, syndrome, gate count and, for each channel, its last 64 commands, the most
recent first: those of the requests, which State holds, among those of the upkeep that no row shows. It is counted and recorded. It
answers what is to be answered at once, and ends every job with a request there: its reads are gone and its writes stay.
R221, R305: a request that arrives at a frozen controller is answered at once where it is RT or BAR2, and counted; else it waits,
and its job ends as at the freeze. The stop at an address in no DRAM is the model's (NOTES.md, Stops).
R306: THAW, from host or Lodge, lets a frozen controller go on with what it holds: MODE 0 repeats the failing access, which may be
corrected and counted, and a second uncorrectable result freezes again with a new capture; MODE 1 zeroes the block, and writes held
for it come after; MODE has no effect where no block is at fault. The Lodge's writes that waited for the controller are then made (log
134, the model's choice). In any other state the write is ignored. -/
def Obligations.DramFreezeAndThaw : Prop :=
  (∀ (s : State) (d : DmcId) (f : Failing) (hist : List UpkeepCommand),
     let x := s.dmc[d]
     let held := x.input ++ x.queues.toList.flatten
     s.off = false → x.failing = some f → s.dmcState d = 1 →
     (∀ ch : ChannelId, (s.lastCommands d ch hist).length ≤ 64 ∧
       (s.lastCommands d ch hist).Pairwise (fun a b => b.gate.toNat ≤ a.gate.toNat) ∧
       (∀ c ∈ s.lastCommands d ch hist, c ∈ x.history[ch] ∨
         ∃ h ∈ hist, h.channel = ch ∧ h.gate.toNat ≤ s.gate.toNat ∧ c = ⟨h.gate, h.bits⟩) ∧
       (x.history[ch].length + hist.length ≤ 64 → ∀ c ∈ x.history[ch], c ∈ s.lastCommands d ch hist)) ∧
     Gives (.dramFreeze d hist) s (fun u => u.dmcState d = 2 ∧ (u.reg (Reg.dmcFrzCause d)).toNat = f.cause % 2 ^ 64 ∧
       (u.reg (Reg.dmcFrzAddr d)).toNat = f.addr % 2 ^ 48 ∧ u.reg (Reg.dmcFrzLoc d) = f.loc &&& 0x1FFFF1F0F1300 ∧
       u.reg (Reg.dmcFrzSynd d) = f.syndrome.zeroExtend 64 ∧
       u.reg (Reg.dmcFrzGate d) = s.gate ∧ (∀ (ch : ChannelId) (j : Nat), j < 64 → u.reg (Reg.dmcFrzHist d (64 * ch.val + j)) =
         match (s.lastCommands d ch hist)[j]? with
         | some c => BitVec.ofNat 64 (c.gate.toNat % 2 ^ 32 * 2 ^ 32 + c.bits.toNat)
         | none => 0) ∧
       (u.reg (Reg.dmcFreezeCount d)).toNat = satAdd 32 (s.reg (Reg.dmcFreezeCount d)).toNat 1 ∧
       (∃ r ∈ u.reports, r.cls = 4 ∧ r.cause = f.cause ∧ r.detail = f.syndrome) ∧ u.mem = s.mem ∧
       (u.dmc[d]).failing = some f ∧ (∀ e : DmcId, e ≠ d → u.dmc[e] = s.dmc[e]) ∧
       (∀ q ∈ (u.dmc[d]).input, answeredAtOnce q.req = false) ∧
       (∀ q ∈ (u.dmc[d]).input ++ (u.dmc[d]).queues.toList.flatten, q.req.write = false → q.req.job = none) ∧
       (∀ q ∈ x.input, answeredAtOnce q.req = false → q.req.write = true → q ∈ (u.dmc[d]).input) ∧
       (∀ c, ∀ q ∈ x.queues[(c : ChannelId)], q.req.write = true → q ∈ (u.dmc[d]).queues[c]) ∧
       (∀ q ∈ held, answeredAtOnce q.req = false → ∀ j y, q.req.job = some j → s.findJob j.1 j.2 = some y →
         (∀ z ∈ u.jobs, z.uid = y.uid → z.state = .ended) ∧
         (∀ k, (u.core k).phase.active = true → u.runsTile y.uid k = false)))) ∧
  (∀ (s : State) (r : DramRequest),
     (s.dramAt r.addr = none → exec (.frozenRequest r) s = .fault (.noSuchMemory r.addr)) ∧
     (∀ (d : DmcId) (l : Nat), s.dramAt r.addr = some (d, l) →
       let x := s.dmc[d]
       (s.off = true → Gives (.frozenRequest r) s (fun u => u = s)) ∧
       (s.off = false →
       (s.dmcState d ≠ 2 → Gives (.frozenRequest r) s (fun u => u = s)) ∧
       (s.dmcState d = 2 → answeredAtOnce r = true → Gives (.frozenRequest r) s (fun u => u = { s with regs := u.regs } ∧
         (u.reg (Reg.dmcFrzDiscardCount d)).toNat = satAdd 32 (s.reg (Reg.dmcFrzDiscardCount d)).toNat 1 ∧
         u.reg Reg.hifBar2DropCount = (if r.requester = .bar2 then BitVec.ofNat 64 (satAdd 32 (s.reg Reg.hifBar2DropCount).toNat 1)
           else s.reg Reg.hifBar2DropCount) ∧ SameRegs [Reg.dmcFrzDiscardCount d, Reg.hifBar2DropCount] s u)) ∧
       (s.dmcState d = 2 → answeredAtOnce r = false →
         (r.job = none → Gives (.frozenRequest r) s (fun u => u = { s with dmc := u.dmc } ∧
           (u.dmc[d]).input = x.input ++ [⟨r, false, 0, s.gate, none⟩] ∧ (u.dmc[d]).queues = x.queues)) ∧
         (∀ j, r.job = some j → Gives (.frozenRequest r) s (fun u => u.mem = s.mem ∧
           (∀ q ∈ (u.dmc[d]).input ++ (u.dmc[d]).queues.toList.flatten, q.req.write = false → q.req.job ≠ some j) ∧
           (∀ q ∈ x.input ++ [⟨r, false, 0, s.gate, none⟩], q.req.write = true → q ∈ (u.dmc[d]).input) ∧
           (∀ y, s.findJob j.1 j.2 = some y → (∀ z ∈ u.jobs, z.uid = y.uid → z.state = .ended) ∧
             (∀ k, (u.core k).phase.active = true → u.runsTile y.uid k = false)))))))) ∧
  (∀ (s : State) (d : DmcId) (lodge : Bool) (v : BitVec 32) (again : DramOutcome) (hist : List UpkeepCommand),
     let x := s.dmc[d]
     let gives := Gives (.dramThaw d lodge v again hist) s
     let goesOn := fun (u : State) => u.dmcState d = 1 ∧ (u.dmc[d]).failing = none ∧
       (x.input = [] → s.heldWrites = [] → (u.dmc[d]).queues = x.queues ∧ (u.dmc[d]).input = []) ∧
       ((∀ e : DmcId, e ≠ d → s.dmcState e ≠ 2) → u.heldWrites = [])
     let same := fun (u : State) => x.input = [] → s.heldWrites = [] → u.mem = s.mem
     let ce := fun (n : Nat) (u : State) => u.reg (Reg.dmcCeCount d) =
       if n = 0 then s.reg (Reg.dmcCeCount d) else BitVec.ofNat 64 (satAdd 64 (s.reg (Reg.dmcCeCount d)).toNat n)
     (s.off = true ∨ (lodge = false ∧ s.hostReaches = false) → gives (fun u => u = s)) ∧
     (v.getLsbD 0 = false ∨ s.dmcState d ≠ 2 → gives (fun u => u = s)) ∧
     (s.off = false → lodge = true ∨ s.hostReaches = true → v.getLsbD 0 = true → s.dmcState d = 2 →
       (x.failing = none → gives (fun u => goesOn u ∧ same u)) ∧
       (∀ f, x.failing = some f →
         (4 ≤ f.cause → gives (fun u => goesOn u ∧ same u)) ∧
         (f.cause < 4 → v.getLsbD 1 = true → gives (fun u => goesOn u ∧
           (u.reg (Reg.dmcZeroCount d)).toNat = satAdd 32 (s.reg (Reg.dmcZeroCount d)).toNat 1 ∧
           (x.input = [] → s.heldWrites = [] →
             let covers := fun (r : DramRequest) (a : Nat) => r.addr ≤ a ∧ a < r.addr + r.data.length
             let l := s.queuedWrites d f.addr
             (∀ a, (∀ r ∈ l, ¬ covers r a) → u.byteAt a = if f.addr ≤ a ∧ a < f.addr + 64 then 0 else s.byteAt a) ∧
             (∀ (i : Nat) r a, l[i]? = some r → covers r a → (∀ (j : Nat) r', i < j → l[j]? = some r' → ¬ covers r' a) →
               u.byteAt a = r.data.getD (a - r.addr) 0)))) ∧
         (f.cause < 4 → v.getLsbD 1 = false → again.kind ≠ 2 →
           gives (fun u => goesOn u ∧ same u ∧ ce (if again.kind = 1 then 1 else 0) u)) ∧
         (f.cause < 4 → v.getLsbD 1 = false → again.kind = 2 → gives (fun u => u.dmcState d = 2 ∧
           (u.reg (Reg.dmcFreezeCount d)).toNat = satAdd 32 (s.reg (Reg.dmcFreezeCount d)).toNat 1 ∧
           u.reg (Reg.dmcFrzLoc d) = f.loc &&& 0x1FFFF1F0F1300 ∧ u.reg (Reg.dmcFrzSynd d) = again.syndrome.zeroExtend 64 ∧
           u.reg (Reg.dmcFrzGate d) = s.gate ∧
           (u.dmc[d]).failing = some ⟨f.cause, f.addr / 64 * 64, f.loc, again.syndrome⟩ ∧
           (u.dmc[d]).queues = x.queues ∧ u.mem = s.mem)))))

/-! ## The Rink, start gates, Pairs, Synchro (R308–R335) -/

/-- R309, R315, R317, R329, R335: once training runs, a port that trains comes up with its sequence numbers at 0 and its credits
advertised; the master gives a neighbour without an identifier the next one, up to 4,095, and one neighbour at a time; an enumerated
device makes itself known; two masters that meet unenumerated hold the link down. The messages of enumeration, and that the next
identifier waits for the report of the device numbered last, are the model's choice (log 37).
R309, R312, R316, R317, R325: a link that goes down loses what had not been acknowledged and what waited at it, is counted, and
the cascade jobs of what it lost are aborted, those of jobs yet to be submitted here too; a device that is no member of such a job tells
those that the message went between (log 37, the model's choice of whom); a link still in training starts again, which is counted too.
R312, R313, R316: a grant moves one waiting flit into the retry buffer, which has room for it, within the credit of its class; CTL
goes before BULK, but at most one in 16 while BULK waits; sources take turns; what a port or the device has for one destination goes in
the order in which it came, whatever its class (log 36, the model's reading); and nothing is lost or made twice. That credit counts what
is not acknowledged is the model's choice (log 66).
R311–R313, R318, R321, R326: a control flit's acknowledgement frees every flit up to its number (log 36, the model's reading of that
number); a negative acknowledgement sends the rest again and counts them, and the 16th in a row takes the link down; then waiting flits
go as far as its credits let them; refusals are counted; the partner's heartbeat is heard, on every direct link to PARTNER and on the
tree; what it says to another device goes on. One with a bad CRC is asked for again. What leaves carries all that was due.
R316, R317: a master whose tree has lost a device that a spare link reaches takes that link into the tree, so that a route leads
there again, and goes on until no spare link joins a severed device; any other device that still has no way to its master sets
MASTERLOST, once for each loss. When the time of a rebuild is over, and that a new master then waits for no report, is the model's
choice (log 37). -/
def Obligations.LinksComeAndGo : Prop :=
  (∀ (s : State) (n : RinkPort) (peer : RinkPeer), s.linkUp n = false → (s.links[n]).heldDown = false →
     (s.rinkTrains = false → Gives (.linkTrainingComplete n peer) s (fun u => u = s)) ∧
     (s.rinkTrains = true → s.mastersMeet peer = true → Gives (.linkTrainingComplete n peer) s (fun u =>
       u.linkUp n = false ∧ (u.links[n]).heldDown = true ∧ u.flag Reg.rnkDev 3 = true ∧
       (∀ j : RinkPort, j ≠ n → u.links[j] = s.links[j]) ∧ u.mem = s.mem)) ∧
     (s.rinkTrains = true → s.mastersMeet peer = false →
       Gives (.linkTrainingComplete n peer) s (fun u => u.linkUp n = true ∧ (u.links[n]).expectSeq = 0 ∧
         (u.links[n]).credits = [64, 64, 64] ∧ (u.links[n]).heldDown = false ∧
         ((s.pairsOn = false ∨ peer.enumerated = false ∨ peer.id.toNat ≠ s.partner) →
           u.contexts = s.contexts ∧ u.jobs = s.jobs ∧ u.cores = s.cores ∧ u.mem = s.mem) ∧
         (s.isMaster = true → peer.enumerated = false → u.isEnum = true ∧
           (s.rink.todo = [] → s.rink.offer = none → s.rink.awaited = [] → s.rink.nextId < 4095 →
             u.rink.nextId = s.rink.nextId + 1 ∧ u.peerId n = s.rink.nextId ∧ u.inTree n = true ∧
             u.rink.offer = some (s.self, n, BitVec.ofNat 12 s.rink.nextId) ∧
             ∃ m : Enumeration, m.id.toNat = s.rink.nextId ∧ m.tree = true ∧ m.forPort = none ∧ Holds u n 0xFFF (.enumerate m)) ∧
           (∀ o, s.rink.offer = some o → s.canOffer o.1 = true →
             u.rink.offer = some o ∧ u.rink.nextId = s.rink.nextId ∧ (s.self, n) ∈ u.rink.todo)) ∧
         (s.isMaster = true → s.isEnum = false → peer.enumerated = true → u.isMaster = false ∧ u.flag Reg.rnkDev 2 = true) ∧
         (s.isMaster = false → s.isEnum = true → ∃ m : Enumeration, m.tree = false ∧ m.parent = s.self ∧
           Holds u n 0xFFF (.enumerate m))))) ∧
  (∀ (s : State) (n : RinkPort) (i : Instr), i = .linkSignalLoss n ∨ i = .linkFecFailure n → s.off = false →
     (s.linkUp n = true → Gives i s (fun u => u.linkUp n = false ∧
       (u.reg (Reg.rnkLinkdownCount n)).toNat = satAdd 32 (s.reg (Reg.rnkLinkdownCount n)).toNat 1 ∧
       (u.links[n]).retry = [] ∧ (u.links[n]).waiting = [] ∧ u.mem = s.mem ∧
       ∀ x ∈ (s.links[n]).retry ++ (s.links[n]).waiting.map (·.2), ∀ k, cascadeKey x.2 = some k →
         (∀ j, s.cascadeJob k = some j → Aborted j.uid u) ∧
         (s.cascadeJob k = none → s.devId ∈ s.modelMembers k.1 k.2.1 → s.toCome k = true → k ∈ u.rink.aborted) ∧
         (s.cascadeJob k = none → s.devId ∉ s.modelMembers k.1 k.2.1 → ∀ d ∈ endsOf x.1 x.2, ∀ r,
           s.rink.routes.find? (fun r => r.1 == d) = some r → s.linkUp r.2 = true → r.2 ≠ n →
           Holds u r.2 d (.abort k.1 k.2.1 k.2.2 .messageDiscarded true)))) ∧
     (s.linkUp n = false → Gives i s (fun u => u = { s with regs := u.regs } ∧ SameRegs [Reg.rnkLinkdownCount n] s u ∧
       u.reg (Reg.rnkLinkdownCount n) = (if s.rinkTrains = true ∧ (s.links[n]).heldDown = false then
         BitVec.ofNat 64 (satAdd 32 (s.reg (Reg.rnkLinkdownCount n)).toNat 1) else s.reg (Reg.rnkLinkdownCount n))))) ∧
  (∀ l : Link,
     (l.nextClass = none → l.grantOne = l) ∧
     ((∀ y ∈ l.waiting, y.1 < 5) → ∀ c, l.nextClass = some c → ∃ x, x.2.2.cls = c ∧
       (∃ before after, l.waiting = before ++ x :: after ∧ l.grantOne.waiting = before ++ after ∧
         ∀ y ∈ before, ¬ (y.1 = x.1 ∧ y.2.1 = x.2.1)) ∧
       l.grantOne.retry = l.retry ++ [x.2] ∧ l.grantOne.nextSeq = l.nextSeq + 1 ∧ l.retry.length < 512 ∧
       l.unacked c < l.credits.getD c 0 ∧ (c = 2 → l.grantable 1 = true → l.bulkRun < 15) ∧
       (c = 1 → l.grantable 2 = true → 15 ≤ l.bulkRun) ∧
       ∀ y ∈ firstOfEach l.waiting, y.2.2.cls = c →
         (x.1 + 4 - l.turns.getD c 4 % 5) % 5 ≤ (y.1 + 4 - l.turns.getD c 4 % 5) % 5) ∧
     (l.grant.retry ++ l.grant.waiting.map (·.2)).Perm (l.retry ++ l.waiting.map (·.2)) ∧
     (l.retry.length ≤ 512 → l.grant.retry.length ≤ 512)) ∧
  (∀ (s : State) (n : RinkPort), s.rinkLive = true → s.linkUp n = true →
     (∀ f : ControlFlit, f.header.crcOk = true → f.header.typeCode = 0 → f.header.cls = 0 → f.header.reserved = 0 →
       f.heartbeat = false →
       let l := s.links[n]
       let m := l.credited f
       let k := (f.ack - (l.nextSeq - BitVec.ofNat 12 l.retry.length) + 1).toNat
       let here := f.header.dest = 0xFFF ∨ f.header.dest.toNat = s.devId
       (m.credits = f.credits ∧ m.expectSeq = l.expectSeq ∧ m.waiting = l.waiting ∧
         m.retry = l.retry.drop (if k ≤ l.retry.length then k else 0)) ∧
       (here → f.nack = none → f.refusals = [] → Gives (.controlFlit n f) s (fun u => u = { s with links := u.links, regs := u.regs } ∧
         u.links[n] = m.grant ∧ (∀ j : RinkPort, j ≠ n → u.links[j] = s.links[j]) ∧ SameRegs [Reg.rnkFecCorrCount n] s u)) ∧
       (∀ j, here → f.nack = none → f.refusals = [j] → Gives (.controlFlit n f) s (fun u => u.links[n] = m.grant ∧
         u.fld (Reg.gtbSgCtrl (j : GateSlot)) 31 24 = min 255 (s.fld (Reg.gtbSgCtrl j) 31 24 + 1) ∧
         SameRegs [Reg.rnkFecCorrCount n, Reg.gtbSgCtrl j] s u)) ∧
       (∀ q : RinkPort, ¬ here → f.nack = none → s.rink.routes.find? (fun r => r.1 == f.header.dest) = some (f.header.dest, q) →
         s.linkUp q = true → q ≠ n → Gives (.controlFlit n f) s (fun u => u.links[n] = m.grant ∧
           u.links[q] = { (s.links[q]) with answers := ((s.links[q]).answers ++
             f.refusals.map (fun j => (f.header.dest, j, false)) ++ f.accepted.map (fun j => (f.header.dest, j, true))) } ∧ SameRegs [Reg.rnkFecCorrCount n] s u)) ∧
       (∀ e, here → f.nack = some e → f.refusals = [] →
         let again := m.retry.length - (e - (m.nextSeq - BitVec.ofNat 12 m.retry.length)).toNat
         0 < again → Gives (.controlFlit n f) s (fun u =>
           (u.reg (Reg.rnkRetryCount n)).toNat = satAdd 64 (s.reg (Reg.rnkRetryCount n)).toNat again ∧
           (m.resends + 1 < 16 → u.links[n] = ({ m with resends := m.resends + 1 } : Link).grant ∧ u.linkUp n = true) ∧
           (16 ≤ m.resends + 1 → u.linkUp n = false)))) ∧
     (∀ f : ControlFlit, f.header.crcOk = true → f.header.typeCode = 0 → f.header.cls = 0 → f.header.reserved = 0 →
       f.heartbeat = true → f.nack = none → f.refusals = [] → s.pairsOn = true →
       (f.header.dest.toNat = s.devId ∨ (f.header.dest = 0xFFF ∧ s.toPartner n = true)) →
       (f.twin = none ∨ s.flag Reg.rnkPairStatus 2 = true) →
       Gives (.controlFlit n f) s (fun u => u.rink.heartbeatAt = s.gate ∧ u.rink.heard = true ∧
         u.flag Reg.rnkPairStatus 2 = true ∧ SameRegs [Reg.rnkPairStatus, Reg.rnkFecCorrCount n] s u ∧ u.mem = s.mem)) ∧
     (∀ p : RinkPort, s.toPartner p = true ↔ s.linkUp p = true ∧ (s.inTree p = true ∨ s.isSpare p = true) ∧ s.peerId p = s.partner) ∧
     (∀ f : ControlFlit, f.header.crcOk = false → Gives (.controlFlit n f) s (fun u =>
       u = { s with links := u.links, regs := u.regs } ∧ u.links[n] = { s.links[n] with nackDue := true } ∧
       SameRegs [Reg.rnkFecCorrCount n] s u)) ∧
     Gives (.controlFlitSend n) s (fun u => u = { s with links := u.links } ∧
       (∀ j : RinkPort, j ≠ n → u.links[j] = s.links[j]) ∧
       (let l := s.links[n]
        let dest := (match l.answers with
          | a :: _ => a.1
          | [] => 0xFFF : BitVec 12)
        let due := l.answers.filter (fun a => a.1 == dest)
        u.links[n] = { l with
          nackDue := false, received := [], answers := l.answers.filter (fun a => a.1 != dest), sent := (u.links[n]).sent } ∧
        ∃ c, (u.links[n]).sent = some c ∧ c.dest = dest ∧ c.ack = l.expectSeq - 1 ∧
          c.nack = (if l.nackDue then some l.expectSeq else none) ∧ c.credits = [64, 64, 64] ∧ c.heartbeat = false ∧
          c.refusals = (due.filter (fun a => !a.2.2)).map (·.2.1) ∧ c.accepted = (due.filter (fun a => a.2.2)).map (·.2.1) ∧
          c.stamp = 10 * s.gate.toNat))) ∧
  (∀ s : State, s.off = false →
     (s.isMaster = true →
       let up := fun (p : RinkPort) => s.linkUp p.val
       let spare := joiningSpare s.self up s.treeUp s.rink.spares
       (spare = none → s.rink.awaited = [] → Gives .treeRebuild s (fun u => u = s)) ∧
       (spare = none → s.rink.awaited ≠ [] → Gives .treeRebuild s (fun u => u.rink.awaited = [] ∧ u.rink.tree = s.treeUp ∧
         u.rink.routes = routeTable s.treeUp s.self ∧ u.devId = s.devId ∧ u.jobs = s.jobs ∧ u.mem = s.mem)) ∧
       (∀ e, spare = some e → Gives .treeRebuild s (fun u => e ∈ u.rink.tree ∧ e ∉ u.rink.spares ∧
         (∀ x ∈ s.treeUp, x ∈ u.rink.tree) ∧ u.rink.routes = routeTable u.rink.tree s.self ∧
         (∃ r ∈ u.rink.routes, r.1 = e.2.2) ∧ joiningSpare s.self up u.rink.tree u.rink.spares = none ∧
         u.rink.awaited = [] ∧ u.devId = s.devId ∧ u.jobs = s.jobs ∧ u.mem = s.mem))) ∧
     (s.isMaster = false → (s.masterAway = false → Gives .treeRebuild s (fun u => u = s)) ∧
       (s.masterAway = true → (s.pairsOn = false ∨ s.isPrimary = true ∨ s.partner ≠ s.rink.masterId.toNat) →
         (s.rink.awayTold = false → Gives .treeRebuild s (fun u => u.flag Reg.rnkDev 4 = true ∧ u.rink.awayTold = true ∧
           u.devId = s.devId ∧ u.gate = s.gate ∧ u.jobs = s.jobs ∧ u.mem = s.mem)) ∧
         (s.rink.awayTold = true → Gives .treeRebuild s (fun u => u = s)))))

/-- R310–R312, R314, R316, R325, R335: a flit whose CRC fails, or that is out of its place, is asked for again; one with a reserved
type, class or bit is counted and dropped; one for another device goes on from its port along the path, or, where no path leads on,
is dropped and counted; corrected codewords are counted in every case. An abort comes in a flit of TYPE 2, and a message of a cascade job
that finds no path aborts the job (log 37, the model's choice of the TYPE). A flit whose CLASS its TYPE does not have is none of that
TYPE (log 66, the model's choice).
R323–R325: exchange bytes of a running job, or of the next, are written at once; a message of a job past is dropped, and one for a
later job aborts it; an exchange without a translation aborts its job; both hold for a job that has yet to be submitted here, which is
kept as aborted. A completion moves its counter, or is held for the next job. What a member tells the others is the model's message
(log 37).
R332–R334: a partner's signature is compared with the own one of its key, or kept until that comes, or lost where the store is full;
equal signatures are a match, different ones a divergence that marks the job, and aborts it where STOP is set; signatures of
different Slalom states are not compared; one that waits too long is given up and its job marked.
R315–R319, R327, R335: an identifier is taken by a device that has none, with its place in the tree, its hops and, before the
handshake has read READY, the parent's gate count plus the path delay measured on the link, to the nearest nanosecond (log 38, the
model's choice of rounding); a second master becomes an ordinary device; later news of its own replaces routes and hops; a new master
asks each device for its links; an identifier for a neighbour is handed over, and where the neighbour is known the master is told; a
report of an unknown neighbour at the master gives it the next identifier, and a report of the device numbered puts its link into the
tree; news that the master is lost sets MASTERLOST; a neighbour is known by its identifier. The messages are the model's (log 37). -/
def Obligations.MessagesArrive : Prop :=
  (∀ (s : State) (n : RinkPort) (h : FlitHeader) (x : ExchangeData) (c : Completion) (r : Signature) (a : GateArm) (e : Enumeration)
     (t : Takeover) (off : W64) (ctx : CtxId) (job : CascadeJob) (cause : AbortCause) (tell : Bool) (p : Nat × RinkMsg × Instr),
     p ∈ [(1, RinkMsg.exchange x, Instr.exchangeDataFlit n h x), (2, .completion c, .completionUpdate n h c),
       (3, .signature r, .signatureRecord n h r), (4, .arm a, .startGateArmFlit n h a), (5, .enumerate e, .enumerationFlit n h e),
       (6, .takeover t, .takeoverNotice n h t), (7, .tai off, .taiOffsetFlit n h off),
       (2, .abort ctx job.model job.n cause tell, .cascadeAbort ctx job ⟨cause, .link n h tell⟩)] →
     s.rinkLive = true → s.linkUp n = true →
     let known := h.typeCode.toNat < 8 ∧ h.cls ≠ 3 ∧ h.reserved = 0
     let only := fun (regs : List Nat) (u : State) => u = { s with links := u.links, regs := u.regs } ∧
       SameRegs (Reg.rnkFecCorrCount n :: regs) s u ∧ (∀ j : RinkPort, j ≠ n → u.links[j] = s.links[j]) ∧
       u.reg (Reg.rnkFecCorrCount n) = (if h.fec = 0 then s.reg (Reg.rnkFecCorrCount n)
         else BitVec.ofNat 64 (satAdd 64 (s.reg (Reg.rnkFecCorrCount n)).toNat h.fec))
     (h.crcOk = false → Gives p.2.2 s (fun u => only [] u ∧ u.links[n] = { s.links[n] with nackDue := true })) ∧
     (h.crcOk = true → ¬ known → Gives p.2.2 s (fun u => only [Reg.rnkBadFlitCount n] u ∧
       (u.reg (Reg.rnkBadFlitCount n)).toNat = satAdd 32 (s.reg (Reg.rnkBadFlitCount n)).toNat 1 ∧
       (u.links[n]).expectSeq = (s.links[n]).expectSeq + (if h.seq = (s.links[n]).expectSeq then 1 else 0))) ∧
     (h.crcOk = true → known → h.typeCode.toNat = p.1 → h.cls.toNat ≠ classOf p.1 → Gives p.2.2 s (fun u => only [] u ∧
       u.links[n] = s.links[n])) ∧
     (h.crcOk = true → known → h.typeCode.toNat = p.1 → h.cls.toNat = classOf p.1 → h.seq ≠ (s.links[n]).expectSeq →
       Gives p.2.2 s (fun u => only [] u ∧ u.links[n] = { s.links[n] with nackDue := true })) ∧
     (FlitNext s n h p.1 → h.dest ≠ 0xFFF → h.dest.toNat ≠ s.devId →
       (∀ q, s.rink.routes.find? (fun q => q.1 == h.dest) = some (h.dest, q) → s.linkUp q = true →
         Gives p.2.2 s (fun u => u.links[q] =
           (let l := (Arrived s n h).links[q]
            ({ l with waiting := l.waiting ++ [(n.val, h.dest, p.2.1)] } : Link).grant) ∧
           (u.links[n]).expectSeq = (s.links[n]).expectSeq + 1 ∧ u.jobs = s.jobs ∧ u.mem = s.mem)) ∧
       ((∀ q ∈ s.rink.routes, q.1 ≠ h.dest) → Gives p.2.2 s (fun u => u.mem = s.mem ∧
         (u.links[n]).expectSeq = (s.links[n]).expectSeq + 1 ∧
         (∀ k j, cascadeKey p.2.1 = some k → s.cascadeJob k = some j → Aborted j.uid u) ∧
         (cascadeKey p.2.1 = none → u.reg Reg.rnkRouteDropCount =
           BitVec.ofNat 64 (satAdd 32 (s.reg Reg.rnkRouteDropCount).toNat 1)))))) ∧
  (∀ (s : State) (n : RinkPort) (h : FlitHeader),
     let t := Arrived s n h
     let next := fun (u : State) => (u.links[n]).expectSeq = (s.links[n]).expectSeq + 1
     let aborts := fun (key : CtxId × ModelNo × W32) (cause : AbortCause) (u : State) => next u ∧ u.mem = s.mem ∧
       (∀ j, s.cascadeJob key = some j → Aborted j.uid u) ∧
       (s.cascadeJob key = none → s.toCome key = true → key ∈ u.rink.aborted) ∧
       (s.cascadeJob key ≠ none ∨ key ∉ s.rink.aborted →
         (u.reg Reg.rnkCascadeAbortCount).toNat = satAdd 32 (s.reg Reg.rnkCascadeAbortCount).toNat 1 ∧ ∃ r ∈ u.reports, r.cls = 0x0A) ∧
       (s.cascadeJob key = none → key ∉ s.rink.aborted → ∀ d ∈ s.modelMembers key.1 key.2.1, d ≠ s.devId →
         GoesTo s u (BitVec.ofNat 12 d) (.abort key.1 key.2.1 key.2.2 cause false))
     (FlitTaken s n h 1 → ∀ x : ExchangeData,
       let key := (x.ctx, x.model, x.job)
       let now := s.nextCount x.ctx x.model
       (∀ v : State, x.job.toNat = now ∨ (x.job.toNat < now ∧ s.cascadeJob key ≠ none) →
         t.writeVa x.ctx x.va.toNat x.bytes = .ok v → t.frozenIn x.ctx x.va.toNat x.bytes.length = none →
         Gives (.exchangeDataFlit n h x) s (fun u => u = v ∧ next u)) ∧
       (x.job.toNat < now → s.cascadeJob key = none → Gives (.exchangeDataFlit n h x) s (fun u => u = t ∧ next u)) ∧
       (∀ e, x.job.toNat = now ∨ (x.job.toNat < now ∧ s.cascadeJob key ≠ none) → t.writeVa x.ctx x.va.toNat x.bytes = .error e →
         Gives (.exchangeDataFlit n h x) s (aborts key .exchangeTranslation)) ∧
       (now < x.job.toNat → Gives (.exchangeDataFlit n h x) s (aborts key .laterJob))) ∧
     (FlitTaken s n h 2 → ∀ c : Completion,
       let key := (c.ctx, c.model, c.job)
       let now := s.nextCount c.ctx c.model
       (c.job.toNat = now → Gives (.completionUpdate n h c) s (fun u => next u ∧
         u = { t with rink := { s.rink with heldUpdates := s.rink.heldUpdates ++ [c] } })) ∧
       (∀ j p x, c.job.toNat < now → s.cascadeJob key = some j →
         j.bindings.find? (fun b => b.1 == c.counter.val) = some p → s.counters[(Fin.ofNat 64 p.2 : CounterId)] = some x →
         Gives (.completionUpdate n h c) s (fun u => next u ∧ u = { t with counters := u.counters } ∧
           (∀ q : CounterId, q ≠ Fin.ofNat 64 p.2 → u.counters[q] = s.counters[q]) ∧
           u.counters[(Fin.ofNat 64 p.2 : CounterId)] =
             some (({ x with remote := x.remote ++ [(c.member, c.index.toNat)] } : Counter).settle s.devId))) ∧
       (c.job.toNat < now → s.cascadeJob key = none → Gives (.completionUpdate n h c) s (fun u => u = t ∧ next u)) ∧
       (now < c.job.toNat → Gives (.completionUpdate n h c) s (aborts key .laterJob)))) ∧
  (∀ (s : State),
     (∀ (n : RinkPort) (h : FlitHeader) (r : Signature), FlitTaken s n h 3 →
       let t := Arrived s n h
       let gives := Gives (.signatureRecord n h r) s
       (s.flag Reg.synCtrl 0 = false → gives (fun u => u = t)) ∧
       (s.flag Reg.synCtrl 0 = true →
         (∀ own, s.rink.pendingOwn.find? (sigSameKey r) = some own →
           (own.slalom ≠ r.slalom → gives (fun u => u.rink.pendingOwn = s.rink.pendingOwn.erase own ∧
             (u.reg Reg.synSlalomSkewCount).toNat = satAdd 32 (s.reg Reg.synSlalomSkewCount).toNat 1 ∧
             (∀ j ∈ u.jobs, sigOfJob own j = true → j.uncompared = true) ∧ u.mem = s.mem)) ∧
           (own.slalom = r.slalom → own.sig = r.sig → gives (fun u =>
             u = { t with rink := { s.rink with pendingOwn := s.rink.pendingOwn.erase own }, regs := u.regs } ∧
             (u.reg Reg.synMatchCount).toNat = satAdd 64 (s.reg Reg.synMatchCount).toNat 1 ∧
             SameRegs [Reg.synMatchCount, Reg.rnkFecCorrCount n] s u)) ∧
           (own.slalom = r.slalom → own.sig ≠ r.sig → gives (fun u => u.flag Reg.synStatus 0 = true ∧
             (u.reg Reg.synDivCount).toNat = satAdd 32 (s.reg Reg.synDivCount).toNat 1 ∧
             (∀ j ∈ u.jobs, sigOfJob own j = true → j.diverged = true) ∧ u.mem = s.mem ∧
             (s.flag Reg.synCtrl 1 = true → ∀ j, s.jobs.find? (sigOfJob own) = some j → j.state ≠ .ended → Aborted j.uid u)))) ∧
         (s.rink.pendingOwn.find? (sigSameKey r) = none →
           (s.pendingKeys < 8192 → gives (fun u => u = { t with rink := { s.rink with pendingPeer := s.rink.pendingPeer ++ [r] } })) ∧
           (8192 ≤ s.pendingKeys → gives (fun u => u = { t with regs := u.regs } ∧ u.flag Reg.synStatus 1 = true ∧
             (u.reg Reg.synUnmatchedCount).toNat = satAdd 32 (s.reg Reg.synUnmatchedCount).toNat 1))))) ∧
     (s.off = false → ∀ n : Nat,
       let own := s.rink.pendingOwn.length
       let counted := fun (u : State) => (u.reg Reg.synUnmatchedCount).toNat = satAdd 32 (s.reg Reg.synUnmatchedCount).toNat 1 ∧
         SameRegs [Reg.synUnmatchedCount] s u
       (∀ r, s.rink.pendingOwn[n]? = some r → Gives (.synchroPendingTimeout n) s (fun u => counted u ∧
         u = { s with rink := { s.rink with pendingOwn := s.rink.pendingOwn.erase r }, regs := u.regs, jobs := u.jobs } ∧
         u.jobs = s.jobs.map (fun j => if sigOfJob r j then { j with uncompared := true } else j))) ∧
       (∀ r, own ≤ n → s.rink.pendingPeer[n - own]? = some r → Gives (.synchroPendingTimeout n) s (fun u => counted u ∧
         u = { s with rink := { s.rink with pendingPeer := s.rink.pendingPeer.erase r }, regs := u.regs })) ∧
       (own + s.rink.pendingPeer.length ≤ n → Gives (.synchroPendingTimeout n) s (fun u => u = s)))) ∧
  (∀ (s : State) (n : RinkPort) (h : FlitHeader) (m : Enumeration), FlitTaken s n h 5 →
     let gives := Gives (.enumerationFlit n h m) s
     let plain := m.report = none ∧ m.lost = false
     (plain → m.tree = true → m.forPort = none → s.isEnum = false → (s.isMaster = false ∨ m.masterElsewhere = true) →
       gives (fun u => u.devId = m.id.toNat ∧ u.isEnum = true ∧ u.isMaster = false ∧ u.inTree n = true ∧
         u.peerId n = m.parent.toNat ∧ u.rink.masterId = m.master ∧ (∃ r ∈ u.rink.routes, r.1 = m.master) ∧
         (∀ r ∈ m.routes, r ∈ u.rink.routes) ∧ u.rink.hops = m.hops ∧ u.fld Reg.gtbAlignStatus 15 8 = min m.hops 255 ∧
         u.gate = (if s.board.readySeen then s.gate
           else m.parentGate + BitVec.ofInt 64 (((s.links[n]).pathDelay + 5) / 10)) ∧
         (s.isMaster = true → u.flag Reg.rnkDev 2 = true) ∧ u.jobs = s.jobs ∧ u.mem = s.mem)) ∧
     (plain → m.tree = true → m.forPort = none → s.isEnum = true → s.isMaster = false → m.id.toNat = s.devId →
       (m.routes ≠ [] → gives (fun u => u.rink.routes = m.routes ∧ u.rink.hops = m.hops ∧ u.rink.masterId = m.master ∧
         u.fld Reg.gtbAlignStatus 15 8 = min m.hops 255 ∧
         (∀ p : RinkPort, u.inTree p = decide (∃ r ∈ m.routes, r.2 = p)) ∧ u.devId = s.devId ∧ u.gate = s.gate ∧
         u.jobs = s.jobs ∧ u.mem = s.mem)) ∧
       (m.routes = [] → gives (fun u => u.rink.masterId = m.master ∧ u.rink.awayTold = false ∧ u.rink.routes = s.rink.routes ∧
         (∀ r, s.rink.routes.find? (fun r => r.1 == m.master) = some r → s.linkUp r.2 = true →
           ∃ e : Enumeration, e.report ≠ none ∧ Holds u r.2 m.master (.enumerate e)) ∧ u.jobs = s.jobs ∧ u.mem = s.mem))) ∧
     (∀ p, plain → m.tree = true → m.forPort = some p →
       (s.isSpare p = false → s.inTree p = false → s.linkUp p = true →
         gives (fun u => u.peerId p = m.id.toNat ∧ u.inTree p = true ∧ u.rink.routes = s.rink.routes ++ [(m.id, p)] ∧
           (∃ e : Enumeration, e.id = m.id ∧ e.forPort = none ∧ e.tree = m.tree ∧ e.hops = s.rink.hops + 1 ∧ e.parent = s.self ∧
             e.parentGate = s.gate ∧ Holds u p 0xFFF (.enumerate e)) ∧ u.jobs = s.jobs ∧ u.mem = s.mem)) ∧
       ((s.isSpare p = true ∨ s.inTree p = true ∨ s.linkUp p = false) →
         gives (fun u => u.rink.routes = s.rink.routes ∧ u.peerId p = s.peerId p ∧ u.inTree p = s.inTree p ∧
           u.jobs = s.jobs ∧ u.mem = s.mem))) ∧
     (plain → m.tree = false → gives (fun u => u.peerId n = m.parent.toNat ∧
       (s.isMaster = false → u.inTree n = (s.inTree n && s.peerId n == m.parent.toNat) ∧
         (u.inTree n = false → u.isSpare n = true)) ∧ u.jobs = s.jobs ∧ u.mem = s.mem)) ∧
     (m.report = none → m.lost = true → s.isMaster = false → (s.pairsOn = false ∨ s.isPrimary = true ∨
       s.partner ≠ s.rink.masterId.toNat) →
       (s.rink.awayTold = false → gives (fun u => u.flag Reg.rnkDev 4 = true ∧ u.rink.awayTold = true ∧ u.devId = s.devId ∧
         u.isEnum = s.isEnum ∧ (∀ p : RinkPort, p ≠ n → s.linkUp p = true → s.inTree p = true →
           ∃ e : Enumeration, e.lost = true ∧ Holds u p 0xFFF (.enumerate e)) ∧
         u.gate = s.gate ∧ u.jobs = s.jobs ∧ u.mem = s.mem)) ∧
       (s.rink.awayTold = true → gives (fun u => u = Arrived s n h))) ∧
     (∀ d p t, m.report = some ⟨d, [(p, none, t)]⟩ → s.isMaster = true → s.rink.todo = [] → s.rink.offer = none →
       s.rink.awaited = [] → s.rink.nextId < 4095 → d ≠ s.self → s.reaches d.toNat = true →
       (∀ e ∈ s.rink.tree ++ s.rink.spares, e.1 ≠ d) →
       gives (fun u => u.rink.nextId = s.rink.nextId + 1 ∧ u.rink.offer = some (d, p, BitVec.ofNat 12 s.rink.nextId) ∧
         (∃ e : Enumeration, e.id.toNat = s.rink.nextId ∧ e.forPort = some p ∧ GoesTo s u d (.enumerate e)) ∧
         u.jobs = s.jobs ∧ u.mem = s.mem)) ∧
     (∀ r x q, m.report = some r → s.isMaster = true → s.rink.offer = some (x, q, r.reporter) → x ≠ r.reporter →
       (∀ e ∈ s.rink.tree, e.1 ≠ r.reporter) → gives (fun u => (x, q, r.reporter) ∈ u.rink.tree ∧ u.jobs = s.jobs ∧ u.mem = s.mem)))

/-- R318, R319: two stamps each way give a link's path delay, half the round trip corrected by ASYM; on the link to the parent the
offset says whether the count is aligned, once it has kept within its bound for 10 ms, and whether it is far off; the master's offset
to TAI goes down every link of the tree, and a device below takes it and passes it on.
R320, R321: an armed slot whose gate count has passed is spent and LATE; else it is armed, and with BCAST its members are
told; a member takes an arm that lies at least 20 µs ahead, and answers; disarmed, a slot holds nothing; at its gate count the next
job of its model launches, and the slot shows FIRED. That a slot armed again with a gate count that is past gives its old arm up is the
model's reading (log 91). -/
def Obligations.CountsAndStartGates : Prop :=
  (∀ (s : State), s.rinkLive = true →
     let told := fun (l : Link) (off : W64) => ({ l with waiting := l.waiting ++ [(4, 0xFFF, .tai off)] } : Link).grant
     (∀ (n : RinkPort) (t : TimeStamps), s.linkUp n = true → s.isEnum = true → s.isMaster = false → s.inTree n = true →
       s.masterPort = some n →
       let off := (stampOffset t (s.fld (Reg.rnkAsym n) 15 0)).natAbs
       let bound := 20 + 5 * s.rink.hops
       Gives (.timeStampExchange n t) s (fun u =>
         u = { s with regs := u.regs, links := u.links, rink := { s.rink with boundSince := u.rink.boundSince } } ∧
         u.flag Reg.gtbAlignStatus 1 = decide (100000 < off) ∧
         (bound < off → u.flag Reg.gtbAlignStatus 0 = false ∧ u.rink.boundSince = none) ∧
         (off ≤ bound → u.rink.boundSince = some (s.rink.boundSince.getD s.gate) ∧
           u.flag Reg.gtbAlignStatus 0 = decide ((s.rink.boundSince.getD s.gate).toNat + 10000000 ≤ s.gate.toNat)) ∧
         SameRegs [Reg.gtbAlignStatus] s u)) ∧
     (∀ (n : RinkPort) (t : TimeStamps), s.linkUp n = true →
       let delay := (((t.t4 : Int) - t.t1) - ((t.t3 : Int) - t.t2)) / 2 + sext 16 (s.fld (Reg.rnkAsym n) 15 0) / 100
       Gives (.timeStampExchange n t) s (fun u => u.links[n] = { s.links[n] with pathDelay := delay } ∧
         (∀ j : RinkPort, j ≠ n → u.links[j] = s.links[j]) ∧ u.gate = s.gate ∧
         (s.isEnum = false ∨ s.isMaster = true ∨ s.inTree n = false ∨ s.masterPort ≠ some n → u = { s with links := u.links }))) ∧
     (s.isMaster = true → Gives .taiOffsetSend s (fun u => u = { s with links := u.links } ∧
       ∀ p : RinkPort, u.links[p] = if s.linkUp p && s.inTree p then told s.links[p] (s.reg (Reg.ethPtpOffset 0)) else s.links[p])) ∧
     (s.isMaster = false → Gives .taiOffsetSend s (fun u => u = s)) ∧
     (∀ (n : RinkPort) (h : FlitHeader) (off : W64), FlitTaken s n h 7 →
       let t := Arrived s n h
       (s.isMaster = true → Gives (.taiOffsetFlit n h off) s (fun u => u = t)) ∧
       (s.isMaster = false → Gives (.taiOffsetFlit n h off) s (fun u => u = { t with regs := u.regs, links := u.links } ∧
         u.reg (Reg.ethPtpOffset 0) = off ∧ SameRegs [Reg.ethPtpOffset 0, Reg.rnkFecCorrCount n] s u ∧
         ∀ p : RinkPort, u.links[p] =
           if h.dest = 0xFFF ∧ p ≠ n ∧ s.linkUp p = true ∧ s.inTree p = true then told s.links[p] off else t.links[p])))) ∧
  ((∀ (s : State) (n : RinkPort) (h : FlitHeader) (a : GateArm), FlitTaken s n h 4 →
     let t := Arrived s n h
     let taken := decide (s.gate.toNat + 20000 ≤ a.gate.toNat)
     Gives (.startGateArmFlit n h a) s (fun u => u = { t with links := u.links, gates := u.gates, regs := u.regs } ∧
       u.links[n] = { t.links[n] with answers := (s.links[n]).answers ++ [(s.rink.masterId, a.slot, taken)] } ∧
       (taken = true → u.gates[a.slot] = ⟨true, a.gate, a.ctx, a.model⟩ ∧ u.reg (Reg.gtbSgGate a.slot) = a.gate ∧
         u.fld (Reg.gtbSgCtrl a.slot) 23 14 = a.ctx.val ∧ u.fld (Reg.gtbSgCtrl a.slot) 13 10 = a.model.val ∧
         ∀ g : GateSlot, g ≠ a.slot → u.gates[g] = s.gates[g]) ∧
       (taken = false → u.gates = s.gates ∧ u.regs = t.regs))) ∧
   ∀ (s : State) (slot : GateSlot),
     (∀ v : BitVec 32, let g := s.reg (Reg.gtbSgGate slot)
       (g.toNat ≤ s.gate.toNat → Gives (.startGateArm slot v) s (fun u => u = { s with regs := u.regs, gates := u.gates } ∧
         u.gates[slot] = { s.gates[slot] with armed := false } ∧ (∀ j : GateSlot, j ≠ slot → u.gates[j] = s.gates[j]) ∧
         u.flag (Reg.gtbSgCtrl slot) 3 = true ∧ SameRegs [Reg.gtbSgCtrl slot] s u)) ∧
       (s.gate.toNat < g.toNat →
         let c : CtxId := Fin.ofNat 1024 (field v 23 14)
         let m : ModelNo := Fin.ofNat 16 (field v 13 10)
         Gives (.startGateArm slot v) s (fun u => u.gates[slot] = ⟨true, g, c, m⟩ ∧
           (∀ j : GateSlot, j ≠ slot → u.gates[j] = s.gates[j]) ∧ u.fld (Reg.gtbSgCtrl slot) 23 14 = field v 23 14 ∧
           u.fld (Reg.gtbSgCtrl slot) 13 10 = field v 13 10 ∧ u.mem = s.mem ∧ u.jobs = s.jobs ∧
           (v.getLsbD 2 = false → u = { s with regs := u.regs, gates := u.gates } ∧ SameRegs [Reg.gtbSgCtrl slot] s u) ∧
           (v.getLsbD 2 = true → u.fld (Reg.gtbSgCtrl slot) 31 24 = 0 ∧
             ∀ d ∈ s.gateMembers, GoesTo s u (BitVec.ofNat 12 d) (.arm ⟨slot, g, c, m⟩))))) ∧
     Gives (.startGateDisarm slot) s (fun u => u = { s with gates := u.gates } ∧
       u.gates[slot] = { s.gates[slot] with armed := false } ∧ ∀ j : GateSlot, j ≠ slot → u.gates[j] = s.gates[j]) ∧
     (∀ (j : Job) (m : Model) (im : Image) (ps : List Place) (args : List Byte), (s.gates[slot]).armed = true →
       (s.gates[slot]).gate.toNat ≤ s.gate.toNat → s.gateHolds j = false →
       s.jobs.find? (fun j => j.ctx == (s.gates[slot]).ctx && j.model == (s.gates[slot]).model && j.state == .queued) = some j →
       s.lodge.inReset = false → s.ctxRuns j.ctx = true → s.model? j.ctx j.model = some m → m.residence = .resident ps →
       m.image = some im → im.cascade = [] → s.frozenIn j.ctx j.args.toNat im.argBytes = none →
       s.readVa j.ctx j.args.toNat im.argBytes = .ok args → im.counters.length ≤ s.freePlaces.length →
       Gives (.startGateFire slot) s (fun u => (u.gates[slot]).armed = false ∧ u.flag (Reg.gtbSgCtrl slot) 4 = true ∧
         (∃ y ∈ u.jobs, y.uid = j.uid ∧ y.state = .running ∧ y.launch = s.gate ∧ y.argData = args) ∧
         u.hostMem = s.hostMem ∧ u.models = s.models)) ∧
     ((s.gates[slot]).armed = false ∨ s.gate.toNat < (s.gates[slot]).gate.toNat → Gives (.startGateFire slot) s (fun u => u = s)))

/-- R325: a cascade job whose abort this member detects ends here with its tiles stopped, is counted and recorded, and every other
member that a path leads to is told; one that hears of an abort ends the job and counts it, and records nothing. A job yet to be
submitted here is kept as aborted. Whom a device that is no member asks to tell the others is the model's choice (log 37).
R326–R329: the heartbeat goes out on every path to the partner and says what the twin is; when none has come for HB_LOSS a standby
becomes primary, and master where its partner was, gives notice, aborts the cascades with its partner and lets its paired contexts
run; a primary only notes it. A living partner that gets the notice stands by, with its paired contexts parked, and is master no longer.
What a new master knows, and that it asks each device for its links, is the model's choice (log 37). -/
def Obligations.CascadesAndPairs : Prop :=
  (∀ (s : State) (ctx : CtxId) (job : CascadeJob) (cause : AbortCause),
     let key := (ctx, job.model, job.n)
     let counts := fun (u : State) =>
       (u.reg Reg.rnkCascadeAbortCount).toNat = satAdd 32 (s.reg Reg.rnkCascadeAbortCount).toNat 1
     let ends := fun (j : Job) (u : State) => Aborted j.uid u ∧ counts u ∧ u.mem = s.mem ∧ ∀ y ∈ s.jobs, y.uid ≠ j.uid → y ∈ u.jobs
     let detects := fun (i : Instr) =>
       (∀ j, s.cascadeJob key = some j → Gives i s (fun u => ends j u ∧ (∃ r ∈ u.reports, r.cls = 0x0A) ∧
         ∀ d ∈ s.membersOf j, d ≠ s.devId → GoesTo s u (BitVec.ofNat 12 d) (.abort j.ctx j.model j.nModel cause false))) ∧
       (s.cascadeJob key = none → key ∉ s.rink.aborted → Gives i s (fun u => counts u ∧ u.jobs = s.jobs ∧ u.mem = s.mem ∧
         (∃ r ∈ u.reports, r.cls = 0x0A) ∧ (s.toCome key = true → key ∈ u.rink.aborted) ∧
         ∀ d ∈ s.modelMembers ctx job.model, d ≠ s.devId →
           GoesTo s u (BitVec.ofNat 12 d) (.abort ctx job.model job.n cause false)))
     (s.off = false → s.lodge.inReset = false → detects (.cascadeAbort ctx job ⟨cause, .here⟩) ∧
       (s.cascadeJob key = none → key ∈ s.rink.aborted → Gives (.cascadeAbort ctx job ⟨cause, .here⟩) s (fun u => u = s))) ∧
     (s.off = true ∨ s.lodge.inReset = true → Gives (.cascadeAbort ctx job ⟨cause, .here⟩) s (fun u => u = s)) ∧
     (∀ (n : RinkPort) (h : FlitHeader), FlitTaken s n h 2 → detects (.cascadeAbort ctx job ⟨cause, .link n h true⟩) ∧
       (∀ j, s.cascadeJob key = some j → Gives (.cascadeAbort ctx job ⟨cause, .link n h false⟩) s (fun u => ends j u ∧
         u.reports = s.reports)) ∧
       (s.cascadeJob key = none → key ∉ s.rink.aborted → s.toCome key = true →
         Gives (.cascadeAbort ctx job ⟨cause, .link n h false⟩) s (fun u => counts u ∧ key ∈ u.rink.aborted ∧ u.jobs = s.jobs ∧
           u.reports = s.reports ∧ u.mem = s.mem)) ∧
       (s.cascadeJob key = none → key ∈ s.rink.aborted ∨ s.toCome key = false →
         Gives (.cascadeAbort ctx job ⟨cause, .link n h false⟩) s (fun u => u = Arrived s n h)))) ∧
  (∀ s : State,
     (s.rinkLive = true → s.pairsOn = true → s.flag Reg.rnkPairCtrl 1 = false → s.rink.dropped = false → s.power.stopped = false →
       Gives .pairsHeartbeatSend s (fun u => u = { s with links := u.links } ∧
         (∀ n : RinkPort, n ∉ s.partnerPorts → u.links[n] = s.links[n]) ∧
         ∀ n : RinkPort, n ∈ s.partnerPorts → (u.links[n]).beats = (s.links[n]).beats + 1 ∧ (u.links[n]).retry = (s.links[n]).retry ∧
           ∃ c, (u.links[n]).sent = some c ∧ c.heartbeat = true ∧
             c.twin = some ⟨s.isPrimary, s.rink.primarySince, s.rink.heard⟩ ∧
             c.dest = (if s.toPartner n then 0xFFF else BitVec.ofNat 12 s.partner))) ∧
     ((s.pairsOn = false ∨ s.flag Reg.rnkPairCtrl 1 = true ∨ s.rink.dropped = true) → Gives .pairsHeartbeatSend s (fun u => u = s)) ∧
     (let due := s.rink.heartbeatAt.toNat + s.fld Reg.rnkPairCtrl 11 8 * 1000000 ≤ s.gate.toNat
      (¬ due ∨ s.pairsOn = false → Gives .pairsTakeover s (fun u => u = s)) ∧
      (s.rinkLive = true → s.pairsOn = true → due →
       (s.isPrimary = true → Gives .pairsTakeover s (fun u => u = { s with regs := u.regs } ∧ u.flag Reg.rnkPairStatus 2 = false ∧
         u.isPrimary = true ∧ SameRegs [Reg.rnkPairStatus] s u)) ∧
       (s.isPrimary = false → Gives .pairsTakeover s (fun u => u.isPrimary = true ∧ u.flag Reg.rnkPairStatus 2 = false ∧
         u.flag Reg.rnkPairStatus 3 = true ∧ u.rink.primarySince = s.gate ∧ u.gate = s.gate ∧
         (u.reg Reg.rnkTakeoverCount).toNat = satAdd 32 (s.reg Reg.rnkTakeoverCount).toNat 1 ∧
         (∃ r ∈ u.reports, r.cls = 0x0B) ∧
         (s.isEnum = true → s.isMaster = false → s.partner = s.rink.masterId.toNat → u.isMaster = true ∧ u.rink.masterId = s.self ∧
           s.devId < u.rink.nextId ∧ (∀ r ∈ s.rink.routes, r.1.toNat < u.rink.nextId) ∧
           u.rink.awaited = (s.rink.routes.map (·.1)).filter (fun d => s.reaches d.toNat)) ∧
         (∀ n ∈ s.partnerPorts, Holds u n (if s.toPartner n then 0xFFF else BitVec.ofNat 12 s.partner)
           (.takeover ⟨BitVec.ofNat 12 s.devId, s.gate⟩)) ∧
         (∀ j ∈ s.jobs, ∀ im, j.state ≠ .ended → s.imageOf j = some im → (∃ e ∈ im.cascade, s.partner ∈ e.members) →
           Aborted j.uid u) ∧
         (∀ x ∈ u.contexts, s.isPaired x.id = true → x.parked = false))))) ∧
     (∀ (n : RinkPort) (h : FlitHeader) (t : Takeover), FlitTaken s n h 6 →
       (s.pairsOn = true → t.sender.toNat = s.partner → Gives (.takeoverNotice n h t) s (fun u => u.isPrimary = false ∧
         (s.isPrimary = true → ∀ x ∈ u.contexts, x.id ≠ 0 → s.isPaired x.id = true → x.parked = true) ∧
         (s.isPrimary = false → u.contexts = s.contexts) ∧
         (s.isMaster = true → u.isMaster = false ∧ u.rink.masterId = t.sender))) ∧
       (s.pairsOn = false ∨ t.sender.toNat ≠ s.partner → Gives (.takeoverNotice n h t) s (fun u => u = Arrived s n h))))

/-! ## Resets, boot, Patrol, flash, log, trace (R336–R351, R364, R388) -/

/-- R343, R388, R389: POR_N resets all but the fuses, the flash and the record of a shutdown; its release, with the time base running, a
retry and a restart boot from the first firmware entry that verifies, and else the boot has failed; a device that has shut down boots
only after POR_N. That the steps of a boot pass at once (log 39) and what a restart forgets (log 70) are the model's choices.
R346–R348: a heartbeat that stays away for 50 ms resets the Lodge while the engines run on, and ends the jobs that had launched;
the fourth within 600 s halts the device instead; the firmware then starts again and the kernel restores its state, refuses what
was stopped, aborts the cascades, records the reset with the gate count at which it was detected, and releases the cap; with no
firmware that verifies the Lodge stays in reset. -/
def Obligations.ResetsAndBoot : Prop :=
  (∀ s : State,
     (∀ p : PorPulse, (pulseResets p = false → Gives (.porAssert p) s (fun u => u = s)) ∧
       (pulseResets p = true → Gives (.porAssert p) s (fun u => u.board.porLow = true ∧ u.gate = 0 ∧ u.mem = [] ∧
         u.contexts = State.reset.contexts ∧ u.models = [] ∧ u.jobs = [] ∧ u.cores = State.reset.cores ∧
         u.lodge.flash = s.lodge.flash ∧ u.lodge.slots = s.lodge.slots ∧ u.lodge.rollback = s.lodge.rollback ∧
         u.lodge.provLock = s.lodge.provLock ∧ (∀ d : DmcId, (u.dmc[d]).resetLow = true) ∧ u.pending = s.pending ∧
         (∀ o, o ≠ Reg.pwrShutdownCause → o ≠ Reg.pwrTripCount → u.reg o = regReset o) ∧
         u.reg Reg.pwrShutdownCause = s.reg Reg.pwrShutdownCause ∧ u.reg Reg.pwrTripCount = s.reg Reg.pwrTripCount))) ∧
     (s.board.porLow = true → ∀ b : BootInputs, Gives (.porRelease b) s (fun u => u.board.porLow = false ∧
       u.board.masterSel = b.masterSel ∧ (b.early = [] → b.earlyEnum = none → u.isMaster = b.masterSel ∧ u.isPrimary = !b.pairRole) ∧
       (b.tbRunning = true → Booted (s.flashBoard b.flash) u) ∧
       (b.tbRunning = false → u.board.bootWaits = true ∧ u.mem = s.mem))) ∧
     (s.board.porLow = false → ∀ b : BootInputs, Gives (.porRelease b) s (fun u => u = s)) ∧
     (∀ b flash, s.board.inputs = some b → s.off = false → BootFailed s →
       (s.patrolState ≠ 1 → Gives (.bootRetry flash) s (Booted (s.flashBoard flash))) ∧
       (s.patrolState = 1 → exec (.bootRetry flash) s = exec .lodgeRestore (s.flashBoard flash))) ∧
     (s.off = true → (∀ flash, Gives (.bootRetry flash) s (fun u => u = s)) ∧ Gives .patrolRestart s (fun u => u = s) ∧
       Gives .lodgeRestore s (fun u => u = s)) ∧
     (∀ b, s.board.inputs = some b → s.off = false → s.patrolState = 2 → Gives .patrolRestart s (fun u => Booted s u ∧
       (∀ k, (u.core k).phase = (s.core k).phase.forgotten ∧ (u.core k).tile = none) ∧
       u.contexts = [Context.lodge] ∧ u.models = [] ∧ u.jobs = [] ∧ u.fences = [] ∧ u.lodge.resets = []))) ∧
  (∀ s : State,
     (s.lodge.inReset = false → Gives .patrolHeartbeat s (fun u => u = { s with lodge := { s.lodge with patrolBeat := s.gate } })) ∧
     (s.lodge.inReset = true → Gives .patrolHeartbeat s (fun u => u = s)) ∧
     (s.gate.toNat < s.lodge.patrolBeat.toNat + 50000000 → Gives .patrolReset s (fun u => u = s)) ∧
     (s.lodge.inReset = false → s.power.stopped = false → s.lodge.patrolBeat.toNat + 50000000 ≤ s.gate.toNat →
       let recent := s.lodge.resets.countP (fun g => decide (s.gate.toNat ≤ g.toNat + 600000000000))
       (recent < 3 → Gives .patrolReset s (fun u => u.lodge.inReset = true ∧ u.patrolState = 1 ∧
         (u.reg Reg.ldgPatrolResetCount).toNat = satAdd 32 (s.reg Reg.ldgPatrolResetCount).toNat 1 ∧
         u.lodge.patrolCap = true ∧ u.power.effectiveCap = 150 ∧ u.power.limiter = true ∧ u.power.vddCore = s.power.vddCore ∧
         u.lodge.resets = s.lodge.resets ++ [s.gate] ∧ u.lodge.traces = [] ∧
         (∀ c : ClusterId, Note.trace ∉ u.lodge.events[c]) ∧
         (∀ k, (∀ t, (s.core k).tile = some t → ∀ j ∈ s.jobs, j.uid = t.job → s.membersOf j = []) →
           (u.core k).phase = (s.core k).phase ∧ (u.core k).tile = (s.core k).tile ∧ (u.core k).queues = (s.core k).queues) ∧
         (∀ j ∈ s.jobs, s.hasLaunched j = true → ∀ y ∈ u.jobs, y.uid = j.uid → y.state = .ended) ∧
         u.contexts = s.contexts ∧ u.models = s.models ∧ u.fences = s.fences ∧ u.mem = s.mem)) ∧
       (3 ≤ recent → Gives .patrolReset s (fun u => u.lodge.inReset = true ∧ u.patrolState = 2 ∧ AllStopped s u ∧
         u.rink.dropped = true ∧ u.power.effectiveCap = 150 ∧ u.mem = s.mem))) ∧
     (s.patrolState = 1 → s.off = false → let r := s.rebootFirmware
       (r.2 = (firmwareTried s).any (entryBoots s)) ∧
       Gives .lodgeRestore s (fun u =>
         (r.2 = true → u.patrolState = 0 ∧ u.lodge.inReset = false ∧ u.lodge.patrolCap = false ∧ u.power.limiter = false ∧
           u.stopped = [] ∧ u.host.heartbeatGate = s.gate ∧ u.lodge.patrolBeat = s.gate ∧ u.fld Reg.ldgBootStatus 3 0 = 4 ∧
           (∃ e ∈ u.reports, e.cls = 0x0D ∧ e.cause = 1 ∧ e.gate = s.lodge.resets.getLast?.getD 0) ∧
           (∀ j ∈ s.jobs, s.membersOf j ≠ [] → ∀ y ∈ u.jobs, y.uid = j.uid → y.state = .ended)) ∧
         (r.2 = false → u = r.1 ∧ BootFailed u ∧ u.patrolState = 1 ∧ u.lodge.inReset = s.lodge.inReset ∧ u.jobs = s.jobs ∧
           u.cores = s.cores ∧ u.mem = s.mem))) ∧
     (s.patrolState ≠ 1 → Gives .lodgeRestore s (fun u => u = s)))

/-- R342, R345, R349–R351, R364: the roll-back counter follows a firmware that has run for 600 s; a flash operation is refused or
under way, and has then erased, programmed or compared its range, once its source is behind no frozen controller; a log entry loads; a
trace record is written; an overrun is told. That an erased byte reads 0xFF is presumed of the flash (log 40), the count of 64 fuses is
the model's reading (log 87), and how a trace point counts whose ring lies where it may not is a free value (log 42). -/
def Obligations.FlashLogAndTrace : Prop :=
  ∀ s : State, s.lodge.inReset = false →
    (∀ g, s.lodge.running600 = some g → s.hifState = 4 → g.toNat + 600000000000 ≤ s.gate.toNat →
      let n := min 64 s.lodge.advance
      (s.lodge.rollback < n → Gives .rollbackAdvance s (fun u => u.lodge.rollback = n ∧ u.lodge.flash = s.lodge.flash ∧
        u.lodge.log = s.lodge.log ++ [⟨s.gate, 1, 0, 6, [BitVec.ofNat 64 n]⟩] ∧ u.mem = s.mem ∧
        SameRegs [Reg.ldgFuseStatus, Reg.ldgLogHead] s u)) ∧
      (n ≤ s.lodge.rollback → Gives .rollbackAdvance s (fun u => u = s))) ∧
    (∀ (units : W32) (op : Nat) (i : Instr), (op, i) ∈ [(1, Instr.flashErase units), (2, Instr.flashProgram units), (3, Instr.flashCompare units)] →
      ((s.hifState ≠ 2 ∧ s.hifState ≠ 4) ∨ s.flag Reg.ldgFlashStatus 8 = true → Gives i s (fun u => u = s)) ∧
      (s.hifState = 2 ∨ s.hifState = 4 → s.flag Reg.ldgFlashStatus 8 = false →
        let o := s.fld Reg.ldgFlashOfs 31 0 / 4096 * 4096
        let src := (s.reg Reg.ldgFlashSrc).toNat / 4096 * 4096
        let n := units.toNat * 4096
        let refused := (∃ x, s.lodge.bootImage = some x ∧ overlaps o n x.2.1 x.2.2 = true) ∨
          (overlaps o n 0 260 = true ∧ overlaps o n 0x10000 260 = true) ∨ s.lodgeBase < src + n
        (refused → Gives i s (fun u => u = { s with regs := u.regs } ∧ u.reg Reg.ldgFlashStatus = 2 ∧
          SameRegs [Reg.ldgFlashStatus] s u)) ∧
        (¬ refused → Gives i s (fun u => u = { s with regs := u.regs, lodge := { s.lodge with flashPending := some (op, o, n, src) } } ∧
          u.reg Reg.ldgFlashStatus = 0x100 ∧ SameRegs [Reg.ldgFlashStatus] s u)))) ∧
    (∀ (fine : Bool) (op o n src : Nat), s.lodge.flashPending = some (op, o, n, src) →
      (op ≠ 1 → s.frozenRange src n = true → Gives (.flashOperationComplete fine) s (fun u => u = s)) ∧
      (op = 1 ∨ s.frozenRange src n = false →
      Gives (.flashOperationComplete fine) s (fun u => u.lodge.flashPending = none ∧ u.mem = s.mem ∧
        SameRegs [Reg.ldgFlashStatus] s u ∧
        (∀ a, a < o ∨ o + n ≤ a → u.flashRd a 1 = s.flashRd a 1) ∧
        (fine = false → u.reg Reg.ldgFlashStatus = 3) ∧
        (fine = true → op = 1 → u.flashRd o n = List.replicate n 0xFF ∧ u.reg Reg.ldgFlashStatus = 0) ∧
        (fine = true → op = 2 → u.flashRd o n = s.rd src n ∧ u.reg Reg.ldgFlashStatus = 0) ∧
        (op = 3 → u.lodge.flash = s.lodge.flash ∧
          (fine = true → u.reg Reg.ldgFlashStatus = if s.flashRd o n = s.rd src n then 0 else 4))))) ∧
    (∀ v : W64, Gives (.logSelect v) s (fun u => u = { s with regs := u.regs } ∧ u.reg Reg.ldgLogSel = v ∧
      (∀ j, j < 8 → (u.reg (Reg.ldgLogData j)).toNat = leAt (s.logAt v.toNat) (8 * j) 8) ∧
      ∀ o, o ≠ Reg.ldgLogSel → (∀ j, j < 8 → o ≠ Reg.ldgLogData j) → u.reg o = s.reg o)) ∧
    (∀ (t : TracePoint) (r : List TracePoint), s.lodge.traces = t :: r →
      let base := (s.reg Reg.ldgTraceBase).toNat / 4096 * 4096
      let a := base + (s.reg Reg.ldgTraceWptr).toNat % s.traceSlots * 32
      (s.frozenAt a = true → Gives .traceRecordWrite s (fun u => u = s)) ∧
      (s.frozenAt a = false → s.plainDram base (32 * s.traceSlots) = true →
        Gives .traceRecordWrite s (fun u => u.lodge.traces = r ∧ u.rd a 32 = traceBytes t ∧
          (∀ y, y < a ∨ a + 32 ≤ y → u.byteAt y = s.byteAt y) ∧
          (u.reg Reg.ldgTraceWptr).toNat = satAdd 64 (s.reg Reg.ldgTraceWptr).toNat 1 ∧
          SameRegs (Reg.ldgTraceWptr :: initRegs) s u)) ∧
      (s.frozenAt a = false → s.plainDram base (32 * s.traceSlots) = false →
        Gives .traceRecordWrite s (fun u => u.lodge.traces = r ∧ u.mem = s.mem ∧
          (((u.reg Reg.ldgTraceDropCount).toNat = satAdd 32 (s.reg Reg.ldgTraceDropCount).toNat 1 ∧
            SameRegs [Reg.ldgTraceDropCount] s u) ∨
           ((u.reg Reg.ldgTraceWptr).toNat = satAdd 64 (s.reg Reg.ldgTraceWptr).toNat 1 ∧ SameRegs [Reg.ldgTraceWptr] s u))))) ∧
    (∀ c : ClusterId, s.lodge.overruns[c] ≠ 0 → Gives (.eventQueueScan c) s (fun u => u.lodge.overruns[c] = 0 ∧
      (∀ d : ClusterId, d ≠ c → u.lodge.overruns[d] = s.lodge.overruns[d]) ∧ u.mem = s.mem ∧
      u.lodge.log = s.lodge.log ++ [⟨s.gate, 0, 1, 2, [BitVec.ofNat 64 c.val, BitVec.ofNat 64 s.lodge.overruns[c]]⟩] ∧
      SameRegs [Reg.ldgLogHead] s u))

/-! ## Power, heat, counts, the error recorder (R352–R373, R387, R391, R392) -/

/-- R352–R355, R357, R365, R384: the estimate is a static term and the events of 2 µs times their energies; the limiter engages above
1.10 times the cap, above 300 W, or with a silent regulator above the cap, and lets go below the cap; firmware moves the voltages by the
steps of R354 within their range, VDD_SRAM first on a rise and VDD_CORE first on a fall, or holds both and engages the limiter where the
regulator that is to move first is silent, which it records with that rail's select; the slope limits follow; a mode write is applied,
at once or when firmware runs again, and is ignored after a trip. A tick before the first estimate, and the steps of the descent after a
mode change, are the model's choice (log 71).
R358, R359, R387, R391, R392, R365: a sensor that is hot in two samples running trips the device; heat lowers the voltage and the
cap; a supply fault or the loss of the time base shuts the device down; a clock that returns is used again, and a boot that waits for
it goes on; the always-on domain forgets. That the tolerance of the trip lies in the readings is the model's reading (log 68), and so
is what a lost PCIE_REFCLK does to requests (log 128). -/
def Obligations.PowerAndHeat : Prop :=
  (∀ s : State,
     (s.off = false →
       (∀ e : PowerEvents,
         let p := s.power
         let mw := Config.staticPower p.vddCore p.hottest p.fuses.2 +
           (((powerCounts e).zip p.fuses.1).map (fun x => x.1 * Config.scaledEnergy x.2 p.vddCore)).sum / 2000
         let cap := 1000 * p.effectiveCap
         let silent := p.silent.core = true ∨ p.silent.sram = true
         let excess := 11 * cap < 10 * mw ∨ 300000 < mw ∨ (silent ∧ cap < mw)
         Gives (.powerEstimate e) s (fun u => u = { s with power := { s.power with
           events := powerCounts e, estimates := u.power.estimates
           limiter := if excess then true else if mw < cap then false else s.power.limiter } } ∧
         u.power.estimates = (s.power.estimates ++ [mw]).drop ((s.power.estimates ++ [mw]).length - 500))) ∧
       (s.lodge.inReset = false → ∀ acks : RailAcks,
         let p := s.power
         let mv := s.nextVdd
         let gives := Gives (.powerControlTick acks) s
         let held := fun (rail : Nat) (u : State) => u.power.vddCore = p.vddCore ∧ u.power.vddSram = p.vddSram ∧
           u.power.limiter = true ∧ u.mem = s.mem ∧ ∃ r ∈ u.reports, r.cls = 0x0E ∧ r.cause = 1 ∧
             r.detail = BitVec.ofNat 32 (s.lodge.board.getD rail 0).toNat
         (mv = p.vddCore → gives (fun u => u = s)) ∧
         (mv ≠ p.vddCore → p.silent = ⟨false, false⟩ →
           (acks = ⟨true, true⟩ → gives (fun u => u.power.vddCore = mv ∧ u.power.vddSram = max 750 mv ∧
             (u.power.matrixLimit, u.power.vectorLimit) = slopeLimits (max mv (min s.vddCeiling (mv + 5))) ∧ u.mem = s.mem)) ∧
           (mv < p.vddCore → acks.core = false → gives (fun u => held 1 u ∧ u.power.silent = ⟨true, false⟩)) ∧
           (p.vddCore < mv → p.vddSram ≠ max 750 mv → acks.sram = false → gives (fun u => held 2 u ∧
             u.power.silent = ⟨false, true⟩))) ∧
         (mv ≠ p.vddCore → p.silent.core = true → gives (fun u => u.power.vddCore = p.vddCore)))) ∧
     (let v := s.power.vddCore
      let cap := 1000 * s.power.effectiveCap
      let b := s.power.estimates
      let a := b.drop (b.length - 50)
      let low := b ≠ [] ∧ (cap * a.length < a.sum ∨ s.vddCeiling < v)
      let mid := b ≠ [] ∧ ¬ low ∧ 97 * cap * b.length < 100 * b.sum
      let up := b ≠ [] ∧ ¬ low ∧ ¬ mid ∧ 100 * b.sum < 92 * cap * b.length ∧ v < s.vddCeiling ∧ s.power.hotThrottle = false
      (low → s.nextVdd = max 650 (v - 10)) ∧ (mid → s.nextVdd = max 650 (v - 5)) ∧ (up → s.nextVdd = max 650 (v + 5)) ∧
      (¬ low → ¬ mid → ¬ up → s.nextVdd = max 650 v)) ∧
     (s.power.tripped = true ∨ s.off = true → ∀ v : W32, Gives (.powerModeWrite v) s (fun u => u = s)) ∧
     (s.power.tripped = false → s.off = false → ∀ v : W32,
       let taken := fun (u : State) =>
         (field v 1 0 = 3 → u.fld Reg.pwrCtrl 1 0 = 1) ∧ (field v 1 0 ≠ 3 → u.fld Reg.pwrCtrl 1 0 = field v 1 0) ∧
         u.fld Reg.pwrCtrl 10 2 = if 60 ≤ field v 10 2 ∧ field v 10 2 ≤ 300 then field v 10 2 else 220
       (s.lodge.inReset = false → Gives (.powerModeWrite v) s (fun u => taken u ∧ u.power.effectiveCap = u.capNow ∧ u.mem = s.mem ∧
         u.lodge.log = s.lodge.log ++ [⟨s.gate, 2, 0, 1, [BitVec.ofNat 64 (u.fld Reg.pwrCtrl 1 0), BitVec.ofNat 64 (field v 10 2)]⟩] ∧
         SameRegs [Reg.pwrCtrl, Reg.ldgLogHead] s u)) ∧
       (s.lodge.inReset = true → Gives (.powerModeWrite v) s (fun u => taken u ∧
         u = { s with regs := u.regs, power := { s.power with capWritten := some (field v 10 2) } } ∧ SameRegs [Reg.pwrCtrl] s u)))) ∧
  (∀ s : State,
     (s.off = false → Gives .supplyFault s (ShutDown false s)) ∧
     (s.off = true → Gives .supplyFault s (fun u => u = s)) ∧
     (s.board.porLow = false → s.power.tripped = false → ∀ r : ThermalReadings,
       let l := r.sensors
       let hot := hotSensors l
       let trips := hot.any s.power.tripSensors.contains = true
       (∀ i, i ∈ hot ↔ ∃ x, l[i]? = some x ∧ 1150 ≤ x.deciC) ∧
       (trips → Gives (.thermalSample r) s (fun u => ShutDown true s u ∧ u.power.tripped = true ∧
         u.power.thermtripLow = true ∧ (u.reg Reg.pwrTripCount).toNat = satAdd 32 (s.reg Reg.pwrTripCount).toNat 1)) ∧
       (¬ trips → s.power.stopped = true ∨ s.lodge.inReset = true → Gives (.thermalSample r) s (fun u =>
         u = { s with power := { s.power with tripSensors := hot, hottest := (l.map (·.deciC)).foldl max (-1000) } })) ∧
       (¬ trips → s.power.stopped = false → s.lodge.inReset = false →
         Gives (.thermalSample r) s (fun u => u.power.tripped = false ∧ u.power.tripSensors = hot ∧
           u.power.hotThrottle = (decide (1000 ≤ hotFigure l) || (s.power.hotThrottle && decide (970 < hotFigure l))) ∧
           u.power.hotCap = (decide (1050 ≤ hotFigure l) || (s.power.hotCap && decide (1000 ≤ hotFigure l))) ∧
           u.power.fewSensors = decide ((l.filter (fun r => r.passes)).length < 12) ∧ u.power.effectiveCap = u.capNow ∧
           (1000 ≤ hotFigure l → 650 < s.power.vddCore → s.power.silent = ⟨false, false⟩ → r.acks = ⟨true, true⟩ →
             u.power.vddCore = max 650 (s.power.vddCore - 10)) ∧
           (1000 ≤ hotFigure l → 650 < s.power.vddCore → s.power.silent = ⟨false, false⟩ → r.acks.core = false →
             u.power.vddCore = s.power.vddCore ∧ u.power.silent.core = true ∧ u.power.limiter = true) ∧
           (hotFigure l < 1000 → u.power.vddCore = s.power.vddCore) ∧ u.mem = s.mem))) ∧
     (∀ c : RefClock, Gives (.referenceClockLoss c) s (fun u => u.board.clocksLost.contains c = true ∧
       (c = .tb → s.off = false → s.board.bootWaits = false → ShutDown false s u) ∧
       (c = .eth → u.flag (Reg.ethStatus 0) 0 = false ∧ u.flag (Reg.ethStatus 1) 0 = false) ∧
       (c = .pcie → u.host.answering = false ∧ u.masters = false) ∧ u.mem = s.mem) ∧
       Gives (.referenceClockReturn c) s (fun u => u.board.clocksLost.contains c = false ∧
         (c = .pcie → u.host.answering = (!s.host.perst && u.pcieReady)) ∧
         (∀ b, c = .tb → s.board.inputs = some b → s.board.bootWaits = true → s.off = false →
           Booted s u ∧ u.board.bootWaits = false))) ∧
     Gives .vddAonLoss s (fun u => u.power.tripped = false ∧ u.power.thermtripLow = false ∧ u.lodge.resets = [] ∧
       u.lodge.patrolCap = false ∧ u.rink.dropped = false ∧ u.mem = s.mem ∧
       (∀ r ∈ [Reg.pwrShutdownCause, Reg.pwrTripCount, Reg.ldgPatrolStatus, Reg.ldgPatrolResetCount], u.reg r = regReset r) ∧
       SameRegs [Reg.pwrShutdownCause, Reg.pwrTripCount, Reg.ldgPatrolStatus, Reg.ldgPatrolResetCount] s u))

/-- R37, R363, R366–R372: a clockless count's delta joins it once, and a rise at its source leaves less than 4,096 of it; the recorder
takes the report that goes first, counts it once, latches the first of its class, and writes its one record or two into the ring, where
it is not masked and there is room for all; the read pointer moves up to the write pointer; latches are armed again. -/
def Obligations.ErrorsAndCounts : Prop :=
  ∀ s : State,
    (∀ (off n : Nat), canonical 0 s.deltas = true → n ≠ 0 →
      lookupD 0 (s.bump off n).deltas off = (lookupD 0 s.deltas off + n) % 4096 ∧
      ∀ o, o ≠ off → lookupD 0 (s.bump off n).deltas o = lookupD 0 s.deltas o) ∧
    (∀ off : Nat, s.off = false → lookupD 0 s.deltas off ≠ 0 → regWidth off ≤ 64 → Gives (.counterDeltaTransfer off) s (fun u =>
      u = { s with regs := u.regs, deltas := u.deltas } ∧ lookupD 0 u.deltas off = 0 ∧
      (∀ o, o ≠ off → lookupD 0 u.deltas o = lookupD 0 s.deltas o) ∧
      (u.reg off).toNat = satAdd (regWidth off) (s.reg off).toNat (lookupD 0 s.deltas off) ∧
      (∀ k : CoreId, convCore off = some k.val → (u.reg off).toNat = 2 ^ 64 - 1 → u.flag (Reg.vxeConvStatus k) 3 = true) ∧
      (∀ o, o ≠ off → (∀ k : CoreId, o ≠ Reg.vxeConvStatus k) → u.reg o = s.reg o))) ∧
    (∀ off : Nat, lookupD 0 s.deltas off = 0 ∨ s.off = true → Gives (.counterDeltaTransfer off) s (fun u => u = s)) ∧
    (s.nextReport = none ∨ s.off = true → Gives .errorReportAccept s (fun u => u = s)) ∧
    (let held := fun (r : Report) => r.firmware && s.patrolHolds
     (s.nextReport = none ↔ ∀ r ∈ s.reports, held r = true) ∧
     ∀ r, s.nextReport = some r → r ∈ s.reports ∧ held r = false ∧ ∀ x ∈ s.reports, held x = false → reportBefore x r = false) ∧
    (∀ r : Report, s.off = false → s.nextReport = some r → 1 ≤ r.cls → r.cls < 16 → s.flag Reg.errRecMask r.cls = true →
      let w := (s.reg Reg.errWptr).toNat
      let parts := reportParts r
      let m := parts.length
      Gives .errorReportAccept s (fun u => u.reports = s.reports.erase r ∧ u.mem = s.mem ∧ u.jobs = s.jobs ∧
        (u.reg (Reg.errClassCount r.cls)).toNat = satAdd 32 (s.reg (Reg.errClassCount r.cls)).toNat 1 ∧
        u.flag Reg.errFirstValid r.cls = true ∧
        (m ≤ s.ringFree → u.reg Reg.errWptr = BitVec.ofNat 64 (w + m) ∧ u.reg Reg.errOvfCount = s.reg Reg.errOvfCount ∧
          (∀ p x, parts[p]? = some x → ∀ i, i < 4 →
            (u.reg (Reg.errRing (4 * ((w + p) % 1024) + i))).toNat = leAt (reportBytes (w + p + 1) x) (8 * i) 8) ∧
          (s.flag Reg.errFirstValid r.cls = false → ∀ x, parts.head? = some x →
            ∀ i, i < 4 → (u.reg (Reg.errFirst r.cls i)).toNat = leAt (reportBytes (w + 1) x) (8 * i) 8)) ∧
        (s.ringFree < m → u.reg Reg.errWptr = s.reg Reg.errWptr ∧ u.flag Reg.errOvfStatus r.cls = true ∧
          (u.reg Reg.errOvfCount).toNat = satAdd 32 (s.reg Reg.errOvfCount).toNat 1) ∧
        (s.flag Reg.errFirstValid r.cls = true → ∀ i, i < 4 → u.reg (Reg.errFirst r.cls i) = s.reg (Reg.errFirst r.cls i)))) ∧
    (∀ r : Report, s.off = false → s.nextReport = some r → 1 ≤ r.cls → r.cls < 16 → s.flag Reg.errRecMask r.cls = false →
      Gives .errorReportAccept s (fun u => u.reports = s.reports.erase r ∧ u.flag Reg.errFirstValid r.cls = true ∧
        (u.reg (Reg.errClassCount r.cls)).toNat = satAdd 32 (s.reg (Reg.errClassCount r.cls)).toNat 1 ∧
        ∀ o, o ≠ Reg.errClassCount r.cls → o ≠ Reg.errFirstValid → (∀ i, i < 4 → o ≠ Reg.errFirst r.cls i) →
          u.reg o = s.reg o)) ∧
    (∀ v : W64, let legal := (s.reg Reg.errRptr).toNat ≤ v.toNat ∧ v.toNat ≤ (s.reg Reg.errWptr).toNat
      (legal → Gives (.errRptrWrite v) s (fun u => u = { s with regs := u.regs } ∧ u.reg Reg.errRptr = v ∧
        SameRegs [Reg.errRptr] s u)) ∧ (¬ legal → Gives (.errRptrWrite v) s (fun u => u = s))) ∧
    (∀ v : W32, Gives (.firstErrorRearm v) s (fun u => u = { s with regs := u.regs, reservedUsed := u.reservedUsed } ∧
      (∀ c, 1 ≤ c → c < 16 → u.flag Reg.errFirstValid c = (s.flag Reg.errFirstValid c && !v.getLsbD c)) ∧
      SameRegs [Reg.errFirstValid] s u ∧ (∀ k ∈ u.reservedUsed, k ∈ s.reservedUsed ∧ (1 ≤ k % 16 → v.getLsbD (k % 16) = false))))
end

