-- ==== Sys2Proof/Laws/Bits.lean ====
section
/-! SUPPORT. The laws of bit fields: a field reads what was written to it, and other fields stay. -/

namespace Sys2Proof.Machine

/-- The number that a field write leaves. -/
theorem setField_toNat {n : Nat} (w : BitVec n) (hi lo v : Nat) (hl : lo ≤ hi + 1) (hn : hi < n) :
    (setField w hi lo v).toNat =
      (w.toNat / 2 ^ (hi + 1) * 2 ^ (hi + 1 - lo) + v % 2 ^ (hi + 1 - lo)) * 2 ^ lo + w.toNat % 2 ^ lo := by
  have hAM : 2 ^ (hi + 1) = 2 ^ lo * 2 ^ (hi + 1 - lo) := by rw [← pow_add]; congr 1; omega
  have hK : 2 ^ n = 2 ^ (hi + 1) * 2 ^ (n - (hi + 1)) := by rw [← pow_add]; congr 1; omega
  unfold setField
  simp only [BitVec.toNat_ofNat, Nat.shiftRight_eq_div_pow]
  have hw := w.isLt
  generalize w.toNat = x at *
  have hA : 0 < 2 ^ lo := by positivity
  have hM : 0 < 2 ^ (hi + 1 - lo) := by positivity
  rw [hAM, ← Nat.div_div_eq_div_mul]
  rw [hK, hAM] at hw
  rw [hK, hAM]
  generalize 2 ^ lo = A at *
  generalize 2 ^ (hi + 1 - lo) = M at *
  generalize 2 ^ (n - (hi + 1)) = K at *
  have e1 : x = A * (x / A) + x % A := (Nat.div_add_mod x A).symm
  have e2 : x / A = M * (x / A / M) + x / A % M := (Nat.div_add_mod _ M).symm
  have hv : v % M < M := Nat.mod_lt _ hM
  have hr : x % A < A := Nat.mod_lt _ hA
  have hq : x / A / M < K := by
    rw [Nat.div_div_eq_div_mul]
    exact Nat.div_lt_of_lt_mul hw
  have e3 : x - x / A % M * A + v % M * A = (x / A / M * M + v % M) * A + x % A := by
    have e4 : x = (x / A / M * M) * A + x / A % M * A + x % A := by
      nlinarith
    have e5 : x - x / A % M * A = (x / A / M * M) * A + x % A := by omega
    rw [e5]; ring
  rw [e3]
  apply Nat.mod_eq_of_lt
  have h1 : (x / A / M * M + v % M) + 1 ≤ (x / A / M + 1) * M := by nlinarith
  have h2 : (x / A / M + 1) * M ≤ K * M := Nat.mul_le_mul_right _ hq
  have h3 : ((x / A / M * M + v % M) + 1) * A ≤ K * M * A := Nat.mul_le_mul_right _ (h1.trans h2)
  nlinarith

/-- A field reads what was written to it, cut to its width. -/
theorem field_setField {n : Nat} (w : BitVec n) (hi lo v : Nat) (hl : lo ≤ hi + 1) (hn : hi < n) :
    field (setField w hi lo v) hi lo = v % 2 ^ (hi + 1 - lo) := by
  unfold field
  rw [setField_toNat w hi lo v hl hn, Nat.shiftRight_eq_div_pow]
  have hA : 0 < 2 ^ lo := by positivity
  have hr : w.toNat % 2 ^ lo < 2 ^ lo := Nat.mod_lt _ hA
  rw [Nat.mul_comm _ (2 ^ lo), Nat.mul_add_div hA, Nat.div_eq_of_lt hr, Nat.add_zero, Nat.mul_add_mod_self_right,
    Nat.mod_mod]

/-- A field above a written one stays. -/
theorem field_setField_above {n : Nat} (w : BitVec n) (hi lo v hi' lo' : Nat) (hl : lo ≤ hi + 1) (hn : hi < n) (h : hi < lo') :
    field (setField w hi lo v) hi' lo' = field w hi' lo' := by
  have hAM : 2 ^ (hi + 1) = 2 ^ lo * 2 ^ (hi + 1 - lo) := by rw [← pow_add]; congr 1; omega
  have hL : 2 ^ lo' = 2 ^ (hi + 1) * 2 ^ (lo' - (hi + 1)) := by rw [← pow_add]; congr 1; omega
  unfold field
  rw [setField_toNat w hi lo v hl hn, Nat.shiftRight_eq_div_pow, Nat.shiftRight_eq_div_pow, hL, ← Nat.div_div_eq_div_mul,
    ← Nat.div_div_eq_div_mul]
  congr 2
  rw [hAM]
  have hA : 0 < 2 ^ lo := by positivity
  have hM : 0 < 2 ^ (hi + 1 - lo) := by positivity
  have hr : w.toNat % 2 ^ lo < 2 ^ lo := Nat.mod_lt _ hA
  have hv : v % 2 ^ (hi + 1 - lo) < 2 ^ (hi + 1 - lo) := Nat.mod_lt _ hM
  rw [← Nat.div_div_eq_div_mul _ (2 ^ lo), Nat.mul_comm _ (2 ^ lo), Nat.mul_add_div hA, Nat.div_eq_of_lt hr, Nat.add_zero,
    Nat.mul_comm _ (2 ^ (hi + 1 - lo)), Nat.mul_add_div hM, Nat.div_eq_of_lt hv, Nat.add_zero]

/-- A field below a written one stays. -/
theorem field_setField_below {n : Nat} (w : BitVec n) (hi lo v hi' lo' : Nat) (hl : lo ≤ hi + 1) (hn : hi < n)
    (hl' : lo' ≤ hi' + 1) (h : hi' < lo) : field (setField w hi lo v) hi' lo' = field w hi' lo' := by
  have hd : 2 ^ lo = 2 ^ (hi' + 1) * 2 ^ (lo - (hi' + 1)) := by rw [← pow_add]; congr 1; omega
  have hs : 2 ^ (hi' + 1) = 2 ^ lo' * 2 ^ (hi' + 1 - lo') := by rw [← pow_add]; congr 1; omega
  have key : ∀ x : Nat, x / 2 ^ lo' % 2 ^ (hi' + 1 - lo') = x % 2 ^ (hi' + 1) / 2 ^ lo' := by
    intro x
    rw [hs, Nat.mod_mul_right_div_self]
  unfold field
  rw [setField_toNat w hi lo v hl hn, Nat.shiftRight_eq_div_pow, Nat.shiftRight_eq_div_pow, key, key]
  congr 1
  rw [Nat.mul_comm _ (2 ^ lo), Nat.add_mod, hd, Nat.mul_assoc, Nat.mul_mod_right, Nat.zero_add, Nat.mod_mod,
    Nat.mod_mul_right_mod]

end Sys2Proof.Machine
end

