-- ==== Sys2Proof/Laws/Maps.lean ====
section
/-! SUPPORT. The laws of sparse maps: what a read finds after a write, and that writes keep the canonical form. -/

namespace Sys2Proof.Machine

variable {α : Type}

@[simp] theorem lookupD_nil (d : α) (x : Nat) : lookupD d [] x = d := rfl

theorem lookupD_cons (d : α) (b : Nat) (v : α) (r : List (Nat × α)) (x : Nat) :
    lookupD d ((b, v) :: r) x = if x = b then v else lookupD d r x := rfl

/-- Keys a filter keeps are found as before; others are not found. -/
theorem lookupD_filter (d : α) (p : Nat → Bool) (m : List (Nat × α)) (x : Nat) :
    lookupD d (m.filter (fun c => p c.1)) x = if p x then lookupD d m x else d := by
  induction m with
  | nil => simp
  | cons c r ih =>
    obtain ⟨b, v⟩ := c
    rw [List.filter_cons]
    by_cases hb : p b
    · simp only [hb, if_true, lookupD_cons, ih]
      by_cases hx : x = b
      · subst hx; simp [hb]
      · simp [hx]
    · simp only [hb, Bool.false_eq_true, if_false, lookupD_cons, ih]
      by_cases hx : x = b
      · subst hx; simp [hb]
      · simp [hx]

/-- A lookup in two maps, one after the other, of a key that the first does not list. -/
theorem lookupD_append_right (d : α) (m n : List (Nat × α)) (x : Nat) (h : ∀ c ∈ m, c.1 ≠ x) :
    lookupD d (m ++ n) x = lookupD d n x := by
  induction m with
  | nil => rfl
  | cons c r ih =>
    obtain ⟨b, v⟩ := c
    have hb : x ≠ b := fun e => h (b, v) (by simp) e.symm
    simp only [List.cons_append, lookupD_cons, hb, if_false]
    exact ih (fun c hc => h c (List.mem_cons_of_mem _ hc))

/-- A lookup in two maps of a key that the second does not list. -/
theorem lookupD_append_left (d : α) (m n : List (Nat × α)) (x : Nat) (h : ∀ c ∈ n, c.1 ≠ x) :
    lookupD d (m ++ n) x = lookupD d m x := by
  induction m with
  | nil =>
    have := lookupD_append_right d n [] x h
    simpa using this
  | cons c r ih =>
    obtain ⟨b, v⟩ := c
    simp only [List.cons_append, lookupD_cons, ih]

/-- Splicing leaves the keys outside the run. -/
theorem lookupD_splice_out (d : α) (m new : List (Nat × α)) (a n x : Nat) (hnew : ∀ c ∈ new, a ≤ c.1 ∧ c.1 < a + n)
    (hx : x < a ∨ a + n ≤ x) : lookupD d (splice m a n new) x = lookupD d m x := by
  have h1 : ∀ c ∈ new, c.1 ≠ x := fun c hc => by have := hnew c hc; omega
  have f1 := lookupD_filter d (fun k => decide (k < a)) m x
  have f2 := lookupD_filter d (fun k => decide (a + n ≤ k)) m x
  unfold splice
  rcases hx with hx | hx
  · rw [lookupD_append_left, lookupD_append_left _ _ _ _ h1]
    · simpa [hx] using f1
    · intro c hc
      simp only [List.mem_filter, decide_eq_true_eq] at hc
      omega
  · rw [lookupD_append_right]
    · simpa [hx] using f2
    · intro c hc
      simp only [List.mem_append, List.mem_filter, decide_eq_true_eq] at hc
      rcases hc with hc | hc
      · omega
      · exact h1 c hc

/-- Inside the run only the spliced entries are found. -/
theorem lookupD_splice_in (d : α) (m new : List (Nat × α)) (a n x : Nat) (h1 : a ≤ x) (h2 : x < a + n) :
    lookupD d (splice m a n new) x = lookupD d new x := by
  unfold splice
  rw [lookupD_append_left, lookupD_append_right]
  · intro c hc
    simp only [List.mem_filter, decide_eq_true_eq] at hc
    omega
  · intro c hc
    simp only [List.mem_filter, decide_eq_true_eq] at hc
    omega

theorem keyed_mem {a : Nat} {vs : List α} {c : Nat × α} (h : c ∈ keyed a vs) : a ≤ c.1 ∧ c.1 < a + vs.length := by
  induction vs generalizing a with
  | nil => simp [keyed] at h
  | cons v r ih =>
    simp only [keyed, List.mem_cons] at h
    rcases h with h | h
    · subst h; simp
    · have := ih h; simp only [List.length_cons]; omega

theorem lookupD_keyed (d : α) (vs : List α) (a x : Nat) :
    lookupD d (keyed a vs) x = if a ≤ x then vs.getD (x - a) d else d := by
  induction vs generalizing a with
  | nil => simp [keyed]
  | cons v r ih =>
    simp only [keyed, lookupD_cons, ih]
    by_cases h : x = a
    · subst h; simp
    · by_cases h2 : a ≤ x
      · have h3 : a + 1 ≤ x := by omega
        have h4 : x - a = (x - (a + 1)) + 1 := by omega
        simp [h, h2, h3, h4]
      · have h3 : ¬ a + 1 ≤ x := by omega
        simp [h, h2, h3]

/-- Leaving out the entries that equal the default changes no lookup, where keys do not repeat. -/
theorem lookupD_keyed_filter [DecidableEq α] (d : α) (vs : List α) (a x : Nat) :
    lookupD d ((keyed a vs).filter (fun c => decide (c.2 ≠ d))) x = lookupD d (keyed a vs) x := by
  induction vs generalizing a with
  | nil => rfl
  | cons v r ih =>
    by_cases hv : v = d
    · subst hv
      have hf : ((keyed a (v :: r)).filter (fun c => decide (c.2 ≠ v))) = (keyed (a + 1) r).filter (fun c => decide (c.2 ≠ v)) := by
        simp [keyed]
      rw [hf, ih]
      simp only [keyed, lookupD_cons]
      by_cases hx : x = a
      · subst hx
        rw [lookupD_keyed]; simp
      · simp [hx]
    · have hf : ((keyed a (v :: r)).filter (fun c => decide (c.2 ≠ d))) =
          (a, v) :: (keyed (a + 1) r).filter (fun c => decide (c.2 ≠ d)) := by
        simp [keyed, hv]
      rw [hf]
      simp only [keyed, lookupD_cons, ih]

/-- What a read finds after a run of values is written. -/
theorem lookupD_writeRun [DecidableEq α] (d : α) (m : List (Nat × α)) (a x : Nat) (vs : List α) :
    lookupD d (writeRun d m a vs) x = if a ≤ x ∧ x < a + vs.length then vs.getD (x - a) d else lookupD d m x := by
  unfold writeRun
  by_cases h : a ≤ x ∧ x < a + vs.length
  · rw [lookupD_splice_in _ _ _ _ _ _ h.1 h.2, lookupD_keyed_filter, lookupD_keyed]
    simp [h]
  · rw [lookupD_splice_out]
    · simp [h]
    · intro c hc
      exact keyed_mem (List.mem_of_mem_filter hc)
    · omega

/-- What a read finds after one value is written. -/
theorem lookupD_writeOne [DecidableEq α] (d : α) (m : List (Nat × α)) (a x : Nat) (v : α) :
    lookupD d (writeOne d m a v) x = if x = a then v else lookupD d m x := by
  unfold writeOne
  rw [lookupD_writeRun]
  by_cases h : x = a
  · subst h; simp
  · have : ¬ (a ≤ x ∧ x < a + [v].length) := by simp only [List.length_singleton]; omega
    rw [if_neg this, if_neg h]

/-- A run of values is read one lookup at a time. -/
theorem readRun_eq (d : α) (m : List (Nat × α)) (a n : Nat) :
    readRun d m a n = (List.range n).map (fun i => lookupD d m (a + i)) := by
  unfold readRun
  apply List.map_congr_left
  intro i hi
  have hi := List.mem_range.mp hi
  have h := lookupD_filter d (fun k => decide (a ≤ k) && decide (k < a + n)) m (a + i)
  simpa [hi] using h

@[simp] theorem readRun_length (d : α) (m : List (Nat × α)) (a n : Nat) : (readRun d m a n).length = n := by
  simp [readRun_eq]

/-- One value of a run. -/
theorem readRun_getD (d e : α) (m : List (Nat × α)) (a n i : Nat) (h : i < n) :
    (readRun d m a n).getD i e = lookupD d m (a + i) := by
  simp [readRun_eq, List.getD, h]

/-- Reading back a run that was written. -/
theorem readRun_writeRun [DecidableEq α] (d : α) (m : List (Nat × α)) (a : Nat) (vs : List α) :
    readRun d (writeRun d m a vs) a vs.length = vs := by
  rw [readRun_eq]
  apply List.ext_getElem
  · simp
  · intro i h1 h2
    simp [lookupD_writeRun, List.getD, h2]

/-- Reading a run that a write does not touch. -/
theorem readRun_writeRun_out [DecidableEq α] (d : α) (m : List (Nat × α)) (a b n : Nat) (vs : List α)
    (h : b + n ≤ a ∨ a + vs.length ≤ b) : readRun d (writeRun d m a vs) b n = readRun d m b n := by
  rw [readRun_eq, readRun_eq]
  apply List.map_congr_left
  intro i hi
  have hi := List.mem_range.mp hi
  rw [lookupD_writeRun, if_neg (by omega)]

/-! ## Canonical form -/

/-- The canonical form said of the list as a whole: keys rise, and no entry is the default. -/
theorem canonical_iff [DecidableEq α] (d : α) (m : List (Nat × α)) :
    canonical d m = true ↔ (m.Pairwise (fun x y => x.1 < y.1)) ∧ ∀ c ∈ m, c.2 ≠ d := by
  induction m with
  | nil => simp [canonical]
  | cons c r ih =>
    obtain ⟨a, v⟩ := c
    cases r with
    | nil => simp [canonical]
    | cons e r =>
      obtain ⟨b, u⟩ := e
      simp only [canonical, Bool.and_eq_true, decide_eq_true_eq, ih, List.pairwise_cons, List.mem_cons]
      constructor
      · rintro ⟨⟨hv, hab⟩, ⟨hr, hp⟩, hd⟩
        refine ⟨⟨?_, hr, hp⟩, ?_⟩
        · rintro c (rfl | hc)
          · exact hab
          · exact lt_trans hab (hr c hc)
        · rintro c (rfl | hc)
          · exact hv
          · exact hd c hc
      · rintro ⟨⟨h1, hr, hp⟩, hd⟩
        exact ⟨⟨hd _ (Or.inl rfl), h1 _ (Or.inl rfl)⟩, ⟨hr, hp⟩, fun c hc => hd c (Or.inr hc)⟩

theorem keyed_pairwise (a : Nat) (vs : List α) : (keyed a vs).Pairwise (fun x y => x.1 < y.1) := by
  induction vs generalizing a with
  | nil => simp [keyed]
  | cons v r ih =>
    simp only [keyed, List.pairwise_cons]
    exact ⟨fun c hc => by have := keyed_mem hc; omega, ih _⟩

/-- Splicing a canonical run into a canonical map gives a canonical map. -/
theorem canonical_splice [DecidableEq α] (d : α) (m new : List (Nat × α)) (a n : Nat) (hm : canonical d m = true)
    (hn : canonical d new = true) (hr : ∀ c ∈ new, a ≤ c.1 ∧ c.1 < a + n) : canonical d (splice m a n new) = true := by
  rw [canonical_iff] at *
  unfold splice
  constructor
  · rw [List.pairwise_append, List.pairwise_append]
    refine ⟨⟨hm.1.filter _, hn.1, ?_⟩, hm.1.filter _, ?_⟩
    · intro x hx y hy
      simp only [List.mem_filter, decide_eq_true_eq] at hx
      have := hr y hy
      omega
    · intro x hx y hy
      simp only [List.mem_append, List.mem_filter, decide_eq_true_eq] at hx hy
      rcases hx with hx | hx
      · omega
      · have := hr x hx; omega
  · intro c hc
    simp only [List.mem_append, List.mem_filter] at hc
    rcases hc with (hc | hc) | hc
    · exact hm.2 c hc.1
    · exact hn.2 c hc
    · exact hm.2 c hc.1

/-- A write of a run keeps the canonical form. -/
theorem canonical_writeRun [DecidableEq α] (d : α) (m : List (Nat × α)) (a : Nat) (vs : List α) (h : canonical d m = true) :
    canonical d (writeRun d m a vs) = true := by
  apply canonical_splice _ _ _ _ _ h
  · rw [canonical_iff]
    exact ⟨(keyed_pairwise a vs).filter _, fun c hc => by simpa using (List.mem_filter.mp hc).2⟩
  · intro c hc
    exact keyed_mem (List.mem_of_mem_filter hc)

/-- A write of one value keeps the canonical form. -/
theorem canonical_writeOne [DecidableEq α] (d : α) (m : List (Nat × α)) (a : Nat) (v : α) (h : canonical d m = true) :
    canonical d (writeOne d m a v) = true := canonical_writeRun d m a [v] h

end Sys2Proof.Machine
end

