-- ==== Sys2Proof/Laws/State.lean ====
section
/-! SUPPORT. One lemma per field and update of the state and of a core, and what reads find after writes. -/

namespace Sys2Proof.Machine

/-! ### State.setReg -/

@[simp] theorem State.setReg_pending (s : State) (o : Nat) (v : W64) : (s.setReg o v).pending = s.pending := rfl
@[simp] theorem State.setReg_gate (s : State) (o : Nat) (v : W64) : (s.setReg o v).gate = s.gate := rfl
@[simp] theorem State.setReg_draws (s : State) (o : Nat) (v : W64) : (s.setReg o v).draws = s.draws := rfl
@[simp] theorem State.setReg_uids (s : State) (o : Nat) (v : W64) : (s.setReg o v).uids = s.uids := rfl
@[simp] theorem State.setReg_mem (s : State) (o : Nat) (v : W64) : (s.setReg o v).mem = s.mem := rfl
@[simp] theorem State.setReg_hostMem (s : State) (o : Nat) (v : W64) : (s.setReg o v).hostMem = s.hostMem := rfl
@[simp] theorem State.setReg_cores (s : State) (o : Nat) (v : W64) : (s.setReg o v).cores = s.cores := rfl
@[simp] theorem State.setReg_writes (s : State) (o : Nat) (v : W64) : (s.setReg o v).writes = s.writes := rfl
@[simp] theorem State.setReg_dppTurn (s : State) (o : Nat) (v : W64) : (s.setReg o v).dppTurn = s.dppTurn := rfl
@[simp] theorem State.setReg_liftTurn (s : State) (o : Nat) (v : W64) : (s.setReg o v).liftTurn = s.liftTurn := rfl
@[simp] theorem State.setReg_stopped (s : State) (o : Nat) (v : W64) : (s.setReg o v).stopped = s.stopped := rfl
@[simp] theorem State.setReg_epochTable (s : State) (o : Nat) (v : W64) : (s.setReg o v).epochTable = s.epochTable := rfl
@[simp] theorem State.setReg_counters (s : State) (o : Nat) (v : W64) : (s.setReg o v).counters = s.counters := rfl
@[simp] theorem State.setReg_contexts (s : State) (o : Nat) (v : W64) : (s.setReg o v).contexts = s.contexts := rfl
@[simp] theorem State.setReg_models (s : State) (o : Nat) (v : W64) : (s.setReg o v).models = s.models := rfl
@[simp] theorem State.setReg_jobs (s : State) (o : Nat) (v : W64) : (s.setReg o v).jobs = s.jobs := rfl
@[simp] theorem State.setReg_fences (s : State) (o : Nat) (v : W64) : (s.setReg o v).fences = s.fences := rfl
@[simp] theorem State.setReg_raises (s : State) (o : Nat) (v : W64) : (s.setReg o v).raises = s.raises := rfl
@[simp] theorem State.setReg_heldWrites (s : State) (o : Nat) (v : W64) : (s.setReg o v).heldWrites = s.heldWrites := rfl
@[simp] theorem State.setReg_ringWork (s : State) (o : Nat) (v : W64) : (s.setReg o v).ringWork = s.ringWork := rfl
@[simp] theorem State.setReg_ringIds (s : State) (o : Nat) (v : W64) : (s.setReg o v).ringIds = s.ringIds := rfl
@[simp] theorem State.setReg_standing (s : State) (o : Nat) (v : W64) : (s.setReg o v).standing = s.standing := rfl
@[simp] theorem State.setReg_withdrawn (s : State) (o : Nat) (v : W64) : (s.setReg o v).withdrawn = s.withdrawn := rfl
@[simp] theorem State.setReg_host (s : State) (o : Nat) (v : W64) : (s.setReg o v).host = s.host := rfl
@[simp] theorem State.setReg_ports (s : State) (o : Nat) (v : W64) : (s.setReg o v).ports = s.ports := rfl
@[simp] theorem State.setReg_streams (s : State) (o : Nat) (v : W64) : (s.setReg o v).streams = s.streams := rfl
@[simp] theorem State.setReg_pipeTurn (s : State) (o : Nat) (v : W64) : (s.setReg o v).pipeTurn = s.pipeTurn := rfl
@[simp] theorem State.setReg_enc (s : State) (o : Nat) (v : W64) : (s.setReg o v).enc = s.enc := rfl
@[simp] theorem State.setReg_encOrder (s : State) (o : Nat) (v : W64) : (s.setReg o v).encOrder = s.encOrder := rfl
@[simp] theorem State.setReg_net (s : State) (o : Nat) (v : W64) : (s.setReg o v).net = s.net := rfl
@[simp] theorem State.setReg_dmc (s : State) (o : Nat) (v : W64) : (s.setReg o v).dmc = s.dmc := rfl
@[simp] theorem State.setReg_links (s : State) (o : Nat) (v : W64) : (s.setReg o v).links = s.links := rfl
@[simp] theorem State.setReg_gates (s : State) (o : Nat) (v : W64) : (s.setReg o v).gates = s.gates := rfl
@[simp] theorem State.setReg_rink (s : State) (o : Nat) (v : W64) : (s.setReg o v).rink = s.rink := rfl
@[simp] theorem State.setReg_lodge (s : State) (o : Nat) (v : W64) : (s.setReg o v).lodge = s.lodge := rfl
@[simp] theorem State.setReg_power (s : State) (o : Nat) (v : W64) : (s.setReg o v).power = s.power := rfl
@[simp] theorem State.setReg_reports (s : State) (o : Nat) (v : W64) : (s.setReg o v).reports = s.reports := rfl
@[simp] theorem State.setReg_reservedUsed (s : State) (o : Nat) (v : W64) : (s.setReg o v).reservedUsed = s.reservedUsed := rfl
@[simp] theorem State.setReg_deltas (s : State) (o : Nat) (v : W64) : (s.setReg o v).deltas = s.deltas := rfl
@[simp] theorem State.setReg_board (s : State) (o : Nat) (v : W64) : (s.setReg o v).board = s.board := rfl

/-! ### State.setCore -/

@[simp] theorem State.setCore_pending (s : State) (k : CoreId) (c : Core) : (s.setCore k c).pending = s.pending := rfl
@[simp] theorem State.setCore_gate (s : State) (k : CoreId) (c : Core) : (s.setCore k c).gate = s.gate := rfl
@[simp] theorem State.setCore_draws (s : State) (k : CoreId) (c : Core) : (s.setCore k c).draws = s.draws := rfl
@[simp] theorem State.setCore_uids (s : State) (k : CoreId) (c : Core) : (s.setCore k c).uids = s.uids := rfl
@[simp] theorem State.setCore_mem (s : State) (k : CoreId) (c : Core) : (s.setCore k c).mem = s.mem := rfl
@[simp] theorem State.setCore_hostMem (s : State) (k : CoreId) (c : Core) : (s.setCore k c).hostMem = s.hostMem := rfl
@[simp] theorem State.setCore_regs (s : State) (k : CoreId) (c : Core) : (s.setCore k c).regs = s.regs := rfl
@[simp] theorem State.setCore_writes (s : State) (k : CoreId) (c : Core) : (s.setCore k c).writes = s.writes := rfl
@[simp] theorem State.setCore_dppTurn (s : State) (k : CoreId) (c : Core) : (s.setCore k c).dppTurn = s.dppTurn := rfl
@[simp] theorem State.setCore_liftTurn (s : State) (k : CoreId) (c : Core) : (s.setCore k c).liftTurn = s.liftTurn := rfl
@[simp] theorem State.setCore_stopped (s : State) (k : CoreId) (c : Core) : (s.setCore k c).stopped = s.stopped := rfl
@[simp] theorem State.setCore_epochTable (s : State) (k : CoreId) (c : Core) : (s.setCore k c).epochTable = s.epochTable := rfl
@[simp] theorem State.setCore_counters (s : State) (k : CoreId) (c : Core) : (s.setCore k c).counters = s.counters := rfl
@[simp] theorem State.setCore_contexts (s : State) (k : CoreId) (c : Core) : (s.setCore k c).contexts = s.contexts := rfl
@[simp] theorem State.setCore_models (s : State) (k : CoreId) (c : Core) : (s.setCore k c).models = s.models := rfl
@[simp] theorem State.setCore_jobs (s : State) (k : CoreId) (c : Core) : (s.setCore k c).jobs = s.jobs := rfl
@[simp] theorem State.setCore_fences (s : State) (k : CoreId) (c : Core) : (s.setCore k c).fences = s.fences := rfl
@[simp] theorem State.setCore_raises (s : State) (k : CoreId) (c : Core) : (s.setCore k c).raises = s.raises := rfl
@[simp] theorem State.setCore_heldWrites (s : State) (k : CoreId) (c : Core) : (s.setCore k c).heldWrites = s.heldWrites := rfl
@[simp] theorem State.setCore_ringWork (s : State) (k : CoreId) (c : Core) : (s.setCore k c).ringWork = s.ringWork := rfl
@[simp] theorem State.setCore_ringIds (s : State) (k : CoreId) (c : Core) : (s.setCore k c).ringIds = s.ringIds := rfl
@[simp] theorem State.setCore_standing (s : State) (k : CoreId) (c : Core) : (s.setCore k c).standing = s.standing := rfl
@[simp] theorem State.setCore_withdrawn (s : State) (k : CoreId) (c : Core) : (s.setCore k c).withdrawn = s.withdrawn := rfl
@[simp] theorem State.setCore_host (s : State) (k : CoreId) (c : Core) : (s.setCore k c).host = s.host := rfl
@[simp] theorem State.setCore_ports (s : State) (k : CoreId) (c : Core) : (s.setCore k c).ports = s.ports := rfl
@[simp] theorem State.setCore_streams (s : State) (k : CoreId) (c : Core) : (s.setCore k c).streams = s.streams := rfl
@[simp] theorem State.setCore_pipeTurn (s : State) (k : CoreId) (c : Core) : (s.setCore k c).pipeTurn = s.pipeTurn := rfl
@[simp] theorem State.setCore_enc (s : State) (k : CoreId) (c : Core) : (s.setCore k c).enc = s.enc := rfl
@[simp] theorem State.setCore_encOrder (s : State) (k : CoreId) (c : Core) : (s.setCore k c).encOrder = s.encOrder := rfl
@[simp] theorem State.setCore_net (s : State) (k : CoreId) (c : Core) : (s.setCore k c).net = s.net := rfl
@[simp] theorem State.setCore_dmc (s : State) (k : CoreId) (c : Core) : (s.setCore k c).dmc = s.dmc := rfl
@[simp] theorem State.setCore_links (s : State) (k : CoreId) (c : Core) : (s.setCore k c).links = s.links := rfl
@[simp] theorem State.setCore_gates (s : State) (k : CoreId) (c : Core) : (s.setCore k c).gates = s.gates := rfl
@[simp] theorem State.setCore_rink (s : State) (k : CoreId) (c : Core) : (s.setCore k c).rink = s.rink := rfl
@[simp] theorem State.setCore_lodge (s : State) (k : CoreId) (c : Core) : (s.setCore k c).lodge = s.lodge := rfl
@[simp] theorem State.setCore_power (s : State) (k : CoreId) (c : Core) : (s.setCore k c).power = s.power := rfl
@[simp] theorem State.setCore_reports (s : State) (k : CoreId) (c : Core) : (s.setCore k c).reports = s.reports := rfl
@[simp] theorem State.setCore_reservedUsed (s : State) (k : CoreId) (c : Core) : (s.setCore k c).reservedUsed = s.reservedUsed := rfl
@[simp] theorem State.setCore_deltas (s : State) (k : CoreId) (c : Core) : (s.setCore k c).deltas = s.deltas := rfl
@[simp] theorem State.setCore_board (s : State) (k : CoreId) (c : Core) : (s.setCore k c).board = s.board := rfl

/-! ### State.wr -/

@[simp] theorem State.wr_pending (s : State) (a : Nat) (bs : List Byte) : (s.wr a bs).pending = s.pending := rfl
@[simp] theorem State.wr_gate (s : State) (a : Nat) (bs : List Byte) : (s.wr a bs).gate = s.gate := rfl
@[simp] theorem State.wr_draws (s : State) (a : Nat) (bs : List Byte) : (s.wr a bs).draws = s.draws := rfl
@[simp] theorem State.wr_uids (s : State) (a : Nat) (bs : List Byte) : (s.wr a bs).uids = s.uids := rfl
@[simp] theorem State.wr_hostMem (s : State) (a : Nat) (bs : List Byte) : (s.wr a bs).hostMem = s.hostMem := rfl
@[simp] theorem State.wr_regs (s : State) (a : Nat) (bs : List Byte) : (s.wr a bs).regs = s.regs := rfl
@[simp] theorem State.wr_cores (s : State) (a : Nat) (bs : List Byte) : (s.wr a bs).cores = s.cores := rfl
@[simp] theorem State.wr_writes (s : State) (a : Nat) (bs : List Byte) : (s.wr a bs).writes = s.writes := rfl
@[simp] theorem State.wr_dppTurn (s : State) (a : Nat) (bs : List Byte) : (s.wr a bs).dppTurn = s.dppTurn := rfl
@[simp] theorem State.wr_liftTurn (s : State) (a : Nat) (bs : List Byte) : (s.wr a bs).liftTurn = s.liftTurn := rfl
@[simp] theorem State.wr_stopped (s : State) (a : Nat) (bs : List Byte) : (s.wr a bs).stopped = s.stopped := rfl
@[simp] theorem State.wr_epochTable (s : State) (a : Nat) (bs : List Byte) : (s.wr a bs).epochTable = s.epochTable := rfl
@[simp] theorem State.wr_counters (s : State) (a : Nat) (bs : List Byte) : (s.wr a bs).counters = s.counters := rfl
@[simp] theorem State.wr_contexts (s : State) (a : Nat) (bs : List Byte) : (s.wr a bs).contexts = s.contexts := rfl
@[simp] theorem State.wr_models (s : State) (a : Nat) (bs : List Byte) : (s.wr a bs).models = s.models := rfl
@[simp] theorem State.wr_jobs (s : State) (a : Nat) (bs : List Byte) : (s.wr a bs).jobs = s.jobs := rfl
@[simp] theorem State.wr_fences (s : State) (a : Nat) (bs : List Byte) : (s.wr a bs).fences = s.fences := rfl
@[simp] theorem State.wr_raises (s : State) (a : Nat) (bs : List Byte) : (s.wr a bs).raises = s.raises := rfl
@[simp] theorem State.wr_heldWrites (s : State) (a : Nat) (bs : List Byte) : (s.wr a bs).heldWrites = s.heldWrites := rfl
@[simp] theorem State.wr_ringWork (s : State) (a : Nat) (bs : List Byte) : (s.wr a bs).ringWork = s.ringWork := rfl
@[simp] theorem State.wr_ringIds (s : State) (a : Nat) (bs : List Byte) : (s.wr a bs).ringIds = s.ringIds := rfl
@[simp] theorem State.wr_standing (s : State) (a : Nat) (bs : List Byte) : (s.wr a bs).standing = s.standing := rfl
@[simp] theorem State.wr_withdrawn (s : State) (a : Nat) (bs : List Byte) : (s.wr a bs).withdrawn = s.withdrawn := rfl
@[simp] theorem State.wr_host (s : State) (a : Nat) (bs : List Byte) : (s.wr a bs).host = s.host := rfl
@[simp] theorem State.wr_ports (s : State) (a : Nat) (bs : List Byte) : (s.wr a bs).ports = s.ports := rfl
@[simp] theorem State.wr_streams (s : State) (a : Nat) (bs : List Byte) : (s.wr a bs).streams = s.streams := rfl
@[simp] theorem State.wr_pipeTurn (s : State) (a : Nat) (bs : List Byte) : (s.wr a bs).pipeTurn = s.pipeTurn := rfl
@[simp] theorem State.wr_enc (s : State) (a : Nat) (bs : List Byte) : (s.wr a bs).enc = s.enc := rfl
@[simp] theorem State.wr_encOrder (s : State) (a : Nat) (bs : List Byte) : (s.wr a bs).encOrder = s.encOrder := rfl
@[simp] theorem State.wr_net (s : State) (a : Nat) (bs : List Byte) : (s.wr a bs).net = s.net := rfl
@[simp] theorem State.wr_dmc (s : State) (a : Nat) (bs : List Byte) : (s.wr a bs).dmc = s.dmc := rfl
@[simp] theorem State.wr_links (s : State) (a : Nat) (bs : List Byte) : (s.wr a bs).links = s.links := rfl
@[simp] theorem State.wr_gates (s : State) (a : Nat) (bs : List Byte) : (s.wr a bs).gates = s.gates := rfl
@[simp] theorem State.wr_rink (s : State) (a : Nat) (bs : List Byte) : (s.wr a bs).rink = s.rink := rfl
@[simp] theorem State.wr_lodge (s : State) (a : Nat) (bs : List Byte) : (s.wr a bs).lodge = s.lodge := rfl
@[simp] theorem State.wr_power (s : State) (a : Nat) (bs : List Byte) : (s.wr a bs).power = s.power := rfl
@[simp] theorem State.wr_reports (s : State) (a : Nat) (bs : List Byte) : (s.wr a bs).reports = s.reports := rfl
@[simp] theorem State.wr_reservedUsed (s : State) (a : Nat) (bs : List Byte) : (s.wr a bs).reservedUsed = s.reservedUsed := rfl
@[simp] theorem State.wr_deltas (s : State) (a : Nat) (bs : List Byte) : (s.wr a bs).deltas = s.deltas := rfl
@[simp] theorem State.wr_board (s : State) (a : Nat) (bs : List Byte) : (s.wr a bs).board = s.board := rfl

/-! ### State.hostWr -/

@[simp] theorem State.hostWr_pending (s : State) (a : Nat) (bs : List Byte) : (s.hostWr a bs).pending = s.pending := rfl
@[simp] theorem State.hostWr_gate (s : State) (a : Nat) (bs : List Byte) : (s.hostWr a bs).gate = s.gate := rfl
@[simp] theorem State.hostWr_draws (s : State) (a : Nat) (bs : List Byte) : (s.hostWr a bs).draws = s.draws := rfl
@[simp] theorem State.hostWr_uids (s : State) (a : Nat) (bs : List Byte) : (s.hostWr a bs).uids = s.uids := rfl
@[simp] theorem State.hostWr_mem (s : State) (a : Nat) (bs : List Byte) : (s.hostWr a bs).mem = s.mem := rfl
@[simp] theorem State.hostWr_regs (s : State) (a : Nat) (bs : List Byte) : (s.hostWr a bs).regs = s.regs := rfl
@[simp] theorem State.hostWr_cores (s : State) (a : Nat) (bs : List Byte) : (s.hostWr a bs).cores = s.cores := rfl
@[simp] theorem State.hostWr_writes (s : State) (a : Nat) (bs : List Byte) : (s.hostWr a bs).writes = s.writes := rfl
@[simp] theorem State.hostWr_dppTurn (s : State) (a : Nat) (bs : List Byte) : (s.hostWr a bs).dppTurn = s.dppTurn := rfl
@[simp] theorem State.hostWr_liftTurn (s : State) (a : Nat) (bs : List Byte) : (s.hostWr a bs).liftTurn = s.liftTurn := rfl
@[simp] theorem State.hostWr_stopped (s : State) (a : Nat) (bs : List Byte) : (s.hostWr a bs).stopped = s.stopped := rfl
@[simp] theorem State.hostWr_epochTable (s : State) (a : Nat) (bs : List Byte) : (s.hostWr a bs).epochTable = s.epochTable := rfl
@[simp] theorem State.hostWr_counters (s : State) (a : Nat) (bs : List Byte) : (s.hostWr a bs).counters = s.counters := rfl
@[simp] theorem State.hostWr_contexts (s : State) (a : Nat) (bs : List Byte) : (s.hostWr a bs).contexts = s.contexts := rfl
@[simp] theorem State.hostWr_models (s : State) (a : Nat) (bs : List Byte) : (s.hostWr a bs).models = s.models := rfl
@[simp] theorem State.hostWr_jobs (s : State) (a : Nat) (bs : List Byte) : (s.hostWr a bs).jobs = s.jobs := rfl
@[simp] theorem State.hostWr_fences (s : State) (a : Nat) (bs : List Byte) : (s.hostWr a bs).fences = s.fences := rfl
@[simp] theorem State.hostWr_raises (s : State) (a : Nat) (bs : List Byte) : (s.hostWr a bs).raises = s.raises := rfl
@[simp] theorem State.hostWr_heldWrites (s : State) (a : Nat) (bs : List Byte) : (s.hostWr a bs).heldWrites = s.heldWrites := rfl
@[simp] theorem State.hostWr_ringWork (s : State) (a : Nat) (bs : List Byte) : (s.hostWr a bs).ringWork = s.ringWork := rfl
@[simp] theorem State.hostWr_ringIds (s : State) (a : Nat) (bs : List Byte) : (s.hostWr a bs).ringIds = s.ringIds := rfl
@[simp] theorem State.hostWr_standing (s : State) (a : Nat) (bs : List Byte) : (s.hostWr a bs).standing = s.standing := rfl
@[simp] theorem State.hostWr_withdrawn (s : State) (a : Nat) (bs : List Byte) : (s.hostWr a bs).withdrawn = s.withdrawn := rfl
@[simp] theorem State.hostWr_host (s : State) (a : Nat) (bs : List Byte) : (s.hostWr a bs).host = s.host := rfl
@[simp] theorem State.hostWr_ports (s : State) (a : Nat) (bs : List Byte) : (s.hostWr a bs).ports = s.ports := rfl
@[simp] theorem State.hostWr_streams (s : State) (a : Nat) (bs : List Byte) : (s.hostWr a bs).streams = s.streams := rfl
@[simp] theorem State.hostWr_pipeTurn (s : State) (a : Nat) (bs : List Byte) : (s.hostWr a bs).pipeTurn = s.pipeTurn := rfl
@[simp] theorem State.hostWr_enc (s : State) (a : Nat) (bs : List Byte) : (s.hostWr a bs).enc = s.enc := rfl
@[simp] theorem State.hostWr_encOrder (s : State) (a : Nat) (bs : List Byte) : (s.hostWr a bs).encOrder = s.encOrder := rfl
@[simp] theorem State.hostWr_net (s : State) (a : Nat) (bs : List Byte) : (s.hostWr a bs).net = s.net := rfl
@[simp] theorem State.hostWr_dmc (s : State) (a : Nat) (bs : List Byte) : (s.hostWr a bs).dmc = s.dmc := rfl
@[simp] theorem State.hostWr_links (s : State) (a : Nat) (bs : List Byte) : (s.hostWr a bs).links = s.links := rfl
@[simp] theorem State.hostWr_gates (s : State) (a : Nat) (bs : List Byte) : (s.hostWr a bs).gates = s.gates := rfl
@[simp] theorem State.hostWr_rink (s : State) (a : Nat) (bs : List Byte) : (s.hostWr a bs).rink = s.rink := rfl
@[simp] theorem State.hostWr_lodge (s : State) (a : Nat) (bs : List Byte) : (s.hostWr a bs).lodge = s.lodge := rfl
@[simp] theorem State.hostWr_power (s : State) (a : Nat) (bs : List Byte) : (s.hostWr a bs).power = s.power := rfl
@[simp] theorem State.hostWr_reports (s : State) (a : Nat) (bs : List Byte) : (s.hostWr a bs).reports = s.reports := rfl
@[simp] theorem State.hostWr_reservedUsed (s : State) (a : Nat) (bs : List Byte) : (s.hostWr a bs).reservedUsed = s.reservedUsed := rfl
@[simp] theorem State.hostWr_deltas (s : State) (a : Nat) (bs : List Byte) : (s.hostWr a bs).deltas = s.deltas := rfl
@[simp] theorem State.hostWr_board (s : State) (a : Nat) (bs : List Byte) : (s.hostWr a bs).board = s.board := rfl

/-! ### State.undefine -/

@[simp] theorem State.undefine_pending (s : State) (a n : Nat) : (s.undefine a n).pending = s.pending := rfl
@[simp] theorem State.undefine_gate (s : State) (a n : Nat) : (s.undefine a n).gate = s.gate := rfl
@[simp] theorem State.undefine_uids (s : State) (a n : Nat) : (s.undefine a n).uids = s.uids := rfl
@[simp] theorem State.undefine_hostMem (s : State) (a n : Nat) : (s.undefine a n).hostMem = s.hostMem := rfl
@[simp] theorem State.undefine_regs (s : State) (a n : Nat) : (s.undefine a n).regs = s.regs := rfl
@[simp] theorem State.undefine_cores (s : State) (a n : Nat) : (s.undefine a n).cores = s.cores := rfl
@[simp] theorem State.undefine_writes (s : State) (a n : Nat) : (s.undefine a n).writes = s.writes := rfl
@[simp] theorem State.undefine_dppTurn (s : State) (a n : Nat) : (s.undefine a n).dppTurn = s.dppTurn := rfl
@[simp] theorem State.undefine_liftTurn (s : State) (a n : Nat) : (s.undefine a n).liftTurn = s.liftTurn := rfl
@[simp] theorem State.undefine_stopped (s : State) (a n : Nat) : (s.undefine a n).stopped = s.stopped := rfl
@[simp] theorem State.undefine_epochTable (s : State) (a n : Nat) : (s.undefine a n).epochTable = s.epochTable := rfl
@[simp] theorem State.undefine_counters (s : State) (a n : Nat) : (s.undefine a n).counters = s.counters := rfl
@[simp] theorem State.undefine_contexts (s : State) (a n : Nat) : (s.undefine a n).contexts = s.contexts := rfl
@[simp] theorem State.undefine_models (s : State) (a n : Nat) : (s.undefine a n).models = s.models := rfl
@[simp] theorem State.undefine_jobs (s : State) (a n : Nat) : (s.undefine a n).jobs = s.jobs := rfl
@[simp] theorem State.undefine_fences (s : State) (a n : Nat) : (s.undefine a n).fences = s.fences := rfl
@[simp] theorem State.undefine_raises (s : State) (a n : Nat) : (s.undefine a n).raises = s.raises := rfl
@[simp] theorem State.undefine_heldWrites (s : State) (a n : Nat) : (s.undefine a n).heldWrites = s.heldWrites := rfl
@[simp] theorem State.undefine_ringWork (s : State) (a n : Nat) : (s.undefine a n).ringWork = s.ringWork := rfl
@[simp] theorem State.undefine_ringIds (s : State) (a n : Nat) : (s.undefine a n).ringIds = s.ringIds := rfl
@[simp] theorem State.undefine_standing (s : State) (a n : Nat) : (s.undefine a n).standing = s.standing := rfl
@[simp] theorem State.undefine_withdrawn (s : State) (a n : Nat) : (s.undefine a n).withdrawn = s.withdrawn := rfl
@[simp] theorem State.undefine_host (s : State) (a n : Nat) : (s.undefine a n).host = s.host := rfl
@[simp] theorem State.undefine_ports (s : State) (a n : Nat) : (s.undefine a n).ports = s.ports := rfl
@[simp] theorem State.undefine_streams (s : State) (a n : Nat) : (s.undefine a n).streams = s.streams := rfl
@[simp] theorem State.undefine_pipeTurn (s : State) (a n : Nat) : (s.undefine a n).pipeTurn = s.pipeTurn := rfl
@[simp] theorem State.undefine_enc (s : State) (a n : Nat) : (s.undefine a n).enc = s.enc := rfl
@[simp] theorem State.undefine_encOrder (s : State) (a n : Nat) : (s.undefine a n).encOrder = s.encOrder := rfl
@[simp] theorem State.undefine_net (s : State) (a n : Nat) : (s.undefine a n).net = s.net := rfl
@[simp] theorem State.undefine_dmc (s : State) (a n : Nat) : (s.undefine a n).dmc = s.dmc := rfl
@[simp] theorem State.undefine_links (s : State) (a n : Nat) : (s.undefine a n).links = s.links := rfl
@[simp] theorem State.undefine_gates (s : State) (a n : Nat) : (s.undefine a n).gates = s.gates := rfl
@[simp] theorem State.undefine_rink (s : State) (a n : Nat) : (s.undefine a n).rink = s.rink := rfl
@[simp] theorem State.undefine_lodge (s : State) (a n : Nat) : (s.undefine a n).lodge = s.lodge := rfl
@[simp] theorem State.undefine_power (s : State) (a n : Nat) : (s.undefine a n).power = s.power := rfl
@[simp] theorem State.undefine_reports (s : State) (a n : Nat) : (s.undefine a n).reports = s.reports := rfl
@[simp] theorem State.undefine_reservedUsed (s : State) (a n : Nat) : (s.undefine a n).reservedUsed = s.reservedUsed := rfl
@[simp] theorem State.undefine_deltas (s : State) (a n : Nat) : (s.undefine a n).deltas = s.deltas := rfl
@[simp] theorem State.undefine_board (s : State) (a n : Nat) : (s.undefine a n).board = s.board := rfl

/-! ### Core.setG -/

@[simp] theorem Core.setG_p (c : Core) (i : BitVec 5) (v : W64) : (c.setG i v).p = c.p := by unfold Core.setG; split <;> rfl
@[simp] theorem Core.setG_pc (c : Core) (i : BitVec 5) (v : W64) : (c.setG i v).pc = c.pc := by unfold Core.setG; split <;> rfl
@[simp] theorem Core.setG_loops (c : Core) (i : BitVec 5) (v : W64) : (c.setG i v).loops = c.loops := by unfold Core.setG; split <;> rfl
@[simp] theorem Core.setG_istore (c : Core) (i : BitVec 5) (v : W64) : (c.setG i v).istore = c.istore := by unfold Core.setG; split <;> rfl
@[simp] theorem Core.setG_dstore (c : Core) (i : BitVec 5) (v : W64) : (c.setG i v).dstore = c.dstore := by unfold Core.setG; split <;> rfl
@[simp] theorem Core.setG_phase (c : Core) (i : BitVec 5) (v : W64) : (c.setG i v).phase = c.phase := by unfold Core.setG; split <;> rfl
@[simp] theorem Core.setG_tile (c : Core) (i : BitVec 5) (v : W64) : (c.setG i v).tile = c.tile := by unfold Core.setG; split <;> rfl
@[simp] theorem Core.setG_seats (c : Core) (i : BitVec 5) (v : W64) : (c.setG i v).seats = c.seats := by unfold Core.setG; split <;> rfl
@[simp] theorem Core.setG_accesses (c : Core) (i : BitVec 5) (v : W64) : (c.setG i v).accesses = c.accesses := by unfold Core.setG; split <;> rfl
@[simp] theorem Core.setG_tokens (c : Core) (i : BitVec 5) (v : W64) : (c.setG i v).tokens = c.tokens := by unfold Core.setG; split <;> rfl
@[simp] theorem Core.setG_queues (c : Core) (i : BitVec 5) (v : W64) : (c.setG i v).queues = c.queues := by unfold Core.setG; split <;> rfl
@[simp] theorem Core.setG_lastAppended (c : Core) (i : BitVec 5) (v : W64) : (c.setG i v).lastAppended = c.lastAppended := by unfold Core.setG; split <;> rfl
@[simp] theorem Core.setG_stationary (c : Core) (i : BitVec 5) (v : W64) : (c.setG i v).stationary = c.stationary := by unfold Core.setG; split <;> rfl
@[simp] theorem Core.setG_shadow (c : Core) (i : BitVec 5) (v : W64) : (c.setG i v).shadow = c.shadow := by unfold Core.setG; split <;> rfl
@[simp] theorem Core.setG_acc (c : Core) (i : BitVec 5) (v : W64) : (c.setG i v).acc = c.acc := by unfold Core.setG; split <;> rfl
@[simp] theorem Core.setG_chain (c : Core) (i : BitVec 5) (v : W64) : (c.setG i v).chain = c.chain := by unfold Core.setG; split <;> rfl
@[simp] theorem Core.setG_port (c : Core) (i : BitVec 5) (v : W64) : (c.setG i v).port = c.port := by unfold Core.setG; split <;> rfl
@[simp] theorem Core.setG_vregs (c : Core) (i : BitVec 5) (v : W64) : (c.setG i v).vregs = c.vregs := by unfold Core.setG; split <;> rfl
@[simp] theorem Core.setG_wbuf (c : Core) (i : BitVec 5) (v : W64) : (c.setG i v).wbuf = c.wbuf := by unfold Core.setG; split <;> rfl
@[simp] theorem Core.setG_wrows (c : Core) (i : BitVec 5) (v : W64) : (c.setG i v).wrows = c.wrows := by unfold Core.setG; split <;> rfl
@[simp] theorem Core.setG_wgeom (c : Core) (i : BitVec 5) (v : W64) : (c.setG i v).wgeom = c.wgeom := by unfold Core.setG; split <;> rfl
@[simp] theorem Core.setG_skew (c : Core) (i : BitVec 5) (v : W64) : (c.setG i v).skew = c.skew := by unfold Core.setG; split <;> rfl
@[simp] theorem Core.setG_skewTail (c : Core) (i : BitVec 5) (v : W64) : (c.setG i v).skewTail = c.skewTail := by unfold Core.setG; split <;> rfl
@[simp] theorem Core.setG_matrixActivity (c : Core) (i : BitVec 5) (v : W64) : (c.setG i v).matrixActivity = c.matrixActivity := by unfold Core.setG; split <;> rfl
@[simp] theorem Core.setG_vectorActivity (c : Core) (i : BitVec 5) (v : W64) : (c.setG i v).vectorActivity = c.vectorActivity := by unfold Core.setG; split <;> rfl
@[simp] theorem Core.setG_haltGate (c : Core) (i : BitVec 5) (v : W64) : (c.setG i v).haltGate = c.haltGate := by unfold Core.setG; split <;> rfl
@[simp] theorem Core.setG_haltKey (c : Core) (i : BitVec 5) (v : W64) : (c.setG i v).haltKey = c.haltKey := by unfold Core.setG; split <;> rfl
@[simp] theorem Core.setG_halting (c : Core) (i : BitVec 5) (v : W64) : (c.setG i v).halting = c.halting := by unfold Core.setG; split <;> rfl
@[simp] theorem Core.setG_chainAppended (c : Core) (i : BitVec 5) (v : W64) : (c.setG i v).chainAppended = c.chainAppended := by unfold Core.setG; split <;> rfl
@[simp] theorem Core.setG_geomAppended (c : Core) (i : BitVec 5) (v : W64) : (c.setG i v).geomAppended = c.geomAppended := by unfold Core.setG; split <;> rfl

/-! ### Core.setP -/

@[simp] theorem Core.setP_g (c : Core) (i : Nat) (b : Bool) : (c.setP i b).g = c.g := by unfold Core.setP; split <;> rfl
@[simp] theorem Core.setP_pc (c : Core) (i : Nat) (b : Bool) : (c.setP i b).pc = c.pc := by unfold Core.setP; split <;> rfl
@[simp] theorem Core.setP_loops (c : Core) (i : Nat) (b : Bool) : (c.setP i b).loops = c.loops := by unfold Core.setP; split <;> rfl
@[simp] theorem Core.setP_istore (c : Core) (i : Nat) (b : Bool) : (c.setP i b).istore = c.istore := by unfold Core.setP; split <;> rfl
@[simp] theorem Core.setP_dstore (c : Core) (i : Nat) (b : Bool) : (c.setP i b).dstore = c.dstore := by unfold Core.setP; split <;> rfl
@[simp] theorem Core.setP_phase (c : Core) (i : Nat) (b : Bool) : (c.setP i b).phase = c.phase := by unfold Core.setP; split <;> rfl
@[simp] theorem Core.setP_tile (c : Core) (i : Nat) (b : Bool) : (c.setP i b).tile = c.tile := by unfold Core.setP; split <;> rfl
@[simp] theorem Core.setP_seats (c : Core) (i : Nat) (b : Bool) : (c.setP i b).seats = c.seats := by unfold Core.setP; split <;> rfl
@[simp] theorem Core.setP_accesses (c : Core) (i : Nat) (b : Bool) : (c.setP i b).accesses = c.accesses := by unfold Core.setP; split <;> rfl
@[simp] theorem Core.setP_tokens (c : Core) (i : Nat) (b : Bool) : (c.setP i b).tokens = c.tokens := by unfold Core.setP; split <;> rfl
@[simp] theorem Core.setP_queues (c : Core) (i : Nat) (b : Bool) : (c.setP i b).queues = c.queues := by unfold Core.setP; split <;> rfl
@[simp] theorem Core.setP_lastAppended (c : Core) (i : Nat) (b : Bool) : (c.setP i b).lastAppended = c.lastAppended := by unfold Core.setP; split <;> rfl
@[simp] theorem Core.setP_stationary (c : Core) (i : Nat) (b : Bool) : (c.setP i b).stationary = c.stationary := by unfold Core.setP; split <;> rfl
@[simp] theorem Core.setP_shadow (c : Core) (i : Nat) (b : Bool) : (c.setP i b).shadow = c.shadow := by unfold Core.setP; split <;> rfl
@[simp] theorem Core.setP_acc (c : Core) (i : Nat) (b : Bool) : (c.setP i b).acc = c.acc := by unfold Core.setP; split <;> rfl
@[simp] theorem Core.setP_chain (c : Core) (i : Nat) (b : Bool) : (c.setP i b).chain = c.chain := by unfold Core.setP; split <;> rfl
@[simp] theorem Core.setP_port (c : Core) (i : Nat) (b : Bool) : (c.setP i b).port = c.port := by unfold Core.setP; split <;> rfl
@[simp] theorem Core.setP_vregs (c : Core) (i : Nat) (b : Bool) : (c.setP i b).vregs = c.vregs := by unfold Core.setP; split <;> rfl
@[simp] theorem Core.setP_wbuf (c : Core) (i : Nat) (b : Bool) : (c.setP i b).wbuf = c.wbuf := by unfold Core.setP; split <;> rfl
@[simp] theorem Core.setP_wrows (c : Core) (i : Nat) (b : Bool) : (c.setP i b).wrows = c.wrows := by unfold Core.setP; split <;> rfl
@[simp] theorem Core.setP_wgeom (c : Core) (i : Nat) (b : Bool) : (c.setP i b).wgeom = c.wgeom := by unfold Core.setP; split <;> rfl
@[simp] theorem Core.setP_skew (c : Core) (i : Nat) (b : Bool) : (c.setP i b).skew = c.skew := by unfold Core.setP; split <;> rfl
@[simp] theorem Core.setP_skewTail (c : Core) (i : Nat) (b : Bool) : (c.setP i b).skewTail = c.skewTail := by unfold Core.setP; split <;> rfl
@[simp] theorem Core.setP_matrixActivity (c : Core) (i : Nat) (b : Bool) : (c.setP i b).matrixActivity = c.matrixActivity := by unfold Core.setP; split <;> rfl
@[simp] theorem Core.setP_vectorActivity (c : Core) (i : Nat) (b : Bool) : (c.setP i b).vectorActivity = c.vectorActivity := by unfold Core.setP; split <;> rfl
@[simp] theorem Core.setP_haltGate (c : Core) (i : Nat) (b : Bool) : (c.setP i b).haltGate = c.haltGate := by unfold Core.setP; split <;> rfl
@[simp] theorem Core.setP_haltKey (c : Core) (i : Nat) (b : Bool) : (c.setP i b).haltKey = c.haltKey := by unfold Core.setP; split <;> rfl
@[simp] theorem Core.setP_halting (c : Core) (i : Nat) (b : Bool) : (c.setP i b).halting = c.halting := by unfold Core.setP; split <;> rfl
@[simp] theorem Core.setP_chainAppended (c : Core) (i : Nat) (b : Bool) : (c.setP i b).chainAppended = c.chainAppended := by unfold Core.setP; split <;> rfl
@[simp] theorem Core.setP_geomAppended (c : Core) (i : Nat) (b : Bool) : (c.setP i b).geomAppended = c.geomAppended := by unfold Core.setP; split <;> rfl

/-! ### Core.setToken -/

@[simp] theorem Core.setToken_g (c : Core) (t : Fin 32) (v : BitVec 16) : (c.setToken t v).g = c.g := rfl
@[simp] theorem Core.setToken_p (c : Core) (t : Fin 32) (v : BitVec 16) : (c.setToken t v).p = c.p := rfl
@[simp] theorem Core.setToken_pc (c : Core) (t : Fin 32) (v : BitVec 16) : (c.setToken t v).pc = c.pc := rfl
@[simp] theorem Core.setToken_loops (c : Core) (t : Fin 32) (v : BitVec 16) : (c.setToken t v).loops = c.loops := rfl
@[simp] theorem Core.setToken_istore (c : Core) (t : Fin 32) (v : BitVec 16) : (c.setToken t v).istore = c.istore := rfl
@[simp] theorem Core.setToken_dstore (c : Core) (t : Fin 32) (v : BitVec 16) : (c.setToken t v).dstore = c.dstore := rfl
@[simp] theorem Core.setToken_phase (c : Core) (t : Fin 32) (v : BitVec 16) : (c.setToken t v).phase = c.phase := rfl
@[simp] theorem Core.setToken_tile (c : Core) (t : Fin 32) (v : BitVec 16) : (c.setToken t v).tile = c.tile := rfl
@[simp] theorem Core.setToken_seats (c : Core) (t : Fin 32) (v : BitVec 16) : (c.setToken t v).seats = c.seats := rfl
@[simp] theorem Core.setToken_accesses (c : Core) (t : Fin 32) (v : BitVec 16) : (c.setToken t v).accesses = c.accesses := rfl
@[simp] theorem Core.setToken_queues (c : Core) (t : Fin 32) (v : BitVec 16) : (c.setToken t v).queues = c.queues := rfl
@[simp] theorem Core.setToken_lastAppended (c : Core) (t : Fin 32) (v : BitVec 16) : (c.setToken t v).lastAppended = c.lastAppended := rfl
@[simp] theorem Core.setToken_stationary (c : Core) (t : Fin 32) (v : BitVec 16) : (c.setToken t v).stationary = c.stationary := rfl
@[simp] theorem Core.setToken_shadow (c : Core) (t : Fin 32) (v : BitVec 16) : (c.setToken t v).shadow = c.shadow := rfl
@[simp] theorem Core.setToken_acc (c : Core) (t : Fin 32) (v : BitVec 16) : (c.setToken t v).acc = c.acc := rfl
@[simp] theorem Core.setToken_chain (c : Core) (t : Fin 32) (v : BitVec 16) : (c.setToken t v).chain = c.chain := rfl
@[simp] theorem Core.setToken_port (c : Core) (t : Fin 32) (v : BitVec 16) : (c.setToken t v).port = c.port := rfl
@[simp] theorem Core.setToken_vregs (c : Core) (t : Fin 32) (v : BitVec 16) : (c.setToken t v).vregs = c.vregs := rfl
@[simp] theorem Core.setToken_wbuf (c : Core) (t : Fin 32) (v : BitVec 16) : (c.setToken t v).wbuf = c.wbuf := rfl
@[simp] theorem Core.setToken_wrows (c : Core) (t : Fin 32) (v : BitVec 16) : (c.setToken t v).wrows = c.wrows := rfl
@[simp] theorem Core.setToken_wgeom (c : Core) (t : Fin 32) (v : BitVec 16) : (c.setToken t v).wgeom = c.wgeom := rfl
@[simp] theorem Core.setToken_skew (c : Core) (t : Fin 32) (v : BitVec 16) : (c.setToken t v).skew = c.skew := rfl
@[simp] theorem Core.setToken_skewTail (c : Core) (t : Fin 32) (v : BitVec 16) : (c.setToken t v).skewTail = c.skewTail := rfl
@[simp] theorem Core.setToken_matrixActivity (c : Core) (t : Fin 32) (v : BitVec 16) : (c.setToken t v).matrixActivity = c.matrixActivity := rfl
@[simp] theorem Core.setToken_vectorActivity (c : Core) (t : Fin 32) (v : BitVec 16) : (c.setToken t v).vectorActivity = c.vectorActivity := rfl
@[simp] theorem Core.setToken_haltGate (c : Core) (t : Fin 32) (v : BitVec 16) : (c.setToken t v).haltGate = c.haltGate := rfl
@[simp] theorem Core.setToken_haltKey (c : Core) (t : Fin 32) (v : BitVec 16) : (c.setToken t v).haltKey = c.haltKey := rfl
@[simp] theorem Core.setToken_halting (c : Core) (t : Fin 32) (v : BitVec 16) : (c.setToken t v).halting = c.halting := rfl
@[simp] theorem Core.setToken_chainAppended (c : Core) (t : Fin 32) (v : BitVec 16) : (c.setToken t v).chainAppended = c.chainAppended := rfl
@[simp] theorem Core.setToken_geomAppended (c : Core) (t : Fin 32) (v : BitVec 16) : (c.setToken t v).geomAppended = c.geomAppended := rfl

/-! ### Core.setQueue -/

@[simp] theorem Core.setQueue_g (c : Core) (q : QueueId) (l : List Cmd) : (c.setQueue q l).g = c.g := rfl
@[simp] theorem Core.setQueue_p (c : Core) (q : QueueId) (l : List Cmd) : (c.setQueue q l).p = c.p := rfl
@[simp] theorem Core.setQueue_pc (c : Core) (q : QueueId) (l : List Cmd) : (c.setQueue q l).pc = c.pc := rfl
@[simp] theorem Core.setQueue_loops (c : Core) (q : QueueId) (l : List Cmd) : (c.setQueue q l).loops = c.loops := rfl
@[simp] theorem Core.setQueue_istore (c : Core) (q : QueueId) (l : List Cmd) : (c.setQueue q l).istore = c.istore := rfl
@[simp] theorem Core.setQueue_dstore (c : Core) (q : QueueId) (l : List Cmd) : (c.setQueue q l).dstore = c.dstore := rfl
@[simp] theorem Core.setQueue_phase (c : Core) (q : QueueId) (l : List Cmd) : (c.setQueue q l).phase = c.phase := rfl
@[simp] theorem Core.setQueue_tile (c : Core) (q : QueueId) (l : List Cmd) : (c.setQueue q l).tile = c.tile := rfl
@[simp] theorem Core.setQueue_seats (c : Core) (q : QueueId) (l : List Cmd) : (c.setQueue q l).seats = c.seats := rfl
@[simp] theorem Core.setQueue_accesses (c : Core) (q : QueueId) (l : List Cmd) : (c.setQueue q l).accesses = c.accesses := rfl
@[simp] theorem Core.setQueue_tokens (c : Core) (q : QueueId) (l : List Cmd) : (c.setQueue q l).tokens = c.tokens := rfl
@[simp] theorem Core.setQueue_lastAppended (c : Core) (q : QueueId) (l : List Cmd) : (c.setQueue q l).lastAppended = c.lastAppended := rfl
@[simp] theorem Core.setQueue_stationary (c : Core) (q : QueueId) (l : List Cmd) : (c.setQueue q l).stationary = c.stationary := rfl
@[simp] theorem Core.setQueue_shadow (c : Core) (q : QueueId) (l : List Cmd) : (c.setQueue q l).shadow = c.shadow := rfl
@[simp] theorem Core.setQueue_acc (c : Core) (q : QueueId) (l : List Cmd) : (c.setQueue q l).acc = c.acc := rfl
@[simp] theorem Core.setQueue_chain (c : Core) (q : QueueId) (l : List Cmd) : (c.setQueue q l).chain = c.chain := rfl
@[simp] theorem Core.setQueue_port (c : Core) (q : QueueId) (l : List Cmd) : (c.setQueue q l).port = c.port := rfl
@[simp] theorem Core.setQueue_vregs (c : Core) (q : QueueId) (l : List Cmd) : (c.setQueue q l).vregs = c.vregs := rfl
@[simp] theorem Core.setQueue_wbuf (c : Core) (q : QueueId) (l : List Cmd) : (c.setQueue q l).wbuf = c.wbuf := rfl
@[simp] theorem Core.setQueue_wrows (c : Core) (q : QueueId) (l : List Cmd) : (c.setQueue q l).wrows = c.wrows := rfl
@[simp] theorem Core.setQueue_wgeom (c : Core) (q : QueueId) (l : List Cmd) : (c.setQueue q l).wgeom = c.wgeom := rfl
@[simp] theorem Core.setQueue_skew (c : Core) (q : QueueId) (l : List Cmd) : (c.setQueue q l).skew = c.skew := rfl
@[simp] theorem Core.setQueue_skewTail (c : Core) (q : QueueId) (l : List Cmd) : (c.setQueue q l).skewTail = c.skewTail := rfl
@[simp] theorem Core.setQueue_matrixActivity (c : Core) (q : QueueId) (l : List Cmd) : (c.setQueue q l).matrixActivity = c.matrixActivity := rfl
@[simp] theorem Core.setQueue_vectorActivity (c : Core) (q : QueueId) (l : List Cmd) : (c.setQueue q l).vectorActivity = c.vectorActivity := rfl
@[simp] theorem Core.setQueue_haltGate (c : Core) (q : QueueId) (l : List Cmd) : (c.setQueue q l).haltGate = c.haltGate := rfl
@[simp] theorem Core.setQueue_haltKey (c : Core) (q : QueueId) (l : List Cmd) : (c.setQueue q l).haltKey = c.haltKey := rfl
@[simp] theorem Core.setQueue_halting (c : Core) (q : QueueId) (l : List Cmd) : (c.setQueue q l).halting = c.halting := rfl
@[simp] theorem Core.setQueue_chainAppended (c : Core) (q : QueueId) (l : List Cmd) : (c.setQueue q l).chainAppended = c.chainAppended := rfl
@[simp] theorem Core.setQueue_geomAppended (c : Core) (q : QueueId) (l : List Cmd) : (c.setQueue q l).geomAppended = c.geomAppended := rfl

/-! ### Registers -/

/-- A register reads what was written to it. -/
@[simp] theorem State.reg_setReg_same (s : State) (o : Nat) (v : W64) : (s.setReg o v).reg o = v := by
  simp only [State.reg, State.setReg, putReg]
  rw [lookupD_splice_in _ _ _ _ _ _ (Nat.le_refl _) (Nat.lt_succ_self _)]
  by_cases h : v = regReset o <;> simp [h, lookupD_cons]

/-- A write of a register leaves the others. -/
theorem State.reg_setReg_ne (s : State) (o p : Nat) (v : W64) (h : p ≠ o) : (s.setReg o v).reg p = s.reg p := by
  simp only [State.reg, State.setReg, putReg]
  apply lookupD_splice_out
  · intro c hc
    split at hc
    · simp at hc
    · simp only [List.mem_singleton] at hc
      subst hc
      simp
  · omega

/-- The register map after a write, both cases at once. -/
theorem State.reg_setReg (s : State) (o p : Nat) (v : W64) : (s.setReg o v).reg p = if p = o then v else s.reg p := by
  by_cases h : p = o
  · subst h; simp
  · simp [h, State.reg_setReg_ne]

@[simp] theorem State.reg_setCore (s : State) (k : CoreId) (c : Core) (o : Nat) : (s.setCore k c).reg o = s.reg o := rfl

@[simp] theorem State.reg_wr (s : State) (a o : Nat) (bs : List Byte) : (s.wr a bs).reg o = s.reg o := rfl

/-- Setting sticky bits of one register leaves the others. -/
theorem State.reg_stick_ne (s : State) (o m p : Nat) (h : p ≠ o) : (s.stick o m).reg p = s.reg p := by
  unfold State.stick
  split
  · rfl
  · exact State.reg_setReg_ne _ _ _ _ h

/-- A register is the bitwise or of what it was and the sticky bits set. -/
theorem State.reg_stick_same (s : State) (o m : Nat) : (s.stick o m).reg o = s.reg o ||| BitVec.ofNat 64 m := by
  unfold State.stick
  split
  · next h => subst h; simp
  · simp

/-! ### Cores -/

@[simp] theorem State.core_setCore_same (s : State) (k : CoreId) (c : Core) : (s.setCore k c).core k = c := by
  simp [State.core, State.setCore]

theorem State.core_setCore_ne (s : State) (k j : CoreId) (c : Core) (h : j ≠ k) : (s.setCore k c).core j = s.core j := by
  have h2 : (k : Nat) ≠ j := fun e => h (Fin.ext e.symm)
  simp [State.core, State.setCore, h2]

theorem State.core_setCore (s : State) (k j : CoreId) (c : Core) :
    (s.setCore k c).core j = if j = k then c else s.core j := by
  by_cases h : j = k
  · subst h; simp
  · simp [h, State.core_setCore_ne]

@[simp] theorem State.core_setReg (s : State) (o : Nat) (v : W64) (k : CoreId) : (s.setReg o v).core k = s.core k := rfl

@[simp] theorem State.core_wr (s : State) (a : Nat) (bs : List Byte) (k : CoreId) : (s.wr a bs).core k = s.core k := rfl

/-- Replacing a core twice is replacing it once. -/
@[simp] theorem State.setCore_setCore (s : State) (k : CoreId) (c d : Core) : (s.setCore k c).setCore k d = s.setCore k d := by
  simp [State.setCore]

/-- A g register after a write of one; g0 keeps reading 0 (R97). -/
theorem Core.gr_setG (c : Core) (i r : BitVec 5) (v : W64) :
    (c.setG i v).gr r = if r = i ∧ r ≠ 0 then v else c.gr r := by
  unfold Core.setG Core.gr
  by_cases hi : i = 0
  · rw [if_pos hi]
    by_cases hr : r = 0
    · simp [hr]
    · have : ¬ r = i := fun e => hr (e.trans hi)
      rw [if_neg hr, if_neg (fun e => this e.1)]
  · rw [if_neg hi]
    by_cases hr : r = 0
    · simp [hr]
    · by_cases he : r = i
      · subst he
        rw [if_neg hr, if_pos ⟨rfl, hr⟩]
        simp
      · have h2 : i.toNat ≠ r.toNat := fun e => he (BitVec.eq_of_toNat_eq e.symm)
        rw [if_neg hr, if_neg hr, if_neg (fun e => he e.1)]
        simp [h2]

@[simp] theorem Core.gr_setP (c : Core) (i : Nat) (b : Bool) (r : BitVec 5) : (c.setP i b).gr r = c.gr r := by
  simp [Core.gr]

/-- A token counter after a write of one. -/
theorem Core.token_setToken (c : Core) (t u : Fin 32) (v : BitVec 16) :
    (c.setToken t v).token u = if u = t then v else c.token u := by
  unfold Core.setToken Core.token
  by_cases h : u = t
  · subst h; simp
  · have h2 : (t : Nat) ≠ u := fun e => h (Fin.ext e.symm)
    simp [h, h2]

/-- A queue after a write of one. -/
theorem Core.queue_setQueue (c : Core) (q r : QueueId) (l : List Cmd) :
    (c.setQueue q l).queue r = if r = q then l else c.queue r := by
  unfold Core.setQueue Core.queue
  by_cases h : r = q
  · subst h; simp
  · have h2 : (q : Nat) ≠ r := fun e => h (Fin.ext e.symm)
    simp [h, h2]

/-! ### Memory -/

/-- A byte of device memory after a write. -/
theorem State.byteAt_wr (s : State) (a x : Nat) (bs : List Byte) :
    (s.wr a bs).byteAt x = if a ≤ x ∧ x < a + bs.length then bs.getD (x - a) 0 else s.byteAt x :=
  lookupD_writeRun _ _ _ _ _

@[simp] theorem State.byteAt_setReg (s : State) (o : Nat) (v : W64) (x : Nat) : (s.setReg o v).byteAt x = s.byteAt x := rfl

@[simp] theorem State.byteAt_setCore (s : State) (k : CoreId) (c : Core) (x : Nat) : (s.setCore k c).byteAt x = s.byteAt x := rfl

/-- Bytes read back as they were written. -/
theorem State.rd_wr (s : State) (a : Nat) (bs : List Byte) : (s.wr a bs).rd a bs.length = bs := readRun_writeRun _ _ _ _

/-- Bytes that a write does not touch. -/
theorem State.rd_wr_out (s : State) (a b n : Nat) (bs : List Byte) (h : b + n ≤ a ∨ a + bs.length ≤ b) :
    (s.wr a bs).rd b n = s.rd b n := readRun_writeRun_out _ _ _ _ _ _ h

/-- A write keeps the canonical form of memory. -/
theorem State.wr_wf (s : State) (a : Nat) (bs : List Byte) (h : Memory.wf s.mem = true) : Memory.wf (s.wr a bs).mem = true :=
  canonical_writeRun _ _ _ _ h

/-- Making bytes undefined keeps the canonical form of memory. -/
theorem State.undefine_wf (s : State) (a n : Nat) (h : Memory.wf s.mem = true) : Memory.wf (s.undefine a n).mem = true :=
  canonical_writeRun _ _ _ _ h

/-- Memory after reset has the canonical form. -/
theorem State.reset_wf : Memory.wf State.reset.mem = true := rfl

end Sys2Proof.Machine
end

