-- ==== Sys2Proof/Laws/Counts.lean ====
section
/-! SUPPORT. What raising a clockless count does (R37, R363), said once. -/

namespace Sys2Proof.Laws

open Machine

/-- A transfer touches registers alone. -/
theorem transfer_frame (s : State) (off n : Nat) : s.transfer off n = { s with regs := (s.transfer off n).regs } := by
  unfold State.transfer
  simp only
  split
  · split <;> rfl
  · rfl

/-- Raising a count touches the deltas and registers alone. -/
theorem bump_frame (s : State) (off n : Nat) :
    s.bump off n = { s with deltas := (s.bump off n).deltas, regs := (s.bump off n).regs } := by
  unfold State.bump
  simp only
  split
  · rfl
  · split
    · rfl
    · rw [transfer_frame]

/-- A count that does not rise changes nothing. -/
@[simp] theorem bump_zero (s : State) (off : Nat) : s.bump off 0 = s := by simp [State.bump]

/-- What stays at the sources after a count has risen. -/
theorem bump_deltas (s : State) (off n : Nat) :
    (s.bump off n).deltas = if n = 0 then s.deltas else writeOne 0 s.deltas off ((lookupD 0 s.deltas off + n) % 4096) := by
  unfold State.bump
  simp only
  split
  · rfl
  · split
    · rfl
    · rw [transfer_frame]

/-- Which registers a rise may change: that of the count, and the status register of the core whose conversions it counts. -/
theorem bump_reg_ne (s : State) (off n o : Nat) (h : o ≠ off) (hc : ∀ k, convCore off = some k → o ≠ Reg.vxeConvStatus k) :
    (s.bump off n).reg o = s.reg o := by
  unfold State.bump
  simp only
  split
  · rfl
  · split
    · rfl
    · unfold State.transfer State.inc
      simp only
      split
      · next k hk =>
        split
        · rw [State.setFlag, State.reg_setReg_ne _ _ _ _ (hc k hk), State.reg_setReg_ne _ _ _ _ h]; rfl
        · rw [State.reg_setReg_ne _ _ _ _ h]; rfl
      · rw [State.reg_setReg_ne _ _ _ _ h]; rfl

end Sys2Proof.Laws
end

