-- ==== Sys2Proof/Laws/Issue.lean ====
section
/-! SUPPORT. What issuing a Milac instruction can do: one lemma for issue, one for each way it concludes, one for the
charge. -/

namespace Sys2Proof.Machine

/-- A charge that fits is added, and only the charge register of the core changes. -/
theorem State.addCharge_fits (s : State) (k : CoreId) (u : ChargeUnit) (n : Nat) (h : s.charge k u + n ≤ 20000) :
    s.addCharge k u n = some (s.setFld (Reg.ccTileCharge k) (u.lo + 15) u.lo (s.charge k u + n)) := by
  unfold State.addCharge
  rw [if_neg (by omega)]

/-- The charge of the unit after a charge that fits. -/
theorem State.charge_setFld_same (s : State) (k : CoreId) (u : ChargeUnit) (v : Nat) (h : v ≤ 20000) :
    (s.setFld (Reg.ccTileCharge k) (u.lo + 15) u.lo v).charge k u = v := by
  unfold State.charge State.fld State.setFld
  rw [State.reg_setReg_same, field_setField _ _ _ _ (by omega) (by cases u <;> decide)]
  have : u.lo + 15 + 1 - u.lo = 16 := by omega
  rw [this]
  omega

/-- The other charges after a charge of one unit. -/
theorem State.charge_setFld_ne (s : State) (k : CoreId) (u x : ChargeUnit) (v : Nat) (h : x ≠ u) :
    (s.setFld (Reg.ccTileCharge k) (u.lo + 15) u.lo v).charge k x = s.charge k x := by
  unfold State.charge State.fld State.setFld
  rw [State.reg_setReg_same]
  cases u <;> cases x <;> first
    | exact absurd rfl h
    | exact field_setField_above _ _ _ _ _ _ (by decide) (by decide) (by decide)
    | exact field_setField_below _ _ _ _ _ _ (by decide) (by decide) (by decide) (by decide)

@[simp] theorem State.charge_setCore (s : State) (k j : CoreId) (c : Core) (u : ChargeUnit) :
    (s.setCore j c).charge k u = s.charge k u := rfl

/-- What issue does, one case for each check of R103. -/
theorem issueWith_cases (always : Bool) (k : CoreId) (w : BitVec 56) (used : Nat) (badCode : Bool) (steps : Nat)
    (body : State → Core → Tile → Effect) (s : State) :
    issueWith always k w used badCode steps body s = s ∨
    issueWith always k w used badCode steps body s = s.halt k .control 0x02 0 (s.core k).pc.toNat 0 ∨
    (∃ t, (s.core k).phase = .running ∧ (s.core k).tile = some t ∧
      (issueWith always k w used badCode steps body s = conclude s k t steps (body s (s.core k) t) ∨
       issueWith always k w used badCode steps body s = conclude s k t 1 (.next s))) := by
  by_cases hp : (s.core k).phase = .running
  · rcases ht : (s.core k).tile with _ | t
    · left
      simp only [issueWith, hp, ht]
    · by_cases hr : (reservedSet w used || badCode) = true
      · right; left
        simp only [issueWith, hp, ht, hr, if_true]
      · right; right
        refine ⟨t, hp, rfl, ?_⟩
        simp only [issueWith, hp, ht, hr]
        cases always <;> by_cases hg : guardTrue (s.core k) w = true <;> simp [hg]
  · left
    unfold issueWith
    dsimp only
    split
    · next h1 h2 => exact absurd h1 hp
    · rfl

/-- An instruction whose checks pass and whose guard is true concludes with its effect. -/
theorem issueWith_runs (always : Bool) (k : CoreId) (w : BitVec 56) (used : Nat) (badCode : Bool) (steps : Nat)
    (body : State → Core → Tile → Effect) (s : State) (t : Tile) (hp : (s.core k).phase = .running)
    (ht : (s.core k).tile = some t) (hr : reservedSet w used = false) (hb : badCode = false)
    (hg : guardTrue (s.core k) w = true) :
    issueWith always k w used badCode steps body s = conclude s k t steps (body s (s.core k) t) := by
  subst hb
  simp only [issueWith, hp, ht, hr, hg, Bool.or_false, Bool.false_eq_true, if_false, if_true, ite_self]

/-- An instruction with a reserved bit or code set halts with 0x02, whatever its guard (R103). -/
theorem issueWith_reserved (always : Bool) (k : CoreId) (w : BitVec 56) (used : Nat) (badCode : Bool) (steps : Nat)
    (body : State → Core → Tile → Effect) (s : State) (t : Tile) (hp : (s.core k).phase = .running)
    (ht : (s.core k).tile = some t) (h : (reservedSet w used || badCode) = true) :
    issueWith always k w used badCode steps body s = s.halt k .control 0x02 0 (s.core k).pc.toNat 0 := by
  simp only [issueWith, hp, ht, h, if_true]

/-- A done instruction whose successor lies in the partition and whose charge fits. -/
theorem conclude_next (s0 s : State) (k : CoreId) (t : Tile) (steps : Nat)
    (hf : inPartition t (sequel (s.core k).loops (s0.core k).pc).2 = true) (hc : s.charge k .ctl + steps ≤ 20000) :
    conclude s0 k t steps (.next s) =
      (s.setCore k { s.core k with
        loops := (sequel (s.core k).loops (s0.core k).pc).1,
        pc := BitVec.ofNat 18 (sequel (s.core k).loops (s0.core k).pc).2 }).setFld
        (Reg.ccTileCharge k) 15 0 (s.charge k .ctl + steps) := by
  simp only [conclude, hf, if_true, charged]
  rw [State.addCharge_fits _ _ _ _ (by simpa using hc)]
  rfl

/-- A taken branch whose target passes the checks and whose charge fits. -/
theorem conclude_jump (s0 s : State) (k : CoreId) (t : Tile) (steps target : Nat) (chk : Bool)
    (hf : inPartition t target = true) (hl : (chk && leavesLoop (s0.core k).loops (s0.core k).pc target) = false)
    (hc : s.charge k .ctl + steps ≤ 20000) :
    conclude s0 k t steps (.jump s target chk) =
      (s.setCore k { s.core k with pc := BitVec.ofNat 18 target }).setFld
        (Reg.ccTileCharge k) 15 0 (s.charge k .ctl + steps) := by
  simp only [conclude, hf, hl, charged, Bool.not_true, Bool.false_eq_true, if_false]
  rw [State.addCharge_fits _ _ _ _ (by simpa using hc)]
  rfl

/-- An instruction that stalls with its successor in the partition and a charge that fits. -/
theorem conclude_wait (s0 s : State) (k : CoreId) (t : Tile) (steps : Nat)
    (hf : inPartition t (sequel (s.core k).loops (s0.core k).pc).2 = true) (hc : s.charge k .ctl + steps ≤ 20000) :
    conclude s0 k t steps (.wait s) = s.setFld (Reg.ccTileCharge k) 15 0 (s.charge k .ctl + steps) := by
  simp only [conclude, hf, if_true, charged]
  rw [State.addCharge_fits _ _ _ _ hc]
  rfl

/-- Everything that concluding an instruction can do. -/
theorem conclude_cases (s0 : State) (k : CoreId) (t : Tile) (steps : Nat) (e : Effect) :
    (conclude s0 k t steps e = s0 ∨ e = .stall (conclude s0 k t steps e)) ∨
    (∃ src reason detail pc addr, conclude s0 k t steps e = s0.halt k src reason detail pc addr) ∨
    (∃ reason addr, conclude s0 k t steps e =
      (s0.inc Reg.ldgXltFaultCount 32 1).halt k .control reason 0 (s0.core k).pc.toNat addr) ∨
    (∃ s1 : State, conclude s0 k t steps e =
        s1.setFld (Reg.ccTileCharge k) 15 0 (s1.charge k .ctl + steps) ∧ s1.charge k .ctl + steps ≤ 20000 ∧
      (e = .stop s1 ∨ e = .wait s1 ∨
       (∃ s pc loops, (e = .next s ∨ ∃ b, e = .jump s pc b) ∧
          s1 = s.setCore k { s.core k with loops := loops, pc := BitVec.ofNat 18 pc }))) := by
  have hch : ∀ s1 : State, charged s0 s1 k (s0.core k).pc.toNat steps = s1.setFld (Reg.ccTileCharge k) 15 0 (s1.charge k .ctl + steps)
      ∧ s1.charge k .ctl + steps ≤ 20000 ∨
      charged s0 s1 k (s0.core k).pc.toNat steps = s0.halt k .monitor 0x08 0 (s0.core k).pc.toNat 0 := by
    intro s1
    by_cases h : s1.charge k .ctl + steps ≤ 20000
    · left
      refine ⟨?_, h⟩
      simp only [charged, State.addCharge_fits _ _ _ _ h]
      rfl
    · right
      have h2 : s1.addCharge k .ctl steps = none := by
        unfold State.addCharge
        rw [if_pos (by omega)]
      simp only [charged, h2]
  cases e with
  | retry => exact Or.inl (Or.inl rfl)
  | stall s => exact Or.inl (Or.inr rfl)
  | halt a b c => exact Or.inr (Or.inl ⟨_, _, _, _, _, rfl⟩)
  | overrun => exact Or.inr (Or.inl ⟨_, _, _, _, _, rfl⟩)
  | rowFault r a =>
    by_cases h : r = 0x07
    · exact Or.inr (Or.inr (Or.inl ⟨r, a, by simp only [conclude, if_pos h]⟩))
    · exact Or.inr (Or.inl ⟨.control, r, 0, (s0.core k).pc.toNat, a, by simp only [conclude, if_neg h]⟩)
  | stop s =>
    rcases hch s with h | h
    · exact Or.inr (Or.inr (Or.inr ⟨s, h.1, h.2, Or.inl rfl⟩))
    · exact Or.inr (Or.inl ⟨_, _, _, _, _, h⟩)
  | wait s =>
    by_cases hq : inPartition t (sequel (s.core k).loops (s0.core k).pc).2
    · rcases hch s with h | h
      · exact Or.inr (Or.inr (Or.inr ⟨s, by simp only [conclude, hq, if_true]; exact h.1, h.2, Or.inr (Or.inl rfl)⟩))
      · exact Or.inr (Or.inl ⟨_, _, _, _, _, by simp only [conclude, hq, if_true]; exact h⟩)
    · exact Or.inr (Or.inl ⟨.control, 0x0C, 0, _, _, by simp only [conclude, if_neg hq]; rfl⟩)
  | next s =>
    by_cases hq : inPartition t (sequel (s.core k).loops (s0.core k).pc).2
    · rcases hch (s.setCore k { s.core k with
          loops := (sequel (s.core k).loops (s0.core k).pc).1,
          pc := BitVec.ofNat 18 (sequel (s.core k).loops (s0.core k).pc).2 }) with h | h
      · exact Or.inr (Or.inr (Or.inr ⟨_, by simp only [conclude, hq, if_true]; exact h.1, h.2,
          Or.inr (Or.inr ⟨s, _, _, Or.inl rfl, rfl⟩)⟩))
      · exact Or.inr (Or.inl ⟨_, _, _, _, _, by simp only [conclude, hq, if_true]; exact h⟩)
    · exact Or.inr (Or.inl ⟨.control, 0x0C, 0, _, _, by simp only [conclude, if_neg hq]; rfl⟩)
  | jump s target b =>
    by_cases hq : inPartition t target
    · by_cases hl : (b && leavesLoop (s0.core k).loops (s0.core k).pc target) = true
      · exact Or.inr (Or.inl ⟨.control, 0x11, 0, _, target, by simp only [conclude, hq, hl, Bool.not_true, Bool.false_eq_true, if_false, if_true]; rfl⟩)
      · rcases hch (s.setCore k { s.core k with pc := BitVec.ofNat 18 target }) with h | h
        · exact Or.inr (Or.inr (Or.inr ⟨_, by simp only [conclude, hq, hl, Bool.not_true, Bool.false_eq_true, if_false]; exact h.1, h.2,
            Or.inr (Or.inr ⟨s, target, (s.core k).loops, Or.inr ⟨b, rfl⟩, rfl⟩)⟩))
        · exact Or.inr (Or.inl ⟨_, _, _, _, _, by simp only [conclude, hq, hl, Bool.not_true, Bool.false_eq_true, if_false]; exact h⟩)
    · exact Or.inr (Or.inl ⟨.control, 0x0C, 0, _, target, by simp only [conclude, hq, Bool.not_false, if_true]; rfl⟩)

end Sys2Proof.Machine
end

