-- ==== Sys2Proof/Laws/Milac.lean ====
section
/-! SUPPORT. What the shared shapes of Milac instructions do when they issue. -/

namespace Sys2Proof.Machine

/-- An instruction that only writes gD: the state it leaves. -/
theorem writesG_eq (s : State) (k : CoreId) (w : BitVec 56) (used steps : Nat) (f : Core → Tile → W64) (t : Tile)
    (h : Issues s k w used steps t) :
    writesG k w used steps f s =
      (s.setCore k { (s.core k).setG (fD w) (f (s.core k) t) with
        loops := (sequel (s.core k).loops (s.core k).pc).1
        pc := BitVec.ofNat 18 (sequel (s.core k).loops (s.core k).pc).2 }).setFld
        (Reg.ccTileCharge k) 15 0 (s.charge k .ctl + steps) := by
  unfold writesG issue
  rw [issueWith_runs _ _ _ _ _ _ _ _ t h.ready.running h.ready.tile h.ready.fields rfl h.ready.guard]
  have := conclude_next s (s.setCore k ((s.core k).setG (fD w) (f (s.core k) t))) k t steps (by simpa using h.follow)
    h.room
  simpa using this

/-- Adding to the control charge of a state that differs only in a core changes nothing but the charge register. -/
theorem OnlyCore.of_setCore_charge (s : State) (k : CoreId) (c : Core) (v : Nat) :
    OnlyCore k [Reg.ccTileCharge k] s ((s.setCore k c).setFld (Reg.ccTileCharge k) 15 0 v) where
  rest := rfl
  cores j h := by simp [State.setFld, State.core_setCore_ne _ _ _ _ h]
  regs o h := by
    simp only [List.mem_singleton] at h
    simp [State.setFld, State.reg_setReg_ne _ _ _ _ h]

/-- The charge counts the steps. -/
theorem Charged.of_setCore_charge (s : State) (k : CoreId) (c : Core) (n : Nat) (h : s.charge k .ctl + n ≤ 20000) :
    Charged k n s ((s.setCore k c).setFld (Reg.ccTileCharge k) 15 0 (s.charge k .ctl + n)) where
  ctl := State.charge_setFld_same _ k .ctl _ h
  mtx := State.charge_setFld_ne _ k .ctl .mtx _ (by decide)
  vec := State.charge_setFld_ne _ k .ctl .vec _ (by decide)

/-- An instruction that only writes gD does what `WroteG` says. -/
theorem writesG_wrote (s : State) (k : CoreId) (w : BitVec 56) (used steps : Nat) (f : Core → Tile → W64) (t : Tile)
    (h : Issues s k w used steps t) : WroteG k w steps (f (s.core k) t) s (writesG k w used steps f s) := by
  rw [writesG_eq s k w used steps f t h]
  have hg : ∀ r, ({ (s.core k).setG (fD w) (f (s.core k) t) with
        loops := (sequel (s.core k).loops (s.core k).pc).1
        pc := BitVec.ofNat 18 (sequel (s.core k).loops (s.core k).pc).2 } : Core).gr r =
      if r = fD w ∧ r ≠ 0 then f (s.core k) t else (s.core k).gr r := by
    intro r
    rw [← Core.gr_setG]
    rfl
  refine ⟨OnlyCore.of_setCore_charge _ _ _ _, ?_, ?_, ?_, ⟨?_, ?_⟩, Charged.of_setCore_charge _ _ _ _ h.room⟩
  · simp [State.setFld]
  · simp only [State.setFld, State.core_setReg, State.core_setCore_same, hg]
    by_cases h0 : fD w = 0
    · simp [h0, Core.gr]
    · simp only [h0, ne_eq, not_false_eq_true, and_self, if_true, if_false]
  · intro r hr
    simp only [State.setFld, State.core_setReg, State.core_setCore_same, hg]
    rw [if_neg (fun e => hr e.1)]
  · simp [State.setFld]
  · simp [State.setFld]

end Sys2Proof.Machine
end

