-- ==== Sys2Proof/Tests/Slice0.lean ====
section
/-! SUPPORT. Tests of the model on small states. `test_wf_…`: an ill-formed command is refused. `test_hyp_…`: a concrete state
and operands that meet the hypotheses of a statement. `test_…` else: one command on a small state, its expected result read
from the specification. -/

namespace Sys2Proof.Tests

open Sys2Proof.Machine

/-! ## Small states -/

/-- A device that is powered, with its host on the link. -/
def up : State := { State.reset with
  board := { State.reset.board with porLow := false }
  host := { State.reset.host with perst := false, answering := true }
  lodge := { State.reset.lodge with inReset := false } }

/-- A tile of the Lodge's context, which addresses rows by their physical address. -/
def tile : Tile := ⟨0, 0, 0, 1, 0, 5, 7, false, 0, 1, 0, 1, 0, 0, false, [], 0, 0, 0, 0, 0⟩

/-- Core k runs the tile, with changes. -/
def runs (k : CoreId) (f : Core → Core) : State :=
  up.setCore k (f { up.core k with phase := .running, tile := some tile })

/-- A Milac word without its opcode. -/
def word (d a b c imm : Nat) : BitVec 56 := BitVec.ofNat 56 (d * 2 ^ 47 + a * 2 ^ 42 + b * 2 ^ 37 + c * 2 ^ 32 + imm)

/-- An empty tile counter of job 1. -/
def counter : Counter := ⟨1, 0, 10, 0, [], [], [], 0, [], [], false, [], []⟩

/-- A context. -/
def ctx1 : Context := ⟨1, 0, 0, 0, false, 0, 0, false, false, 0, 1, 0, none, 0⟩

theorem ready_of {s : State} {k : CoreId} {w : BitVec 56} {used : Nat} {t : Tile}
    (h : (s.core k).phase = .running ∧ (s.core k).tile = some t ∧ reservedSet w used = false ∧
      guardTrue (s.core k) w = true) : Ready s k w used t := ⟨h.1, h.2.1, h.2.2.1, h.2.2.2⟩

theorem issues_of {s : State} {k : CoreId} {w : BitVec 56} {used steps : Nat} {t : Tile}
    (h : ((s.core k).phase = .running ∧ (s.core k).tile = some t ∧ reservedSet w used = false ∧
      guardTrue (s.core k) w = true) ∧ inPartition t (sequel (s.core k).loops (s.core k).pc).2 = true ∧
      s.charge k .ctl + steps ≤ 20000) : Issues s k w used steps t := ⟨ready_of h.1, h.2.1, h.2.2⟩

theorem vector_of {s : State} {k : CoreId} {t : Tile} {code n : Nat} {cmd : Cmd}
    (h : (s.core k).tile = some t ∧ (s.core k).phase ≠ .halted ∧ nextVector s k code = some (n, cmd)) : VectorTurn s k t code n cmd :=
  ⟨h.1, h.2.1, h.2.2⟩

theorem matrix_of {s : State} {k : CoreId} {t : Tile} {code n : Nat} {cmd : Cmd}
    (h : (s.core k).tile = some t ∧ (s.core k).phase ≠ .halted ∧ nextMatrix s k code = some (n, cmd)) : MatrixTurn s k t code n cmd :=
  ⟨h.1, h.2.1, h.2.2⟩

theorem ok_of {ε α : Type} {x : Except ε α} (h : x.isOk = true) : ∃ r, x = .ok r := by
  cases x with
  | ok r => exact ⟨r, rfl⟩
  | error e => cases h

theorem admitted_of {opcode : Nat} {e : RingEntry} {scope : RingScope} {bad : List Nat} {s : State}
    (h : s.ringReady = true ∧ (s.hifState = 4 ∨ opcode = 1 ∨ opcode = 2) ∧ headerBad e scope ++ bad = [] ∧
      s.contextRefusal (RingEntry.ctx e) scope = none ∧
      (RingEntry.fen e = true → s.fenceUsable e scope (opcode == 0x12) = true)) : Admitted opcode e scope bad s :=
  ⟨h.1, h.2.1, h.2.2.1, h.2.2.2.1, h.2.2.2.2⟩

/-! ## Ill-formed commands -/

theorem test_wf_counts :
    (Instr.activityWindowEnd 0 ⟨257, 0⟩).wellFormed = false ∧ (Instr.activityWindowEnd 0 ⟨0, 257⟩).wellFormed = false ∧ (Instr.storeRequestPromotion 0 0 ⟨0, false⟩).wellFormed = false ∧
    (Instr.storeRequestPromotion 0 3 ⟨4, false⟩).wellFormed = false ∧ (Instr.pisteTransferPromotion 0).wellFormed = false ∧
    (Instr.pocTrip 0 1024).wellFormed = false ∧ (Instr.pocOpen 0 1024).wellFormed = false ∧
    (Instr.thermalSample ⟨[], ⟨true, true⟩⟩).wellFormed = false ∧
    (Instr.cascadeAbort 0 ⟨0, 1⟩ ⟨.laterJob, .link 0 ⟨0, [], 0, 0⟩ false⟩).wellFormed = false ∧
    (Instr.timeStampExchange 0 ⟨1, 0, 0, 0⟩).wellFormed = false := by decide

theorem test_wf_registers :
    (Instr.registerWrite false 0x104 .full8 0).wellFormed = false ∧ (Instr.registerWrite false 0x2000000 .full8 0).wellFormed = false ∧
    (Instr.rcFieldRead 0x104 ⟨.full8, false⟩).wellFormed = false ∧ (Instr.rcFieldRead 0x2000000 ⟨.full8, false⟩).wellFormed = false ∧
    (Instr.counterDeltaTransfer 0x104).wellFormed = false ∧ (Instr.counterDeltaTransfer 0x2000000).wellFormed = false ∧
    (Instr.bar2Access true 0 []).wellFormed = false ∧ (Instr.bar2Access true 0 (List.replicate 4097 0)).wellFormed = false := by
  decide +kernel

/-- A flit header with a payload that is too short. -/
def shortFlit : FlitHeader := ⟨0, [], 0, 0⟩

/-- A flit header with a whole payload. -/
def wholeFlit : FlitHeader := ⟨0, List.replicate 248 0, 0, 0⟩

theorem test_wf_packets :
    (Instr.csi2Packet 0 ⟨16, 0, 0x2A, .clean, true, []⟩).wellFormed = false ∧
    (Instr.csi2Packet 0 ⟨0, 0, 0x01, .clean, true, [1]⟩).wellFormed = false ∧
    (Instr.csi2Packet 0 ⟨0, 0, 0x2A, .clean, true, List.replicate 65536 0⟩).wellFormed = false ∧
    (Instr.completionUpdate 0 wholeFlit ⟨0, 16, 0, 0, 0, 0, 0⟩).wellFormed = false ∧
    (Instr.exchangeDataFlit 0 wholeFlit ⟨0, 0, 0, 0, 0, List.replicate 225 0⟩).wellFormed = false ∧
    (Instr.controlFlit 0 ⟨wholeFlit, 0, none, [64, 64], false, none, [], []⟩).wellFormed = false := by decide +kernel

theorem test_wf_flits :
    (Instr.controlFlit 0 ⟨shortFlit, 0, none, [64, 64, 64], false, none, [], []⟩).wellFormed = false ∧
    (Instr.exchangeDataFlit 0 shortFlit ⟨0, 0, 0, 0, 0, [1]⟩).wellFormed = false ∧
    (Instr.completionUpdate 0 shortFlit ⟨0, 0, 0, 0, 0, 0, 0⟩).wellFormed = false ∧
    (Instr.signatureRecord 0 shortFlit ⟨0, 0, 0, 0, 0, 0, none⟩).wellFormed = false ∧
    (Instr.startGateArmFlit 0 shortFlit ⟨0, 0, 0, 0⟩).wellFormed = false ∧
    (Instr.takeoverNotice 0 shortFlit ⟨0, 0⟩).wellFormed = false ∧ (Instr.taiOffsetFlit 0 shortFlit 0).wellFormed = false ∧
    (Instr.enumerationFlit 0 shortFlit ⟨1, 1, true, false, 0, [], 0, 0, none, none, false⟩).wellFormed = false := by decide

theorem test_wf_dram :
    (Instr.dramRequest ⟨.lift, false, 1, [], none⟩).wellFormed = false ∧
    (Instr.dramRequest ⟨.lift, true, 64, [1], none⟩).wellFormed = false ∧
    (Instr.dramRequest ⟨.bar2, true, 63, [1, 2], none⟩).wellFormed = false ∧
    (Instr.dramRequest ⟨.scrub, false, 0, [], none⟩).wellFormed = false ∧
    (Instr.frozenRequest ⟨.bar2, true, 0, [], none⟩).wellFormed = false ∧
    (Instr.frozenRequest ⟨.initialise, true, 0, List.replicate 64 0, none⟩).wellFormed = false ∧
    (Instr.dramRequestServed 0 0 ⟨[3, 3], false, false, false, 0⟩).wellFormed = false := by decide +kernel

theorem test_wf_boot :
    (Instr.porRelease ⟨false, false, true, [], List.replicate 32 (16, false), none, [], [], none⟩).wellFormed = false ∧
    (Instr.porRelease ⟨false, false, true, List.replicate 8 none, [], none, [], [], none⟩).wellFormed = false ∧
    (Instr.porRelease ⟨false, false, true, List.replicate 8 none, List.replicate 32 (16, false), none, [(2 ^ 29, [0])], [],
      none⟩).wellFormed = false ∧
    (Instr.bootRetry [(2 ^ 29, [0])]).wellFormed = false := by decide
/-! ## Milac -/

/-- A core in the last instruction of a loop that repeats, some registers set, every predicate true. -/
def milac : State := runs 3 (fun c => { c with
  pc := 0x18, p := 0xFF, loops := [⟨0x10, 0x18, 5, 1⟩], g := ((c.g.set 1 40).set 2 3).set 31 0x20,
  tokens := c.tokens.set 31 65535 })

theorem test_hyp_arithmetic :
    Issues milac 3 (word 4 1 2 0 0) (mD + mA + mB) 1 tile ∧ Issues milac 3 (word 4 1 2 0 0) (mD + mA + mB) 3 tile ∧
    Issues milac 3 (word 4 1 2 1 0) (mD + mA + mB + mC) 3 tile ∧ Issues milac 3 (word 0 1 0 0 0x80000000) (mD + mA + mImm) 1 tile ∧
    Issues milac 3 (word 0 0 0 0 0xFFFFFFFF) (mD + mImm) 1 tile ∧
    Issues milac 3 (word 4 1 2 7 0) (mD + mA + mB + bits 34 32) 1 tile ∧
    Issues milac 3 (word 31 1 0 0 0) (mD + mA + mB) 34 tile :=
  ⟨issues_of (by decide), issues_of (by decide), issues_of (by decide), issues_of (by decide), issues_of (by decide),
    issues_of (by decide), issues_of (by decide)⟩

theorem test_hyp_predicates :
    (Issues milac 3 (word 7 1 2 5 0) (bits 49 47 + mA + mB + mC) 1 tile ∧ (fC (word 7 1 2 5 0)).toNat < 6) ∧
    (Issues milac 3 (word 0 1 0 0 9) (bits 49 47 + mA + mB + mImm) 1 tile ∧ (fB (word 0 1 0 0 9)).toNat < 6) ∧
    Issues milac 3 (word 3 7 1 15 0) (bits 49 47 + bits 44 42 + bits 39 37 + bits 35 32) 1 tile :=
  ⟨⟨issues_of (by decide), by decide⟩, ⟨issues_of (by decide), by decide⟩, issues_of (by decide)⟩

theorem test_hyp_tile_state :
    (Issues milac 3 (word 4 0 0 0 0x1FF) (mD + mImm) 1 tile ∧ ((word 4 0 0 0 0x1FF).extractLsb' 0 32).toNat ≤ 0x1FF) ∧
    Issues milac 3 (word 4 0 0 0 0) (mD + bits 1 0) 1 tile ∧
    (milac.core 3).loops[field (word 4 0 0 0 0) 1 0]? = some ⟨0x10, 0x18, 5, 1⟩ :=
  ⟨⟨issues_of (by decide), by decide⟩, issues_of (by decide), by decide⟩

/-- As `milac`, outside every loop. -/
def straight : State := milac.setCore 3 { milac.core 3 with loops := [] }

theorem test_hyp_branch :
    let w := word 0 0 0 0 1
    let rel := (((straight.core 3).pc.zeroExtend 64 + 8 * (w.extractLsb' 0 32).signExtend 64 : W64)).toNat
    rel < tile.ipart * 4096 ∧ rel % 8 = 0 ∧ Room straight 3 1 ∧ Ready straight 3 w mImm tile ∧
    leavesLoop (straight.core 3).loops (straight.core 3).pc rel = false :=
  ⟨by decide, by decide, by unfold Room; decide, ready_of (by decide), by decide⟩

theorem test_hyp_jump :
    (40 < tile.ipart * 4096 ∧ Ready straight 3 (word 0 1 0 0 0) mA tile ∧
      leavesLoop (straight.core 3).loops (straight.core 3).pc 40 = false ∧ 40 = ((straight.core 3).gr (fA (word 0 1 0 0 0))).toNat) ∧
    Ready straight 3 (word 0 0 0 0 0) 0 tile ∧ 32 = ((straight.core 3).gr 31).toNat ∧
    leavesLoop (straight.core 3).loops (straight.core 3).pc 32 = false :=
  ⟨⟨by decide, ready_of (by decide), by decide, by decide⟩, ready_of (by decide), by decide, by decide⟩

theorem test_hyp_loop :
    let w := word 0 0 0 0 0x50001
    (reservedSet w (mA + bits 31 0) = false ∧ field w 15 0 ≠ 0 ∧ inPartition tile 0x20 = true ∧
      BitVec.ofNat 32 (field w 31 16) ≠ 0 ∧ guardTrue (straight.core 3) w = true ∧ (straight.core 3).loops.length < 4) ∧
    (reservedSet (word 0 0 0 0 1) (mA + bits 31 0) = false ∧ BitVec.ofNat 32 (field (word 0 0 0 0 1) 31 16) = 0 ∧
      inPartition tile 0x28 = true) ∧
    (reservedSet (word 0 0 0 0 0) 0 = false ∧ (milac.core 3).loops = ⟨0x10, 0x18, 5, 1⟩ :: [] ∧ inPartition tile 0x20 = true) := by
  decide

theorem test_hyp_small :
    Issues milac 3 0 0 1 tile ∧ Issues milac 3 (word 0 0 0 0 0xFFFF) (bits 15 0) 1 tile ∧
    ¬ (milac.flag Reg.ldgTraceCtrl 0 = true ∧ milac.fld Reg.ldgTraceCtrl 10 1 = tile.ctx.val) ∧
    (let s := milac.setReg Reg.ldgTraceCtrl 1
     (s.flag Reg.ldgTraceCtrl 0 = true ∧ s.fld Reg.ldgTraceCtrl 10 1 = tile.ctx.val) ∧ Issues s 3 (word 0 0 0 0 0xFFFF) (bits 15 0) 1 tile ∧
     (s.lodge.events[clusterFin 3]).length < 256) ∧
    Issues milac 3 (word 0 0 0 0 31) (bits 4 0) 1 tile ∧ Ready milac 3 (word 0 0 0 0 1) (bits 0 0) tile ∧ Room milac 3 1 ∧
    ((milac.core 3).lastAppended[(2 : Fin 4)] = none) :=
  ⟨issues_of (by decide), issues_of (by decide), by decide, ⟨by decide, issues_of (by decide), by decide⟩, issues_of (by decide),
    ready_of (by decide), by unfold Room; decide, by decide⟩

theorem test_hyp_false_guard :
    let w : BitVec 56 := 2 ^ 55
    (milac.core 3).phase = .running ∧ (milac.core 3).tile = some tile ∧ guardTrue (milac.core 3) w = false ∧
    inPartition tile (sequel (milac.core 3).loops (milac.core 3).pc).2 = true ∧ milac.charge 3 .ctl + 1 ≤ 20000 ∧
    ((milacFields 3 w).map (fun x => reservedSet w x.2 || reservedCode x.1)).all (! ·) = true ∧
    (let v : BitVec 56 := 2 ^ 55 + 2
     guardTrue (milac.core 3) v = false ∧ reservedSet v (mA + bits 31 0) = false ∧ field v 15 0 ≠ 0 ∧
     inPartition tile ((milac.core 3).pc.toNat + 8 * field v 15 0) = true ∧
     inPartition tile ((milac.core 3).pc.toNat + 8 * field v 15 0 + 8) = true) := by decide +kernel

theorem test_hyp_encoding_checks :
    ((milacFields 3 (word 0 0 0 6 0)).map (fun x => reservedSet (word 0 0 0 6 0) x.2 || reservedCode x.1)).count true = 56 ∧
    reservedSet (word 0 0 1 0 0) (mA + bits 31 0) = true ∧ opcodeKnown (field (0xFF00000000000000 : BitVec 64) 63 56) = false ∧
    reservedSet (word 0 0 0 0 255) (bits 7 0) = false ∧ guardTrue (milac.core 3) (word 0 0 0 0 255) = true := by decide +kernel

theorem test_hyp_data_store :
    let w := word 4 0 0 0 0xFF8
    let a := ((milac.core 3).gr (fA w) + (w.extractLsb' 0 32).signExtend 64).toNat
    (Issues milac 3 w (mD + mA + mImm) 2 tile ∧ Issues milac 3 w (mD + mA + mImm) 1 tile ∧ a + 8 ≤ tile.dpart * 4096 ∧ a % 8 = 0 ∧
      slotPending (milac.core 3) a 8 = false) ∧
    Issues milac 3 (word 4 0 0 0 0xFFC) (mD + mA + mImm) 2 tile ∧ Ready milac 3 (word 4 0 0 0 0xFFC) (mD + mA + mImm) tile ∧
    tile.dpart * 4096 < 0xFFC + 8 ∧ Ready milac 3 (word 4 0 0 0 0xFFE) (mD + mA + mImm) tile ∧ 0xFFE % 4 ≠ 0 :=
  ⟨⟨issues_of (by decide), issues_of (by decide), by decide, by decide, by decide⟩, issues_of (by decide), ready_of (by decide),
    by decide, ready_of (by decide), by decide⟩

/-- The physical address of row 2 of local store 3. -/
def rowA : Nat := rowAddr 3 2

/-- As `milac`, g5 a row address, g6 a word address in it, g7 a slot. -/
def rows : State := milac.setCore 3 { milac.core 3 with
  g := (((milac.core 3).g.set 5 (BitVec.ofNat 64 rowA)).set 6 (BitVec.ofNat 64 (rowA + 504))).set 7 3584 }

theorem test_hyp_row_issue :
    let d := ((rows.core 3).gr 7).toNat
    (Issues rows 3 (word 7 5 0 0 0) (mD + mA) 2 tile ∧ d + 512 ≤ tile.dpart * 4096 ∧ d % 512 = 0 ∧
      slotPending (rows.core 3) d 512 = false ∧ rowOf rows tile ((rows.core 3).gr 5).toNat 512 false = .ok (rowA, 0)) ∧
    (Issues rows 3 (word 7 5 0 0 0) (mD + mA) 1 tile ∧ rowOf rows tile ((rows.core 3).gr 5).toNat 512 true = .ok (rowA, 0)) ∧
    (Issues rows 3 (word 4 6 1 0 0) (mD + mA + mB) 2 tile ∧ rowOf rows tile ((rows.core 3).gr 6).toNat 8 true = .ok (rowA, 504)) ∧
    Issues rows 3 (word 4 6 1 2 0) (mD + mA + mB + mC) 2 tile :=
  ⟨⟨issues_of (by decide), by decide, by decide, by decide, by rfl⟩, ⟨issues_of (by decide), by rfl⟩,
    ⟨issues_of (by decide), by rfl⟩, issues_of (by decide)⟩

/-- Core 3 has issued one access. -/
def issued (kind : AccessKind) : State := milac.setCore 3 { milac.core 3 with accesses := [⟨rowA, kind, tile.tag 3⟩] }

theorem test_hyp_row_return :
    let x := fun kind => (⟨rowA, kind, tile.tag 3⟩ : Access)
    storeOf rowA = some (3, 2) ∧ ((issued (.load 0)).core 3).ready? 0 = some (x (.load 0)) ∧
    (((issued (.add 504 0 1)).core 3).ready? 0 = some (x (.add 504 0 1)) ∧ (issued (.add 504 0 1)).late 3 (some (tile.tag 3)) = false) ∧
    (((issued (.cas 504 4 1 0)).core 3).ready? 0 = some (x (.cas 504 4 1 0)) ∧
      (issued (.cas 504 4 1 0)).late 3 (some (tile.tag 3)) = false) := by decide

/-! ## Queues, tokens, claims -/

/-- A matrix command MSPIN with level n, and its command waiting in a queue. -/
def mspin (n : Nat) : Desc := BitVec.ofNat 128 (8 * 2 ^ 120 + n * 2 ^ 55)

/-- A command of a queue. -/
def cmdOf (d : Desc) (phase : CmdPhase) : Cmd := ⟨d, 0x10, 0, 0, phase, none, 0, 0, [], []⟩

/-- As `milac`, g8 and g9 an MSPIN of level 256. -/
def pushing (used : Nat) : State := milac.setCore 3 { milac.core 3 with
  g := ((milac.core 3).g.set 8 ((mspin 256).extractLsb' 0 64)).set 9 ((mspin 256).extractLsb' 64 64)
  dstore := ((List.range 16).map (fun i => (16 + i, (mspin 256).extractLsb' (8 * i) 8))).filter (fun x => x.2 != 0)
  queues := (milac.core 3).queues.set 0 (List.replicate used (cmdOf (mspin 1) .waiting)) }

theorem test_hyp_push :
    let w := word 0 8 9 0 0
    (fD w).toNat = (0 : QueueId).val ∧ queueAbsent (pushing 63) 0 = false ∧ Issues (pushing 63) 3 w (mD + mA + mB) 1 tile ∧
    Appends (pushing 63) 3 tile 0 [mspin 256] ∧ Ready (pushing 64) 3 w (mD + mA + mB) tile ∧
    queueDepth 0 < ((pushing 64).core 3).occupied 0 + 1 ∧
    spClear ({ (pushing 63).core 3 with accesses := [⟨0, .store [], tile.tag 3⟩, ⟨0, .fence 16, tile.tag 3⟩] }) = false :=
  ⟨by decide, by decide, issues_of (by decide), ⟨_, rfl⟩, ready_of (by decide), by decide, by decide⟩

theorem test_hyp_pushd :
    let w := word 0 0 0 0 16
    let c := (pushing 63).core 3
    Issues (pushing 63) 3 w (mD + mA + bits 30 24 + bits 15 0) 1 tile ∧ batchAddr c w = 16 ∧ dataOk tile 16 16 16 = true ∧
    1 ≤ queueDepth 0 ∧ batchDescs c tile 16 1 = [mspin 256] ∧ slotPending c 16 16 = false ∧
    Appends (pushing 63) 3 tile 0 (batchDescs c tile 16 1) ∧ Ready (pushing 64) 3 w (mD + mA + bits 30 24 + bits 15 0) tile :=
  ⟨issues_of (by decide), by decide, by decide, by decide, by decide, by decide, ⟨_, rfl⟩, ready_of (by decide)⟩

theorem test_hyp_room_freed :
    let s := (pushing 63).setCore 3 { (pushing 63).core 3 with phase := .waitRoom false (word 0 8 9 0 0) }
    (s.core 3).phase = .waitRoom false (word 0 8 9 0 0) ∧ (s.core 3).tile = some tile ∧ Appends s 3 tile 0 [mspin 256] ∧
    inPartition tile (sequel (s.core 3).loops (s.core 3).pc).2 = true ∧ Room s 3 1 :=
  ⟨by decide, by decide, ⟨_, rfl⟩, by decide, by unfold Room; decide⟩

theorem test_hyp_tokens :
    let waits := cmdOf (BitVec.ofNat 128 (1 * 2 ^ 120 + 1 * 2 ^ 104 + 3 * 2 ^ 99)) .waiting
    (Issues milac 3 (word 0 0 0 0 0x1FFFFF) (bits 20 0) 1 tile ∧ 65535 ≤ (milac.core 3).tokensFor 4 31 ∧
      ∀ q w, (milac.core 3).headWait q = some w → w.1 ≠ 31) ∧
    (Issues milac 3 (word 0 0 0 0 0x000001) (bits 20 0) 1 tile ∧ (milac.core 3).tokensFor 4 0 < 1 ∧
      ((milac.core 3).token 0).toNat < 1) ∧
    (Issues milac 3 (word 0 0 0 0 0x1F0001) (bits 20 0) 1 tile ∧ 65535 < ((milac.core 3).token 31).toNat + 1) ∧
    ((milac.core 3).token 0).toNat + 1 ≤ 65535 ∧
    ({ milac.core 3 with tokens := (milac.core 3).tokens.set 0 1, queues := (milac.core 3).queues.set 0 [waits] }).headWait 0 ≠ none :=
  ⟨⟨issues_of (by decide), by decide, by decide⟩, ⟨issues_of (by decide), by decide, by decide⟩, ⟨issues_of (by decide), by decide⟩,
    by decide, by decide⟩

/-- A job of the Lodge's context with counter 2 at place 9. -/
def job1 : Job := ⟨1, 0, 0, 7, .running, false, false, 0, 0, 10, 0, 0, 0, 0, 0, none, none, 0, 0, 0, 0, 0, 0, 0, 0, 0, 0,
  [(2, 9)], [], [], none, 0, false, false, false, false, 1, 1, false, [], none⟩

/-- As `milac`, with the job and its counter. -/
def claiming : State := { milac with jobs := [job1], counters := milac.counters.set 9 (some { counter with number := 2 }) }

theorem test_hyp_claim :
    Issues claiming 3 (word 4 0 0 0 0x200) (mD + bits 11 8 + bits 2 0) 1 tile ∧ claiming.job? tile.job = some job1 ∧
    job1.bound? (field (word 4 0 0 0 0x200) 11 8) = some 9 ∧ claiming.counters[(9 : CounterId)] = some { counter with number := 2 } ∧
    Ready claiming 3 (word 4 0 0 0 0xF00) (mD + bits 11 8 + bits 2 0) tile ∧
    (claiming.job? tile.job).bind (fun j => j.bound? (field (word 4 0 0 0 0xF00) 11 8)) = none :=
  ⟨issues_of (by decide), by decide, by decide, by decide, ready_of (by decide), by decide⟩

theorem test_hyp_token_wait :
    let s := milac.setCore 3 { milac.core 3 with phase := .waitToken 31 65535 }
    (s.core 3).phase = .waitToken 31 65535 ∧ 65535 ≤ (s.core 3).tokensFor 4 31 := by decide

/-- A counter whose first waiting claim is the control core's. -/
def serving (c : Counter) : State := { (milac.setCore 3 { milac.core 3 with phase := .waitClaim 9 4 7 }) with
  jobs := [job1], counters := milac.counters.set 9 (some { c with waiting := [.control 3] }) }

theorem test_hyp_claim_served :
    (let c := { counter with returns := [4, 2], waiting := [.control 3] }
     (serving c).counters[(9 : CounterId)] = some c ∧ c.nextClaim = some (.control 3) ∧ (serving c).job? c.job = some job1 ∧
     waitsOn ((serving c).core 3) 9 = some (4, 7) ∧ c.outstanding.length < 4096) ∧
    (let c := { counter with waiting := [.control 3] }
     waitsOn ((serving c).core 3) 9 = some (4, 7) ∧ c.next < c.limit ∧ (serving c).released job1 c c.next = true) ∧
    (let c := { counter with waiting := [.control 3], segs := [⟨0, 2, 1, 1, 5⟩] }
     c.next < c.limit ∧ (serving c).released job1 c c.next = false) ∧
    (let c := { counter with waiting := [.control 3], limit := 0 }
     (serving c).counters[(9 : CounterId)] = some c ∧ c.limit ≤ c.next) := by decide

/-! ## Vector and matrix commands -/

/-- A descriptor of a code with engine fields. -/
def desc (code fields : Nat) : Desc := BitVec.ofNat 128 (code * 2 ^ 120 + fields)

/-- Core 2 runs the tile with one begun command at the end of a queue. -/
def engine (q : QueueId) (d : Desc) : State := runs 2 (fun c => { c with
  queues := c.queues.set q [cmdOf d .executed, cmdOf d .begun]
  vregs := [(1, 0x3F800000), (256, 7)] })

theorem test_hyp_vector :
    ∀ code ∈ [0x10, 0x11, 0x12, 0x13, 0x14, 0x15, 0x16, 0x17, 0x18, 0x19, 0x1A, 0x1B, 0x1C, 0x1D, 0x1E, 0x1F, 0x20, 0x21, 0x22,
      0x23, 0x24, 0x30, 0x31, 0x32, 0x33, 0x34, 0x35, 0x36, 0x37, 0x38, 0x39, 0x3A, 0x3B, 0x3C, 0x40, 0x41, 0x42, 0x43, 0x44,
      0x45, 0x46, 0x47, 0x48, 0x49, 0x4A, 0x50, 0x51, 0x52, 0x01, 0x02, 0x03, 0x04, 0x05, 0x60, 0x61, 0x62, 0x63, 0x64, 0x65, 0x66],
    ((engine 1 (desc code 0)).core 2).tile = some tile ∧ ((engine 1 (desc code 0)).core 2).phase ≠ .halted ∧
    nextVector (engine 1 (desc code 0)) 2 code = some (1, cmdOf (desc code 0) .begun) := by decide

theorem test_hyp_amax_derive :
    VectorTurn (engine 1 (desc 0x58 (2 ^ 55 + 1))) 2 tile 0x58 1 (cmdOf (desc 0x58 (2 ^ 55 + 1)) .begun) ∧
    (desc 0x58 (2 ^ 55 + 1)).getLsbD 55 = true ∧
    (∀ mode ∈ [0, 1, 2], nextVector (engine 1 (desc 0x59 (mode * 2 ^ 62))) 2 0x59 =
      some (1, cmdOf (desc 0x59 (mode * 2 ^ 62)) .begun) ∧ field (desc 0x59 (mode * 2 ^ 62)) 63 62 = mode) :=
  ⟨vector_of (by decide), by decide, by decide⟩

theorem test_hyp_amax_groups :
    let d := desc 0x58 (11 * 2 ^ 34 + 1)
    let s := engine 1 d
    VectorTurn s 2 tile 0x58 1 (cmdOf d .begun) ∧ d.getLsbD 55 = false ∧
    cdiv (((unpackRows (fmtBits (field d 37 34)) (s.rowsFrom 2 (field d 29 15) (field d 14 0))).zipIdx).length)
      (groupSize (field d 31 30)) ≤ 256 := ⟨vector_of (by decide), by decide, by decide +kernel⟩

theorem test_hyp_vld_codes :
    let d := desc 0x01 (11 * 2 ^ 34)
    ((unpackRows (fmtBits (field d 37 34)) ((engine 1 d).rowsFrom 2 (field d 29 15) (vecRows (field d 37 34) (Desc.run d))))[255]?) =
      some 0 := by decide +kernel

theorem test_hyp_window :
    let s := (engine 1 (desc 0x64 0)).setCore 2 { (engine 1 (desc 0x64 0)).core 2 with wgeom := some 0x2201 }
    VectorTurn s 2 tile 0x64 1 (cmdOf (desc 0x64 0) .begun) ∧ (s.core 2).wgeom = some 0x2201 ∧ fmtInt 3 = true :=
  ⟨vector_of (by decide), by decide, by decide⟩

theorem test_hyp_integer_form :
    let F : IntForm := ⟨8, true, true⟩
    (F.w = 8 ∧ F.lo ≤ -128 ∧ -128 ≤ F.hi ∧ F.lo ≤ 127 ∧ 127 ≤ F.hi) ∧ (F.sat = true ∧ -129 < F.lo) ∧ (F.hi < 128) ∧
    (let G : IntForm := ⟨32, false, false⟩; G.sat = false ∧ G.w = 32 ∧ (-1 : Int) < G.lo ∧ G.sgn = false) := by decide

theorem test_hyp_accumulator :
    (-(2 : Int) ^ 40 < 2 ^ 40 - 1 ∧ (2 ^ 40 - 1 : Int) < 2 ^ 40) ∧ ((6 : BitVec 4).toInt < 7 ∧ -8 < (6 : BitVec 4).toInt) ∧
    (-(2 : Int) ^ 39 ≤ (5 : BitVec 40).toInt + (-6) ∧ (5 : BitVec 40).toInt + (-6) < 2 ^ 39) := by decide

theorem test_hyp_matrix :
    (∀ code ∈ [1, 2, 3, 4, 8, 9], ((engine 0 (desc code 0)).core 2).phase ≠ .halted ∧
      nextMatrix (engine 0 (desc code 0)) 2 code = some (1, cmdOf (desc code 0) .begun)) ∧
    (desc 2 0).getLsbD 78 = false ∧ TailReady (engine 0 (desc 4 0)) 2 tile 1 ∧
    (∀ x ∈ ((engine 0 (desc 4 0)).core 2).queue 0, isAccAccess x.desc = true → x.phase ≠ .begun) ∧
    (∀ code ∈ [5, 6, 7], AccTurn (engine 0 (desc code (11 * 2 ^ 68 + 1 * 2 ^ 11))) 2 tile code 1
      (cmdOf (desc code (11 * 2 ^ 68 + 1 * 2 ^ 11)) .begun)) := by
  refine ⟨by decide, by decide, ⟨_, rfl⟩, by decide, fun code h => ?_⟩
  simp only [List.mem_cons, List.not_mem_nil, or_false] at h
  rcases h with rfl | rfl | rfl <;> exact ⟨matrix_of (by decide), by decide⟩

theorem test_hyp_readout :
    let d := desc 5 (11 * 2 ^ 68 + 1 * 2 ^ 11)
    fmtBits (field d 71 68) ≠ 0 ∧ 0 < field d 22 11 ∧ field d 22 11 ≤ mxEntries d.shape d.cls ∧ (entryAccs d.shape d.cls (field d 33 23) (field d 22 11)).Nodup := by decide +kernel

theorem test_hyp_port_load :
    let d := desc 2 (1 * 2 ^ 81 + 1 * 2 ^ 78 + 9 * 2 ^ 68)
    let rows := mloadRows d.shape d.cls (field d 71 68) (field d 75 74) (field d 73 72)
    let data := List.replicate rows.1 (List.replicate 512 (0 : Byte))
    let s := (engine 0 d).setCore 2 { (engine 0 d).core 2 with port := data.map (fun r => ⟨.row r, 0, 512⟩) }
    let part := (engine 0 d).setCore 2 { (engine 0 d).core 2 with port := [⟨.row (List.replicate 512 0), 0, 512⟩] }
    d.getLsbD 78 = true ∧ MatrixTurn s 2 tile 2 1 (cmdOf d .begun) ∧ rows.2 = 0 ∧
    (s.core 2).port.map (·.data) = (data ++ []).map .row ++ ([] : List PortEntry).map (·.data) ∧
    (MatrixTurn part 2 tile 2 1 (cmdOf d .begun) ∧ 0 + 1 < rows.1 + rows.2 ∧
      (part.core 2).port.map (·.data) = [List.replicate 512 (0 : Byte)].map .row ++ ([] : List PortEntry).map (·.data)) :=
  ⟨by decide, matrix_of (by decide), by decide, by decide +kernel, matrix_of (by decide), by decide, by decide +kernel⟩

/-- A set of shape 0 and class 2. -/
def set2 : MatrixSet := ⟨0, 2, false, 9, 0, 0, [], []⟩

/-- An MSTREAM of m vectors of that shape and class, from the local store, with further fields. -/
def stream2 (m fields : Nat) : Desc := desc 1 (1 * 2 ^ 81 + 9 * 2 ^ 60 + 9 * 2 ^ 56 + m + fields)

/-- Core 2 with that command, the set, a chain and what the direct port holds. -/
def streaming (d : Desc) (chain : Option Chain) (port : List PortEntry) : State := (engine 0 d).setCore 2
  { (engine 0 d).core 2 with stationary := some set2, chain := chain, port := port }

/-- An open chain whose last MSTREAM has the descriptor and position given. -/
def chain2 (d : Desc) (seq : Nat) : Chain := ⟨0, 2, { cmdOf d .executed with seq := seq }, [], [], 0⟩

/-- The state in which the stream's own chain is open. -/
def opened (s0 : State) (cmd : Cmd) : State :=
  (s0.drain 2 tile).setCore 2 { (s0.drain 2 tile).core 2 with chain := some (match ((s0.drain 2 tile).core 2).chain with
    | some x => { x with last := cmd }
    | none => ⟨Desc.shape cmd.desc, Desc.cls cmd.desc, cmd, [], [], 0⟩) }

theorem test_hyp_stream :
    let d := stream2 1 (1 * 2 ^ 76)
    let cmd := cmdOf d .begun
    let s := streaming d none []
    let joins := streaming d (some (chain2 d 7)) []
    (MatrixTurn s 2 tile 1 1 cmd ∧ (s.core 2).stationary = some set2 ∧
      (s.core 2).chain.map (fun x => x.last.seq) ≠ some cmd.seq ∧ endChain s 2 tile (((s.core 2).queue 0).take 1) = .done s ∧
      ((opened s cmd).core 2).chain = some ⟨0, 2, cmd, [], [], 0⟩ ∧ d.shape = 0 ∧ d.cls = 2 ∧
      (localSlices (opened s cmd) 2 d 0 1).length = 1) ∧
    (MatrixTurn joins 2 tile 1 1 cmd ∧ (joins.core 2).chain.map (fun x => x.last.seq) ≠ some cmd.seq ∧
      ∃ h, (joins.core 2).chain = some h ∧ h.shape = d.shape ∧ h.cls = d.cls) ∧
    (∀ x ∈ (s.core 2).queue 0, isAccAccess x.desc = true → x.phase ≠ .begun) := by
  refine ⟨⟨matrix_of (by decide), by decide, by decide, rfl, by decide, by decide, by decide, by decide +kernel⟩,
    ⟨matrix_of (by decide), by decide, _, rfl, by decide, by decide⟩, by decide⟩

/-- One slice at the direct port. -/
def slice (last : Bool) : PortEntry := ⟨.slice (List.replicate 128 0) last, 0, 256⟩

theorem slices_of {x : Except Unit (List (List Nat))} {n : Nat} (h : (match x with
    | .ok l => l.length == n
    | .error _ => false) = true) : ∃ sls, x = .ok sls ∧ sls.length = n := by
  cases x with
  | ok l => exact ⟨l, rfl, by simpa using h⟩
  | error e => cases h

theorem test_hyp_port_stream :
    let d := stream2 2 (1 * 2 ^ 78)
    let cmd := cmdOf d .begun
    let port := slice false :: slice false :: List.replicate (mxDepth 0 2 - 2) (slice false) ++ [slice true]
    let s := streaming d (some (chain2 d 0)) port
    (s.core 2).chain.map (fun x => x.last.seq) = some cmd.seq ∧ MatrixTurn s 2 tile 1 1 cmd ∧
    (∃ sls, portSlices [slice false] 2 false = .ok sls ∧ sls.length = 1) ∧
    (∃ sls, portSlices port 2 false = .ok sls ∧ sls.length = 2) ∧
    (∃ sls, portSlices (port.drop 2) (mxDepth d.shape d.cls - 1 - 0) true = .ok sls ∧
      sls.length = mxDepth d.shape d.cls - 1 - 0) ∧
    (∀ x ∈ ((s.core 2).queue 0).take 1, x.open = true → ¬ (Desc.cmd x.desc = 2 ∧ usesPort x.desc = true)) :=
  ⟨by decide +kernel, matrix_of (by decide +kernel), slices_of (by decide +kernel), slices_of (by decide +kernel),
    slices_of (by decide +kernel), by decide +kernel⟩

/-- A model of the Lodge's context that holds rows 0–127 of local store 2. -/
def reserving : Model := ⟨0, 0, 0, 0, 2, none, 0, .resident [⟨[2], [(2, false, 0, 200)]⟩], 0, 0, 0, none, false⟩

theorem test_hyp_stream_alone :
    let d := stream2 1 0
    let s := { streaming d (some (chain2 d 0)) [] with models := [reserving] }
    d.getLsbD 76 = false ∧ d.getLsbD 78 = false ∧ (s.core 2).chain = some (chain2 d 0) ∧ (chain2 d 0).last.desc = d ∧
    badRow s 0 2 [(field d 55 41 + 1 * mxDepth d.shape d.cls / perRow (streamBits d.cls d.streamFmt),
      cdiv ((1 + (mxDepth d.shape d.cls - 1)) * mxDepth d.shape d.cls) (perRow (streamBits d.cls d.streamFmt)) -
        1 * mxDepth d.shape d.cls / perRow (streamBits d.cls d.streamFmt))] = none := by decide +kernel

theorem test_hyp_slice :
    let d := stream2 1 0
    let h : Chain := { chain2 d 0 with slices := List.replicate (mxDepth 0 2 - 1) [0], owed := [⟨3, true, d, set2, [], 0⟩] }
    ((streaming d (some h) []).core 2).chain = some h ∧ (h.slices ++ [[(0 : Nat)]]).length = mxDepth h.shape h.cls ∧
    ∀ x ∈ ((streaming d (some h) []).core 2).queue 0, isAccAccess x.desc = true → x.phase ≠ .begun := by decide +kernel

theorem test_hyp_entry :
    let d := desc 1 (1 * 2 ^ 80 + 1 * 2 ^ 60 + 1 * 2 ^ 56)
    let set : MatrixSet := ⟨0, 1, false, 1, 0, 0, [], []⟩
    let o : OwedVector := ⟨3, true, d, set, [], 0⟩
    intPair o.desc o.set = true ∧ intPair o.desc { o.set with fmt := 9 } = false ∧ (255 : Nat) < mxCols d.shape d.cls ∧ o.clear = true ∧
    ({ Core.reset with acc := [(3 * 256, .int 5 1)] } : Core).accAt (3 * 256) = .int 5 1 ∧
    ({ Core.reset with acc := [(3 * 256, .fp 5)] } : Core).accAt (3 * 256) = .fp 5 := by decide

/-- R60: a float contribution without the clear flag on an integer accumulator counts it as zero and sets TYPE. -/
theorem test_type_mismatch : contribute (.int 5 1) false false 0 0x3F800000 true = (.fp 0x3F800000, 8) ∧
    contribute (.fp 0x3F800000) false true 3 0 true = (.int 3 0, 8) ∧
    contribute (.fp 0x3F800000) true true 3 0 true = (.int 3 0, 0) := by decide +kernel

theorem test_hyp_detect :
    let s := engine 3 (desc 1 0)
    let odd := (s.setCore 2 (up.core 2)).setCore 3 (s.core 2)
    (begunDetect s (evenCore 1) = some (2, 1, cmdOf (desc 1 0) .begun) ∧ (s.core 2).tile = some tile) ∧
    (begunDetect odd (evenCore 1) = none ∧ begunDetect odd (oddCore 1) = some (3, 1, cmdOf (desc 1 0) .begun) ∧
      (odd.core 3).tile = some tile) ∧
    fcmp 3 0x3F800000 0x3F000000 = false ∧ fcmp 3 0x3F800000 0x3F800000 = true := by
  decide

theorem test_hyp_activity :
    let a : Activity := ⟨10, 12, some 2, 256⟩
    let n := (a.window State.reset.power 4 0).count
    State.reset.board.porLow = true ∧ up.board.porLow = false ∧ (up.power.limiter || up.power.stopped) = false ∧
    (a.ceiling = 256 ∧ a.count ≤ 256 ∧ max 0 a.spinLevel ≤ 256 ∧ a.count ≤ max 0 a.spinLevel + 4 ∧ max 0 a.spinLevel ≤ a.count + 4) ∧
    (a.spinWindows = some 2 ∧ 0 < a.spinLevel ∧ a.spinLevel ≤ n) ∧
    (⟨10, 40, some 2, 256⟩ : Activity).spinWindows = some 2 ∧ ((⟨10, 40, some 2, 256⟩ : Activity).window State.reset.power 4 0).count < 40 ∧
    (⟨10, 12, none, 256⟩ : Activity).spinWindows = none := by decide

/-- R64, R66: a spin of level 12 raises an active count of 10 by two, and no further. R355: with the limiter engaged the ceiling and
the count fall by the slope limit. -/
theorem test_activity : (Activity.window ⟨10, 12, some 2, 256⟩ State.reset.power 4 0).count = 12 ∧
    Activity.window ⟨200, 0, none, 200⟩ { State.reset.power with limiter := true } 4 256 = ⟨196, 0, none, 196⟩ := by decide

/-! ## Queue events and Lifts -/

theorem snd_of {α β : Type} {p : α × β} {b : β} (h : p.2 = b) : ∃ a, p = (a, b) := ⟨p.1, by rw [← h]⟩

theorem done_of {x : ChainEnd} (h : (match x with | .done _ => true | _ => false) = true) : ∃ s, x = .done s := by
  cases x with
  | done s => exact ⟨s, rfl⟩
  | wait s => cases h
  | halt cmd reason addr => cases h

/-- Core 2 runs the tile with one waiting command that waits for 4 tokens of counter 31 and posts 2 to counter 1. -/
def waiting (have_ : BitVec 16) (posts : Nat) (phase : CmdPhase) : State :=
  let d : Desc := desc 8 (31 * 2 ^ 115 + 4 * 2 ^ 103 + 1 * 2 ^ 98 + 2 * 2 ^ 86 + posts * 2 ^ 84)
  runs 2 (fun c => { c with queues := c.queues.set 0 [cmdOf d phase], tokens := (c.tokens.set 31 have_).set 1 have_ })

theorem test_hyp_begin :
    let s := waiting 4 0 .waiting
    ∀ cmd, ((s.core 2).queue 0)[0]? = some cmd →
      (s.core 2).tile = some tile ∧ (s.core 2).phase ≠ .halted ∧ chainDue (s.core 2) = false ∧
      firstIdx (fun x => x.phase == .waiting) ((s.core 2).queue 0) = some 0 ∧ mayBegin s 2 0 0 cmd = true ∧
      (Desc.wcnt cmd.desc = 4 ∧ Desc.wcnt cmd.desc ≤ (s.core 2).tokensFor (0 : QueueId) (Desc.wctr cmd.desc)) ∧
      beginCheck s 2 tile 0 cmd.desc = none := by
  intro s cmd h
  cases h
  decide

theorem test_hyp_chain_due :
    let d := stream2 1 (1 * 2 ^ 76 + 1 * 2 ^ 78)
    let port := List.replicate (mxDepth 0 2 - 2) (slice false) ++ [slice true]
    let s := (streaming d (some (chain2 d 7)) port).setCore 2 { (streaming d (some (chain2 d 7)) port).core 2 with
      queues := (up.core 2).queues.set 0 [cmdOf (stream2 1 0) .waiting] }
    (s.core 2).tile = some tile ∧ chainDue (s.core 2) = true ∧ ∃ s1, endChain s 2 tile (beforeChainEnd (s.core 2)) = .done s1 :=
  ⟨by decide +kernel, by decide +kernel, done_of (by decide +kernel)⟩

theorem test_hyp_begin_halt :
    let d := desc 1 1
    let s := runs 2 (fun c => { c with queues := c.queues.set 0 [cmdOf d .waiting] })
    (s.core 2).tile = some tile ∧ mayBegin s 2 0 0 (cmdOf d .waiting) = true ∧ beginCheck s 2 tile 0 d = some (0x0B, 0) ∧
    (s.core 2).phase.active = true ∧ (cmdOf d .waiting).pos < 256 := by decide

theorem test_hyp_complete :
    let s := waiting 65533 0 .executed
    let u := waiting 1 1 .executed
    ∀ c d, (s.core 2).queue 0 = [c] → (u.core 2).queue 0 = [d] →
      ((s.core 2).phase ≠ .halted ∧ chainDue (s.core 2) = false ∧ c.phase = .executed ∧ s.writesPending 2 0 c.seq = false ∧
        owes (s.core 2) 0 c = false ∧ Desc.pkind c.desc = 0 ∧ ((s.core 2).token (Desc.pctr c.desc)).toNat + Desc.pcnt c.desc ≤ 65535) ∧
      (chainDue (u.core 2) = false ∧ d.phase = .executed ∧ u.writesPending 2 0 d.seq = false ∧ owes (u.core 2) 0 d = false ∧
        Desc.pkind d.desc ≠ 0 ∧ ((u.core 2).token (Desc.pctr d.desc)).toNat < Desc.pcnt d.desc ∧ (u.core 2).phase.active = true ∧
        d.pos < 256) := by
  intro s u c d h i
  cases h
  cases i
  decide

/-- A begun Lift command of core 2: LFILL of 2 rows, or LCOPY of 1 row from local store 2. -/
def lift (code dst : Nat) (before : Option Desc) : Cmd :=
  { cmdOf (desc code (dst * 2 ^ 75 + 2 * 2 ^ 79 + 5 * 2 ^ 47 + 1 * 2 ^ 13)) .begun with before := before }

/-- Core 2 with that command. -/
def lifting (c : Cmd) (t : Tile) : State := runs 2 (fun x => { x with queues := x.queues.set 2 [c], tile := some t })

theorem test_hyp_lift :
    (∀ dst ∈ [0, 11, 12, 13], ∀ code ∈ [1, 3],
      let cmd := lift code dst none
      let s := lifting cmd tile
      liftReady? s 2 0 (some code) = some (tile, cmd) ∧ Desc.dst cmd.desc = dst ∧ Desc.cmd cmd.desc = code ∧
      (liftSource s 0 cmd (liftNeed (s.core 2) cmd)).stop = none) ∧
    (lift 1 0 none).desc.getLsbD 74 = false ∧ Desc.src (lift 1 0 none).desc < 12 ∧
    (∀ x, ((lifting (cmdOf (desc 4 0) .begun) tile).core 2).queue 2 = [x] → x.phase = .begun ∧ Desc.cmd x.desc = 4) := by
  refine ⟨by decide +kernel, by decide, by decide, fun x h => ?_⟩
  cases h
  decide

/-- R164: the direct port's buffer holds 8 rows: of an LCOPY of 9 rows 8 go in, and with the buffer full none. -/
theorem test_port_room :
    let cmd := { cmdOf (desc 1 (13 * 2 ^ 75 + 2 * 2 ^ 79 + 9 * 2 ^ 13)) .begun with seq := 3 }
    let s := lifting cmd tile
    let full := s.setCore 2 { s.core 2 with port := List.replicate 8 ⟨.row (List.replicate 512 0), 1, 512⟩ }
    liftReady? s 2 0 (some 1) = some (tile, cmd) ∧ portFit (s.core 2) cmd = 8 ∧ portEntries cmd.desc = 9 ∧ cmd.resumeAt = 0 ∧
    liftReady? full 2 0 (some 1) = some (tile, cmd) ∧ portFit (full.core 2) cmd = 0 := by decide +kernel

theorem test_hyp_lift_write :
    let cmd := lift 3 12 (some (desc 4 (0x10000 + 7 * 2 ^ 58)))
    let s := lifting cmd tile
    let flat := List.replicate 512 (5 : Byte)
    ∃ s2, writeUnits 2 tile cmd.seq
      ((List.zip (runAddrs (cmd.before.getD 0) flat.length) (groupsOf 64 (flat.length / 64) flat)).drop (cmd.resumeAt / 64))
      cmd.resumeAt (s.countRead 2 (liftSource s 0 cmd 1)) = (s2, 512, none) :=
  snd_of (by decide +kernel)

theorem test_hyp_skew :
    let d := desc 2 (1 * 2 ^ 72 + 3 * 2 ^ 15 + 2 * 2 ^ 68 + 9 * 2 ^ 64)
    skewSlices d = 130 ∧ skewDepth d = 128 := by decide

theorem test_hyp_table_region :
    let s := up.setReg Reg.ldgXltRegionSize 1
    (1 : CtxId) ≠ 0 ∧ s.tableRegion.1 ≤ 0 ∧ 0 < s.tableRegion.1 + s.tableRegion.2 ∧ s.codecBase ≤ 7680 * 2 ^ 20 ∧
    (∀ x ∈ [(0x10000, List.replicate 64 (1 : Byte))], x.1 % 64 = 0 ∧ x.2.length = 64) := by decide

/-- A tile of context 1. -/
def tile1 : Tile := { tile with ctx := 1 }

theorem run_fault_of {x : LiftRun} (h : (match x with
    | .fault _ dest o va cause level got => (dest, o, va, cause, level, got) == (false, 0, 0, 2, 1, [])
    | _ => false) = true) : ∃ s1, x = .fault s1 false 0 0 2 1 [] := by
  cases x with
  | fault s dest o va cause level got =>
    simp only [beq_iff_eq, Prod.mk.injEq] at h
    obtain ⟨rfl, rfl, rfl, rfl, rfl, rfl⟩ := h
    exact ⟨s, rfl⟩
  | _ => cases h

theorem test_hyp_lift_fault :
    let t := { tile1 with faultWait := 1 }
    let cmd := { lift 1 2 (some (desc 4 (7 * 2 ^ 58))) with desc := desc 1 (12 * 2 ^ 79 + 2 * 2 ^ 75 + 1 * 2 ^ 13) }
    let s := { lifting cmd t with contexts := [Context.lodge, { ctx1 with faultWait := 1 }] }
    liftReady? s 2 0 none = some (t, cmd) ∧ (∃ s1, liftRun s 2 t 0 cmd = .fault s1 false 0 0 2 1 []) ∧ t.faultWait ≠ 0 :=
  ⟨by decide, run_fault_of (by decide +kernel), by decide⟩

/-- A stopped command of core 2's own Lift. -/
def stopped2 : Stopped := ⟨2, .command 2 0, 1, 0, 2, 1, 0, false, 0, 0, none, none, []⟩

theorem test_hyp_lift_resume :
    let s := { lifting { lift 1 2 none with phase := .stopped } tile1 with stopped := [stopped2] }
    s.lodge.inReset = false ∧ s.stopped.find? (fun x => x.lift == (2 : LiftId).val) = some stopped2 ∧
    s.stopped.filter (fun x => x.ctx == stopped2.ctx && x.lift == (2 : LiftId).val) = [stopped2] ∧
    ∀ c ∈ (s.core 2).queue 2, c.seq = stopped2.seq ∧ c.phase = .stopped := by decide

/-- A seat with one prefetch stream of two rows, holding index 3 in slot 0. -/
def seat : Seat := ⟨0, 0, 0, 0, 1, 0, 1, 7, [⟨0x10000, 1024, 2, 4, 1, 0, false⟩], [⟨1, 9, 3, 7, 0, [], []⟩], 0, false, 0, [], none,
  false, 100, 1⟩

theorem test_hyp_stream_fill :
    let s := { up.setCore 2 { up.core 2 with seats := [seat] } with models := [reserving], jobs := [job1] }
    let d : StreamDesc := ⟨0x10000, 1024, 2, 4, 1, 0, false⟩
    let h : Held := ⟨1, 9, 3, 7, 0, [], []⟩
    s.off = false ∧ fillTarget s 2 0 = some (0, seat, 0, h, d) ∧ d.pk = false ∧ slotRow s 2 seat d 0 = some 4 ∧
    (s.readOn seat.ctx (h.before 0) ((List.range (8 * d.rows)).map (fun x => d.base + 3 * d.stride + 64 * x))).stop = none := by
  decide +kernel

theorem test_hyp_packed_fill :
    let d : StreamDesc := ⟨0x10000, 1024, 1, 4, 1, 0, true⟩
    let x := { seat with streams := [d] }
    let h : Held := ⟨1, 9, 3, 7, 0, [], []⟩
    let s := { up.setCore 2 { up.core 2 with seats := [x] } with
      models := [reserving], jobs := [job1], mem := [(0x10C00, 2), (0x10C01, 8)] }
    fillTarget s 2 0 = some (0, x, 0, h, d) ∧ d.pk = true ∧ slotRow s 2 x d 0 = some 4 ∧
    (decodeChunks (keeping (h.before 0) (packedVa s x.ctx 0x10C00)) (h.before 0).length 1 0 1 1).stop = none := by decide +kernel

theorem test_hyp_fill_fault :
    let x := { seat with ctx := 1 }
    let s := { up.setCore 2 { up.core 2 with seats := [x] } with
      contexts := [Context.lodge, { ctx1 with faultWait := 1 }], jobs := [{ job1 with ctx := 1 }] }
    let d : StreamDesc := ⟨0x10000, 1024, 2, 4, 1, 0, false⟩
    let va := d.base + 3 * d.stride
    fillTarget s 2 0 = some (0, x, 0, ⟨1, 9, 3, 7, 0, [], []⟩, d) ∧
    (s.readOn x.ctx [] ((List.range (8 * d.rows)).map (fun i => va + 64 * i))).stop = some (.fault 0 va 2 1) ∧
    s.faultWaitOf ⟨2, .fill 2 0, 1, BitVec.ofNat 64 va, 2, 1, 0, false, 0, s.gate, some (0, 0), some (9, 3), []⟩ ≠ some 0 ∧
    (∃ y ∈ s.contexts, y.id = x.ctx) := by decide +kernel

theorem test_hyp_stream_claim :
    let x := { seat with held := [] }
    let job := { job1 with bindings := [(0, 9)] }
    let s := { (up.setCore 2 { up.core 2 with seats := [x] }) with
      jobs := [job], counters := up.counters.set 9 (some counter)
      models := [{ reserving with image := some ⟨false, false, 0, 0, [⟨0, false, false, 1, 0, 1, 1, 0, 0, 0, 0, 0, 0, 0, 0, 0, [], []⟩],
        [(10, [])], [], [], none, 0, [], [], []⟩ }] }
    ((s.core 2).seats.filterMap (fun x =>
      if x.streams.isEmpty || x.halts || decide (x.slots ≤ x.held.length) || !s.ctxRuns x.ctx then none
      else match s.claimable x with
        | some (_, p) => if s.claimWaits 2 x.stage p then none else some (p, x.stage)
        | none => none)).head? = some (9, 0) ∧ s.counters[(9 : CounterId)] = some counter := by decide +kernel

/-! ## Tiles, counters, stores -/

/-- A one-stage image whose stage launches from counter 0, and its stage. -/
def stage0 : Stage := ⟨0, true, false, 1, 0x40, 1, 1, 0, 0, 0, 0, 0, 0, 0, 256, 64, [], []⟩
/-- The image. -/
def image0 : Image := ⟨false, false, 0, 0, [stage0], [(10, [])], [], [], none, 0, [], [], []⟩
/-- The model of that image, resident on core 2. -/
def model0 : Model := { reserving with image := some image0 }

/-- Job 1 runs, its counter 0 at place 9; core 2 holds a seat of the stage. -/
def staged (x : Seat) : State := { (up.setCore 2 { up.core 2 with seats := [x] }) with
  jobs := [{ job1 with bindings := [(0, 9)] }], counters := up.counters.set 9 (some counter), models := [model0]
  epochTable := up.epochTable.set 2 [⟨0, 0, 0, Vector.replicate 8 7⟩] }

/-- A seat without streams, holding nothing. -/
def seat0 : Seat := { seat with streams := [], held := [] }

theorem test_hyp_launch :
    let v := ((staged seat0).takeNote 1 (.ended 2)).takeNote 1 (.gate 2)
    ((staged seat0).core 2).free = true ∧ (staged seat0).lodge.inReset = false ∧
    ∃ l, v.pickLaunch 2 = some (l, seat0) ∧ v.stageOf l.job seat0.stage = some stage0 :=
  ⟨by decide, by decide, ⟨_, rfl, rfl⟩⟩

theorem test_hyp_no_launch :
    (up.core 2).free = true ∧ up.lodge.inReset = false ∧ ((up.takeNote 1 (.ended 2)).takeNote 1 (.gate 2)).pickLaunch 2 = none := by decide

theorem test_hyp_tile_complete :
    let t : Tile := { tile with counter := 9, index := 0 }
    let s := (staged seat0).setCore 2 { (staged seat0).core 2 with phase := .ending true, tile := some t }
    (s.core 2).phase = .ending true ∧ (s.core 2).tile = some t ∧ chainDue (s.core 2) = false ∧ tileOver s 2 = true ∧ t.claimed = [] ∧
    s.counters[(Fin.ofNat 64 t.counter : CounterId)] = some counter ∧ counter.members = [] ∧
    tileOver (s.setCore 2 { s.core 2 with accesses := [⟨rowA, .load 0, tile.tag 2⟩] }) 2 = false := by decide

/-- One row write of a tile of epoch 7 on its way to row 4 of cluster store 8. -/
def write0 : RowWrite := ⟨rowAddr 8 4, false, 0, List.replicate 512 1, some (tile.tag 2), none, true⟩
/-- A state with it, whose store takes epochs from a floor on. -/
def arriving (floor : W32) (windows : List (Nat × Nat)) : State := { up with
  writes := [write0], epochTable := up.epochTable.set 8 [⟨0, 0, 0, Vector.replicate 8 floor⟩]
  models := [{ reserving with image := some { image0 with stages := [{ stage0 with windows := windows }] },
                              residence := .resident [⟨[2], [(8, false, 0, 200)]⟩] }] }

theorem test_hyp_arrival :
    storeOf write0.row = some (8, 4) ∧ (arriving 8 []).late 8 write0.tag = true ∧
    ((arriving 7 []).late 8 write0.tag = false ∧ (arriving 7 []).inWindow (tile.tag 2) 8 4 = false) ∧
    ((arriving 7 [(0, 5)]).late 8 write0.tag = false ∧ (arriving 7 [(0, 5)]).inWindow (tile.tag 2) 8 4 = true ∧
      write0.data.length % 4 = 0) := by decide +kernel

theorem test_hyp_arrival_order :
    let a := { write0 with owner := some (2, 0, 1) }
    let b := { a with row := rowAddr 8 5 }
    (∀ x ∈ (arriving 7 []).writes.take 0, x.row ≠ write0.row ∧ (arriving 7 []).sameRoute x write0 = false) ∧
    (∃ x ∈ [a, b].take 1, x.row = b.row ∨ (arriving 7 []).sameRoute x b = true) := by decide

theorem test_hyp_control_arrival :
    let x : Access := ⟨rowA, .store (List.replicate 512 1), tile.tag 3⟩
    let s := issued (.store (List.replicate 512 1))
    (s.core 3).ready? 0 = some x ∧ storeOf x.row = some (3, 2) ∧ s.late 3 (some x.tag) = false ∧ s.inWindow x.tag 3 2 = false := by
  decide +kernel

theorem test_hyp_order :
    let c : Core := { Core.reset with accesses := [⟨rowA, .load 0, tile.tag 3⟩, ⟨rowA, .fence 1, tile.tag 3⟩,
      ⟨rowA + 512, .store [], tile.tag 3⟩] }
    c.ready? 2 = some ⟨rowA + 512, .store [], tile.tag 3⟩ ∧ c.accesses[0]? = some ⟨rowA, .load 0, tile.tag 3⟩ ∧
    (∀ k, (⟨rowA, .load 0, tile.tag 3⟩ : Access).kind ≠ .fence k) ∧ c.accesses[1]? = some ⟨rowA, .fence 1, tile.tag 3⟩ := by decide

theorem test_hyp_hung :
    let s := milac.setCore 3 { milac.core 3 with phase := .waitToken 0 1 }
    (s.core 3).phase.active = true ∧ coreMoves s 3 = false := by decide

theorem test_hyp_halt_record :
    let s := milac.setCore 3 { milac.core 3 with phase := .halted }
    let u := s.setCore 3 { s.core 3 with accesses := [⟨rowA, .load 0, tile.tag 3⟩] }
    s.lodge.inReset = false ∧ (s.core 3).phase = .halted ∧ (s.core 3).tile = some tile ∧ (s.core 3).accesses = [] ∧
    (u.core 3).accesses ≠ [] ∧ coreMoves milac 3 = true := by decide

/-- A seat that holds index 3 of the counter at place 9. -/
def holding : Seat := { seat0 with held := [⟨1, 9, 3, 7, 0, [], []⟩] }

theorem test_hyp_preemption :
    ((staged holding).core 2).phase = .idle ∧ lastSeat ((staged holding).core 2) = some (holding, 0) ∧ holding.held ≠ [] ∧
    ((staged holding).core 2).seats[0]? = some holding ∧ holding.epoch ≠ BitVec.allOnes 32 := by decide

theorem test_hyp_abandonment :
    let s := { ((staged holding).setCore 2 { (staged holding).core 2 with phase := .running, tile := some tile }) with
      stopped := [{ stopped2 with ctx := 0, cause := 0 }], gate := 1 }
    (s.core 2).tile = some tile ∧ (s.core 2).phase.active = true ∧ s.overdue 2 tile = true ∧ s.migratable tile = true ∧
    { s with models := [] }.migratable tile = false ∧
    (s.core 2).seatIdx tile.ctx tile.model tile.stage = some 0 := by decide

theorem test_hyp_starvation :
    let x := { holding with keptSince := some 0, abandon := 0 }
    let s := { (staged x).setCore 2 { (staged x).core 2 with phase := .running, tile := some tile1 } with gate := 1 }
    (s.core 2).tile = some tile1 ∧ (s.core 2).seatIdx 0 0 0 = some 0 ∧ ¬ (tile1.ctx = 0 ∧ tile1.model = 0 ∧ tile1.stage = 0) ∧
    x.held ≠ [] ∧ x.starved s.gate = true := by
  decide

theorem test_hyp_epoch_restart :
    let x := { holding with epoch := BitVec.allOnes 32 }
    let s := (staged x).setCore 3 { (staged x).core 3 with seats := [x] }
    lastSeat (s.core 2) = some (x, 0) ∧ (s.core 2).seats[0]? = some x ∧ x.epoch = BitVec.allOnes 32 ∧ x ∈ (s.core 3).seats ∧
    ∀ h ∈ x.held, (s.core 3).runsIndex x h = false := by decide

/-! ## Jobs and residence -/

/-- A queued job of model 0 whose arguments stand at row bytes, its model resident, a start gate of its model armed. -/
def queued (f : Job → Job) : State := { staged seat0 with
  jobs := [f { job1 with state := .queued, bindings := [], args := 0 }], gates := up.gates.set 4 ⟨true, 0, 0, 0⟩
  models := [{ model0 with image := some { image0 with argBytes := 8 } }] }

theorem test_hyp_job_launch :
    let j := { job1 with state := .queued, bindings := [], args := 0 }
    let s := queued id
    s.lodge.inReset = false ∧ s.findJob 0 7 = some j ∧ j.state = .queued ∧ s.ctxRuns 0 = true ∧ s.isNext j = true ∧
    s.gateHolds j = false ∧ (4 : GateSlot) ∈ s.slotsFor j ∧ s.frozenIn 0 j.args.toNat 8 = none ∧ s.model? 0 j.model = some { model0 with image := some { image0 with argBytes := 8 } } ∧
    image0.cascade = [] ∧ image0.counters.length ≤ s.freePlaces.length ∧ (s.readVa 0 j.args.toNat 8).isOk = true ∧
    (let u := { s with gate := 0, gates := s.gates.set 4 ⟨true, 9, 0, 0⟩ }; u.gateHolds j = true) := by decide

theorem test_hyp_job_complete :
    let j := { job1 with state := .ended, status := 255 }
    let s := { staged seat0 with jobs := [j] }
    s.lodge.inReset = false ∧ s.findJob 0 7 = some j ∧ s.jobOver j = some 255 ∧ s.ctx? 0 = some Context.lodge ∧ 255 < 256 := by decide

/-- Counter 0 of the image as a cascade counter whose member is a device. -/
def cascading (member : Nat) : Image := { image0 with argBytes := 8, cascade := [⟨0, [member], []⟩] }

theorem test_hyp_cascade_launch :
    let s := queued id
    let own := s.devId
    (cascading own).cascade ≠ [] ∧ s.cascadeFault (cascading own) = none ∧
    s.cascadeFault (cascading (own + 1)) = some .notInMember ∧
    s.cascadeFault { cascading own with cascade := [⟨0, [own, own + 1], []⟩] } = some .memberNotEnumerated ∧
    (4 : GateSlot) ∈ s.slotsFor { job1 with state := .queued, bindings := [], args := 0 } ∧
    (0 : GateSlot) ∉ s.slotsFor { job1 with state := .queued, bindings := [], args := 0 } := by decide

theorem test_hyp_load :
    let ps : List Place := [⟨[2], [(2, false, 0, 200)]⟩]
    let m := { model0 with residence := .loading ps 3 [1] }
    let s := { up with models := [m] }
    let before := { model0 with residence := .loading ps 3 [] }
    let busy := { up with models := [before], liftTurn := Vector.replicate 4 2
                          cores := up.cores.set 2 { up.core 2 with phase := .running, tile := some tile
                                                                   queues := (up.core 2).queues.set 2 (List.replicate 16 (cmdOf (desc 1 (1 * 2 ^ 83)) .begun)) } }
    s.lodge.inReset = false ∧ s.model? 0 0 = some m ∧ s.wanted m = false ∧ m.residence = .loading ps 3 [1] ∧ m.image = some image0 ∧
    (∀ i, i < cdiv m.length 64 → s.frozenFor 0 (m.va.toNat + 64 * i) = false) ∧
    (∀ c : ClusterId, loadsVia ps c = true → c ∈ [(1 : ClusterId)]) ∧ (s.allSections m image0).isSome = true ∧
    (let im := { image0 with sections := [⟨0, 64, 0, 0, false, false, 0, 64⟩] }
     ({ s with contexts := [Context.lodge, ctx1] } : State).allSections { m with ctx := 1 } im = none) ∧
    (((List.finRange 4).foldl State.lodgeTakes { up with models := [before] }).model? 0 0 = some m ∧ loadsVia ps 1 = true) ∧
    (busy.liftActive 9 = 16 ∧ ((List.finRange 4).foldl State.lodgeTakes busy).model? 0 0 = some before) := by
  refine ⟨by decide, by decide, by decide, rfl, rfl, fun i h => absurd h (Nat.not_lt_zero i), by decide, by decide, by decide,
    by decide, by decide +kernel⟩

theorem test_hyp_restart :
    let x := { seat0 with epoch := BitVec.allOnes 32, restart := true }
    let s := staged x
    s.model? 0 0 = some model0 ∧ s.wanted model0 = false ∧ (s.allSections model0 image0).isSome = true ∧ s.restarting model0 = [x] ∧
    (staged seat0).restarting model0 = [] := by decide +kernel

/-- A gate at index 3 of counter 0 with 4 steps remaining of 8. -/
def gated : Image := { image0 with slalomTotal := 8, slalom := [⟨0, 0, 3, 4⟩], entries := [1] }
/-- A job at that gate, its deadline 10, its fall-back model 1, launched at 0. -/
def atGate (fallback : Nat) : Job := { job1 with bindings := [(0, 9)], deadline := 10, fallback := fallback, marks := [(0, 3)] }
/-- The state, at gate count 8. -/
def slaloming (fallback : Nat) : State := { staged seat0 with
  jobs := [atGate fallback], gate := 8, counters := up.counters.set 9 (some { counter with doneLow := 4 })
  models := [{ model0 with image := some gated }, { model0 with number := 1, image := some gated }] }

theorem test_hyp_slalom :
    ∀ f ∈ [0xFF, 1], (slaloming f).lodge.inReset = false ∧ (slaloming f).findJob 0 7 = some (atGate f) ∧ (atGate f).state = .running ∧
      (atGate f).deadline ≠ 0 ∧ (atGate f).switched = none ∧ (slaloming f).ctxEnds 0 = false ∧
      (slaloming f).imageOf (atGate f) = some gated ∧
      firstGate ((slaloming f).readyGates (atGate f) gated) = some (⟨0, 0, 3, 4⟩, 0) ∧
      (slaloming f).switchesAt (atGate f) gated ⟨0, 0, 3, 4⟩ = (f == 1) := by decide +kernel

theorem test_hyp_fallback :
    let j := { atGate 1 with state := .switching }
    let s := { slaloming 1 with jobs := [j] }
    s.lodge.inReset = false ∧ s.findJob 0 7 = some j ∧ j.state = .switching ∧ s.ctxRuns 0 = true ∧ (∀ k, s.runsTile j.uid k = false) ∧
    s.model? 0 (Fin.ofNat 16 j.fallback) = some { model0 with number := 1, image := some gated } ∧
    gated.counters.length ≤ (s.freeCounters j.uid).freePlaces.length := by decide +kernel

theorem test_hyp_faults :
    let f : Stopped := ⟨2, .command 2 0, 0, 0x40, 0, 1, 0, false, 0, 0, none, none, []⟩
    let s := { lifting { lift 1 2 none with phase := .stopped } { tile with faultWait := 1 } with
      stopped := [f], host := { up.host with mastering := true }, gate := 1000000 }
    s.lodge.inReset = false ∧ s.ctx? 0 = some Context.lodge ∧ s.firstFault 0 = some f ∧ s.slotFault Context.lodge = some f ∧
    s.masters = true ∧ s.waitedOut f = true ∧ { s with gate := 1 }.waitedOut f = false ∧
    s.stopped.filter (fun x => x.ctx == 0) = [f] ∧ f.work = .command 2 0 ∧
    ((s.core 2).queue 2).find? (fun c => c.seq == f.seq) = some { lift 1 2 none with phase := .stopped } ∧
    (s.core 2).phase.active = true ∧ { s with stopped := [] }.firstFault 0 = none := by
  decide

/-! ## The command ring -/

/-- A running interface with an entry to consume, contexts 0 and 1, and a table region below 1 MiB. -/
def ringing : State := { ((((up.setReg Reg.hifRingCtrl 1).setReg Reg.hifHandshake 4).setReg Reg.hifRingTail 15).setReg
    Reg.hifRingHead 14).setReg Reg.ldgXltRegionSize 16 with
  contexts := [Context.lodge, ctx1], host := { up.host with mastering := true }
  models := [{ model0 with ctx := 1, image := some { image0 with fallback := 3, input := some ⟨4, 0, 0, 2, 1, 0⟩ } }]
  fences := [⟨5, some 1, 0x1000, 0⟩, ⟨6, none, 0x2000, 0⟩], ringIds := 30 }

/-- An entry: its context, FEN, FENCE, and payload fields as (offset, value). -/
def entry (ctx fen fence : Nat) (fields : List (Nat × Nat)) : RingEntry :=
  (fields.foldl (fun e f => e ||| (BitVec.ofNat 448 f.2 <<< (8 * f.1))) (BitVec.ofNat 448 (ctx * 2 ^ 8 + fen * 2 ^ 18 + fence * 2 ^ 24)) : BitVec 448)

theorem test_hyp_ring_checks :
    (State.reset.ringReady = false ∧ ringing.ringReady = true) ∧
    ((ringing.setReg Reg.hifHandshake 3).ringReady = true ∧ (ringing.setReg Reg.hifHandshake 3).hifState = 3) ∧
    (ringing.hifState = 4 ∧ headerBad (entry 1 0 7 [(40, 1)]) .context ++ payloadBad (entry 1 0 7 [(40, 1)]) [] = [3, 40]) ∧
    (ringing.contextRefusal 0 .context = some 0x03 ∧ ringing.contextRefusal 1 .create = some 0x04) ∧
    (headerBad (entry 1 1 9 []) .context = [] ∧ RingEntry.fen (entry 1 1 9 []) = true ∧
      ringing.fenceUsable (entry 1 1 9 []) .context false = false) ∧
    (0 : Byte).toNat ∉ [1, 2, 3, 4, 0x10, 0x11, 0x12, 0x13, 0x14, 0x20, 0x21, 0x22, 0x30, 0x31, 0x32] ∧ ringing.masters = true := by
  decide +kernel

theorem test_hyp_device_commands :
    Admitted 1 (entry 0 1 6 []) .device (payloadBad (entry 0 1 6 []) []) ringing ∧
    Admitted 2 (entry 0 0 0 []) .device (payloadBad (entry 0 0 0 []) []) ringing :=
  ⟨admitted_of (by decide +kernel), admitted_of (by decide +kernel)⟩

theorem test_hyp_fence_register :
    let e := entry 1 0 0 [(16, 0x3000), (25, 4095)]
    Admitted 3 e .context (payloadBad e [(16, 8), (24, 3), (32, 8)] ++ tooBig e 24 1 1 ++ tooBig e 25 2 4095) ringing ∧
    RingEntry.at e 24 1 = 0 ∧ ringing.fence? 4095 = none ∧ RingEntry.at e 16 8 % 8 = 0 :=
  ⟨admitted_of (by decide +kernel), by decide +kernel, by decide +kernel, by decide +kernel⟩

theorem test_hyp_fence_release :
    let e := entry 1 0 0 [(25, 5)]
    Admitted 4 e .context (payloadBad e [(25, 2)] ++ tooBig e 25 2 4095) ringing ∧ ringing.fence? 5 = some ⟨5, some 1, 0x1000, 0⟩ ∧
    RingEntry.ctx e = 1 := ⟨admitted_of (by decide +kernel), by decide +kernel, by decide +kernel⟩

theorem test_hyp_ctx_create :
    let e := entry 2 0 0 [(24, 0x80), (36, 100)]
    Admitted 0x10 e .create (payloadBad e [(16, 24)] ++ attrBad e 0x1F) ringing ∧ RingEntry.at e 24 8 % 128 = 0 ∧
    ringing.goodTable (RingEntry.at e 16 8) 512 = true := ⟨admitted_of (by decide +kernel), by decide +kernel, by decide +kernel⟩

theorem test_hyp_ctx_set :
    let e := entry 1 0 0 [(24, 0x80), (32, 7), (33, 1), (34, 10000), (36, 100000), (40, 63)]
    let m := RingEntry.at e 40 1
    Admitted 0x11 e .context (payloadBad e [(24, 17)] ++ attrBad e m ++ tooBig e 40 1 63 ++
      (if m.testBit 5 && !m.testBit 0 then [40] else [])) ringing ∧ RingEntry.at e 24 8 % 128 = 0 ∧
    ringing.ctx? (RingEntry.ctx e) = some ctx1 := ⟨admitted_of (by decide +kernel), by decide +kernel, by decide +kernel⟩

theorem test_hyp_ctx_commands :
    (Admitted 0x12 (entry 1 1 6 []) .context (payloadBad (entry 1 1 6 []) []) ringing ∧
      ringing.ctx? (RingEntry.ctx (entry 1 1 6 [])) = some ctx1) ∧
    Admitted 0x13 (entry 1 1 5 []) .context (payloadBad (entry 1 1 5 []) []) ringing ∧
    (∀ v ∈ [0, 1], headerBad (entry 1 0 0 [(16, v)]) .context ++ (payloadBad (entry 1 0 0 [(16, v)]) [(16, 1)] ++
      tooBig (entry 1 0 0 [(16, v)]) 16 1 1) = [] ∧ ringing.contextRefusal (RingEntry.ctx (entry 1 0 0 [(16, v)])) .context = none ∧
      RingEntry.at (entry 1 0 0 [(16, v)]) 16 1 = v) :=
  ⟨⟨admitted_of (by decide +kernel), by decide +kernel⟩, admitted_of (by decide +kernel), by decide +kernel⟩

theorem test_hyp_model_register :
    let e := entry 1 0 0 [(16, 15), (24, 0x40), (32, 0xFFFFFFFFFFFFFFFF)]
    Admitted 0x20 e .context (payloadBad e [(16, 1), (24, 16)] ++ tooBig e 16 1 15) ringing ∧ ringing.model? 1 15 = none ∧
    RingEntry.at e 24 8 % 64 = 0 := ⟨admitted_of (by decide +kernel), by decide +kernel, by decide +kernel⟩

theorem test_hyp_model_commands :
    ∃ x, ringing.model? 1 0 = some x ∧ x.unregistering = none ∧ x.state = 2 ∧ ringing.canPin x = true ∧
      Admitted 0x21 (entry 1 0 0 []) .context (payloadBad (entry 1 0 0 []) [(16, 1)] ++ tooBig (entry 1 0 0 []) 16 1 15) ringing ∧
      (let e := entry 1 0 0 [(17, 4)]
       Admitted 0x22 e .context (payloadBad e [(16, 2)] ++ tooBig e 16 1 15 ++ tooBig e 17 1 4) ringing ∧
       x.isResident = true ∧ ringing.jobsOf 1 0 = [] ∧ ringing.busy x = false) :=
  ⟨_, rfl, by decide +kernel, by decide +kernel, by decide +kernel, admitted_of (by decide +kernel), admitted_of (by decide +kernel), by decide +kernel, by decide +kernel, by decide +kernel⟩

theorem test_hyp_job_submit :
    let e := entry 1 1 5 [(17, 3), (18, 255), (19, 3), (32, 0x40)]
    Admitted 0x30 e .context (payloadBad e [(16, 40)] ++ tooBig e 16 1 15 ++ tooBig e 17 1 3 ++ fallbackBad e) ringing ∧
    (∃ x, ringing.model? 1 (RingEntry.model e) = some x ∧ fallbackFits e x = true ∧ strictRefused e x = false) ∧
    ringing.ctx? 1 = some ctx1 ∧ RingEntry.at e 32 8 % 64 = 0 ∧ ringing.queuedJobs 1 < 256 :=
  ⟨admitted_of (by decide +kernel), ⟨_, rfl, by decide +kernel, by decide +kernel⟩, by decide +kernel, by decide +kernel, by decide +kernel⟩

theorem test_hyp_standing_bind :
    let e := entry 1 0 0 [(19, 0xFF), (20, 15), (21, 16)]
    Admitted 0x31 e .context (payloadBad e [(16, 6), (24, 28)] ++ tooBig e 16 1 15 ++ tooBig e 17 1 1 ++ fallbackBad e ++
      tooBig e 20 1 15 ++ (if RingEntry.at e 21 1 < 4 then [21] else tooBig e 21 1 16)) ringing ∧ ringing.bound 15 = none ∧
    (∃ x im i, ringing.model? 1 (RingEntry.model e) = some x ∧ x.image = some im ∧ im.input = some i ∧ fallbackFits e x = true ∧
      strictRefused e x = false) := ⟨admitted_of (by decide +kernel), by decide +kernel, ⟨_, _, _, rfl, rfl, rfl, by decide +kernel, by decide +kernel⟩⟩

/-- A binding of context 1 with no frame. -/
def binding : Standing := ⟨1, 0, false, 0, 0xFF, 4, 0, 0, 0, 0, none, 0, [], 0, 4, 2, 0, 0, [], none, false, 0⟩
/-- Destination 15 is bound. -/
def binds (b : Standing) : State := { ringing with standing := ringing.standing.set 15 (some b) }

theorem test_hyp_standing_unbind :
    let e := entry 1 0 0 [(20, 15)]
    Admitted 0x32 e .context (payloadBad e [(20, 1)] ++ tooBig e 20 1 15) (binds binding) ∧ (binds binding).bound 15 = some binding ∧
    binding.ctx = RingEntry.ctx e ∧ binding.unbinding = none := ⟨admitted_of (by decide +kernel), by decide +kernel, by decide +kernel, by decide +kernel⟩

theorem test_hyp_fence_release_bound :
    let e := entry 1 0 0 [(25, 5)]
    let s := { binds { binding with fence := some 5 } with raises := [⟨7, 5, 1, true⟩] }
    Admitted 4 e .context (payloadBad e [(25, 2)] ++ tooBig e 25 2 4095) s ∧ s.fence? 5 = some ⟨5, some 1, 0x1000, 0⟩ ∧
    RingEntry.fen e = false := ⟨admitted_of (by decide +kernel), by decide +kernel, by decide +kernel⟩

/-- A queued cascade job of context 1 whose counter has member 3 too. -/
def cascadeJob : Job := { job1 with ctx := 1, state := .queued, bindings := [] }

theorem test_hyp_destroy_cascade :
    let s := { ringing with jobs := [cascadeJob], models := [{ model0 with ctx := 1, image := some (cascading 3) }] }
    Admitted 0x12 (entry 1 1 6 []) .context (payloadBad (entry 1 1 6 []) []) s ∧ cascadeJob.ctx = 1 ∧ s.membersOf cascadeJob = [3] ∧
    3 ≠ s.devId ∧ s.job? cascadeJob.uid = some cascadeJob ∧ (∀ k, s.runsTile cascadeJob.uid k = false) :=
  ⟨admitted_of (by decide +kernel), by decide +kernel, by decide +kernel, by decide +kernel, by decide +kernel, by decide +kernel⟩

theorem test_hyp_submit_aborted :
    let m := { model0 with ctx := 1 }
    let s := { ringing with models := [m], rink := { up.rink with aborted := [(1, 0, 1)] } }
    s.model? 1 0 = some m ∧ (m.ctx, m.number, m.jobsSinceReg + 1) ∈ s.rink.aborted ∧
    (m.ctx, m.number, m.jobsSinceReg + 1) ∉ ringing.rink.aborted := by decide

/-- One outstanding command of number 30. -/
def outstanding (opcode arg : Nat) : RingWork := ⟨30, opcode, some 1, arg, []⟩

theorem test_hyp_ring_complete :
    (∀ op ∈ [2, 0x11, 0x13], ({ ringing with ringWork := [outstanding op 0] } : State).work? 30 op = some (outstanding op 0)) ∧
    ringing.lodge.inReset = false ∧ (∀ x ∈ [outstanding 2 0], 30 ≤ x.id) ∧
    (∀ x ∈ (outstanding 0x11 0).tiles, ringing.stillRuns x = false) ∧
    (let m := { model0 with ctx := 1, state := 1 }
     let s := { ringing with ringWork := [outstanding 0x20 0], models := [m] }
     s.model? 1 0 = some m ∧ m.state = 1 ∧ s.registration 1 0 = some (outstanding 0x20 0)) ∧
    (let m := { model0 with ctx := 1, state := 2, unregistering := some 30 }
     let s := { ringing with ringWork := [outstanding 0x21 0], models := [m] }
     s.model? 1 0 = some m ∧ m.state ≠ 1 ∧ m.unregistering = some 30 ∧ s.jobsOf 1 0 = [] ∧ s.boundTo 1 0 = false) ∧
    (let b := { binding with unbinding := some 30 }
     (binds b).bound 15 = some b ∧ b.unbinding = some 30 ∧ b.over = true) ∧
    (let s := { ringing with contexts := [Context.lodge, { ctx1 with destroying := true }] }
     s.ctx? 1 = some { ctx1 with destroying := true } ∧ s.destructionWaits 1 = false) ∧
    (let s := { ringing with ringWork := [outstanding 0x13 0], heldWrites := [⟨1, 0x1000, List.replicate 8 0, some 5, none, none⟩] }
     s.work? 30 0x13 = some (outstanding 0x13 0) ∧ s.postsWait (some 1) = true ∧ ringing.postsWait (some 1) = false ∧
     s.destructionWaits 1 = true) := by decide +kernel

/-! ## Host interface -/

theorem test_hyp_host_interface :
    up.hostReaches = true ∧ up.ringOn = false ∧ ringing.hostReaches = true ∧ ringing.ringOn = true ∧
    (1 ≤ 4 ∧ (up.setReg Reg.hifHandshake 1).hifState ≠ 0 ∧ (up.setReg Reg.hifHandshake 1).hifState ≠ 4 ∧ up.lodge.inReset = false) ∧
    (let r := { up.setReg Reg.hifHandshake 1 with lodge := { up.lodge with inReset := true } }
     r.hostReaches = true ∧ r.lodge.inReset = true ∧ r.hifState ≠ 0 ∧ r.hifState ≠ 4) ∧
    (ringing.hostLive = true ∧ ringing.lodge.inReset = false) ∧
    (let ahead := fun x => (x + ringing.ringSize - ringing.fld Reg.hifRingHead 15 0 % ringing.ringSize) % ringing.ringSize
     (13 < ringing.ringSize ∧ ahead (ringing.fld Reg.hifRingTail 15 0) ≤ ahead 13) ∧
     ¬ (16 < ringing.ringSize) ∧ ¬ (ahead (ringing.fld Reg.hifRingTail 15 0) ≤ ahead 14)) := by decide +kernel

theorem test_hyp_host_loss :
    let s := { ringing with gate := 500000000, host := { ringing.host with heartbeatTimer := true } }
    s.hostLive = true ∧ s.off = false ∧ s.host.heartbeatTimer = true ∧ s.lodge.inReset = false ∧
    s.host.heartbeatGate.toNat + s.fld Reg.hifHbTimeout 13 0 * 1000000 ≤ s.gate.toNat ∧ s.host.perst = false ∧ s.host.answering = true ∧
    up.hostLive = false ∧ State.reset.host.perst = true := by decide +kernel

/-- A register has fields that a write of 8 bytes reaches. -/
def writable (off : Nat) : Bool := off % 8 == 0 && (match regFields off with
  | some fs => RegAccess.writes .full8 fs
  | none => false)

theorem test_hyp_register_write :
    up.works = true ∧ up.partyReaches false = true ∧ up.partyReaches true = true ∧
    (∀ off ∈ namedRegs, off = Reg.hifHeartbeat ∨ writable off = true) ∧
    (∀ n : GateSlot, writable (Reg.gtbSgCtrl n) = true) ∧
    (∀ n ∈ List.range 12, writable (0x1000000 + 0x10000 * n) = true) ∧ (∀ n ∈ List.range 16,
      writable (0x1000200 + 0x10000 * n) = true ∧ writable (0x1000300 + 0x10000 * n) = true) ∧
    writable 0x1400200 = true ∧ writable (Reg.lftFaultCtrl 3) = true ∧
    (∀ fs, regFields Reg.pstMaxWait = some fs → RegAccess.writes .full8 fs = false ∧ Reg.pstMaxWait ≠ Reg.hifHeartbeat) := by
  refine ⟨by decide, by decide, by decide, by decide +kernel, by decide +kernel, by decide +kernel, by decide +kernel, by decide +kernel, by decide +kernel, fun fs h => ?_⟩
  have e : regFields Reg.pstMaxWait = some ((regFields Reg.pstMaxWait).getD []) := by decide +kernel
  rw [e] at h
  cases h
  decide +kernel

theorem test_hyp_plain_registers :
    (∀ off ∈ [Reg.errRecMask, Reg.dmcNrSeed 7, Reg.ldgTraceCtrl, Reg.hifHbTimeout], writable off = true ∧ off ∉ namedRegs ∧
      inRowFamily off = false ∧ hasSequel off = false ∧ up.ignoresWrite false off = false) ∧
    (∀ off ∈ [Reg.ethCtrl 0, 0x301040, Reg.rnkPairCtrl, Reg.rnkPairCtx 15, 0x1000308], writable off = true ∧ off ∉ namedRegs ∧
      inRowFamily off = false ∧ hasSequel off = true) ∧
    (let s := up.setReg (Reg.ispPending 0) 1
     writable 0x1210000 = true ∧ s.ignoresWrite false 0x1210000 = true) ∧
    (let s := { (up.setReg Reg.rnkPairStatus 1) with contexts := [Context.lodge, ctx1] }
     ∃ v : W64, let s1 := s.setReg Reg.rnkPairCtrl v; s1.pairsOn = true ∧ s1.isPrimary = false) := by
  refine ⟨by decide +kernel, by decide +kernel, by decide +kernel, 1, by decide +kernel⟩

theorem test_hyp_ranges :
    takesAll (Reg.dmcNrSeed 7) = true ∧ takesAll Reg.hifHbTimeout = false ∧ up.anyContext = false ∧
    (Reg.ldgTraceCtrl, 15, 11, 8, 24, 8) ∈ rangedFields := by decide

/-- R219, R335, R404: a field outside its range takes its default, one inside stays. -/
theorem test_ranges :
    up.taken Reg.ldgTraceCtrl 0 (BitVec.ofNat 64 (25 * 2 ^ 11)) = BitVec.ofNat 64 (8 * 2 ^ 11) ∧
    up.taken Reg.ldgTraceCtrl 0 (BitVec.ofNat 64 (24 * 2 ^ 11)) = BitVec.ofNat 64 (24 * 2 ^ 11) ∧
    (up.resizeBar (8 * 2 ^ 8)).board.bar2Log2 = 28 ∧ (up.resizeBar (18 * 2 ^ 8)).board.bar2Log2 = 38 ∧
    (up.resizeBar (19 * 2 ^ 8)).board.bar2Log2 = 28 := by decide +kernel

theorem test_hyp_write_fields :
    let fs : List FieldDesc := [⟨63, 32, .rw, 0⟩, ⟨31, 31, .rw1c, 0⟩, ⟨30, 0, .ro, 0⟩]
    fs.Pairwise (fun a b => a.hi < b.lo ∨ b.hi < a.lo) ∧ (∀ a ∈ fs, a.lo ≤ a.hi ∧ a.hi < 64) := by decide

theorem test_hyp_rc_read :
    let fs : List FieldDesc := [⟨63, 48, .rc, 0⟩, ⟨47, 32, .rc, 0⟩, ⟨31, 16, .rc, 0⟩, ⟨15, 0, .rc, 0⟩]
    regFields (Reg.dmcMaxWait 0) = some fs ∧ up.works = true ∧ up.partyReaches false = true ∧ up.partyReaches true = true ∧
    Reg.dmcMaxWait 0 % 8 = 0 ∧ fs.Pairwise (fun a b => a.hi < b.lo ∨ b.hi < a.lo) ∧ (∀ a ∈ fs, a.lo ≤ a.hi ∧ a.hi < 64) := by
  decide +kernel

theorem test_hyp_bar2 : up.hostReaches = true ∧ 2 ^ 28 - 1 + ([1] : List Byte).length ≤ 2 ^ up.board.bar2Log2 ∧
    up.bar2Reaches (up.bar2Addr 0) = true ∧ (2 ^ 28 ≤ 2 ^ up.board.bar2Log2) ∧ up.bar2Reaches (2 ^ 40) = false ∧
    (∀ d : DmcId, up.dmc[d].input = []) := by decide +kernel

/-! ## Sensors and codecs -/

/-- A parameter set: port 3, one exposure on channel 2, data type RAW12 (0x2C), ENABLES. -/
def setBytes (enables : Byte) : List Byte := [3, 2, 0, 0, 1, 0x2C] ++ List.replicate 22 0 ++ [enables] ++ List.replicate 3 0

/-- Stream 5 of pipe 1, active with that set. -/
def sensing (x : Stream) : State := (up.putRegBytes (Reg.ispActive 1 5) (setBytes 2)).setStream 1 5 x

/-- A stream with nothing in it. -/
def quiet : Stream := ⟨false, [], none, [], setBytes 2⟩
/-- The number of a packet at port 3. -/
def no (i : Nat) : PacketNo := ⟨3, i⟩
/-- A frame that has taken nothing. -/
def frame0 : Frame := ⟨setBytes 2, 0, [], 0, [], [], 0, 0, false, none, 0, none, [], []⟩

theorem test_hyp_packets :
    let s := sensing quiet
    s.portReceives 3 = true ∧
    (let k : Csi2Packet := ⟨2, 0, 0x2C, .corrected, false, [1, 2, 3]⟩
     k.ecc ≠ .uncorrectable ∧ k.vcx = 0 ∧ k.vc ≤ 3 ∧ typeTaken k.dt.toNat = true ∧ lineSync k.dt.toNat = false ∧
     s.arrival 3 k 1 5 = some (.line 0 false [1, 2, 3] (no 0)) ∧ s.takes 1 5 (.line 0 false [1, 2, 3] (no 0)) = true ∧
     s.buffered 3 + k.payload.length ≤ 98304) ∧
    typeTaken (0x3F : Byte).toNat = false := by decide +kernel

theorem test_hyp_overrun :
    let s := sensing { quiet with arrived := [.line 0 true (List.replicate 65535 0) (no 7)] }
    let k : Csi2Packet := ⟨2, 0, 0x2C, .clean, true, List.replicate 40000 0⟩
    s.portReceives 3 = true ∧ k.ecc ≠ .uncorrectable ∧ k.vcx = 0 ∧ k.vc ≤ 3 ∧ typeTaken k.dt.toNat = true ∧ lineSync k.dt.toNat = false ∧
    (s.arrival 3 k 1 5).isSome = true ∧ s.takes 1 5 (.line 0 true k.payload (no 0)) = true ∧ 16 ≤ k.dt.toNat ∧
    98304 < s.buffered 3 + k.payload.length := by decide +kernel

theorem test_hyp_unmatched :
    let k : Csi2Packet := ⟨1, 0, 0x2A, .clean, true, [1]⟩
    let sync : Csi2Packet := ⟨1, 0, 2, .clean, true, []⟩
    let halted := sensing { quiet with stopped := true }
    (typeTaken k.dt.toNat = true ∧ lineSync k.dt.toNat = false ∧ (∀ p st, (sensing quiet).arrival 3 k p st = none) ∧
      k.dt ≠ 0 ∧ ((sensing quiet).ports[(3 : PortId)]).ownerPending = none) ∧
    ((halted.arrival 3 ⟨2, 0, 0x2C, .clean, true, [1]⟩ 1 5).isSome = true ∧
      ∀ a, halted.takes 1 5 (.line 0 true [1] a) = false) ∧
    (lineSync sync.dt.toNat = true ∧ (∀ p st, (exposureOf ((sensing quiet).matchSet p st false) 3 1) = none) ∧
      (exposureOf ((sensing quiet).matchSet 1 5 false) 3 2).isSome = true ∧ (sensing quiet).goesOn 1 5 false = true ∧
      halted.goesOn 1 5 false = false) ∧
    (let s := { sensing quiet with ports := (sensing quiet).ports.set 3 { (sensing quiet).ports[(3 : PortId)] with ownerPending := some true } }
     (∀ p st, s.arrival 3 ⟨1, 0, 0, .clean, true, []⟩ p st = none) ∧ (s.ports[(3 : PortId)]).ownerPending = some true) := by
  refine ⟨⟨by decide +kernel, by decide +kernel, by decide +kernel, by decide, by decide +kernel⟩,
    ⟨by decide +kernel, fun a => by rfl⟩, by decide +kernel, by decide +kernel⟩

/-- R257: a packet that two pipes wait for lies in the port's buffer once. -/
theorem test_one_buffer :
    let x := { quiet with arrived := [.line 0 true (List.replicate 5000 0) (no 0)] }
    ((sensing x).setStream 0 2 x).buffered 3 = 5000 := by decide +kernel

/-- A set of one line of two 8-bit pixels. -/
def tall : List Byte := [3, 2, 0, 0, 1, 0x2A, 2, 0, 1, 0] ++ List.replicate 22 0

/-- A stream whose next line is complete. -/
def ready : Stream := { quiet with arrived := [.line 0 true [1, 2] (no 0)], frame := some { frame0 with set := tall } }

theorem test_hyp_line_turns :
    let s := (sensing ready).setStream 1 6 ready
    (s.stream 1 6).arrived = .line 0 true [1, 2] (no 0) :: [] ∧ (s.stream 1 6).frame = some { frame0 with set := tall } ∧
    s.lineTurn 1 6 = false ∧ s.lineTurn 1 5 = true ∧ ready.lineReady = true ∧
    (let u := sensing { quiet with arrived := [.line 0 true [1, 2] (no 0)] }
     (u.stream 1 5).frame = none ∧ (u.stream 1 5).stopped = false) := by decide +kernel

theorem test_hyp_frames :
    (let s := sensing { quiet with arrived := [.frameStart 0] }
     (s.stream 1 5).arrived = .frameStart 0 :: [] ∧ (s.stream 1 5).frame = none ∧ (s.ports[(3 : PortId)]).ownerPending = none) ∧
    (let s := sensing { quiet with arrived := [.frameEnd 0], frame := some frame0 }
     (s.stream 1 5).frame = some frame0 ∧ setPort frame0.set < 16 ∧ setExposures frame0.set = 1 ∧
     s.works = true ∧ frame0.startGate.toNat + setTimeout frame0.set * 1000000 ≤ s.gate.toNat) ∧
    (let s := sensing { quiet with arrived := [.line 0 true [1, 2, 3] (no 0)], frame := some frame0 }
     (s.stream 1 5).arrived = .line 0 true [1, 2, 3] (no 0) :: [] ∧ (s.stream 1 5).frame = some frame0 ∧ s.lineTurn 1 5 = true) := by
  decide +kernel

/-- Slots of destination 0 in cluster store 8; a frame with a line waits at stream 5 of pipe 1. -/
def slotted (b : Standing) (x : Stream) : State := { (sensing x) with
  contexts := [Context.lodge, ctx1], standing := up.standing.set 0 (some b)
  models := [{ model0 with ctx := 1, image := some { image0 with input := some ⟨4, 0, 0, 2, 1, 0⟩ },
                           residence := .resident [⟨[0], [(8, false, 16, 8)]⟩] }] }

theorem test_hyp_slots :
    (let f := { frame0 with lines := [(0, [1])] }
     let s := slotted binding { quiet with frame := some f }
     s.works = true ∧ (s.stream 1 5).out.find? (fun f => !f.firstOut) = none ∧ (s.stream 1 5).frame = some f ∧ f.firstOut = false ∧
     f.hasLine = true ∧ setEnable f.set 1 = true ∧ s.bound (setDest f.set) = some binding ∧ binding.unbinding = none ∧
     s.ctxRuns binding.ctx = true ∧ binding.freeSlot? = some 1 ∧ s.slotBase binding = some (8, 16)) ∧
    ({ binding with held := 15 } : Standing).freeSlot? = none ∧ setEnable (setBytes 0) 1 = false ∧
    (let f := { frame0 with lines := [(0, [1])] }
     (({ quiet with out := [f] } : Stream).out.find? (fun f => !f.firstOut)) = some f) ∧ frame0.hasLine = false ∧
    ({ slotted binding quiet with contexts := [Context.lodge, { ctx1 with parked := true }] } : State).ctxRuns binding.ctx = false := by
  decide +kernel

/-- A closed frame of the binding of context 1 in slot 1. -/
def frame1 : Frame := { frame0 with lines := [(0, [1])], slot := some (7, 1), slotCtx := 1, firstOut := true }

/-- The state with that frame to deliver. -/
def delivering : State := slotted { binding with held := 2 } { quiet with out := [frame1] }

theorem test_hyp_deliver :
    delivering.works = true ∧ delivering.deliverable 0 = some (1, 5, frame1, 7, 1) ∧ delivering.lodge.inReset = false ∧
    frame1.embedded.length ≤ 384 ∧ delivering.bindingOf frame1.slotCtx 0 = some { binding with held := 2 } ∧
    delivering.slotBase { binding with held := 2 } = some (8, 16) ∧ (delivering.model? 1 0).isSome = true ∧
    delivering.ctxRuns 1 = true := by
  decide +kernel

theorem test_hyp_deliver_parked :
    let u := { delivering with contexts := [Context.lodge, { ctx1 with parked := true }] }
    u.works = true ∧ u.deliverable 0 = some (1, 5, frame1, 7, 1) ∧ u.bindingOf frame1.slotCtx 0 = some { binding with held := 2 } ∧
    u.ctxRuns 1 = false := by decide +kernel

theorem test_hyp_release :
    let x := { binding with held := 2, slotJobs := [(1, 1)] }
    let im : InputEntry := ⟨4, 0, 0, 2, 1, 0⟩
    let s := { slotted x quiet with
      jobs := [{ job1 with ctx := 1, bindings := [(0, 9)] }], counters := up.counters.set 9 (some { counter with doneLow := 2 }) }
    s.bound 0 = some x ∧ x.slotJobs.find? (fun q => q.1 == (1 : SlotNo).val) = some (1, 1) ∧
    (s.model? x.ctx x.model).bind (fun m => m.image.bind (·.input)) = some im ∧
    s.jobs.find? (fun j => j.uid == 1) = some { job1 with ctx := 1, bindings := [(0, 9)] } ∧
    s.jobCounter { job1 with ctx := 1, bindings := [(0, 9)] } im.counter = some { counter with doneLow := 2 } ∧ im.index < 2 := by
  decide +kernel

/-- Port 12 with changes. -/
def ported (f : Port → Port) : State := { up with ports := up.ports.set 12 (f up.ports[12]) }

theorem test_hyp_camera :
    (up.works = true ∧ false = up.lodgeOwns 12 ∧ up.ccmBusy 12 = false) ∧
    (let s := ported (fun x => { x with ccmArmed := true })
     (s.ports[12]).ccmArmed = true ∧ (s.reg (Reg.camCcmGate 12)).toNat ≤ s.gate.toNat) ∧
    (let s := ported (fun x => { x with ccmRunning := true, ccmIndex := 63 })
     (s.ports[12]).ccmRunning = true ∧ (s.ports[12]).ccmIndex < 64 ∧ s.fld (Reg.camCcmCtrl 12) 13 8 ≤ (s.ports[12]).ccmIndex) ∧
    (let s := up.setReg (Reg.camTrigCtrl 12) 0x2801
     s.flag (Reg.camTrigCtrl 12) 0 = true ∧ (s.ports[12]).trigNext ≤ s.gate.toNat ∧ (s.reg (Reg.camTrigStart 12)).toNat ≤ (s.ports[12]).trigNext ∧
     0 < s.fld (Reg.camTrigPeriod 12) 31 0) := by decide +kernel

theorem test_hyp_poc :
    (11 : PortId).val < 12 ∧ up.pocState 11 = 0 ∧
    (let s := up.setReg (Reg.camPocStatus 11) 4
     s.pocState 11 = 1 ∧ s.tripLevel 11 < 301 ∧ 4 < 5) ∧ (up.setReg (Reg.camPocStatus 11) 8).pocState 11 = 2 := by decide +kernel

theorem some_of {α : Type} {x : Option α} (h : x.isSome = true) : ∃ a, x = some a := by
  cases x with
  | some a => exact ⟨a, rfl⟩
  | none => cases h

theorem status_of {x : Option Decoded} {n : Nat} (h : x.map (·.status) = some n) : ∃ a, x = some a ∧ a.status = n := by
  cases x with
  | some a => exact ⟨a, rfl, Option.some.inj h⟩
  | none => cases h

/-- An encoder block: one slice, its output to ring and Ethernet as named. -/
def encBytes (out : Byte) : List Byte := List.replicate 0x16 0 ++ [1, out] ++ List.replicate 8 0 ++ [16]

/-- Encoder stream 16 has one complete picture at the front of its encoder. -/
def encoding (out : Byte) : State :=
  let x : EncInput := ⟨1, 0, some [], false, false, encBytes out⟩
  { up with enc := up.enc.set 16 { EncStream.idle with active := true, geometry := (64, 64, 0), inputs := [x] }, encOrder := up.encOrder.set 1 [0] }

theorem test_hyp_codecs :
    up.works = true ∧ (∀ i : EncId, (up.enc[i]).active = false) ∧ up.decBusy = false ∧
    (let n := (0 : BitVec 32).toNat % 4096 * 64 * 2 ^ 20
     n ≤ up.lodgeBase ∧ overlaps (up.lodgeBase - n) n up.tableRegion.1 up.tableRegion.2 = false ∧ up.lastGroup ≤ up.lodgeBase - n) ∧
    ((up.reg (Reg.vcEncRptr 31)).toNat ≤ 0 ∧ 0 ≤ (up.reg (Reg.vcEncWptr 31)).toNat) ∧
    (up.lodge.inReset = false ∧ (up.setReg Reg.hifHandshake 1).hifState ≠ 0 ∧ up.lodge.autoStarted = false) ∧
    ((encoding 1).enc[(16 : EncId)]).active = true := by decide +kernel

/-- An access unit of one slice. -/
def unit0 (idr : Bool) : AccessUnit := ⟨[1], [⟨1, [2, 3]⟩], [], 0, idr, none, none⟩

theorem test_hyp_encode :
    ∀ out ∈ [(1 : Byte), 6], let x : EncInput := ⟨1, 0, some [], false, false, encBytes out⟩
      (encoding out).works = true ∧ (encoding out).encOrder[encPipe 16] = encCtx 16 :: [] ∧
      ((encoding out).enc[(16 : EncId)]).inputs = [x] ∧ x.picture ≠ none ∧ (encoding out).codecFrozen = [] ∧
      ((encoding out).enc[(16 : EncId)]).active = true ∧
      (let e := (encoding out).enc[(16 : EncId)]
       unitOk x.block e x (idrDue e x.block x) (unit0 (idrDue e x.block x)) = true ∧
       unitOk x.block e x (idrDue e x.block x) (unit0 (!idrDue e x.block x)) = false) := by decide +kernel

theorem test_hyp_encode_frozen :
    let s := (encoding 1).setReg (Reg.dmcStatus 7) 2
    s.works = true ∧ s.codecFrozen = [(7 : DmcId)] ∧ s.noneFrozen = false ∧ (encoding 1).noneFrozen = true := by decide +kernel

theorem test_hyp_commits :
    let a := sensing quiet
    let x : Stream := { quiet with known := [] }
    up.works = true ∧ (∀ st, (a.stream 1 st).known = [] → st ≠ 5) ∧ (a.stream 1 5).known ≠ [] ∧
    (let u := (sensing x).putRegBytes (Reg.ispShadow 1 5) [16]
     (u.stream 1 5).known = [] ∧ namesPort (u.regBytes (Reg.ispShadow 1 5) 1) = false ∧ u.owns false 1 5 = true) := by decide +kernel

theorem test_hyp_payloads : 576 ≤ leAt (List.replicate 0x3C (0 : Byte) ++ [0x40, 2]) 0x3C 2 := by decide

/-- A frame of 64 × 64 pixels, its rows in order, and not in an IDR access unit. -/
def coded0 : CodedFrame := ⟨30, 64, 64, false, none⟩

theorem test_hyp_decode :
    let s := up.setReg Reg.vcDecTail 1
    let d := s.rd (s.fld Reg.vcDecQbase 63 12 * 4096 + 64 * (s.fld Reg.vcDecHead 15 0 % s.decSize)) 64
    s.works = true ∧ s.decBusy = true ∧ s.plainDram (s.fld Reg.vcDecQbase 63 12 * 4096 + 64 * (s.fld Reg.vcDecHead 15 0 % s.decSize)) 64 = true ∧
    (∃ x, s.decodes d .concealed = some x) ∧ s.decodes d (.done coded0 [] []) = none ∧
    (∃ x, s.decodes d (.done coded0 (List.replicate 64 (List.replicate 64 1)) (List.replicate 32 (List.replicate 64 1))) = some x ∧
      x.status = 1) := by
  refine ⟨by decide +kernel, by decide +kernel, by decide +kernel, some_of (by decide +kernel), by decide +kernel,
    status_of (by decide +kernel)⟩

theorem test_hyp_decode_frozen :
    let s := (up.setReg Reg.vcDecTail 1).setReg (Reg.dmcStatus 0) 2
    s.works = true ∧ s.decBusy = true ∧ s.plainDram 0 64 = true ∧ s.frozenAt 0 = true ∧ s.noneFrozen = false ∧
    s.fld Reg.vcDecQbase 63 12 * 4096 + 64 * (s.fld Reg.vcDecHead 15 0 % s.decSize) = 0 ∧
    up.noneFrozen = true := by decide +kernel

theorem test_hyp_ethernet :
    let s := { (((up.setReg (Reg.ethCtrl 1) 1).setReg (Reg.ethStatus 1) 1).setReg (Reg.ethPtpCtrl 0) 1).setReg (Reg.ethPtpStatus 0) 1 with
      gate := 10000000000, net := { up.net with withinSince := some 0, lastSync := 9000000000 } }
    let late := { s with net := { s.net with lastSync := 7000000000 } }
    s.works = true ∧ s.flag (Reg.ethCtrl 1) 0 = true ∧ s.board.clocksLost.contains .eth = false ∧ s.flag (Reg.ethStatus 1) 0 = true ∧
    s.flag (Reg.ethPtpCtrl 0) 0 = true ∧ s.net.withinSince = some 0 ∧ (0 : W64).toNat + 10000000000 ≤ s.gate.toNat ∧
    s.gate.toNat < s.net.lastSync.toNat + 3000000000 ∧ late.net.lastSync.toNat + 3000000000 ≤ late.gate.toNat ∧
    s.flag (Reg.ethPtpStatus 0) 0 = true ∧ s.isMaster = false ∧ s.isEnum = false ∧
    (s.setReg (Reg.ethPtpCtrl 0) 3).ptpOn 1 = true := by decide +kernel

/-- Port 1 has its link and listens to PTP in domain 0 over UDP. -/
def listening : State := (up.setReg (Reg.ethStatus 1) 1).setReg (Reg.ethPtpCtrl 0) 3

/-- A PTP message of source 5. -/
def ptp (b : PtpBody) : PtpMessage := ⟨false, 0, 5, b⟩

/-- It follows source 5, whose Sync and its own delay request wait for their answers. -/
def following : State := { listening with net := { listening.net with
  best := some (1, 4, 5), syncWaits := some (5, 9), syncPair := some (3, 9), requestAt := some 11 } }

theorem following_best : following.bestMaster = some (1, 4, 5) := by
  have h : (following.ptpOn 1 && following.flag (Reg.ethStatus 1) 0) = true := by decide +kernel
  have g : following.gate.toNat ≤ following.net.bestAt.toNat + Config.announceTimeout := Nat.zero_le _
  simp only [Bool.and_eq_true] at h
  show (if (following.ptpOn 1 && following.flag (Reg.ethStatus 1) 0 &&
    decide (following.gate.toNat ≤ following.net.bestAt.toNat + Config.announceTimeout)) = true then some (1, 4, 5) else none) = _
  rw [h.1, h.2, decide_eq_true g]
  rfl

theorem test_hyp_ptp :
    listening.works = true ∧ listening.flag (Reg.ethStatus 1) 0 = true ∧ listening.ptpHears 1 (ptp .other) = true ∧
    listening.ptpHears 1 { ptp .other with domain := 1 } = false ∧ listening.bestMaster = none ∧
    following.net.syncWaits = some ((ptp (.followUp 3)).source, 9) ∧ following.net.syncPair = some (3, 9) ∧
    following.net.requestAt = some 11 ∧ following.flag (Reg.ethPtpCtrl 0) 3 = false ∧
    (listening.setReg (Reg.ethPtpCtrl 0) 11).flag (Reg.ethPtpCtrl 0) 3 = true := by decide +kernel

theorem test_hyp_ptp_master : following.fromMaster 1 (ptp (.sync (some 3))) = true ∧
    following.fromMaster 1 { ptp (.sync none) with source := 6 } = false := by
  simp only [State.fromMaster, following_best]
  decide

/-! ## DRAM controllers -/

/-- Every controller runs, with no refresh postponed. -/
def dram : State := (List.range 8).foldl (fun s d => s.setReg (Reg.dmcStatus d) 1) up

/-- A read of a whole block by a Lift for job 7 of the Lodge's context. -/
def read0 : DramRequest := ⟨.lift, false, 64, [], some (0, 7)⟩

/-- A queue entry of it. -/
def waits0 : Queued := ⟨read0, false, 0, 0, none⟩

/-- Controller 0 with changes. -/
def dmc0 (f : Dmc → Dmc) : State := { dram with dmc := dram.dmc.set 0 (f dram.dmc[0]) }

theorem test_hyp_interleave :
    let size := up.usable / up.liveGroups.length
    up.liveGroups[64 / size]? ≠ none ∧ size ≠ 0 ∧ size % 4096 = 0 ∧ up.dramAt 64 = some (0, 64) ∧
    up.liveGroups[2 ^ 50 / size]? = none := by decide +kernel

theorem test_hyp_dram_request :
    dram.dramAt read0.addr = some (0, 64) ∧ dram.dmcRuns 0 = true ∧ (dram.dmc[(0 : DmcId)]).input = [] ∧
    dram.dramAt (2 ^ 50) = none ∧ (dram.setReg (Reg.dmcStatus 0) 2).dmcState 0 = 2 := by decide +kernel

theorem test_hyp_dram_room (c : ChannelId) :
    queueRoom ((dram.dmc[(0 : DmcId)]).queues[c]) read0.cls = true ∧ queueRoom (List.replicate 40 waits0) read0.cls = false := by
  have h : (dram.dmc[(0 : DmcId)]).queues = Vector.replicate 4 [] := rfl
  rw [h]
  refine ⟨?_, by decide⟩
  revert c
  decide

theorem test_hyp_groomer (c : ChannelId) :
    (dram.dmc[(7 : DmcId)]).scrubBlock < dram.dmcBytes / 64 ∧ dram.scrubPeriod 7 = 24 * 3600000000000 ∧ (dram.dmc[(7 : DmcId)]).selfRefresh[c] = false ∧ dram.initMark 7 < dram.dmcBytes / 64 ∧ dram.dmcBytes < 2 ^ 64 ∧
    dram.dramAt (dram.dramAddr 7 (64 * dram.initMark 7)) = some (7, 64 * dram.initMark 7) ∧
    (dram.dmc[(7 : DmcId)]).input = [] ∧ queueRoom (dram.dmc[(7 : DmcId)]).queues[c] .groom = true := by
  refine ⟨by decide +kernel, by decide +kernel, ?_, by decide +kernel, by decide +kernel, by decide +kernel, rfl, ?_⟩
  all_goals fin_cases c <;> rfl

/-- Channel 0 of controller 0 holds the read, promoted. -/
def serving0 : State := dmc0 (fun x => { x with queues := x.queues.set 0 [{ waits0 with promoted := true }] })

/-- The same, with the row of the read open. -/
def openRow : State := { serving0 with dmc := serving0.dmc.set 0 { serving0.dmc[0] with
  openRows := [(placeBank (dram.queuedPlace 0 waits0), field (dram.queuedPlace 0 waits0) 48 32)] } }

theorem test_hyp_dram_served :
    openRow.dmcRuns 0 = true ∧ (openRow.dmc[(0 : DmcId)]).selfRefresh[(0 : ChannelId)] = false ∧ (openRow.dmc[(0 : DmcId)]).input = [] ∧
    (openRow.dmc[(0 : DmcId)]).queues[(0 : ChannelId)] = [{ waits0 with promoted := true }] ∧
    openRow.nextIssue 0 [{ waits0 with promoted := true }] = some 0 ∧
    (openRow.dmc[(0 : DmcId)]).isOpen (dram.queuedPlace 0 waits0) = true := by
  refine ⟨by decide +kernel, by decide, by decide, by decide, by decide, ?_⟩
  simp [Dmc.isOpen, openRow]

theorem test_hyp_dram_activate :
    let s := { serving0 with board := { serving0.board with rfm := some ⟨0, 0, 0⟩ } }
    serving0.dmcRuns 0 = true ∧ (serving0.dmc[(0 : DmcId)]).selfRefresh[(0 : ChannelId)] = false ∧
    serving0.nextIssue 0 [{ waits0 with promoted := true }] = some 0 ∧
    (serving0.dmc[(0 : DmcId)]).isOpen (serving0.queuedPlace 0 waits0) = false ∧
    (∀ b, serving0.bankFull 0 b = false) ∧ (∀ b, s.bankFull 0 b = true) :=
  ⟨by decide +kernel, by decide, by decide, rfl, fun _ => rfl, fun _ => rfl⟩

theorem test_hyp_dram_due :
    let n := Config.refreshPostpone + 1
    let s := dmc0 (fun x => { x with postponed := x.postponed.set 0 n })
    ((s.dmc[(0 : DmcId)]).postponed[(0 : ChannelId)] ≠ 0 ∧ Config.refreshPostpone ≤ (s.dmc[(0 : DmcId)]).postponed[(0 : ChannelId)]) ∧
    ((dram.dmc[(0 : DmcId)]).postponed[(0 : ChannelId)] = 0 ∧ (dram.rfmBanks 0 0).isEmpty = true) := by
  refine ⟨⟨?_, ?_⟩, by decide, by decide +kernel⟩
  · show Config.refreshPostpone + 1 ≠ 0
    omega
  · show Config.refreshPostpone ≤ Config.refreshPostpone + 1
    omega

theorem test_hyp_neighbours :
    let s := dmc0 (fun x => { x with neighbours := [(3, 7)], rolling := [(3, 40)] })
    canonical 0 (s.dmc[(0 : DmcId)]).rolling = true ∧ (s.dmc[(0 : DmcId)]).neighbours = (3, 7) :: [] ∧ s.bankFull 0 3 = false ∧
    ((s.refreshNear 0 0 3 1).dmc[(0 : DmcId)]).activates[(0 : ChannelId)] = 1 := by decide +kernel

theorem test_hyp_dram_outcomes :
    (⟨[], false, false, false, 0⟩ : DramOutcome).kind = 0 ∧ (⟨[3], false, false, false, 5⟩ : DramOutcome).kind = 1 ∧
    (⟨[3, 67], false, false, false, 5⟩ : DramOutcome).kind = 2 ∧ (⟨[], true, false, false, 5⟩ : DramOutcome).kind = 2 ∧
    (serving0.setReg (Reg.dmcInitMark 0) 2).checks 0 waits0 = true ∧ serving0.checks 0 waits0 = false := by decide +kernel

theorem test_hyp_dram_promote :
    let s := { dmc0 (fun x => { x with queues := x.queues.set 0 [waits0], input := [waits0] }) with gate := 4000 }
    (s.dmc[(0 : DmcId)]).queues[(0 : ChannelId)] = [waits0] ∧ waits0.promoted = false ∧
    s.fld (Reg.dmcCtrl 0) 7 0 * 500 ≤ s.gate.toNat - waits0.since.toNat ∧ (s.dmc[(0 : DmcId)]).input[0]? = some waits0 ∧
    ¬ (s.fld (Reg.dmcCtrl 0) 7 0 * 500 ≤ up.gate.toNat - waits0.since.toNat) := by decide +kernel

theorem test_hyp_dram_upkeep :
    let x := dram.dmc[(7 : DmcId)]
    dram.dmcState 7 = 1 ∧ dram.dmcRuns 7 = true ∧ x.selfRefresh[(3 : ChannelId)] = false ∧ dram.fld (Reg.dmcCtrl 7) 19 10 ≠ 0 ∧
    x.queues[(3 : ChannelId)] = [] ∧ x.input = [] ∧ x.postponed[(3 : ChannelId)] = 0 ∧ (∀ b ∈ x.neighbours, b.1 / 32 ≠ 3) ∧
    dram.off = false ∧ (dram.nearAll 7 3).upkept 7 3 = true ∧
    dram.rfmBanks 7 3 = [] ∧ (dram.setReg (Reg.dmcCtrl 7) 0).fld (Reg.dmcCtrl 7) 19 10 = 0 ∧
    (let s := dmc0 (fun x => { x with selfRefresh := x.selfRefresh.set 0 true, queues := x.queues.set 0 [waits0] })
     (s.dmc[(0 : DmcId)]).selfRefresh[(0 : ChannelId)] = true ∧ (s.dmc[(0 : DmcId)]).queues[(0 : ChannelId)] ≠ []) := by
  decide +kernel

theorem test_hyp_dram_rfm :
    let s := { dmc0 (fun x => { x with rolling := [(3, 40)] }) with board := { up.board with rfm := some ⟨32, 64, 16⟩ } }
    s.board.rfm = some ⟨32, 64, 16⟩ ∧ s.rfmBanks 0 0 = [3] ∧ canonical 0 (s.dmc[(0 : DmcId)]).rolling = true ∧
    (3, 40) ∈ (s.dmc[(0 : DmcId)]).rolling := by decide +kernel

/-- Controller 0 is about to freeze on a read, with the read and a write of the same job waiting. -/
def freezing : State := { dmc0 (fun x => { x with
  failing := some ⟨1, 64, 0, 5⟩, input := [⟨{ read0 with write := true, data := [1] }, false, 0, 0, none⟩], queues := x.queues.set 0 [waits0] }) with
  jobs := [job1] }

/-- It is frozen. -/
def frozen : State := freezing.setReg (Reg.dmcStatus 0) 2

theorem test_hyp_dram_freeze :
    (freezing.dmc[(0 : DmcId)]).failing = some ⟨1, 64, 0, 5⟩ ∧ freezing.dmcState 0 = 1 ∧ freezing.off = false ∧ answeredAtOnce read0 = false ∧
    answeredAtOnce { read0 with requester := .walk } = false ∧ answeredAtOnce { read0 with requester := .bar2 } = true ∧
    answeredAtOnce { read0 with requester := .pipe } = true ∧ read0.job = some (0, 7) ∧ freezing.findJob 0 7 = some job1 := by
  decide +kernel

theorem test_hyp_history :
    let x := freezing.dmc[(0 : DmcId)]
    x.history[(0 : ChannelId)].length + [(⟨0, 0, 9⟩ : UpkeepCommand)].length ≤ 64 ∧
    freezing.lastCommands 0 0 [⟨0, 0, 9⟩] = [⟨0, 9⟩] := by decide +kernel

theorem test_hyp_frozen_request :
    frozen.dramAt read0.addr = some (0, 64) ∧ frozen.dmcState 0 = 2 ∧ dram.dmcState 0 ≠ 2 ∧ frozen.findJob 0 7 = some job1 ∧
    ({ read0 with job := none } : DramRequest).job = none := by decide +kernel

theorem test_hyp_dram_thaw :
    up.hostReaches = true ∧ State.reset.hostReaches = false ∧ (3 : BitVec 32).getLsbD 0 = true ∧ (3 : BitVec 32).getLsbD 1 = true ∧
    (1 : BitVec 32).getLsbD 1 = false ∧ frozen.dmcState 0 = 2 ∧
    (let s := (dmc0 (fun x => { x with failing := some ⟨2, 64, 0, 5⟩ })).setReg (Reg.dmcStatus 0) 2
     (s.dmc[(0 : DmcId)]).failing = some ⟨2, 64, 0, 5⟩ ∧ (s.dmc[(0 : DmcId)]).input = []) ∧
    (dram.dmc[(0 : DmcId)]).failing = none ∧ up.off = false ∧ frozen.heldWrites = [] ∧
    (∀ e : DmcId, e ≠ 0 → frozen.dmcState e ≠ 2) := by decide +kernel

/-! ## The Rink -/

/-- A master's link 2 is up, in the tree. -/
def linked : State := (up.setReg (Reg.rnkPortStatus 2) 3).setReg Reg.rnkDev 1

/-- The device found at the other end. -/
def peer0 : RinkPeer := ⟨9, false, false, false, 0, false⟩

theorem test_hyp_links_train :
    let s := up.setReg Reg.hifHandshake 1
    up.linkUp 2 = false ∧ (up.links[(2 : RinkPort)]).heldDown = false ∧ State.reset.rinkTrains = false ∧ s.rinkTrains = true ∧
    s.mastersMeet peer0 = false ∧ (s.setReg Reg.rnkDev 1).mastersMeet { peer0 with master := true } = true ∧
    (s.setReg Reg.rnkDev 1).isMaster = true ∧ (s.setReg Reg.rnkDev 2).isEnum = true ∧ s.rink.nextId < 4095 ∧
    s.rink.offer = none ∧ s.rink.todo = [] ∧ s.rink.awaited = [] ∧ s.canOffer s.self = true ∧ s.pairsOn = false := by decide +kernel

theorem test_hyp_links_down : linked.linkUp 2 = true ∧ (up.linkUp 2 = false) := by decide +kernel

/-- A message of model 0's cascade, from device 3 to device 7. -/
def update0 : RinkMsg := .completion ⟨3, 0, 0, 0, 1, 2, 0⟩

theorem test_hyp_links_down_cascade :
    let lost : Link := { linked.links[(2 : RinkPort)] with retry := [(7, update0)] }
    let s := { linked.setReg (Reg.rnkPortStatus 1) 3 with
      links := linked.links.set 2 lost
      rink := { linked.rink with routes := [(3, 1)] } }
    (7, update0) ∈ (s.links[(2 : RinkPort)]).retry ∧ cascadeKey update0 = some (0, 0, 1) ∧
    s.cascadeJob (0, 0, 1) = none ∧ s.devId ∉ s.modelMembers 0 0 ∧ (3 : BitVec 12) ∈ endsOf 7 update0 ∧
    s.rink.routes.find? (fun r => r.1 == 3) = some (3, 1) ∧ s.linkUp 1 = true ∧
    (let u := { s with models := [{ model0 with image := some (cascading 0) }] }
     u.devId ∈ u.modelMembers 0 0 ∧ u.toCome (0, 0, 1) = true) ∧
    (let u := { s with jobs := [{ job1 with nModel := 1 }] }; u.cascadeJob (0, 0, 1) = some { job1 with nModel := 1 }) := by
  decide +kernel

/-- A flit of a type with its CRC, the next of its link. -/
def flit (ty : Nat) (dest : BitVec 12) : FlitHeader := FlitHeader.make ty dest 0 (List.replicate 248 0)

theorem flit_crcOk (ty : Nat) (dest : BitVec 12) : (flit ty dest).crcOk = true := beq_self_eq_true _

theorem flit_next (ty : Nat) (h : ty ∈ [0, 1, 2, 3, 4, 5, 6, 7]) : FlitNext linked 2 (flit ty 0xFFF) ty := by
  simp only [List.mem_cons, List.not_mem_nil, or_false] at h
  rcases h with rfl | rfl | rfl | rfl | rfl | rfl | rfl | rfl <;>
    exact ⟨by decide +kernel, by decide +kernel, flit_crcOk _ _, rfl, by decide, rfl⟩

theorem test_hyp_flits (ty : Nat) (h : ty ∈ [1, 2, 3, 4, 5, 6, 7]) : FlitTaken linked 2 (flit ty 0xFFF) ty :=
  ⟨flit_next ty (List.mem_cons_of_mem _ h), .inl (by
    simp only [List.mem_cons, List.not_mem_nil, or_false] at h
    rcases h with rfl | rfl | rfl | rfl | rfl | rfl | rfl <;> rfl)⟩

theorem test_hyp_flit_checks :
    (⟨0, [0], 0, 0⟩ : FlitHeader).crcOk = false ∧ (flit 9 0xFFF).typeCode.toNat = 9 ∧ (flit 5 7).dest = 7 ∧
    (7 : BitVec 12).toNat ≠ linked.devId ∧ (FlitHeader.make 1 0xFFF 4 []).seq ≠ (linked.links[(2 : RinkPort)]).expectSeq :=
  ⟨by decide +kernel, by decide +kernel, by decide +kernel, by decide +kernel, by decide +kernel⟩

theorem test_hyp_flit_routes :
    [((7 : BitVec 12), 2)].find? (fun q => q.1 == 7) = some (7, 2) ∧ linked.rink.routes = [] := ⟨rfl, rfl⟩

theorem test_hyp_grants :
    let b : Nat × BitVec 12 × RinkMsg := (4, 7, .exchange ⟨0, 0, 0, 0, 0, [1]⟩)
    let c : Nat × BitVec 12 × RinkMsg := (2, 7, .tai 5)
    let l : Link := { (up.links[(2 : RinkPort)]) with waiting := [b, c], credits := [64, 64, 64] }
    l.nextClass = some 1 ∧ ({ l with bulkRun := 0, waiting := [b] } : Link).nextClass = some 2 ∧
    ({ l with waiting := [] } : Link).nextClass = none ∧ (∀ y ∈ l.waiting, y.1 < 5) ∧ l.retry.length ≤ 512 := by decide

/-- A control flit that acknowledges nothing new. -/
def control (h : FlitHeader) : ControlFlit := ⟨h, 0xFFF, none, [64, 64, 64], false, none, [], []⟩

/-- The link 2 of a master leads to its partner, device 9. -/
def paired : State := (linked.setReg (Reg.rnkPortStatus 2) 0x90003).setReg Reg.rnkPairCtrl 0x90801

theorem test_hyp_control :
    let f := control (flit 0 0xFFF)
    linked.rinkLive = true ∧ linked.linkUp 2 = true ∧ f.header.typeCode = 0 ∧ f.header.cls = 0 ∧ f.header.reserved = 0 ∧
    f.header.dest = 0xFFF ∧ f.heartbeat = false ∧ f.nack = none ∧ f.refusals = [] ∧ ({ f with refusals := [4] } : ControlFlit).refusals = [4] ∧
    (let l := { linked.links[(2 : RinkPort)] with retry := [(7, .tai 1), (7, .tai 2)], nextSeq := 2 }
     let g := { f with nack := some 0 }
     0 < (l.credited g).retry.length - (0 - ((l.credited g).nextSeq - BitVec.ofNat 12 (l.credited g).retry.length) : BitVec 12).toNat ∧
     (l.credited g).resends + 1 < 16) ∧ (control (⟨0, [0], 0, 0⟩)).header.crcOk = false ∧
    (let l := { linked.links[(2 : RinkPort)] with resends := 15, retry := [(7, .tai 1)], nextSeq := 1 }
     let g := { f with nack := some 0 }
     16 ≤ (l.credited g).resends + 1 ∧
     0 < (l.credited g).retry.length - (0 - ((l.credited g).nextSeq - BitVec.ofNat 12 (l.credited g).retry.length) : BitVec 12).toNat) ∧
    (let s := { linked.setReg (Reg.rnkPortStatus 1) 3 with rink := { linked.rink with routes := [(7, 1)] } }
     let g := control (flit 0 7)
     ¬ (g.header.dest = 0xFFF ∨ g.header.dest.toNat = s.devId) ∧
     s.rink.routes.find? (fun r => r.1 == g.header.dest) = some (7, 1) ∧ s.linkUp 1 = true) ∧
    (let s := paired
     s.pairsOn = true ∧ s.toPartner 2 = true ∧ (s.setReg Reg.rnkPairStatus 4).flag Reg.rnkPairStatus 2 = true ∧
     (flit 0 0).dest.toNat = s.devId) := by decide +kernel

/-- The state in which a flit of exchange data is delivered. -/
def exchanging : State := Arrived linked 2 (flit 1 0xFFF)

theorem test_hyp_exchange :
    (1 : W32).toNat = linked.nextCount 0 0 ∧ linked.cascadeJob (0, 0, 1) = none ∧ linked.nextCount 0 0 < (2 : W32).toNat := by
  decide +kernel

theorem test_hyp_exchange_lands :
    (exchanging.writeVa 0 0 [1, 2]).isOk = true ∧ exchanging.frozenIn 0 0 2 = none ∧ (exchanging.writeVa 5 0 [1]).isOk = false :=
  ⟨by decide +kernel, by decide +kernel, by decide +kernel⟩

theorem test_hyp_exchange_of_a_present_job :
    let s := { linked with jobs := [{ job1 with nModel := 1 }], models := [{ model0 with jobsSinceReg := 1 }] }
    (1 : W32).toNat < s.nextCount 0 0 ∧ s.cascadeJob (0, 0, 1) = some { job1 with nModel := 1 } := by decide +kernel

theorem test_hyp_completion :
    let s := { claiming with models := [{ model0 with jobsSinceReg := 1 }] }
    (1 : W32).toNat < s.nextCount 0 0 ∧ s.cascadeJob (0, 0, 1) = some job1 ∧ job1.bindings.find? (fun b => b.1 == 2) = some (2, 9) ∧
    s.counters[(9 : CounterId)] = some { counter with number := 2 } ∧ (2 : W32).toNat = s.nextCount 0 0 := by decide +kernel

theorem test_hyp_signatures :
    let own : Signature := ⟨1, 0, 1, 0, 0, 5, none⟩
    let s := { linked.setReg Reg.synCtrl 1 with rink := { linked.rink with pendingOwn := [own], pendingPeer := [{ own with index := 9 }] } }
    s.flag Reg.synCtrl 0 = true ∧ linked.flag Reg.synCtrl 0 = false ∧
    s.rink.pendingOwn.find? (sigSameKey { own with sig := 6 }) = some own ∧
    s.rink.pendingOwn.find? (sigSameKey { own with index := 1 }) = none ∧ s.pendingKeys < 8192 ∧ s.rink.pendingOwn[0]? = some own ∧
    s.rink.pendingPeer[1 - s.rink.pendingOwn.length]? = some { own with index := 9 } := by decide +kernel

theorem test_hyp_signatures_differ :
    let own : Signature := ⟨0, 0, 1, 0, 0, 5, none⟩
    sigSameKey { own with slalom := some (0, 7) } own = true ∧ own.slalom ≠ some (0, 7) ∧ (own.sig ≠ 6) ∧
    sigOfJob own { job1 with nEnrol := 1, compared := true } = true ∧
    (linked.setReg Reg.synCtrl 3).flag Reg.synCtrl 1 = true := by decide +kernel

/-- An identifier for a device that has none. -/
def number (id : BitVec 12) : Enumeration := ⟨id, 1, true, false, 100, [], 0, 0, none, none, false⟩

theorem test_hyp_enumeration :
    up.isEnum = false ∧ up.isMaster = false ∧ (number 3).report = none ∧ (number 3).tree = true ∧ (number 3).forPort = none ∧
    (number 3).lost = false ∧
    (let s := up.setReg Reg.rnkDev 0x32
     s.isEnum = true ∧ s.isMaster = false ∧ (number (BitVec.ofNat 12 s.devId)).id.toNat = s.devId) := by decide +kernel

theorem test_hyp_numbering :
    (linked.isSpare 2 = false ∧ linked.inTree 2 = true ∧ linked.linkUp 2 = true) ∧
    (let s := up.setReg (Reg.rnkPortStatus 1) 1; s.isSpare 1 = false ∧ s.inTree 1 = false ∧ s.linkUp 1 = true) ∧
    linked.isMaster = true ∧ linked.rink.todo = [] ∧ linked.rink.offer = none ∧ linked.rink.awaited = [] ∧
    linked.rink.nextId < 4095 ∧ (3 : BitVec 12) ≠ linked.self ∧ linked.rink.tree ++ linked.rink.spares = [] ∧
    (let s := { linked with rink := { linked.rink with routes := [(3, 2)], offer := some (0, 2, 3) } }
     s.reaches 3 = true ∧ s.rink.offer = some (0, 2, 3) ∧ (0 : BitVec 12) ≠ 3) := by decide +kernel

theorem test_hyp_loss_told :
    let s := linked.setReg Reg.rnkDev 2
    s.isMaster = false ∧ s.pairsOn = false ∧ s.rink.awayTold = false ∧ s.inTree 2 = true ∧
    (let u := { s with rink := { s.rink with routes := [(0, 2)] } }
     u.rink.routes.find? (fun r => r.1 == 0) = some (0, 2)) ∧
    ({ number 3 with lost := true } : Enumeration).lost = true := by decide +kernel

theorem test_hyp_rebuild :
    let s := { (linked.setReg (Reg.rnkPortStatus 1) 5) with rink := { linked.rink with spares := [(linked.self, 1, 9)] } }
    s.isMaster = true ∧ joiningSpare s.self (fun p => s.linkUp p.val) s.treeUp s.rink.spares = some (linked.self, 1, 9) ∧
    joiningSpare linked.self (fun p => linked.linkUp p.val) linked.treeUp linked.rink.spares = none ∧
    (let u := up.setReg Reg.rnkDev 2
     u.isMaster = false ∧ u.masterAway = true ∧ u.pairsOn = false ∧ u.rink.awayTold = false ∧
     (linked.setReg Reg.rnkDev 2).masterAway = true ∧ up.masterAway = false) := by decide +kernel

theorem test_hyp_align :
    let s := { linked.setReg Reg.rnkDev 2 with rink := { linked.rink with routes := [(0, 2)] } }
    s.rinkLive = true ∧ s.linkUp 2 = true ∧ s.isEnum = true ∧ s.isMaster = false ∧ s.inTree 2 = true ∧ s.masterPort = some 2 ∧
    linked.isMaster = true := by decide +kernel

theorem test_hyp_start_gate :
    let j := { job1 with state := .queued, bindings := [], args := 0 }
    let s := queued id
    (s.gates[(4 : GateSlot)]).armed = true ∧ (s.gates[(4 : GateSlot)]).gate.toNat ≤ s.gate.toNat ∧ s.gateHolds j = false ∧
    s.jobs.find? (fun j => j.ctx == (s.gates[(4 : GateSlot)]).ctx && j.model == (s.gates[(4 : GateSlot)]).model && j.state == .queued) =
      some j ∧ s.lodge.inReset = false ∧ s.ctxRuns 0 = true ∧ s.frozenIn 0 j.args.toNat 8 = none ∧
    (s.readVa 0 j.args.toNat 8).isOk = true ∧ image0.counters.length ≤ s.freePlaces.length ∧
    s.gate.toNat < (5 : W64).toNat ∧ (s.gates[(5 : GateSlot)]).armed = false := by decide +kernel

theorem test_hyp_cascade_abort :
    let s := { linked with models := [{ model0 with image := some (cascading 3) }], rink := { linked.rink with routes := [(3, 2)] } }
    s.off = false ∧ s.lodge.inReset = false ∧ s.cascadeJob (0, 0, 1) = none ∧ s.rink.aborted = [] ∧ s.toCome (0, 0, 1) = true ∧
    3 ∈ s.modelMembers 0 0 ∧ 3 ≠ s.devId ∧ s.rink.routes.find? (fun r => r.1 == 3) = some (3, 2) ∧ s.linkUp 2 = true ∧
    (let u := { s with jobs := [{ job1 with nModel := 1 }] }
     u.cascadeJob (0, 0, 1) = some { job1 with nModel := 1 } ∧ u.membersOf { job1 with nModel := 1 } = [3]) ∧
    (let u := { s with models := [{ model0 with jobsSinceReg := 1 }] }; u.toCome (0, 0, 1) = false) := by decide +kernel

theorem test_hyp_pairs :
    let s := { paired with gate := 8000000 }
    (s.rinkLive = true ∧ s.pairsOn = true ∧ s.flag Reg.rnkPairCtrl 1 = false ∧ s.rink.dropped = false ∧ s.power.stopped = false) ∧
    s.rink.heartbeatAt.toNat + s.fld Reg.rnkPairCtrl 11 8 * 1000000 ≤ s.gate.toNat ∧
    ¬ (paired.rink.heartbeatAt.toNat + paired.fld Reg.rnkPairCtrl 11 8 * 1000000 ≤ paired.gate.toNat) ∧ s.isPrimary = true ∧
    (s.setReg Reg.rnkPairStatus 1).isPrimary = false ∧ (9 : BitVec 12).toNat = s.partner ∧ linked.pairsOn = false ∧
    2 ∈ s.partnerPorts ∧ s.toPartner 2 = true ∧ (paired.setReg Reg.rnkPairCtrl 0x90803).flag Reg.rnkPairCtrl 1 = true ∧
    (let u := { (s.setReg Reg.rnkDev 2) with rink := { s.rink with masterId := 9, routes := [(9, 2)] } }
     u.isEnum = true ∧ u.isMaster = false ∧ u.partner = u.rink.masterId.toNat ∧ u.reaches 9 = true) := by decide +kernel

/-! ## The Lodge, power, errors -/

/-- A board with the time base running, all controllers trained, and one rank of 16 Gb on each channel. -/
def boardInputs : BootInputs :=
  ⟨true, false, true, List.replicate 8 (some 2), List.replicate 32 (16, false), none, [], [], none⟩

/-- Power is good and the board's inputs are known. -/
def powered : State := { up with board := { up.board with inputs := some boardInputs } }

theorem test_hyp_boot :
    pulseResets .short = false ∧ pulseResets (.between true) = true ∧ State.reset.board.porLow = true ∧ up.board.porLow = false ∧
    boardInputs.tbRunning = true ∧ boardInputs.early = [] ∧ boardInputs.earlyEnum = none ∧
    ({ boardInputs with tbRunning := false } : BootInputs).tbRunning = false ∧
    (let s := powered.setReg Reg.ldgBootStatus 5
     s.board.inputs = some boardInputs ∧ s.board.porLow = false ∧ s.power.stopped = false ∧ BootFailed s ∧ s.patrolState ≠ 1 ∧
       (s.setReg Reg.ldgPatrolStatus 1).patrolState = 1 ∧ BootFailed (s.setReg Reg.ldgPatrolStatus 1)) ∧
    (powered.setReg Reg.ldgPatrolStatus 2).patrolState = 2 := by
  unfold BootFailed
  decide +kernel

theorem test_hyp_patrol :
    let s := { up with gate := 50000000 }
    s.lodge.inReset = false ∧ State.reset.lodge.inReset = true ∧ s.power.stopped = false ∧
    s.lodge.patrolBeat.toNat + 50000000 ≤ s.gate.toNat ∧ up.gate.toNat < up.lodge.patrolBeat.toNat + 50000000 ∧
    s.lodge.resets.countP (fun g => decide (s.gate.toNat ≤ g.toNat + 600000000000)) < 3 ∧
    (let u := { s with lodge := { s.lodge with resets := [1, 2, 3] } }
     3 ≤ u.lodge.resets.countP (fun g => decide (u.gate.toNat ≤ g.toNat + 600000000000))) ∧
    (s.setReg Reg.ldgPatrolStatus 1).patrolState = 1 ∧ s.patrolState ≠ 1 := by decide +kernel

theorem test_hyp_patrol_jobs :
    (∀ j ∈ claiming.jobs, claiming.membersOf j = []) ∧ claiming.hasLaunched job1 = true ∧ job1 ∈ claiming.jobs := by decide +kernel

theorem test_hyp_flash :
    let s := up.setReg Reg.hifHandshake 4
    (let u := { s with gate := 600000000000, lodge := { s.lodge with running600 := some 0, advance := 1 } }
     u.lodge.inReset = false ∧ u.lodge.running600 = some 0 ∧ u.hifState = 4 ∧ (0 : W64).toNat + 600000000000 ≤ u.gate.toNat ∧
     u.lodge.rollback < min 64 u.lodge.advance ∧ min 64 0 ≤ u.lodge.rollback) ∧
    (up.hifState ≠ 2 ∧ up.hifState ≠ 4) ∧ (s.setReg Reg.ldgFlashStatus 0x100).flag Reg.ldgFlashStatus 8 = true ∧
    s.flag Reg.ldgFlashStatus 8 = false ∧ s.flashRefused 0x10000 0x1000 0 = false ∧
    s.flashRefused 0x10000 0x1000 0xFFFFFFFFFFFFF000 = true ∧ (overlaps 0 0x20000 0 260 && overlaps 0 0x20000 0x10000 260) = true ∧
    overlaps 0x40000 4096 0x41000 4096 = false ∧ overlaps 0x40000 8192 0x41000 4096 = true := by decide +kernel

theorem test_hyp_log :
    (let s := { up with lodge := { up.lodge with flashPending := some (3, 0x10000, 4096, 0) } }
     s.lodge.flashPending = some (3, 0x10000, 4096, 0)) ∧
    (let t : TracePoint := ⟨5, 2, 1, 0x40, 9, 1⟩
     let s := { up with lodge := { up.lodge with traces := [t] } }
     s.lodge.traces = t :: [] ∧ s.plainDram 0 (32 * s.traceSlots) = true ∧ s.plainDram (2 ^ 50) (32 * s.traceSlots) = false) ∧
    (let s := { up with lodge := { up.lodge with overruns := up.lodge.overruns.set 2 1 } }
     s.lodge.overruns[(2 : ClusterId)] ≠ 0) := by decide +kernel

/-- The last estimates of the power were w mW, and the core voltage is v. -/
def drawing (w v : Nat) : State := { up with power := { up.power with estimates := List.replicate 60 w, vddCore := v } }

/-- R354's three steps, and none. -/
theorem test_hyp_voltage :
    let cap := 1000 * up.power.effectiveCap
    let b := fun w => (drawing w 700).power.estimates
    cap * ((b (cap + 1)).drop 10).length < ((b (cap + 1)).drop 10).sum ∧ 97 * cap * (b cap).length < 100 * (b cap).sum ∧
    ¬ cap * ((b cap).drop 10).length < ((b cap).drop 10).sum ∧ (drawing (cap + 1) 700).nextVdd = 690 ∧ (drawing cap 700).nextVdd = 695 ∧
    (drawing 1 700).nextVdd = 705 ∧ 700 < (drawing 1 700).vddCeiling ∧ (drawing 1 700).power.hotThrottle = false ∧
    (drawing (cap * 95 / 100) 700).nextVdd = 700 ∧
    (drawing 1 700).power.vddSram ≠ max 750 (drawing 1 700).nextVdd := by decide +kernel

theorem test_hyp_power :
    up.board.porLow = false ∧ up.power.stopped = false ∧ up.off = false ∧ up.lodge.inReset = false ∧
    up.power.silent = ⟨false, false⟩ ∧ up.power.tripped = false ∧
    State.reset.lodge.inReset = true ∧ ({ up.power with tripped := true } : Power).tripped = true ∧ State.reset.off = true ∧
    ({ up.power with silent := ⟨true, false⟩ } : Power).silent.core = true ∧
    up.board.bootWaits = false ∧ State.reset.board.porLow = true ∧
    (let s := { powered with board := { powered.board with bootWaits := true } }
     s.board.inputs = some boardInputs ∧ s.board.bootWaits = true ∧ s.off = false) := by decide +kernel

/-- Sensor 0 of the last sample and of this one read 115 °C; in the samples that follow none did before, or another. -/
theorem test_hyp_heat :
    (hotSensors [⟨1150, true⟩]).any [0].contains = true ∧ ¬ ((hotSensors [⟨1149, true⟩]).any [0].contains = true) ∧
    ¬ ((hotSensors [⟨1149, true⟩, ⟨1200, true⟩]).any [0].contains = true) ∧
    hotFigure [⟨1000, true⟩] = 1000 ∧ hotFigure [⟨999, true⟩, ⟨1200, false⟩] < 1000 ∧
    650 < (drawing 1 700).power.vddCore ∧ (drawing 1 700).power.silent = ⟨false, false⟩ := by decide +kernel

theorem test_hyp_errors :
    let r : Report := { mkReport up 3 1 0x402 1 with addr := 64 }
    (lookupD 0 ({ up with deltas := [(Reg.stoAccumCount 9, 4)] } : State).deltas (Reg.stoAccumCount 9) ≠ 0 ∧
      regWidth (Reg.stoAccumCount 9) ≤ 64 ∧ lookupD 0 up.deltas (Reg.stoAccumCount 9) = 0 ∧ canonical 0 up.deltas = true) ∧
    up.off = false ∧ State.reset.off = true ∧
    (up.nextReport = none ∧ (let s := { up.setReg Reg.errRecMask 8 with reports := [r] }
     s.nextReport = some r ∧ 1 ≤ r.cls ∧ r.cls < 16 ∧ s.flag Reg.errRecMask r.cls = true ∧ (reportParts r).length ≤ s.ringFree ∧
     r ∈ s.reports ∧ s.flag Reg.errFirstValid r.cls = false ∧ (s.setReg Reg.errFirstValid 8).flag Reg.errFirstValid r.cls = true ∧
     (s.setReg Reg.errWptr 1024).ringFree < (reportParts r).length)) ∧
    (let s := { up.setReg Reg.errRecMask 0 with reports := [r] }
     s.nextReport = some r ∧ s.flag Reg.errRecMask r.cls = false) ∧
    ((up.reg Reg.errRptr).toNat ≤ (0 : W64).toNat ∧ (0 : W64).toNat ≤ (up.reg Reg.errWptr).toNat ∧
      ¬ (1 : W64).toNat ≤ (up.reg Reg.errWptr).toNat) := by decide +kernel

theorem test_hyp_steps :
    ({ up with pending := [.patrolHeartbeat] } : State).pending = .patrolHeartbeat :: [] ∧ up.pending = [] ∧
    Memory.wf up.mem = true := by decide

/-! ## Values that the specification works out itself -/

/-- The largest magnitude 3.7 of a group, E4M3 with an E8M0 scale: code 120 by rule 0, 121 by rule 1, and the codes of 3.7 and
1.0 under each (the worked example of R33). -/
theorem test_e8m0_scale_of_a_group :
    deriveE8M0 4 false (.fin false 37 10) = 120 ∧ deriveE8M0 4 true (.fin false 37 10) = 121 ∧
    (convert 4 false 0 none (.fin false 4736 10)).1 = 0x7E ∧ (convert 4 false 0 none (.fin false 128 1)).1 = 0x70 ∧
    (convert 4 false 0 none (.fin false 2368 10)).1 = 0x77 ∧ (convert 4 false 0 none (.fin false 64 1)).1 = 0x68 := by
  decide +kernel

/-- The same group to S8 with a BF16 scale: the scale rounds up to 0x3CEF (R34's worked example). -/
theorem test_bf16_scale_of_a_group : deriveBF16 1 (.fin false 37 10) = 0x3CEF := by decide +kernel

/-- 1.03 to E4M3: 0x39 when the draw is below 4,026,531, else 0x38 (R40's worked example). -/
theorem test_stochastic_neighbours :
    (convert 4 false 0 (some 4026530) (.fin false 103 100)).1 = 0x39 ∧
    (convert 4 false 0 (some 4026531) (.fin false 103 100)).1 = 0x38 := by decide +kernel

/-- Guard overflow in the middle of a sum: after pass 5 w is 1, after pass 6 it is 0 again (R54's worked example). -/
theorem test_guard_overflow_comes_back :
    accAdd 549722259968 0 137430564992 = (-412358802816, 1) ∧
    accAdd (-412358802816) 1 (-137430564992) = (549722259968, 0) := by decide +kernel

/-- DIV at W = 16, signed: MIN by −1 wraps or saturates, a zero divisor gives MIN (R73's table). -/
theorem test_div_edges :
    (IntForm.divRem ⟨16, true, false⟩ false 0x8000 0xFFFF) = (0xFFFF8000, { iwrap := true }) ∧
    (IntForm.divRem ⟨16, true, true⟩ false 0x8000 0xFFFF) = (0x7FFF, { isat := true }) ∧
    (IntForm.divRem ⟨16, true, false⟩ false 0xFFFB 0) = (0xFFFF8000, { divz := true }) ∧
    (IntForm.divRem ⟨16, true, false⟩ false 7 0xFFFE).1 = 0xFFFFFFFD ∧
    (IntForm.divRem ⟨16, true, false⟩ true 7 0xFFFE).1 = 1 := by decide +kernel

/-- SRAR at W = 16: −6 by 2 is −2, ties to even; every count of 16 or more gives 0 (R74's table). -/
theorem test_srar_ties_and_large_counts :
    IntForm.srar ⟨16, true, false⟩ 0xFFFA 2 = 0xFFFFFFFE ∧ IntForm.srar ⟨16, true, false⟩ 0x8000 16 = 0 ∧
    IntForm.srar ⟨16, true, false⟩ 12 0xFFFFFFFF = 0 := by decide +kernel

/-- EXP(89.0) is +∞ and sets FOVF (R79). -/
theorem test_exp_overflows : special xExp 0x42B20000 = (0x7F800000, { fovf := true }) := by decide +kernel

/-- ADDI g5, g4, −512 is the word 0x1102_9000_FFFF_FE00 (the worked example of the Milac encoding). -/
theorem test_addi_word :
    word 5 4 0 0 0xFFFFFE00 = 0x029000FFFFFE00 ∧ fD 0x029000FFFFFE00 = 5 ∧ fA 0x029000FFFFFE00 = 4 := by decide +kernel

/-- A BR with PN 1 and PP 3 goes nowhere when p3 holds, and 6 words back when it does not. -/
theorem test_br_guard_not_p3 :
    let w : BitVec 56 := 0xB00000FFFFFFFA
    guardTrue { (runs 0 id).core 0 with p := 8 } w = false ∧
    guardTrue ((runs 0 id).core 0) w = true := by decide +kernel

/-- C = 0b0110 of PLOG is XOR: the bit that the two predicates name. -/
theorem test_plog_xor : (List.range 4).map (fun i => (0x0600000000 : BitVec 56).getLsbD (32 + i)) = [false, true, true, false] := by
  decide +kernel

/-- The walk of VA 0x0C12_3456_789A: entries at ROOT + 24, + 1,160 and + 41,648; the level-3 entry 0x0000_0008_7A00_0013 gives
0x8_7A00_789A, and a level-2 entry 0x0000_0008_6000_0013 gives 0x8_7456_789A (the worked example of R197). -/
def walkState (e2 : W64) : State :=
  let base := { up with board := { up.board with features := up.board.features.set 5 61440 } }.setReg
    Reg.ldgXltRegionSize 64
  ((base.wr (0x100000 + 24) (leBytes 8 0x200001)).wr (0x200000 + 1160) (leBytes 8 e2.toNat)).wr (0x300000 + 41648)
    (leBytes 8 0x87A000013)

theorem test_walk_three_levels :
    (walkState 0x300001).walk 0x100000 0x0C123456789A true = .ok (.dev 0x87A00789A) := by decide +kernel

theorem test_walk_large_page :
    (walkState 0x860000013).walk 0x100000 0x0C123456789A true = .ok (.dev 0x87456789A) := by decide +kernel

/-- CAM_POC_CTRL of port 7 lies at 0x107_0000 and resets to 0x3190_A1E0; VXE_CLIP_COUNT of core 5 lies at 0x1A8_2008; the words
of ring slot 903 begin at 0x1D0_F0E0 (the worked example of R398). -/
theorem test_register_addresses :
    regReset 0x1070000 = 0x3190A1E0 ∧ Reg.vxeClipCount 5 = 0x1A82008 ∧ Reg.errRing 3612 = 0x1D0F0E0 := by decide +kernel

/-- 3840 to 1280: boxes of 2 samples, and output pixel 1 centred at 1.75, which is phase 48 from averaged sample −1 on (R267's
worked example). -/
theorem test_scaler_centre :
    boxSize 3840 1280 = 2 ∧ centre 3840 1280 2 1 = 114688 ∧ 114688 % 65536 / 1024 = 48 := by decide +kernel

/-- The late frame: the gate is ready at 31.072 ms, 1,920,000 steps done of 3,300,000; the job switches (R215's worked example,
in ns from the slot fill). -/
theorem test_late_frame_switches :
    switches 31072000 28000000 3300000 1380000 500000 0 26 33330000 = true ∧
    switches 31072000 28000000 3300000 1380000 500000 0 26 33505000 = false := by decide +kernel

/-- Four symbols with lengths: their codewords, and the payload bits 0101111110 that decode to 0x11 0x21 0 0 0 0xF1 (the worked
example of R166). -/
theorem test_coded_chunk_start :
    let lens := (List.range 271).map (fun i =>
      if i = 0x11 then 1 else if i = 0x21 then 2 else if i = 0xF1 ∨ i = 256 then 3 else 0)
    assignCodes lens = (65536, [(1, 0, 0x11), (2, 2, 0x21), (3, 6, 0xF1), (3, 7, 256)]) ∧
    (decodePayload (assignCodes lens).2 [false, true, false, true, true, true, true, true, true, false] 6 0 0 none []).map
      List.reverse = some [0x11, 0x21, 0, 0, 0, 0xF1] := by decide +kernel

end Sys2Proof.Tests
end

/-! PROOF. The state right after reset, unit by unit. -/

namespace Sys2Proof.Machine

/-! ## What reads find after reset -/

/-- No register is listed after reset, so each reads its reset value. -/
@[simp] theorem State.reg_reset (off : Nat) : State.reset.reg off = regReset off := rfl

/-- No byte of memory is listed after reset. -/
@[simp] theorem State.byteAt_reset (a : Nat) : State.reset.byteAt a = 0 := rfl

/-- Every core is at rest after reset. -/
@[simp] theorem State.core_reset (k : CoreId) : State.reset.core k = Core.reset := by
  simp [State.core, State.reset]

/-- The queues of a core at rest are empty. -/
@[simp] theorem Core.queue_reset (q : QueueId) : Core.reset.queue q = [] := by
  simp [Core.queue, Core.reset]

/-- No tile counter is bound after reset. -/
@[simp] theorem State.counters_reset (p : CounterId) : State.reset.counters[p] = none := by
  simp [State.reset]

/-- No destination has a standing binding after reset. -/
@[simp] theorem State.standing_reset (d : DestId) : State.reset.standing[d] = none := by
  simp [State.reset]

/-! ## Reset values of the register map -/

/-- The halt status of every core resets to 0 (R118). -/
theorem regReset_ccHaltStatus (k : CoreId) : regReset (Reg.ccHaltStatus k) = 0 := by
  revert k
  decide

/-- The tile charge of every core resets to 0 (R144). -/
theorem regReset_ccTileCharge (k : CoreId) : regReset (Reg.ccTileCharge k) = 0 := by
  revert k
  decide

/-- HIF_HANDSHAKE resets to STATE RESET (R225). -/
theorem State.hifState_reset : State.reset.hifState = 0 := by decide

/-- HIF_RING_CTRL resets with the ring disabled (R225). -/
theorem State.ringOn_reset : State.reset.ringOn = false := by decide

end Sys2Proof.Machine

namespace Sys2Proof

open Machine

/-- Settles O2: the lists and the board by the definition of the state, cores, counters and destinations one by one, and
registers by the register map. -/
theorem resetState : Obligations.ResetState := by
  refine ⟨rfl, rfl, rfl, rfl, State.hifState_reset, State.ringOn_reset, rfl, rfl, rfl, rfl, rfl, State.counters_reset,
    State.standing_reset, fun k => ?_, State.reg_reset, State.byteAt_reset⟩
  rw [State.core_reset, State.reg_reset, State.reg_reset]
  exact ⟨rfl, rfl, rfl, Core.queue_reset, regReset_ccHaltStatus k, regReset_ccTileCharge k⟩

end Sys2Proof

/-! PROOF. BAR2 where no interleave group is live: usable DRAM, which decides what BAR2 reaches, and the live groups, which
decide where a request goes, are two facts of the state. -/

namespace Sys2Proof.Machine

/-- What a BAR2 access runs. -/
theorem exec_bar2Access (write : Bool) (offset : Nat) (bytes : List Byte) (s : State) :
    exec (.bar2Access write offset bytes) s = execBar2Access write offset bytes s := rfl

/-! ## No live group -/

section NoLiveGroup

variable {s : State} (hg : s.liveGroups = [])
include hg

/-- With no live group no address lies in a controller. -/
theorem State.dramAt_of_noLiveGroup (a : Nat) : s.dramAt a = none := by
  simp [State.dramAt, hg]

/-- With no live group no address lies behind a frozen controller. -/
theorem State.frozenAt_of_noLiveGroup (a : Nat) : s.frozenAt a = false := by
  simp [State.frozenAt, State.dramAt_of_noLiveGroup hg]

/-- With no live group BAR2 reaches what lies below the codec region. -/
theorem State.bar2Reaches_of_noLiveGroup (a : Nat) : s.bar2Reaches a = s.plainDram a 1 := by
  simp [State.bar2Reaches, State.frozenAt_of_noLiveGroup hg]

/-- With no live group no request of an access goes anywhere. -/
theorem State.bar2Send_of_noLiveGroup (write : Bool) (a : Nat) (bytes : List Byte) : s.bar2Send write a bytes = s :=
  List.foldl_fixed' (fun p => by simp [State.dramAt_of_noLiveGroup hg]) _

/-- With no live group no frozen controller counts an access. -/
theorem State.countFrozen_of_noLiveGroup (a n : Nat) : s.countFrozen a n = s :=
  List.foldl_fixed' (fun i => by simp [State.dramAt_of_noLiveGroup hg]) _

/-- With no live group a write of bytes that BAR2 reaches is lost, and is not counted as dropped. -/
theorem exec_bar2Write_of_noLiveGroup (offset : Nat) (bytes : List Byte) (hr : s.hostReaches = true)
    (hw : offset + bytes.length ≤ 2 ^ s.board.bar2Log2)
    (hb : ∀ i < bytes.length, s.bar2Reaches (s.bar2Addr offset + i) = true) :
    exec (.bar2Access true offset bytes) s = .next s := by
  have hlost : (List.range bytes.length).any (fun i => !s.bar2Reaches (s.bar2Addr offset + i)) = false := by
    simpa using hb
  simp [exec_bar2Access, execBar2Access, ok, hr, hw, hlost, State.bar2Send_of_noLiveGroup hg, State.countFrozen_of_noLiveGroup hg]

end NoLiveGroup

/-! ## The state that refutes -/

/-- A powered device with its host on the link, controller 0 FAILED and all eight in one interleave group, whose usable DRAM
still reads 7,680 MiB as at reset. -/
def failedGroup : State := { State.reset with
  regs := [(Reg.dmcStatus 0, 3)]
  board := { State.reset.board with porLow := false }
  host := { State.reset.host with perst := false, answering := true }
  lodge := { State.reset.lodge with inReset := false } }

/-- The only group holds a failed controller. -/
theorem failedGroup_liveGroups : failedGroup.liveGroups = [] := by decide

/-- The window starts at address 0. -/
theorem failedGroup_bar2Addr : failedGroup.bar2Addr 0 = 0 := by decide

/-- BAR2 reaches address 0: it lies in usable DRAM, below the Lodge region. -/
theorem failedGroup_bar2Reaches : failedGroup.bar2Reaches 0 = true := by
  rw [State.bar2Reaches_of_noLiveGroup failedGroup_liveGroups]
  decide

/-- No request waits at any controller. -/
theorem failedGroup_input (d : DmcId) : failedGroup.dmc[d].input = [] := by
  simp [failedGroup, State.reset, Dmc.reset]

/-- A byte written to the start of the window leaves the state as it is. -/
theorem failedGroup_bar2Write (b : Byte) : exec (.bar2Access true 0 [b]) failedGroup = .next failedGroup :=
  exec_bar2Write_of_noLiveGroup failedGroup_liveGroups 0 [b] rfl (show 1 ≤ 2 ^ 28 by decide)
    (fun i hi => by
      obtain rfl : i = 0 := by simpa using hi
      rw [failedGroup_bar2Addr]
      exact failedGroup_bar2Reaches)

end Sys2Proof.Machine

namespace Sys2Proof

open Machine

/-- Refutes O44: its last clause says of every state that a byte which BAR2 reaches is written or waits at a controller, where
no request waited before. In `failedGroup` BAR2 reaches address 0, which lies in usable DRAM behind no frozen controller, but
no interleave group is live, so no controller takes the write: a 1 written there is neither in memory nor at any input.
Training (R294) makes usable DRAM 0 where every group is lost; the clause assumes no such agreement of the two. -/
theorem not_registerAndWindowAccess : ¬ Obligations.RegisterAndWindowAccess := by
  rintro ⟨-, -, -, -, -, window⟩
  obtain ⟨⟨u, hu, -, -, written⟩, -⟩ := window failedGroup 0 [1] rfl (by decide)
  obtain rfl : failedGroup = u := by simpa [failedGroup_bar2Write] using hu
  obtain ⟨reached, -⟩ := written failedGroup_input 0
  rw [failedGroup_bar2Addr] at reached
  rcases reached ⟨le_rfl, by decide, failedGroup_bar2Reaches⟩ with inMemory | ⟨d, q, waits, -⟩
  · exact absurd inMemory (by decide)
  · rw [failedGroup_input] at waits
    exact absurd waits List.not_mem_nil

end Sys2Proof

/-! PROOF. What a write of the device towards memory or the host may touch: memory, the controllers that initialise or hold it, the
registers that follow them, fences, and what reports a write that cannot be made. -/

namespace Sys2Proof.Machine

/-- The registers that such a write may move: initialisation marks, and the counts of writes and reports that are lost. -/
def writeRegs : List Nat :=
  initRegs ++ [Reg.hifFenceDropCount, Reg.hifRecordDropCount, Reg.errLostCount] ++ (List.range 16).map Reg.errClassCount

/-- A write towards memory or the host has been made, held, or given up. -/
structure Wrote (s u : State) : Prop where
  rest : u = { s with regs := u.regs, mem := u.mem, hostMem := u.hostMem, fences := u.fences, raises := u.raises,
                      heldWrites := u.heldWrites, dmc := u.dmc, reports := u.reports, reservedUsed := u.reservedUsed }
  regs : SameRegs writeRegs s u

theorem Wrote.refl (s : State) : Wrote s s := ⟨rfl, fun _ _ => rfl⟩

theorem Wrote.trans {s t u : State} (h : Wrote s t) (k : Wrote t u) : Wrote s u where
  rest := k.rest.trans (by rw [h.rest])
  regs o ho := (k.regs o ho).trans (h.regs o ho)

theorem Wrote.ringWork {s u : State} (h : Wrote s u) : u.ringWork = s.ringWork := by rw [h.rest]
theorem Wrote.ringIds {s u : State} (h : Wrote s u) : u.ringIds = s.ringIds := by rw [h.rest]
theorem Wrote.host {s u : State} (h : Wrote s u) : u.host = s.host := by rw [h.rest]

/-- Writes one after another. -/
theorem Wrote.foldl {α : Type} {f : State → α → State} (h : ∀ s x, Wrote s (f s x)) (l : List α) (s : State) :
    Wrote s (l.foldl f s) :=
  List.foldlRecOn (motive := Wrote s) l f (.refl s) (fun _ ht x _ => ht.trans (h _ x))

/-! ## Registers -/

theorem dmcInitMark_mem_writeRegs (d : DmcId) : Reg.dmcInitMark d.val ∈ writeRegs := by
  revert d; decide

theorem dmcStatus_mem_writeRegs (d : DmcId) : Reg.dmcStatus d.val ∈ writeRegs := by
  revert d; decide

theorem errClassCount_mem_writeRegs {c : Nat} (hc : c < 16) : Reg.errClassCount c ∈ writeRegs :=
  List.mem_append_right _ (List.mem_map_of_mem (List.mem_range.2 hc))

theorem Wrote.setReg (s : State) {o : Nat} (ho : o ∈ writeRegs) (v : W64) : Wrote s (s.setReg o v) where
  rest := rfl
  regs p hp := State.reg_setReg_ne s o p v (fun e => hp (e ▸ ho))

/-! ## Memory -/

theorem Wrote.wr (s : State) (a : Nat) (bs : List Byte) : Wrote s (s.wr a bs) := ⟨rfl, fun _ _ => rfl⟩

theorem Wrote.hostWr (s : State) (a : Nat) (bs : List Byte) : Wrote s (s.hostWr a bs) := ⟨rfl, fun _ _ => rfl⟩

theorem Wrote.hostPost (s : State) (a : Nat) (bs : List Byte) : Wrote s (s.hostPost a bs) := by
  unfold State.hostPost
  split
  · exact .hostWr s a bs
  · exact .refl s

theorem Wrote.setDmc (s : State) (d : DmcId) (x : Dmc) : Wrote s (s.setDmc d x) := ⟨rfl, fun _ _ => rfl⟩

theorem Wrote.initialise (s : State) (d : DmcId) (block : Nat) : Wrote s (s.initialise d block) := by
  unfold State.initialise
  have mark := fun x v => (Wrote.setDmc s d x).trans (.setReg _ (dmcInitMark_mem_writeRegs d) v)
  split
  · exact .refl s
  · dsimp only
    split
    · exact (mark _ _).trans (.setReg _ (dmcStatus_mem_writeRegs d) _)
    · exact mark _ _

theorem Wrote.initRange (s : State) (a n : Nat) : Wrote s (s.initRange a n) := by
  unfold State.initRange
  split
  · exact .refl s
  · refine .foldl (fun t i => ?_) _ s
    split
    · exact .initialise t _ _
    · exact .refl t

theorem Wrote.put (s : State) (a : Nat) (bs : List Byte) : Wrote s (s.put a bs) := (Wrote.wr s a bs).trans (.initRange _ _ _)

theorem Wrote.post (s : State) (c : CtxId) (pa : Nat) (bs : List Byte) : Wrote s (s.post c pa bs) := by
  unfold State.post
  split
  · exact .put s pa bs
  · split
    · split
      · exact ⟨rfl, fun _ _ => rfl⟩
      · exact .put s pa bs
    · exact .put s pa bs

theorem Wrote.vwrite (c : CtxId) (n va : Nat) (bs : List Byte) (s : State) {t : State} (h : s.vwrite c n va bs = .ok t) :
    Wrote s t := by
  induction n generalizing va bs s with
  | zero =>
    obtain rfl : s = t := by simpa [State.vwrite] using h
    exact .refl s
  | succ n ih =>
    unfold State.vwrite at h
    split at h
    · obtain rfl : s = t := by simpa using h
      exact .refl s
    · dsimp only at h
      split at h
      · cases h
      · refine Wrote.trans ?_ (ih _ _ _ h)
        split
        · exact .post s c _ _
        · exact .hostWr s _ _
        · exact .wr s _ _

theorem Wrote.writeVa {s t : State} {c : CtxId} {va : Nat} {bs : List Byte} (h : s.writeVa c va bs = .ok t) : Wrote s t :=
  .vwrite c _ va bs s h

/-! ## Reports, fences, records -/

theorem Wrote.report (s : State) {r : Report} (hr : r.cls < 16) : Wrote s (s.report r) := by
  unfold State.report
  dsimp only
  split
  · exact ⟨rfl, fun _ _ => rfl⟩
  · split
    · exact (Wrote.setReg s (errClassCount_mem_writeRegs hr) _).trans (.setReg _ (by decide) _)
    · exact ⟨rfl, fun _ _ => rfl⟩

theorem Wrote.dropFence (s : State) (f : Fence) : Wrote s (s.dropFence f) :=
  (Wrote.setReg s (by decide) _).trans (.report _ (by decide : (8 : Nat) < 16))

theorem Wrote.putFence (s : State) (f : Fence) (v : W64) : Wrote s (s.putFence f v) := by
  unfold State.putFence
  split
  · split
    · exact .hostWr s _ _
    · exact .dropFence s f
  · split
    · exact ⟨rfl, fun _ _ => rfl⟩
    · split
      · next h => exact .writeVa h
      · exact .dropFence s f

theorem Wrote.raise (s : State) (i : Nat) (v : W64) : Wrote s (s.raise i v) := by
  unfold State.raise
  split
  · exact .refl s
  · split
    · exact (Wrote.putFence s _ v).trans ⟨rfl, fun _ _ => rfl⟩
    · exact .refl s

theorem Wrote.setRaises (s : State) (l : List Raise) : Wrote s { s with raises := l } := ⟨rfl, fun _ _ => rfl⟩

theorem Wrote.flushFence (s : State) (i : Nat) : Wrote s (s.flushFence i) := by
  unfold State.flushFence
  dsimp only
  split
  · exact (Wrote.setRaises s _).trans (.raise _ i _)
  · exact .setRaises s _

theorem Wrote.putRecord (s : State) (c : CtxId) (va : Nat) (bs : List Byte) : Wrote s (s.putRecord c va bs) := by
  unfold State.putRecord
  split
  · next h => exact .writeVa h
  · exact .setReg s (by decide) _

theorem Wrote.startRecord (s : State) (h : HeldWrite) : Wrote s (s.startRecord h) := by
  unfold State.startRecord
  split
  · exact ⟨rfl, fun _ _ => rfl⟩
  · exact .putRecord s _ _ _

theorem Wrote.writeCtx (s : State) (c : CtxId) : Wrote s (s.writeCtx c) := by
  unfold State.writeCtx
  split
  · split
    · exact .refl s
    · exact .hostPost s _ _
  · exact .refl s

/-- The state with another list of outstanding work. -/
def State.withWork (s : State) (l : List RingWork) : State := { s with ringWork := l }

/-- The end of a command's work, its work taken from the list (R229, R234). -/
theorem Wrote.workDone (s : State) (id : Nat) :
    Wrote (s.withWork (s.ringWork.filter (fun w => w.id != id))) (s.workDone id) := by
  unfold State.workDone
  dsimp only
  split
  · exact (Wrote.setRaises (s.withWork _) _).trans (.flushFence _ _)
  · exact .setRaises (s.withWork _) _

end Sys2Proof.Machine

/-! PROOF. What an admitted entry of the command ring does (R227–R230, R234, R238): it is answered and accounted for, and what the
device holds of contexts, models, jobs and bindings is what the command's own effect leaves. -/

namespace Sys2Proof.Machine

/-- What consuming an entry reads of the ring and the host is as before a command's effect, whose number has been given. -/
structure RingKept (s u : State) : Prop where
  work : u.ringWork = s.ringWork
  ids : u.ringIds = s.ringIds + 1
  host : u.host = s.host
  head : u.reg Reg.hifRingHead = s.reg Reg.hifRingHead
  size : u.reg Reg.hifRingSize = s.reg Reg.hifRingSize

/-- The effect of a command is given its number, and the next command will have the next. -/
abbrev State.numbered (s : State) : State := { s with ringIds := s.ringIds + 1 }

theorem RingKept.numbered (s : State) : RingKept s s.numbered := ⟨rfl, rfl, rfl, rfl, rfl⟩

/-- Registers, host memory and the sequence number are all that an answer touches. -/
theorem State.respond_frame (s : State) (result detail : Nat) (value : W32) :
    s.respond result detail value = { s with
      regs := (s.setFld Reg.hifRingHead 15 0 ((s.fld Reg.hifRingHead 15 0 + 1) % s.ringSize)).regs
      hostMem := (s.respond result detail value).hostMem
      host := { s.host with statusSeq := s.host.statusSeq + 1 } } := by
  unfold State.respond State.writeStatus State.hostPost
  dsimp only
  split <;> split <;> rfl

theorem State.respond_ringWork (s : State) (result detail : Nat) (value : W32) :
    (s.respond result detail value).ringWork = s.ringWork := by rw [s.respond_frame]
theorem State.respond_ringIds (s : State) (result detail : Nat) (value : W32) :
    (s.respond result detail value).ringIds = s.ringIds := by rw [s.respond_frame]

/-- An answer moves HEAD past the entry, and the status block follows (R227, R238). -/
theorem consumed_respond {s u : State} (k : RingKept s u) (result detail : Nat) (value : W32) :
    Consumed s (u.respond result detail value) := by
  have hregs := congrArg State.regs (u.respond_frame result detail value)
  have hhost := congrArg State.host (u.respond_frame result detail value)
  constructor
  · have hreg : (u.respond result detail value).reg Reg.hifRingHead =
        setField (s.reg Reg.hifRingHead) 15 0 ((s.fld Reg.hifRingHead 15 0 + 1) % s.ringSize) := by
      have hset : (u.respond result detail value).reg Reg.hifRingHead =
          (u.setFld Reg.hifRingHead 15 0 ((u.fld Reg.hifRingHead 15 0 + 1) % u.ringSize)).reg Reg.hifRingHead := by
        simp only [State.reg, hregs]
      rw [hset, State.setFld, State.reg_setReg_same]
      simp only [State.fld, State.ringSize, k.head, k.size]
    rw [State.fld, hreg]
    exact field_setField _ _ _ _ (by decide) (by decide)
  · rw [hhost]
    simp only [k.host]

/-- The list of outstanding work after a command: one that is complete is not outstanding (R229). -/
def workAfter (l : List RingWork) (w : RingWork) (complete : Bool) : List RingWork :=
  if complete then (l ++ [w]).filter (fun x => x.id != w.id) else l ++ [w]

theorem State.account_frame (s : State) (e : RingEntry) (id opcode arg : Nat) (ctx : Option CtxId)
    (tiles : List (CoreId × W32 × Nat × W64 × W32)) (complete : Bool) :
    Wrote (s.withWork (workAfter s.ringWork ⟨id, opcode, ctx, arg, tiles⟩ complete))
      (s.account e id opcode arg ctx tiles complete) := by
  unfold State.account
  cases complete with
  | true =>
    refine Wrote.trans ?_ (.workDone _ _)
    exact .setRaises (s.withWork _) _
  | false => exact .setRaises (s.withWork _) _

/-- Two commands' frames, one after the other. -/
theorem ringFrame_trans {s t u : State} (h : RingFrame s t) (k : RingFrame t u) : RingFrame s u :=
  Eq.trans k (by rw [show t = _ from h])

theorem ringFrame_respond (s : State) (result detail : Nat) (value : W32) : RingFrame s (s.respond result detail value) := by
  unfold RingFrame
  rw [s.respond_frame]

theorem ringFrame_account (s : State) (e : RingEntry) (id opcode arg : Nat) (ctx : Option CtxId)
    (tiles : List (CoreId × W32 × Nat × W64 × W32)) (complete : Bool) :
    RingFrame s (s.account e id opcode arg ctx tiles complete) := by
  have h := s.account_frame e id opcode arg ctx tiles complete
  generalize s.account e id opcode arg ctx tiles complete = u at h ⊢
  unfold RingFrame
  rw [h.rest]
  rfl

/-- An entry that is answered and accounted for is accepted. -/
theorem accepted_account {s u : State} (k : RingKept s u) (value : W32) (e : RingEntry) (opcode arg : Nat)
    (ctx : Option CtxId) (tiles : List (CoreId × W32 × Nat × W64 × W32)) (complete : Bool) :
    Accepted opcode arg ctx complete s ((u.respond 0 0 value).account e s.ringIds opcode arg ctx tiles complete) := by
  have frame := (u.respond 0 0 value).account_frame e s.ringIds opcode arg ctx tiles complete
  obtain ⟨head, status⟩ := consumed_respond k 0 0 value
  have hwork := frame.ringWork
  have hids := frame.ringIds
  have hhost := frame.host
  have hhead := frame.regs Reg.hifRingHead (by decide)
  generalize (u.respond 0 0 value).account e s.ringIds opcode arg ctx tiles complete = t at hwork hids hhost hhead ⊢
  replace hwork : t.ringWork = workAfter s.ringWork ⟨s.ringIds, opcode, ctx, arg, tiles⟩ complete := by
    rw [hwork, State.withWork, State.respond_ringWork, k.work]
  refine ⟨⟨?_, ?_⟩, ?_, ?_, ?_, ?_, ?_⟩
  · rw [State.fld, hhead]
    exact head
  · rw [hhost]
    exact status
  · rw [hids, ← k.ids]
    exact u.respond_ringIds 0 0 value
  · intro w hw hne
    cases complete <;> simp [hwork, workAfter, hw, hne]
  · intro w hw hnew
    rw [hwork] at hw
    cases complete with
    | true =>
      obtain ⟨hmem, hid⟩ := List.mem_filter.1 hw
      rcases List.mem_append.1 hmem with hold | hlast
      · exact absurd hold hnew
      · simp [List.mem_singleton.1 hlast] at hid
    | false =>
      rcases List.mem_append.1 hw with hold | hlast
      · exact absurd hold hnew
      · obtain rfl := List.mem_singleton.1 hlast
        exact ⟨rfl, rfl, rfl, rfl, rfl⟩
  · rintro rfl
    exact ⟨_, by rw [hwork]; exact List.mem_append_right _ List.mem_cons_self, rfl, rfl⟩
  · rintro rfl w hw
    rw [hwork] at hw
    simpa using (List.mem_filter.1 hw).2

/-- An admitted entry whose own checks pass takes its effect, and is answered and accounted for (R229, R230). -/
theorem consume_of_accept {opcode arg : Nat} {e : RingEntry} {scope : RingScope} {bad : List Nat}
    {body : State → Nat → RingAnswer} {s u : State} {value : W32} {complete : Bool} (ha : Admitted opcode e scope bad s)
    (hb : body s.numbered s.ringIds = .accept u value complete) :
    consume opcode e scope bad arg body s = (u.respond 0 0 value).account e s.ringIds opcode arg
      (if scope = .device then none else some (RingEntry.ctx e)) (u.tilesOf (RingEntry.ctx e)) complete := by
  obtain ⟨ready, running, fields, context, fence⟩ := ha
  have hrun : ¬ (s.hifState = 3 ∧ opcode ≠ 1 ∧ opcode ≠ 2) := by omega
  have hfence : (RingEntry.fen e && !s.fenceUsable e scope (opcode == 0x12)) = false := by
    cases hf : RingEntry.fen e with
    | false => rfl
    | true => simp [fence hf]
  unfold consume
  rw [if_neg (by simp [ready]), if_neg hrun, fields]
  simp only [least, context, hfence, hb, Bool.false_eq_true, if_false]

/-- An admitted entry of a context is accepted, and of its effect only what answering touches has changed since. -/
theorem gives_of_accept {i : Instr} {opcode arg : Nat} {e : RingEntry} {bad : List Nat} {body : State → Nat → RingAnswer}
    {s u : State} {value : W32} {complete : Bool} {P : State → Prop}
    (hi : exec i s = ok (consume opcode e .context bad arg body s)) (ha : Admitted opcode e .context bad s)
    (hb : body s.numbered s.ringIds = .accept u value complete) (k : RingKept s u)
    (hp : ∀ t, Accepted opcode arg (some (RingEntry.ctx e)) complete s t → RingFrame u t → P t) : Gives i s P :=
  ⟨_, hi, by
    rw [consume_of_accept ha hb]
    exact hp _ (accepted_account k _ _ _ _ _ _ _) (ringFrame_trans (ringFrame_respond _ _ _ _) (ringFrame_account _ _ _ _ _ _ _ _))⟩

end Sys2Proof.Machine

/-! PROOF. What giving and taking residence may touch (R203, R207–R209): of a model its residence alone, and nothing of the
contexts, jobs and bindings. -/

namespace Sys2Proof.Machine

/-! ## Models by their numbers -/

theorem State.model?_congr {s u : State} (h : u.models = s.models) (c : CtxId) (n : ModelNo) : u.model? c n = s.model? c n := by
  simp only [State.model?, h]

/-- The model of a number is in the list, under that number. -/
theorem State.mem_of_model? {s : State} {c : CtxId} {n : ModelNo} {m : Model} (h : s.model? c n = some m) :
    m ∈ s.models ∧ m.ctx = c ∧ m.number = n :=
  ⟨List.mem_of_find?_eq_some h, by simpa using List.find?_some h⟩

/-- A model in the list is found under its number, it or one of the same number. -/
theorem State.model?_of_mem {s : State} {m : Model} (h : m ∈ s.models) : ∃ x, s.model? m.ctx m.number = some x := by
  refine Option.isSome_iff_exists.1 ?_
  simp only [State.model?, List.find?_isSome]
  exact ⟨m, h, by simp⟩

/-- What stands in the list after a model is replaced: it, or a model of another number. -/
theorem State.mem_setModel {s : State} {x z : Model} (h : z ∈ (s.setModel x).models) :
    z = x ∨ z ∈ s.models ∧ ¬ (z.ctx = x.ctx ∧ z.number = x.number) := by
  obtain ⟨y, hy, rfl⟩ := List.mem_map.1 h
  split
  · exact .inl rfl
  · next hne => exact .inr ⟨hy, hne⟩

/-- Replacing a model that is there puts it there. -/
theorem State.self_mem_setModel {s : State} {x m : Model} (hm : m ∈ s.models) (hc : m.ctx = x.ctx) (hn : m.number = x.number) :
    x ∈ (s.setModel x).models :=
  List.mem_map.2 ⟨m, hm, by simp [hc, hn]⟩

/-- The numbers of all models, in order. -/
def State.modelKeys (s : State) : List (CtxId × ModelNo) := s.models.map (fun m => (m.ctx, m.number))

@[simp] theorem State.modelKeys_setModel (s : State) (x : Model) : (s.setModel x).modelKeys = s.modelKeys := by
  simp only [State.modelKeys, State.setModel, List.map_map]
  refine List.map_congr_left (fun y _ => ?_)
  simp only [Function.comp]
  split
  · next h => simp [h.1, h.2]
  · rfl

/-- A number is in use as long as the numbers stay. -/
theorem State.model?_isSome_of_keys {s u : State} (h : u.modelKeys = s.modelKeys) {c : CtxId} {n : ModelNo} {m : Model}
    (hm : s.model? c n = some m) : ∃ x, u.model? c n = some x := by
  obtain ⟨hmem, rfl, rfl⟩ := State.mem_of_model? hm
  have hkey : (m.ctx, m.number) ∈ u.modelKeys := h ▸ List.mem_map_of_mem hmem
  obtain ⟨x, hx, he⟩ := List.mem_map.1 hkey
  simp only [Prod.mk.injEq] at he
  rw [← he.1, ← he.2]
  exact State.model?_of_mem hx

/-- A replaced model is found under its number. -/
theorem State.model?_setModel {s : State} {c : CtxId} {n : ModelNo} {m x : Model} (hm : s.model? c n = some m) (hc : x.ctx = c)
    (hn : x.number = n) : (s.setModel x).model? c n = some x := by
  obtain ⟨y, hy⟩ := State.model?_isSome_of_keys (State.modelKeys_setModel s x) hm
  obtain ⟨hmem, hyc, hyn⟩ := State.mem_of_model? hy
  rcases State.mem_setModel hmem with rfl | ⟨-, hne⟩
  · exact hy
  · exact absurd ⟨hyc.trans hc.symm, hyn.trans hn.symm⟩ hne

/-! ## Residence -/

/-- The registers that residence and the queueing of jobs may move. -/
def houseRegs : List Nat := [Reg.ldgLogHead, Reg.ldgResEvictCount, Reg.synSkipCount] ++ (List.range 16).map Reg.gtbSgCtrl

/-- Models, what is placed of them, the log, the start gates and what is counted of jobs are all that may differ. -/
structure Housed (s u : State) : Prop where
  rest : u = { s with regs := u.regs, uids := u.uids, cores := u.cores, epochTable := u.epochTable, models := u.models,
                      gates := u.gates, rink := u.rink, lodge := u.lodge }
  regs : SameRegs houseRegs s u

theorem Housed.refl (s : State) : Housed s s := ⟨rfl, fun _ _ => rfl⟩

theorem Housed.trans {s t u : State} (h : Housed s t) (k : Housed t u) : Housed s u where
  rest := k.rest.trans (by rw [h.rest])
  regs o ho := (k.regs o ho).trans (h.regs o ho)

section
variable {s u : State} (h : Housed s u)
include h

theorem Housed.mem : u.mem = s.mem := by rw [h.rest]
theorem Housed.jobs : u.jobs = s.jobs := by rw [h.rest]
theorem Housed.contexts : u.contexts = s.contexts := by rw [h.rest]
theorem Housed.standing : u.standing = s.standing := by rw [h.rest]
theorem Housed.withdrawn : u.withdrawn = s.withdrawn := by rw [h.rest]
theorem Housed.ringWork : u.ringWork = s.ringWork := by rw [h.rest]
theorem Housed.ringIds : u.ringIds = s.ringIds := by rw [h.rest]
theorem Housed.host : u.host = s.host := by rw [h.rest]

end

theorem Housed.setReg (s : State) {o : Nat} (ho : o ∈ houseRegs) (v : W64) : Housed s (s.setReg o v) where
  rest := rfl
  regs p hp := State.reg_setReg_ne s o p v (fun e => hp (e ▸ ho))

theorem Housed.setModel (s : State) (m : Model) : Housed s (s.setModel m) := ⟨rfl, fun _ _ => rfl⟩

theorem Housed.logEntry (s : State) (source level code : Nat) (args : List W64) : Housed s (s.logEntry source level code args) :=
  (Housed.setReg s (by decide) _).trans ⟨rfl, fun _ _ => rfl⟩

/-- A model as it was, but for its residence and its waiting for one. -/
def Model.Rehomed (m z : Model) : Prop := z = { m with residence := z.residence, waiting := z.waiting }

theorem Model.Rehomed.refl (m : Model) : m.Rehomed m := rfl

theorem Model.Rehomed.trans {m y z : Model} (h : m.Rehomed y) (k : y.Rehomed z) : m.Rehomed z :=
  Eq.trans k (by rw [show y = _ from h])

section
variable {m z : Model} (h : m.Rehomed z)
include h

theorem Model.Rehomed.hint : z.hint = m.hint := by rw [show z = _ from h]
theorem Model.Rehomed.image : z.image = m.image := by rw [show z = _ from h]
theorem Model.Rehomed.state : z.state = m.state := by rw [show z = _ from h]

end

/-- Residence has been given and taken: the models are those there were, up to their residence. -/
structure Rehoused (s u : State) : Prop where
  housed : Housed s u
  keys : u.modelKeys = s.modelKeys
  models : ∀ z ∈ u.models, ∃ m ∈ s.models, m.Rehomed z

theorem Rehoused.refl (s : State) : Rehoused s s := ⟨.refl s, rfl, fun z hz => ⟨z, hz, .refl z⟩⟩

theorem Rehoused.trans {s t u : State} (h : Rehoused s t) (k : Rehoused t u) : Rehoused s u where
  housed := h.housed.trans k.housed
  keys := k.keys.trans h.keys
  models z hz := by
    obtain ⟨y, hy, hyz⟩ := k.models z hz
    obtain ⟨m, hm, hmy⟩ := h.models y hy
    exact ⟨m, hm, hmy.trans hyz⟩

/-- What leaves the models as they are keeps them up to their residence. -/
theorem Rehoused.of_models {s u : State} (h : Housed s u) (hm : u.models = s.models) : Rehoused s u where
  housed := h
  keys := by simp only [State.modelKeys, hm]
  models z hz := ⟨z, hm ▸ hz, .refl z⟩

/-- A model of the state before takes another residence. -/
theorem Rehoused.setModel {s u : State} (h : Rehoused s u) {m x : Model} (hm : m ∈ s.models) (hx : m.Rehomed x) :
    Rehoused s (u.setModel x) where
  housed := h.housed.trans (.setModel u x)
  keys := by rw [State.modelKeys_setModel, h.keys]
  models z hz := by
    rcases State.mem_setModel hz with rfl | ⟨hz, -⟩
    · exact ⟨m, hm, hx⟩
    · exact h.models z hz

theorem Rehoused.evict {s u : State} (h : Rehoused s u) {m : Model} (hm : m ∈ s.models) : Rehoused s (u.evict m) := by
  have hseat : Rehoused s (u.unseat m) :=
    (h.setModel (x := { m with residence := .parked }) hm rfl).trans (.of_models ⟨rfl, fun _ _ => rfl⟩ rfl)
  exact hseat.trans (.of_models ((Housed.setReg _ (by decide) _).trans (.logEntry _ _ _ _ _)) rfl)

/-- What every eviction keeps, making room keeps. -/
theorem State.makeRoom_keeps {I : State → Prop} {im : Image} {cands : List Model}
    (step : ∀ t x, I t → x ∈ cands → I (t.evict x)) {u t : State} {o : Occupancy} {ps : List Place} (h : I u)
    (ht : u.makeRoom im cands = some (t, o, ps)) : I t := by
  induction cands generalizing u with
  | nil =>
    obtain ⟨p, -, hp⟩ := Option.map_eq_some_iff.1 ht
    obtain rfl : u = t := congrArg (·.1) hp
    exact h
  | cons m r ih =>
    unfold State.makeRoom at ht
    split at ht
    · obtain rfl : u = t := congrArg (·.1) (Option.some.inj ht)
      exact h
    · exact ih (fun t x hx hr => step t x hx (List.mem_cons_of_mem _ hr)) (step u m h List.mem_cons_self) ht

theorem Rehoused.makeRoom {s : State} {im : Image} {cands : List Model} (hc : ∀ m ∈ cands, m ∈ s.models) {u t : State}
    {o : Occupancy} {ps : List Place} (h : Rehoused s u) (ht : u.makeRoom im cands = some (t, o, ps)) : Rehoused s t :=
  State.makeRoom_keeps (fun _ _ hu hx => hu.evict (hc _ hx)) h ht

/-- Changes of cores, one after another. -/
theorem State.foldl_cores {α : Type} {f : State → α → State} (h : ∀ s x, f s x = { s with cores := (f s x).cores }) (l : List α)
    (s : State) : l.foldl f s = { s with cores := (l.foldl f s).cores } := by
  induction l generalizing s with
  | nil => rfl
  | cons x r ih =>
    have first := h s x
    have later := ih (f s x)
    rw [List.foldl_cons]
    generalize f s x = t at first later ⊢
    exact later.trans (by rw [first])

/-- Placing a model touches cores and epoch tables alone. -/
theorem State.install_frame (s : State) (m : Model) (im : Image) (o : Occupancy) (ps : List Place) :
    s.install m im o ps = { s with cores := (s.install m im o ps).cores, epochTable := (s.install m im o ps).epochTable } := by
  unfold State.install
  dsimp only
  generalize hseats : List.foldl _ s _ = t
  have ht : t = { s with cores := t.cores } := by
    rw [← hseats]
    refine State.foldl_cores (fun s p => State.foldl_cores (fun s k => ?_) _ s) _ s
    split <;> rfl
  rw [ht]

theorem Rehoused.beginLoad {s u : State} (h : Rehoused s u) {m : Model} (hm : m ∈ s.models) (im : Image) (o : Occupancy)
    (ps : List Place) : Rehoused s (u.beginLoad m im o ps) := by
  have placed : Rehoused u (u.install m im o ps) := by
    refine .of_models ⟨?_, fun _ _ => ?_⟩ ?_
    · rw [State.install_frame]
    · rw [State.install_frame]
      rfl
    · rw [State.install_frame]
  exact (h.trans placed).setModel hm rfl

theorem State.seekPlace_rehoused_of {s u : State} (h : Rehoused s u) {m : Model} (hm : m ∈ s.models) {cands : List Model}
    (hc : ∀ x ∈ cands, x ∈ s.models) : Rehoused s (u.seekPlace m cands) := by
  unfold State.seekPlace
  split
  · exact h
  · split
    · next hroom => exact (h.makeRoom hc hroom).beginLoad hm _ _ _
    · split
      · exact h
      · exact (h.setModel (x := { m with waiting := true }) hm rfl).trans (.of_models (.logEntry _ _ _ _ _) rfl)

theorem mem_insertWith {α : Type} (lt : α → α → Bool) (a : α) (l : List α) {x : α} : x ∈ insertWith lt a l ↔ x = a ∨ x ∈ l := by
  induction l with
  | nil => simp [insertWith]
  | cons b r ih =>
    unfold insertWith
    split
    · simp
    · simp only [List.mem_cons, ih]
      tauto

/-- Sorting keeps the elements. -/
theorem mem_sortWith {α : Type} (lt : α → α → Bool) (l : List α) {x : α} : x ∈ sortWith lt l ↔ x ∈ l := by
  suffices ∀ a : List α, x ∈ l.foldl (fun s a => insertWith lt a s) a ↔ x ∈ l ∨ x ∈ a by simpa [sortWith] using this []
  induction l with
  | nil => simp
  | cons b r ih =>
    intro a
    simp only [List.foldl_cons, ih, mem_insertWith, List.mem_cons]
    tauto

/-- Candidates for eviction are resident models of the device. -/
theorem State.mem_candidates {s : State} {m x : Model} (h : x ∈ s.candidates m) : x ∈ s.models ∧ x.isResident = true := by
  obtain ⟨hx, hp⟩ := List.mem_filter.1 ((mem_sortWith _ _).1 h)
  simp only [Bool.and_eq_true] at hp
  exact ⟨hx, hp.1.1.1⟩

/-- One attempt of a model without a place (R207). -/
def State.tryPlace (s : State) (m : Model) : State :=
  match s.model? m.ctx m.number with
  | some x => if s.wanted x then s.seekPlace x (s.candidates x) else s
  | none => s

/-- What each attempt of a model without a place keeps, the attempts together keep. -/
theorem State.retry_keeps {I : State → Prop}
    (step : ∀ t x, I t → x ∈ t.models → t.wanted x = true → I (t.seekPlace x (t.candidates x))) (n : Nat) {s : State}
    (h : I s) : I (s.retry n) := by
  have attempt : ∀ t m, I t → I (t.tryPlace m) := by
    intro t m ht
    unfold State.tryPlace
    split
    · next x hx =>
      split
      · next hw => exact step t x ht (State.mem_of_model? hx).1 hw
      · exact ht
    · exact ht
  induction n generalizing s with
  | zero => exact h
  | succ n ih =>
    have tried : I (s.models.foldl State.tryPlace s) := List.foldlRecOn _ _ h (fun t ht m _ => attempt t m ht)
    unfold State.retry
    dsimp only
    split
    · exact ih tried
    · exact tried

theorem Rehoused.seekPlace {s u : State} (h : Rehoused s u) {x : Model} (hx : x ∈ u.models) :
    Rehoused s (u.seekPlace x (u.candidates x)) :=
  h.trans (State.seekPlace_rehoused_of (.refl u) hx (fun _ hy => (State.mem_candidates hy).1))

theorem Rehoused.retryPlaces {s u : State} (h : Rehoused s u) : Rehoused s u.retryPlaces :=
  State.retry_keeps (fun _ _ ht hx _ => ht.seekPlace hx) _ h

theorem Rehoused.afterEviction {s u : State} (h : Rehoused s u) (t : State) : Rehoused s (t.afterEviction u) := by
  unfold State.afterEviction
  split
  · exact h.retryPlaces
  · exact h

theorem Rehoused.makeResident {s : State} {m : Model} (hm : m ∈ s.models) : Rehoused s (s.makeResident m) := by
  unfold State.makeResident
  split
  · exact ((Rehoused.refl s).seekPlace hm).afterEviction s
  · exact .refl s

/-! ## A model that nothing wants resident -/

/-- The models of a number are among those there were: none of them has another residence now. -/
def LeavesModel (c : CtxId) (n : ModelNo) (s u : State) : Prop := ∀ z ∈ u.models, z.ctx = c → z.number = n → z ∈ s.models

theorem LeavesModel.setModel {c : CtxId} {n : ModelNo} {s u : State} (h : LeavesModel c n s u) {x : Model}
    (hx : ¬ (x.ctx = c ∧ x.number = n)) : LeavesModel c n s (u.setModel x) := by
  intro z hz hc hn
  rcases State.mem_setModel hz with rfl | ⟨hz, -⟩
  · exact absurd ⟨hc, hn⟩ hx
  · exact h z hz hc hn

theorem LeavesModel.evict {c : CtxId} {n : ModelNo} {s u : State} (h : LeavesModel c n s u) {m : Model}
    (hm : ¬ (m.ctx = c ∧ m.number = n)) : LeavesModel c n s (u.evict m) :=
  h.setModel (x := { m with residence := .parked }) hm

theorem LeavesModel.makeRoom {c : CtxId} {n : ModelNo} {s : State} {im : Image} {cands : List Model}
    (hc : ∀ m ∈ cands, ¬ (m.ctx = c ∧ m.number = n)) {u t : State} {o : Occupancy} {ps : List Place} (h : LeavesModel c n s u)
    (ht : u.makeRoom im cands = some (t, o, ps)) : LeavesModel c n s t :=
  State.makeRoom_keeps (fun _ _ hu hx => hu.evict (hc _ hx)) h ht

theorem LeavesModel.beginLoad {c : CtxId} {n : ModelNo} {s u : State} (h : LeavesModel c n s u) {m : Model}
    (hm : ¬ (m.ctx = c ∧ m.number = n)) (im : Image) (o : Occupancy) (ps : List Place) :
    LeavesModel c n s (u.beginLoad m im o ps) := by
  have placed : LeavesModel c n s (u.install m im o ps) := by
    intro z hz
    rw [State.install_frame] at hz
    exact h z hz
  exact placed.setModel (x := { m with residence := .loading ps u.gate [], waiting := false }) hm

theorem LeavesModel.seekPlace {c : CtxId} {n : ModelNo} {s u : State} (h : LeavesModel c n s u) {m : Model}
    (hm : ¬ (m.ctx = c ∧ m.number = n)) {cands : List Model} (hc : ∀ x ∈ cands, ¬ (x.ctx = c ∧ x.number = n)) :
    LeavesModel c n s (u.seekPlace m cands) := by
  unfold State.seekPlace
  split
  · exact h
  · split
    · next hroom => exact (h.makeRoom hc hroom).beginLoad hm _ _ _
    · split
      · exact h
      · exact h.setModel (x := { m with waiting := true }) hm

/-- Whether something wants a model resident is a matter of the model, the jobs and the bindings. -/
theorem State.wanted_congr {s u : State} (hj : u.jobs = s.jobs) (hs : u.standing = s.standing) (m : Model) :
    u.wanted m = s.wanted m := by
  simp only [State.wanted, hj, hs]

theorem Model.not_isResident_of_isParked {m : Model} (h : m.isParked = true) : m.isResident = false := by
  unfold Model.isParked at h
  unfold Model.isResident
  split <;> simp_all

/-- Where nothing wants a parked model resident, others that try again leave it as it is. -/
theorem State.leavesModel_retryPlaces {s : State} {c : CtxId} {n : ModelNo}
    (h : ∀ m ∈ s.models, m.ctx = c → m.number = n → m.isParked = true ∧ s.wanted m = false) : LeavesModel c n s s.retryPlaces := by
  refine (State.retry_keeps (I := fun t => Rehoused s t ∧ LeavesModel c n s t) (fun t x ht hx hw => ?_) _
    ⟨.refl s, fun z hz _ _ => hz⟩).2
  obtain ⟨hr, hl⟩ := ht
  refine ⟨hr.seekPlace hx, hl.seekPlace ?_ ?_⟩
  · rintro ⟨hc, hn⟩
    rw [State.wanted_congr hr.housed.jobs hr.housed.standing, (h x (hl x hx hc hn) hc hn).2] at hw
    cases hw
  · rintro y hy ⟨hc, hn⟩
    obtain ⟨hmem, hres⟩ := State.mem_candidates hy
    rw [Model.not_isResident_of_isParked (h y (hl y hmem hc hn) hc hn).1] at hres
    cases hres

end Sys2Proof.Machine

/-! PROOF. What a job's entry into the queue and a hint do (R207, R209, R232, R324, R325). -/

namespace Sys2Proof.Machine

/-! ## A job joins the queue -/

/-- The state with another list of jobs. -/
def State.withJobs (s : State) (l : List Job) : State := { s with jobs := l }

/-- A job as it stands in the queue: numbered among its model's jobs, and over at once where an abort has come before it. -/
def State.joining (s : State) (m : Model) (j : Job) : Job :=
  { j with nModel := m.jobsSinceReg + 1
           state := if (m.ctx, m.number, m.jobsSinceReg + 1) ∈ s.rink.aborted then .ended else j.state
           status := if (m.ctx, m.number, m.jobsSinceReg + 1) ∈ s.rink.aborted then 2 else j.status
           nEnrol := if j.standing.isNone then m.jobsSinceEnrol + 1 else 0
           parkedDuring := s.contexts.any (fun x => x.id == j.ctx && x.parked) }

theorem gtbSgCtrl_mem_houseRegs (n : GateSlot) : Reg.gtbSgCtrl n.val ∈ houseRegs := by
  revert n; decide

theorem State.lateSlot_housed (s : State) (j : Job) : Housed s (s.lateSlot j) ∧ (s.lateSlot j).models = s.models := by
  unfold State.lateSlot
  split
  · refine List.foldlRecOn (motive := fun t => Housed s t ∧ t.models = s.models) _ _ ⟨.refl s, rfl⟩ ?_
    rintro t ⟨ht, hm⟩ n -
    have flag : Housed t (t.setFlag (Reg.gtbSgCtrl n) 3 true) := .setReg t (gtbSgCtrl_mem_houseRegs n) _
    exact ⟨(ht.trans flag).trans ⟨rfl, fun _ _ => rfl⟩, hm⟩
  · exact ⟨.refl s, rfl⟩

/-- The model of a job that joins the queue, with the job counted. -/
def Model.counted (m : Model) (j : Job) : Model :=
  { m with jobsSinceReg := m.jobsSinceReg + 1
           jobsSinceEnrol := if j.standing.isNone then m.jobsSinceEnrol + 1 else m.jobsSinceEnrol }

/-- The device once a job stands in the queue. -/
def State.joined (s : State) (m : Model) (j : Job) : State :=
  { s.setModel (m.counted j) with
    jobs := s.jobs ++ [s.joining m j]
    uids := s.uids + 1
    rink := { s.rink with aborted := s.rink.aborted.filter (fun x => x != (m.ctx, m.number, m.jobsSinceReg + 1)) } }

/-- The same, with the job counted where a comparison skips it (R330). -/
def State.joinedSkipping (s : State) (m : Model) (j : Job) : State :=
  if s.enrolled j.ctx && !j.compared then (s.joined m j).inc Reg.synSkipCount 32 1 else s.joined m j

theorem State.enqueue_eq (s : State) (m : Model) (j : Job) :
    s.enqueue m j = if (m.ctx, m.number, m.jobsSinceReg + 1) ∈ s.rink.aborted then
        (s.joinedSkipping m j).dropUpdates (s.joining m j)
      else ((s.joinedSkipping m j).lateSlot (s.joining m j)).makeResident (m.counted j) := by
  unfold State.enqueue
  simp only [List.contains_iff_mem]
  rfl

theorem State.joinedSkipping_housed (s : State) (m : Model) (j : Job) :
    Housed (s.withJobs (s.jobs ++ [s.joining m j])) (s.joinedSkipping m j) ∧
      (s.joinedSkipping m j).models = (s.setModel (m.counted j)).models := by
  have joined : Housed (s.withJobs (s.jobs ++ [s.joining m j])) (s.joined m j) := ⟨rfl, fun _ _ => rfl⟩
  unfold State.joinedSkipping
  split
  · exact ⟨joined.trans (.setReg _ (by decide) _), rfl⟩
  · exact ⟨joined, rfl⟩

/-- A job joins the queue, and of the rest only what residence touches may differ (R209). -/
theorem State.enqueue_housed {s : State} {c : CtxId} {n : ModelNo} {m : Model} (hm : s.model? c n = some m) (j : Job) :
    Housed (s.withJobs (s.jobs ++ [s.joining m j])) (s.enqueue m j) := by
  obtain ⟨joined, models⟩ := s.joinedSkipping_housed m j
  rw [State.enqueue_eq]
  split
  · exact joined.trans ⟨rfl, fun _ _ => rfl⟩
  · obtain ⟨late, lateModels⟩ := (s.joinedSkipping m j).lateSlot_housed (s.joining m j)
    have hmem : m.counted j ∈ ((s.joinedSkipping m j).lateSlot (s.joining m j)).models := by
      rw [lateModels, models]
      exact State.self_mem_setModel (State.mem_of_model? hm).1 rfl rfl
    exact (joined.trans late).trans (Rehoused.makeResident hmem).housed

/-! ## Hints -/

/-- A model that has been replaced is found as it was put, up to the residence it has been given since. -/
theorem Rehoused.model?_setModel {s u : State} {c : CtxId} {n : ModelNo} {m x : Model} (hm : s.model? c n = some m)
    (hc : x.ctx = c) (hn : x.number = n) (h : Rehoused (s.setModel x) u) : ∃ y, u.model? c n = some y ∧ x.Rehomed y := by
  obtain ⟨y, hy⟩ := State.model?_isSome_of_keys h.keys (State.model?_setModel hm hc hn)
  obtain ⟨hmem, hyc, hyn⟩ := State.mem_of_model? hy
  obtain ⟨z, hz, hzy⟩ := h.models y hmem
  refine ⟨y, hy, ?_⟩
  rcases State.mem_setModel hz with rfl | ⟨-, hne⟩
  · exact hzy
  · rw [Model.Rehomed] at hzy
    exact absurd ⟨by rw [hc, ← hyc, hzy], by rw [hn, ← hyn, hzy]⟩ hne

theorem State.giveHint_rehoused {s : State} {c : CtxId} {n : ModelNo} {m : Model} (hm : s.model? c n = some m) (h : Nat) :
    Rehoused (s.setModel { m with hint := h }) (s.giveHint m h) := by
  have hmem : { m with hint := h } ∈ (s.setModel { m with hint := h }).models :=
    State.self_mem_setModel (State.mem_of_model? hm).1 rfl rfl
  unfold State.giveHint
  dsimp only
  split
  · exact .makeResident hmem
  · split
    · split
      · next hroom _ =>
        obtain ⟨im, -, hroom⟩ := Option.bind_eq_some_iff.1 hroom
        refine Rehoused.afterEviction ?_ _
        refine ((Rehoused.refl _).makeRoom (fun x hx => ?_) hroom).beginLoad hmem _ _ _
        exact (State.mem_candidates (List.mem_filter.1 hx).1).1
      · exact .refl _
    · split
      · exact ((Rehoused.refl _).evict hmem).retryPlaces
      · exact .refl _

/-- No hint and KEEP are only kept (R207). -/
theorem State.giveHint_of_keeps {s : State} (m : Model) {h : Nat} (hh : h = 0 ∨ h = 2) :
    s.giveHint m h = s.setModel { m with hint := h } := by
  unfold State.giveHint
  have h1 : h ≠ 1 := by omega
  have h3 : h ≠ 3 := by omega
  have h4 : h ≠ 4 := by omega
  simp only [h1, h3, h4, false_and, if_false]

/-- A DROP evicts a resident model that nothing uses (R207). -/
theorem State.giveHint_drop {s : State} {m : Model} (hres : m.isResident = true) (hjobs : s.jobsOf m.ctx m.number = [])
    (hbusy : s.busy m = false) :
    s.giveHint m 4 = ((s.setModel { m with hint := 4 }).evict { m with hint := 4 }).retryPlaces := by
  simp [State.giveHint, hres, hjobs, hbusy]

/-- Nothing wants a model resident that has the hint DROP, no job, no binding, and is no other job's fall-back. -/
theorem State.not_wanted_of_drop {s u : State} (hj : u.jobs = s.jobs) (hs : u.standing = s.standing) {m x : Model}
    (hc : x.ctx = m.ctx) (hn : x.number = m.number) (hx : x.hint = 4)
    (hjobs : s.jobsOf m.ctx m.number = []) (hbusy : s.busy m = false)
    (hsw : ∀ j ∈ s.jobs, j.ctx = m.ctx → j.state = .switching → j.fallback ≠ m.number.val) : u.wanted x = false := by
  have none : ∀ j ∈ s.jobs, j.ctx = m.ctx → j.model ≠ m.number := by
    intro j hj hjc hjn
    have hmem : j ∈ s.jobsOf m.ctx m.number := List.mem_filter.2 ⟨hj, by simp [hjc, hjn]⟩
    simp [hjobs] at hmem
  have unbound := (Bool.or_eq_false_iff.1 hbusy).2
  rw [State.wanted_congr hj hs, State.wanted, hx, hc, hn, unbound]
  have unqueued : s.jobs.any (fun j => j.ctx == m.ctx &&
      ((j.state == .queued && j.model == m.number) || (j.state == .switching && j.fallback == m.number.val))) = false := by
    rw [List.any_eq_false]
    intro j hj
    have := none j hj
    have := hsw j hj
    simp only [Bool.and_eq_true, Bool.or_eq_true, beq_iff_eq]
    tauto
  simp [unqueued]

theorem State.evict_jobs (s : State) (m : Model) : (s.evict m).jobs = s.jobs := rfl
theorem State.evict_standing (s : State) (m : Model) : (s.evict m).standing = s.standing := rfl

/-- A DROP leaves such a model parked (R207). -/
theorem State.giveHint_drop_parked {s : State} {m y : Model} (hres : m.isResident = true)
    (hjobs : s.jobsOf m.ctx m.number = []) (hbusy : s.busy m = false)
    (hsw : ∀ j ∈ s.jobs, j.ctx = m.ctx → j.state = .switching → j.fallback ≠ m.number.val)
    (hy : (s.giveHint m 4).model? m.ctx m.number = some y) : y.residence = .parked := by
  rw [State.giveHint_drop hres hjobs hbusy] at hy
  obtain ⟨hmem, hc, hn⟩ := State.mem_of_model? hy
  have dropped : ∀ z ∈ ((s.setModel { m with hint := 4 }).evict { m with hint := 4 }).models, z.ctx = m.ctx → z.number = m.number →
      z = { m with hint := 4, residence := .parked } := by
    intro z hz hzc hzn
    rcases State.mem_setModel (x := { m with hint := 4, residence := .parked }) hz with rfl | ⟨-, hne⟩
    · rfl
    · exact absurd ⟨hzc, hzn⟩ hne
  have idle : ∀ z ∈ ((s.setModel { m with hint := 4 }).evict { m with hint := 4 }).models, z.ctx = m.ctx → z.number = m.number →
      z.isParked = true ∧ ((s.setModel { m with hint := 4 }).evict { m with hint := 4 }).wanted z = false := by
    intro z hz hzc hzn
    have hparked := dropped z hz hzc hzn
    refine ⟨by rw [hparked]; rfl, ?_⟩
    exact State.not_wanted_of_drop (State.evict_jobs _ _) (State.evict_standing _ _) hzc hzn (by rw [hparked]) hjobs hbusy hsw
  rw [dropped y (State.leavesModel_retryPlaces idle y hmem hc hn) hc hn]

/-- What a hint makes of its model (R207): PIN, LOAD and DROP may move its residence alone. -/
theorem State.giveHint_model? {s : State} {c : CtxId} {n : ModelNo} {m : Model} (hm : s.model? c n = some m) (h : Nat) :
    ∃ y, (s.giveHint m h).model? c n = some y ∧ y.hint = h ∧ y.image = m.image ∧ y.state = m.state ∧
      (h = 4 → m.isResident = true → s.jobsOf c n = [] → s.busy m = false →
        (∀ j ∈ s.jobs, j.ctx = c → j.state = .switching → j.fallback ≠ n.val) → y.residence = .parked) ∧
      (h = 0 ∨ h = 2 → y = { m with hint := h }) := by
  obtain ⟨-, rfl, rfl⟩ := State.mem_of_model? hm
  obtain ⟨y, hy, home⟩ := Rehoused.model?_setModel (x := { m with hint := h }) hm rfl rfl (State.giveHint_rehoused hm h)
  refine ⟨y, hy, home.hint, home.image, home.state, ?_, fun keeps => ?_⟩
  · rintro rfl hres hjobs hbusy hsw
    exact State.giveHint_drop_parked hres hjobs hbusy hsw hy
  · rw [State.giveHint_of_keeps m keeps] at hy
    exact Option.some.inj (hy.symm.trans (State.model?_setModel hm rfl rfl))

/-! ## Where a PIN must find a place -/

theorem State.placeStage_congr {s u : State} (h : u.epochTable = s.epochTable) (lvl : Nat) (im : Image) (j : StageNo) (g : Stage)
    (l : List (List CoreId × Option ClusterId)) (n : Nat) (o : Occupancy) (p : Place) :
    u.placeStage lvl im j g l n o p = s.placeStage lvl im j g l n o p := by
  have group : ∀ o cores clu, u.takeGroup o lvl im j g cores clu = s.takeGroup o lvl im j g cores clu := by
    intro o cores clu
    unfold State.takeGroup State.hasEntries
    rw [h]
  induction l generalizing n o p with
  | nil => cases n <;> simp [State.placeStage]
  | cons q r ih => cases n <;> simp [State.placeStage, group, ih]

theorem State.placeAll_numbered (s : State) (lvl : Nat) (im : Image) : s.numbered.placeAll lvl im = s.placeAll lvl im := by
  have stage := State.placeStage_congr (s := s) (u := s.numbered) rfl
  have held : s.numbered.heldNow = s.heldNow := rfl
  simp only [State.placeAll, stage, held]

/-- The number of the next command has no part in where a PIN finds a place. -/
theorem State.canPin_numbered (s : State) (m : Model) : s.numbered.canPin m = s.canPin m := by
  have unpinned : s.numbered.withoutUnpinned m = (s.withoutUnpinned m).numbered :=
    List.foldl_hom State.numbered (g₁ := State.unseat) (g₂ := State.unseat) (fun _ _ => rfl)
  simp only [State.canPin, unpinned, State.placeAll_numbered]

end Sys2Proof.Machine

/-! PROOF. The ring's commands for models, jobs and destinations (R207, R210, R231–R233, R270). -/

namespace Sys2Proof.Machine

theorem exec_modelRegister (e : RingEntry) (s : State) : exec (.modelRegister e) s = execModelRegister e s := rfl
theorem exec_modelUnregister (e : RingEntry) (s : State) : exec (.modelUnregister e) s = execModelUnregister e s := rfl
theorem exec_modelHint (e : RingEntry) (s : State) : exec (.modelHint e) s = execModelHint e s := rfl
theorem exec_jobSubmit (e : RingEntry) (s : State) : exec (.jobSubmit e) s = execJobSubmit e s := rfl
theorem exec_standingBind (e : RingEntry) (s : State) : exec (.standingBind e) s = execStandingBind e s := rfl
theorem exec_standingUnbind (e : RingEntry) (s : State) : exec (.standingUnbind e) s = execStandingUnbind e s := rfl

/-! ## What stays through a command -/

section
variable {s u : State} (h : RingFrame s u)
include h

theorem ringFrame_models : u.models = s.models := by rw [show u = _ from h]
theorem ringFrame_jobs : u.jobs = s.jobs := by rw [show u = _ from h]
theorem ringFrame_contexts : u.contexts = s.contexts := by rw [show u = _ from h]
theorem ringFrame_standing : u.standing = s.standing := by rw [show u = _ from h]

end

theorem Wrote.models {s u : State} (h : Wrote s u) : u.models = s.models := by rw [h.rest]
theorem Wrote.jobs {s u : State} (h : Wrote s u) : u.jobs = s.jobs := by rw [h.rest]
theorem Wrote.contexts {s u : State} (h : Wrote s u) : u.contexts = s.contexts := by rw [h.rest]

theorem RingKept.wrote {s u v : State} (k : RingKept s u) (h : Wrote u v) : RingKept s v where
  work := h.ringWork.trans k.work
  ids := h.ringIds.trans k.ids
  host := h.host.trans k.host
  head := (h.regs _ (by decide)).trans k.head
  size := (h.regs _ (by decide)).trans k.size

theorem RingKept.housed {s u v : State} (k : RingKept s u) (h : Housed u v) : RingKept s v where
  work := h.ringWork.trans k.work
  ids := h.ringIds.trans k.ids
  host := h.host.trans k.host
  head := (h.regs _ (by decide)).trans k.head
  size := (h.regs _ (by decide)).trans k.size

theorem State.bound_congr {s u : State} (h : u.standing = s.standing) (d : DestId) : u.bound d = s.bound d := by
  simp only [State.bound, h]

theorem State.ctx?_congr {s u : State} (h : u.contexts = s.contexts) (c : CtxId) : u.ctx? c = s.ctx? c := by
  simp only [State.ctx?, h]

theorem State.bound_setBound (s : State) (d f : DestId) (x : Option Standing) :
    (s.setBound d x).bound f = if f = d then x else s.bound f := by
  unfold State.setBound State.bound
  by_cases h : f = d
  · subst h; simp
  · have hv : (d : Nat) ≠ f := fun e => h (Fin.ext e.symm)
    simp [h, hv]

/-- A context that is replaced is found as it was put. -/
theorem State.ctx?_setCtx {s : State} {x y : Context} (h : s.ctx? x.id = some y) : (s.setCtx x).ctx? x.id = some x := by
  have hy : y.id = x.id := by simpa using List.find?_some h
  have keep : ((fun z : Context => z.id == x.id) ∘ fun z => if z.id = x.id then x else z) = fun z => z.id == x.id := by
    funext z
    by_cases hz : z.id = x.id <;> simp [hz]
  unfold State.ctx? at h ⊢
  simp only [State.setCtx, List.find?_map, keep, h, Option.map_some]
  simp [hy]

/-- The context of a number bears it. -/
theorem State.ctx?_id {s : State} {c : CtxId} {x : Context} (h : s.ctx? c = some x) : x.id = c := by
  simpa using List.find?_some h

theorem State.usable?_of_model? {s : State} {c : CtxId} {n : ModelNo} {m : Model} (hm : s.model? c n = some m)
    (hu : m.unregistering = none) : s.usable? c n = some m := by
  simp [State.usable?, hm, hu]

/-- A field of an entry fits its bytes. -/
theorem RingEntry.at_lt (e : RingEntry) (i n : Nat) (hn : 0 < n) : RingEntry.at e i n < 2 ^ (8 * n) := by
  have width : 8 * (i + n) - 1 + 1 - 8 * i = 8 * n := by omega
  unfold RingEntry.at field
  rw [width]
  exact Nat.mod_lt _ (by positivity)

/-- A field of eight bytes, as a word. -/
theorem RingEntry.toNat_word (e : RingEntry) (i : Nat) : (BitVec.ofNat 64 (RingEntry.at e i 8)).toNat = RingEntry.at e i 8 := by
  rw [BitVec.toNat_ofNat]
  exact Nat.mod_eq_of_lt (RingEntry.at_lt e i 8 (by decide))

/-! ## Models -/

/-- A model in registration, as its entry gives it (R233). -/
def registering (e : RingEntry) : Model :=
  ⟨RingEntry.ctx e, RingEntry.model e, BitVec.ofNat 64 (RingEntry.at e 24 8), RingEntry.at e 32 8, 1, none, 0, .parked, 0, 0, 0,
    none, false⟩

/-- The state with another model at the end of the list. -/
def State.addModel (s : State) (m : Model) : State := { s with models := s.models ++ [m] }

theorem State.model?_addModel (s : State) (m : Model) (c : CtxId) (n : ModelNo) :
    (s.addModel m).model? c n = (s.model? c n).or (if m.ctx = c ∧ m.number = n then some m else none) := by
  simp only [State.model?, State.addModel, List.find?_append, List.find?_singleton, Bool.and_eq_true, beq_iff_eq]

theorem gives_modelRegister {e : RingEntry} {s : State} {P : State → Prop}
    (ha : Admitted 0x20 e .context (payloadBad e [(16, 1), (24, 16)] ++ tooBig e 16 1 15) s)
    (free : s.model? (RingEntry.ctx e) (RingEntry.model e) = none) (aligned : RingEntry.at e 24 8 % 64 = 0)
    (hp : ∀ t, Accepted 0x20 (RingEntry.at e 16 1) (some (RingEntry.ctx e)) false s t →
      t.models = (s.addModel (registering e)).models → t.jobs = s.jobs → t.contexts = s.contexts → P t) :
    Gives (.modelRegister e) s P := by
  have kept : RingKept s (s.numbered.addModel (registering e)) := ⟨rfl, rfl, rfl, rfl, rfl⟩
  have wrote := Wrote.writeCtx (s.numbered.addModel (registering e)) (RingEntry.ctx e)
  refine gives_of_accept (exec_modelRegister e s) ha
    (u := (s.numbered.addModel (registering e)).writeCtx (RingEntry.ctx e)) (value := 0) (complete := false) ?_
    (kept.wrote wrote) (fun t hacc hf => hp t hacc ?_ ?_ ?_)
  · have free' : s.numbered.model? (RingEntry.ctx e) (RingEntry.model e) = none := free
    simp only [free', aligned, firstCode, Option.isSome_none, bne_self_eq_false, Bool.false_eq_true, if_false]
    rfl
  · rw [ringFrame_models hf, wrote.models]; rfl
  · rw [ringFrame_jobs hf, wrote.jobs]; rfl
  · rw [ringFrame_contexts hf, wrote.contexts]; rfl

theorem gives_modelUnregister {e : RingEntry} {s : State} {m : Model} {P : State → Prop}
    (ha : Admitted 0x21 e .context (payloadBad e [(16, 1)] ++ tooBig e 16 1 15) s)
    (hm : s.model? (RingEntry.ctx e) (RingEntry.model e) = some m) (hu : m.unregistering = none)
    (hp : ∀ t, Accepted 0x21 (RingEntry.at e 16 1) (some (RingEntry.ctx e)) false s t →
      t.models = (s.setModel { m with unregistering := some s.ringIds, hint := 0 }).models → t.jobs = s.jobs → P t) :
    Gives (.modelUnregister e) s P := by
  have usable : s.numbered.usable? (RingEntry.ctx e) (RingEntry.model e) = some m := State.usable?_of_model? hm hu
  refine gives_of_accept (exec_modelUnregister e s) ha
    (u := s.numbered.setModel { m with unregistering := some s.ringIds, hint := 0 }) (value := 0) (complete := false) ?_
    ⟨rfl, rfl, rfl, rfl, rfl⟩ (fun t hacc hf => hp t hacc ?_ ?_)
  · simp only [usable]
  · rw [ringFrame_models hf]; rfl
  · rw [ringFrame_jobs hf]; rfl

theorem gives_modelHint {e : RingEntry} {s : State} {m : Model} {P : State → Prop}
    (ha : Admitted 0x22 e .context (payloadBad e [(16, 2)] ++ tooBig e 16 1 15 ++ tooBig e 17 1 4) s)
    (hm : s.model? (RingEntry.ctx e) (RingEntry.model e) = some m) (hu : m.unregistering = none) (hs : m.state = 2)
    (pin : RingEntry.at e 17 1 = 1 → s.canPin m = true)
    (hp : ∀ t, Accepted 0x22 (RingEntry.at e 16 1) (some (RingEntry.ctx e)) true s t →
      t.models = (s.numbered.giveHint m (RingEntry.at e 17 1)).models → t.jobs = s.jobs → t.contexts = s.contexts → P t) :
    Gives (.modelHint e) s P := by
  have usable : s.numbered.usable? (RingEntry.ctx e) (RingEntry.model e) = some m := State.usable?_of_model? hm hu
  have hm' : s.numbered.model? (RingEntry.ctx e) (RingEntry.model e) = some m := hm
  have housed := (Housed.setModel s.numbered _).trans (State.giveHint_rehoused hm' (RingEntry.at e 17 1)).housed
  refine gives_of_accept (exec_modelHint e s) ha (u := s.numbered.giveHint m (RingEntry.at e 17 1)) (value := 0)
    (complete := true) ?_ ((RingKept.numbered s).housed housed) (fun t hacc hf => hp t hacc ?_ ?_ ?_)
  · have pinnable : (RingEntry.at e 17 1 == 1 && m.state == 2 && !s.numbered.canPin m) = false := by
      rw [State.canPin_numbered]
      by_cases h : RingEntry.at e 17 1 = 1
      · simp [pin h]
      · simp [h]
    have active : (m.state != 2) = false := by simp [hs]
    simp only [usable, pinnable, active, firstCode, Bool.false_eq_true, if_false]
  · exact ringFrame_models hf
  · rw [ringFrame_jobs hf, housed.jobs]
  · rw [ringFrame_contexts hf, housed.contexts]

/-! ## Jobs -/

/-- A context whose next job has been numbered; 0 is no number (R232). -/
def Context.numbering (y : Context) : Context := { y with nextJob := if y.nextJob = BitVec.allOnes 32 then 1 else y.nextJob + 1 }

theorem gives_jobSubmit {e : RingEntry} {s : State} {m : Model} {y : Context} {P : State → Prop}
    (ha : Admitted 0x30 e .context (payloadBad e [(16, 40)] ++ tooBig e 16 1 15 ++ tooBig e 17 1 3 ++ fallbackBad e) s)
    (hm : s.model? (RingEntry.ctx e) (RingEntry.model e) = some m) (hu : m.unregistering = none) (hs : m.state = 2)
    (hy : s.ctx? (RingEntry.ctx e) = some y) (fits : fallbackFits e m = true) (aligned : RingEntry.at e 32 8 % 64 = 0)
    (lax : strictRefused e m = false) (room : s.queuedJobs (RingEntry.ctx e) < 256)
    (hp : ∀ t, Accepted 0x30 (RingEntry.at e 16 1) (some (RingEntry.ctx e)) false s t →
      t.jobs = s.jobs ++ [(s.numbered.setCtx y.numbering).joining m
        (submitted (s.numbered.setCtx y.numbering) e s.ringIds y.nextJob)] →
      t.contexts = (s.setCtx y.numbering).contexts → P t) :
    Gives (.jobSubmit e) s P := by
  have usable : s.numbered.usable? (RingEntry.ctx e) (RingEntry.model e) = some m := State.usable?_of_model? hm hu
  have hy' : s.numbered.ctx? (RingEntry.ctx e) = some y := hy
  have hm' : (s.numbered.setCtx y.numbering).model? (RingEntry.ctx e) (RingEntry.model e) = some m := hm
  have housed := State.enqueue_housed hm' (submitted (s.numbered.setCtx y.numbering) e s.ringIds y.nextJob)
  have kept : RingKept s ((s.numbered.setCtx y.numbering).withJobs (s.jobs ++ [(s.numbered.setCtx y.numbering).joining m
    (submitted (s.numbered.setCtx y.numbering) e s.ringIds y.nextJob)])) := ⟨rfl, rfl, rfl, rfl, rfl⟩
  refine gives_of_accept (exec_jobSubmit e s) ha (u := (s.numbered.setCtx y.numbering).enqueue m
    (submitted (s.numbered.setCtx y.numbering) e s.ringIds y.nextJob)) (value := y.nextJob) (complete := false) ?_
    (kept.housed housed) (fun t hacc hf => hp t hacc ?_ ?_)
  · have room' : decide (256 ≤ s.numbered.queuedJobs (RingEntry.ctx e)) = false :=
      decide_eq_false (Nat.not_le.2 room)
    simp only [usable, hy', fits, aligned, lax, room', hs, firstCode, Bool.not_true, bne_self_eq_false, Bool.false_eq_true,
      if_false]
    rfl
  · rw [ringFrame_jobs hf, housed.jobs]; rfl
  · rw [ringFrame_contexts hf, housed.contexts]; rfl

/-! ## Destinations -/

/-- The destination that an entry names. -/
abbrev RingEntry.dest (e : RingEntry) : DestId := Fin.ofNat 16 (RingEntry.at e 20 1)

theorem gives_standingBind {e : RingEntry} {s : State} {m : Model} {im : Image} {i : InputEntry} {P : State → Prop}
    (ha : Admitted 0x31 e .context (payloadBad e [(16, 6), (24, 28)] ++ tooBig e 16 1 15 ++ tooBig e 17 1 1 ++ fallbackBad e ++
      tooBig e 20 1 15 ++ (if RingEntry.at e 21 1 < 4 then [21] else tooBig e 21 1 16)) s)
    (hm : s.model? (RingEntry.ctx e) (RingEntry.model e) = some m) (hu : m.unregistering = none) (hs : m.state = 2)
    (him : m.image = some im) (hi : im.input = some i) (fits : fallbackFits e m = true) (lax : strictRefused e m = false)
    (free : s.bound (RingEntry.dest e) = none)
    (hp : ∀ t, Accepted 0x31 (RingEntry.dest e).val (some (RingEntry.ctx e)) true s t →
      t.standing = (s.setBound (RingEntry.dest e) (some (bindingOf e i (s.freePart m.ctx m.number)))).standing →
      t.jobs = s.jobs → P t) :
    Gives (.standingBind e) s P := by
  have usable : s.numbered.usable? (RingEntry.ctx e) (RingEntry.model e) = some m := State.usable?_of_model? hm hu
  have kept : RingKept s (s.numbered.setBound (RingEntry.dest e)
    (some (bindingOf e i (s.freePart m.ctx m.number)))) := ⟨rfl, rfl, rfl, rfl, rfl⟩
  have housed := (Rehoused.makeResident (s := s.numbered.setBound (RingEntry.dest e)
    (some (bindingOf e i (s.freePart m.ctx m.number)))) (State.mem_of_model? hm).1).housed
  refine gives_of_accept (exec_standingBind e s) ha (u := (s.numbered.setBound (RingEntry.dest e)
    (some (bindingOf e i (s.freePart m.ctx m.number)))).makeResident m) (value := 0) (complete := true) ?_
    (kept.housed housed) (fun t hacc hf => hp t hacc ?_ ?_)
  · have free' : s.numbered.bound (RingEntry.dest e) = none := free
    have input : hasInput m = true := by simp [hasInput, him, hi]
    simp only [usable, fits, input, lax, free', hs, him, hi, firstCode, Option.isSome_none, Option.bind_some, Bool.not_true,
      Bool.or_false, bne_self_eq_false, Bool.false_eq_true, if_false]
    rfl
  · rw [ringFrame_standing hf, housed.standing]; rfl
  · rw [ringFrame_jobs hf, housed.jobs]; rfl

/-- The binding that an unbinding leaves: none where every frame is over (R231). -/
def Standing.unbound (b : Standing) (id : Nat) : Option Standing := if b.over then none else some { b with unbinding := some id }

theorem gives_standingUnbind {e : RingEntry} {s : State} {b : Standing} {P : State → Prop}
    (ha : Admitted 0x32 e .context (payloadBad e [(20, 1)] ++ tooBig e 20 1 15) s)
    (hb : s.bound (RingEntry.dest e) = some b) (hc : b.ctx = RingEntry.ctx e) (hu : b.unbinding = none)
    (hp : ∀ t, Accepted 0x32 (RingEntry.dest e).val (some (RingEntry.ctx e)) b.over s t →
      t.standing = (s.setBound (RingEntry.dest e) (b.unbound s.ringIds)).standing → t.jobs = s.jobs → P t) :
    Gives (.standingUnbind e) s P := by
  have hb' : s.numbered.bound (RingEntry.dest e) = some b := hb
  refine gives_of_accept (exec_standingUnbind e s) ha
    (u := s.numbered.setBound (RingEntry.dest e) (b.unbound s.ringIds)) (value := 0) (complete := b.over) ?_
    ⟨rfl, rfl, rfl, rfl, rfl⟩ (fun t hacc hf => hp t hacc ?_ ?_)
  · simp only [hb', hc, hu, and_self, if_true, Standing.unbound]
    cases b.over <;> rfl
  · rw [ringFrame_standing hf]; rfl
  · rw [ringFrame_jobs hf]; rfl

end Sys2Proof.Machine

namespace Sys2Proof

open Machine

/-- Settles O40: each command's effect is answered and accounted for, which leaves models, jobs, contexts and bindings as the
effect left them; residence, which a PIN, a LOAD, a job or a binding may move, is all that changes of the models. -/
theorem modelAndJobCommands : Obligations.ModelAndJobCommands := by
  refine ⟨fun s e => ⟨fun ha free aligned => ?_, fun ha m hm hu => ?_, fun ha m hm hu hs pin => ?_⟩,
    fun s e => ⟨fun ha m y hm hu hs hy fits aligned lax room => ?_,
      fun ha m im i hm hu hs him hi fits lax free => ?_, fun ha b hb hc hu => ?_⟩⟩
  · refine gives_modelRegister ha free aligned (fun t hacc hmodels hjobs hctx => ⟨hacc, ?_, fun d n hne => ?_, hjobs, hctx⟩)
    · rw [State.model?_congr hmodels, State.model?_addModel, free]
      simp [registering]
    · rw [State.model?_congr hmodels, State.model?_addModel, if_neg, Option.or_none]
      rintro ⟨rfl, rfl⟩
      exact hne rfl
  · refine gives_modelUnregister ha hm hu (fun t hacc hmodels hjobs => ⟨hacc, ?_, hjobs⟩)
    rw [State.model?_congr hmodels]
    exact State.model?_setModel hm (State.mem_of_model? hm).2.1 (State.mem_of_model? hm).2.2
  · refine gives_modelHint ha hm hu hs pin (fun t hacc hmodels hjobs hctx => ⟨hacc, ?_, hjobs, hctx⟩)
    obtain ⟨y, hy, hint, image, state, drop, keeps⟩ :=
      State.giveHint_model? (s := s.numbered) hm (RingEntry.at e 17 1)
    exact ⟨y, (State.model?_congr hmodels _ _).trans hy, hint, image, state.trans hs, drop, keeps⟩
  · refine gives_jobSubmit ha hm hu hs hy fits aligned lax room (fun t hacc hjobs hctx =>
      ⟨hacc, ⟨_, hjobs, ?_⟩, y.numbering, ?_, rfl⟩)
    · refine ⟨rfl, rfl, rfl, ?_, fun hgone => ?_, rfl, rfl, rfl, rfl, rfl, rfl, rfl, ?_, ?_, ?_, ?_, rfl, rfl⟩
      · rfl
      · exact if_pos hgone
      all_goals exact RingEntry.toNat_word e _
    · obtain hid := State.ctx?_id hy
      rw [State.ctx?_congr hctx, ← hid]
      exact State.ctx?_setCtx (x := y.numbering) (hid ▸ hy)
  · refine gives_standingBind ha hm hu hs him hi fits lax free (fun t hacc hstanding hjobs => 
      ⟨hacc, ⟨bindingOf e i (s.freePart m.ctx m.number), ?_, ?_⟩, fun f hf => ?_, hjobs⟩)
    · rw [State.bound_congr hstanding, State.bound_setBound, if_pos rfl]
    · refine ⟨rfl, rfl, rfl, rfl, rfl, rfl, ?_, ?_, ?_, rfl, rfl, rfl, rfl, rfl, rfl, rfl, rfl⟩
      all_goals exact RingEntry.toNat_word e _
    · rw [State.bound_congr hstanding, State.bound_setBound, if_neg hf]
  · refine gives_standingUnbind ha hb hc hu (fun t hacc hstanding hjobs => ⟨hacc, ?_, fun f hf => ?_, hjobs⟩)
    · rw [State.bound_congr hstanding, State.bound_setBound, if_pos rfl]
      rfl
    · rw [State.bound_congr hstanding, State.bound_setBound, if_neg hf]

end Sys2Proof

/-! PROOF. What a frame's way to its destination may touch (R13, R14, R16, R235, R236, R270, R271, R276): of a binding, only
what its frames that are over change, and nothing of the streams, the jobs and the cores. -/

namespace Sys2Proof.Machine

/-! ## Bindings -/

/-- A context's binding of a destination among those that its destruction has withdrawn. -/
def State.withdrawnOf (s : State) (c : CtxId) (d : DestId) : Option Standing :=
  (s.withdrawn.find? (fun w => w.1 == d && w.2.ctx == c)).map (·.2)

/-- The state with a withdrawn binding of a destination replaced. -/
def State.putWithdrawn (s : State) (d : DestId) (x : Standing) : State :=
  { s with withdrawn := s.withdrawn.map (fun w => if w.1 = d ∧ w.2.ctx = x.ctx then (d, x) else w) }

/-- The current binding is its context's. -/
theorem State.bindingOf_of_bound {s : State} {d : DestId} {x : Standing} (h : s.bound d = some x) :
    s.bindingOf x.ctx d = some x := by
  simp [State.bindingOf, h]

/-- Where the current binding is another context's, or none, a context's binding is a withdrawn one. -/
theorem State.bindingOf_of_gone {s : State} {c : CtxId} {d : DestId} (h : ∀ x, s.bound d = some x → x.ctx ≠ c) :
    s.bindingOf c d = s.withdrawnOf c d := by
  unfold State.bindingOf
  dsimp only
  split
  · next x hx => rw [if_neg (h x hx)]; rfl
  · rfl

theorem State.setBinding_of_bound {s : State} {d : DestId} {x y : Standing} (h : s.bound d = some x) (hc : x.ctx = y.ctx) :
    s.setBinding d y = s.setBound d (some y) := by
  simp [State.setBinding, h, hc]

theorem State.setBinding_of_gone {s : State} {d : DestId} {y : Standing} (h : ∀ x, s.bound d = some x → x.ctx ≠ y.ctx) :
    s.setBinding d y = s.putWithdrawn d y := by
  unfold State.setBinding
  dsimp only
  split
  · next x hx => rw [if_neg (h x hx)]; rfl
  · rfl

/-- A context's binding is the current one or a withdrawn one. -/
theorem State.bound_or_gone (s : State) (c : CtxId) (d : DestId) :
    (∃ x, s.bound d = some x ∧ x.ctx = c) ∨ ∀ x, s.bound d = some x → x.ctx ≠ c := by
  by_cases h : ∃ x, s.bound d = some x ∧ x.ctx = c
  · exact .inl h
  · exact .inr (fun x hx hc => h ⟨x, hx, hc⟩)

/-- A context's binding of a destination is that context's. -/
theorem State.bindingOf_ctx {s : State} {c : CtxId} {d : DestId} {x : Standing} (h : s.bindingOf c d = some x) : x.ctx = c := by
  rcases s.bound_or_gone c d with ⟨y, hy, rfl⟩ | gone
  · rw [State.bindingOf_of_bound hy] at h
    rw [Option.some.inj h]
  · rw [State.bindingOf_of_gone gone] at h
    obtain ⟨w, hw, rfl⟩ := Option.map_eq_some_iff.1 h
    have found := List.find?_some hw
    simp only [Bool.and_eq_true, beq_iff_eq] at found
    exact found.2

theorem State.bindingOf_congr {s u : State} (hs : u.standing = s.standing) (hw : u.withdrawn = s.withdrawn) (c : CtxId)
    (d : DestId) : u.bindingOf c d = s.bindingOf c d := by
  simp only [State.bindingOf, State.bound, hs, hw]

/-- Replacing a binding touches bindings alone. -/
theorem State.setBinding_frame (s : State) (d : DestId) (x : Standing) :
    s.setBinding d x = { s with standing := (s.setBinding d x).standing, withdrawn := (s.setBinding d x).withdrawn } := by
  unfold State.setBinding
  dsimp only
  split
  · split <;> rfl
  · rfl

theorem State.withdrawnOf_putWithdrawn {s : State} {d : DestId} {x y : Standing} (h : s.withdrawnOf y.ctx d = some x) :
    (s.putWithdrawn d y).withdrawnOf y.ctx d = some y := by
  obtain ⟨w, hw, -⟩ := Option.map_eq_some_iff.1 h
  have found := List.find?_some hw
  have keep : ((fun w : DestId × Standing => w.1 == d && w.2.ctx == y.ctx) ∘
      fun w => if w.1 = d ∧ w.2.ctx = y.ctx then (d, y) else w) = fun w => w.1 == d && w.2.ctx == y.ctx := by
    funext v
    by_cases hv : v.1 = d ∧ v.2.ctx = y.ctx
    · simp [hv]
    · simp only [Function.comp, hv, if_false]
  simp only [Bool.and_eq_true, beq_iff_eq] at found
  simp only [State.withdrawnOf, State.putWithdrawn, List.find?_map, keep, hw, Option.map_some, if_pos found]

/-- A binding that is replaced is found as it was put. -/
theorem State.bindingOf_setBinding {s : State} {c : CtxId} {d : DestId} {x y : Standing} (hx : s.bindingOf c d = some x)
    (hy : y.ctx = c) : (s.setBinding d y).bindingOf c d = some y := by
  subst hy
  rcases s.bound_or_gone y.ctx d with ⟨z, hz, hc⟩ | gone
  · rw [State.setBinding_of_bound hz hc]
    exact State.bindingOf_of_bound (by rw [State.bound_setBound, if_pos rfl])
  · rw [State.bindingOf_of_gone gone] at hx
    have gone' : ∀ z, (s.putWithdrawn d y).bound d = some z → z.ctx ≠ y.ctx := gone
    rw [State.setBinding_of_gone gone, State.bindingOf_of_gone gone']
    exact State.withdrawnOf_putWithdrawn hx

/-- What the binding of a destination is after one has been replaced: as it was, or the one that was put for it. -/
theorem State.bound_setBinding {s : State} {c : CtxId} {d e : DestId} {x y b : Standing} (hx : s.bindingOf c d = some x)
    (hy : y.ctx = c) (hb : s.bound e = some b) :
    (s.setBinding d y).bound e = some b ∨ b = x ∧ (s.setBinding d y).bound e = some y := by
  subst hy
  rcases s.bound_or_gone y.ctx d with ⟨z, hz, hc⟩ | gone
  · rw [State.setBinding_of_bound hz hc, State.bound_setBound]
    split
    · next he =>
      obtain rfl : z = b := Option.some.inj (hz.symm.trans (he ▸ hb))
      rw [← hc, State.bindingOf_of_bound hz] at hx
      exact .inr ⟨Option.some.inj hx, rfl⟩
    · exact .inl hb
  · rw [State.setBinding_of_gone gone]
    exact .inl hb

/-! ## A frame that is skipped -/

/-- What raising fences, writing records, counting frames and coding them may touch. -/
def Offered (s u : State) : Prop :=
  u = { s with regs := u.regs, mem := u.mem, hostMem := u.hostMem, fences := u.fences, raises := u.raises,
               heldWrites := u.heldWrites, dmc := u.dmc, reports := u.reports, reservedUsed := u.reservedUsed,
               contexts := u.contexts, standing := u.standing, withdrawn := u.withdrawn, enc := u.enc, encOrder := u.encOrder }

theorem Offered.refl (s : State) : Offered s s := rfl

theorem Offered.trans {s t u : State} (h : Offered s t) (k : Offered t u) : Offered s u :=
  Eq.trans k (by rw [show t = _ from h])

theorem Wrote.offered {s u : State} (h : Wrote s u) : Offered s u := by
  unfold Offered
  rw [h.rest]

section
variable {s u : State} (h : Offered s u)
include h

theorem Offered.jobs : u.jobs = s.jobs := by rw [show u = _ from h]
theorem Offered.cores : u.cores = s.cores := by rw [show u = _ from h]
theorem Offered.streams : u.streams = s.streams := by rw [show u = _ from h]

end

theorem Offered.setReg (s : State) (o : Nat) (v : W64) : Offered s (s.setReg o v) := rfl

theorem Offered.setBound (s : State) (d : DestId) (x : Option Standing) : Offered s (s.setBound d x) := rfl

theorem Offered.setBinding (s : State) (d : DestId) (x : Standing) : Offered s (s.setBinding d x) := by
  unfold Offered
  rw [s.setBinding_frame]

/-- A binding as it was, but for which of its frames are over. -/
def Standing.Passed (b c : Standing) : Prop := c = { b with finished := c.finished, finishedLow := c.finishedLow }

theorem Standing.Passed.refl (b : Standing) : b.Passed b := rfl

theorem Standing.Passed.trans {a b c : Standing} (h : a.Passed b) (k : b.Passed c) : a.Passed c :=
  Eq.trans k (by rw [show b = _ from h])

section
variable {b c : Standing} (h : b.Passed c)
include h

theorem Standing.Passed.ctx : c.ctx = b.ctx := by rw [show c = _ from h]
theorem Standing.Passed.seqNo : c.seqNo = b.seqNo := by rw [show c = _ from h]
theorem Standing.Passed.held : c.held = b.held := by rw [show c = _ from h]

end

/-- A frame has ended at its destination: no register has changed but those of writes, and of no binding anything but which of its
frames are over. -/
structure Skipped (s u : State) : Prop where
  offered : Offered s u
  regs : SameRegs writeRegs s u
  bound : ∀ d b, s.bound d = some b → ∃ c, u.bound d = some c ∧ b.Passed c

theorem Skipped.trans {s t u : State} (h : Skipped s t) (k : Skipped t u) : Skipped s u where
  offered := h.offered.trans k.offered
  regs o ho := (k.regs o ho).trans (h.regs o ho)
  bound d b hb := by
    obtain ⟨c, hc, hbc⟩ := h.bound d b hb
    obtain ⟨e, he, hce⟩ := k.bound d c hc
    exact ⟨e, he, hbc.trans hce⟩

/-- What leaves the bindings as they are. -/
theorem Skipped.of_standing {s u : State} (h : Offered s u) (hr : SameRegs writeRegs s u) (hs : u.standing = s.standing) :
    Skipped s u :=
  ⟨h, hr, fun d b hb => ⟨b, (State.bound_congr hs d).trans hb, .refl b⟩⟩

theorem Wrote.standing {s u : State} (h : Wrote s u) : u.standing = s.standing := by rw [h.rest]

theorem Wrote.skipped {s u : State} (h : Wrote s u) : Skipped s u := .of_standing h.offered h.regs h.standing

theorem Skipped.refl (s : State) : Skipped s s := (Wrote.refl s).skipped

theorem Skipped.setBinding {s : State} {c : CtxId} {d : DestId} {x y : Standing} (hx : s.bindingOf c d = some x)
    (h : x.Passed y) : Skipped s (s.setBinding d y) where
  offered := .setBinding s d y
  regs o _ := by rw [s.setBinding_frame]; rfl
  bound e b hb := by
    rcases State.bound_setBinding hx (h.ctx.trans (State.bindingOf_ctx hx)) hb with hk | ⟨rfl, hy⟩
    · exact ⟨b, hk, .refl b⟩
    · exact ⟨y, hy, h⟩

theorem State.frameOver_skipped (s : State) (c : CtxId) (d : DestId) (n : W64) : Skipped s (s.frameOver c d n) := by
  unfold State.frameOver
  split
  · exact .refl s
  · next x hx =>
    dsimp only
    have put := fun l w => Skipped.setBinding (y := { x with finishedLow := w, finished := l }) hx rfl
    split
    · exact put _ _
    · split
      · exact (put _ _).trans (Wrote.raise _ _ _).skipped
      · exact put _ _

theorem State.countRecord_skipped (s : State) (c : CtxId) : Skipped s (s.countRecord c) := by
  unfold State.countRecord
  split
  · next x _ =>
    have counted : Skipped s (s.setCtx { x with jobsDone := x.jobsDone + 1 }) := .of_standing rfl (fun _ _ => rfl) rfl
    exact counted.trans (Wrote.writeCtx _ _).skipped
  · exact .refl s

/-- A frame that is skipped writes its record and is over (R14, R236). -/
theorem State.skipFrame_skipped (s : State) (c : CtxId) (d : DestId) (n : W64) : Skipped s (s.skipFrame c d n) := by
  unfold State.skipFrame
  split
  · exact .refl s
  · dsimp only
    have counted : ∀ h, Skipped s ((s.startRecord h).countRecord c) := fun h =>
      (Wrote.startRecord s h).skipped.trans (State.countRecord_skipped _ c)
    split
    · exact counted _
    · exact (counted _).trans (State.frameOver_skipped _ _ _ _)

/-! ## The slot of a frame -/

theorem ispDestSkipCount_not_mem_writeRegs (d : DestId) : Reg.ispDestSkipCount (d.val / 8) (d.val % 8) ∉ writeRegs := by
  revert d; decide

/-- The frames skipped at a destination, as its register counts them. -/
def State.skipCount (s : State) (d : DestId) : W64 := s.reg (Reg.ispDestSkipCount (d.val / 8) (d.val % 8))

theorem Skipped.skipCount {s u : State} (h : Skipped s u) (d : DestId) : u.skipCount d = s.skipCount d :=
  h.regs _ (ispDestSkipCount_not_mem_writeRegs d)

theorem State.skipCount_countSkip (s : State) (d : DestId) :
    ((s.countSkip d).skipCount d).toNat = satAdd 32 (s.skipCount d).toNat 1 := by
  unfold State.countSkip State.inc State.skipCount
  rw [State.reg_setReg_same, BitVec.toNat_ofNat]
  exact Nat.mod_eq_of_lt (lt_of_le_of_lt (Nat.min_le_right _ _) (by decide))

theorem State.offerSlot_of_unbound {s : State} {d : DestId} (h : s.bound d = none) : s.offerSlot d = (s.countSkip d, none) := by
  simp [State.offerSlot, h]

theorem State.offerSlot_of_free {s : State} {d : DestId} {b : Standing} {k : Nat} {base : Nat × Nat} (hb : s.bound d = some b)
    (hu : b.unbinding = none) (hr : s.ctxRuns b.ctx = true) (hk : b.freeSlot? = some k) (hbase : s.slotBase b = some base) :
    s.offerSlot d = (s.takeNumber d b (some k), some (b.seqNo + 1, k)) := by
  simp [State.offerSlot, hb, hu, hr, hk, hbase]

theorem State.offerSlot_of_skipped {s : State} {d : DestId} {b : Standing} (hb : s.bound d = some b) (hu : b.unbinding = none)
    (h : s.ctxRuns b.ctx = false ∨ b.freeSlot? = none ∨ s.slotBase b = none) :
    s.offerSlot d = ((s.skipBound d).countSkip d, none) := by
  unfold State.offerSlot
  rw [hb]
  dsimp only
  rw [if_neg (by simp [hu])]
  rcases h with h | h | h
  · simp [h]
  · simp [h]
  · rw [h]
    split
    · next hnone => cases hnone
    · rfl

/-- A binding whose next frame has taken its number, and a slot where one is given (R232, R270). -/
def Standing.taking (b : Standing) (slot : Option Nat) : Standing :=
  { b with
    seqNo := b.seqNo + 1
    held := slot.elim b.held (fun k => setBit b.held k true)
    lastSlot := slot.getD b.lastSlot }

theorem State.takeNumber_eq (s : State) (d : DestId) (b : Standing) (slot : Option Nat) :
    s.takeNumber d b slot = s.setBound d (some (b.taking slot)) := by
  cases slot <;> rfl

theorem State.bound_takeNumber (s : State) (d : DestId) (b : Standing) (slot : Option Nat) :
    (s.takeNumber d b slot).bound d = some (b.taking slot) := by
  rw [State.takeNumber_eq, State.bound_setBound, if_pos rfl]

/-- The next frame of a binding is skipped: it has its number, and no slot (R14). -/
theorem State.skipBound_of_bound {s : State} {d : DestId} {b : Standing} (hb : s.bound d = some b) :
    Skipped (s.takeNumber d b none) (s.skipBound d) := by
  unfold State.skipBound
  rw [hb]
  exact State.skipFrame_skipped _ _ _ _

/-- A frame that is skipped at a binding takes the next number there, and is counted. -/
theorem State.bound_skipBound {s : State} {d : DestId} {b : Standing} (hb : s.bound d = some b) :
    ∃ c, (s.skipBound d).bound d = some c ∧ c.seqNo = b.seqNo + 1 ∧ c.held = b.held ∧ c.ctx = b.ctx := by
  obtain ⟨c, hc, hbc⟩ := (State.skipBound_of_bound hb).bound d _ (s.bound_takeNumber d b none)
  exact ⟨c, hc, hbc.seqNo, hbc.held, hbc.ctx⟩

theorem State.offered_skipBound (s : State) (d : DestId) : Offered s (s.skipBound d) := by
  unfold State.skipBound
  split
  · exact .refl s
  · exact (Offered.setBound s d _).trans (State.skipFrame_skipped _ _ _ _).offered

theorem State.offered_offerSlot (s : State) (d : DestId) : Offered s (s.offerSlot d).1 := by
  unfold State.offerSlot
  split
  · exact .setReg s _ _
  · split
    · exact .setReg s _ _
    · split
      · exact .setBound s d _
      · exact (s.offered_skipBound d).trans (.setReg _ _ _)

/-- Whether it takes a slot or is skipped, a frame takes the next number of its binding (R14, R232). -/
theorem State.bound_offerSlot {s : State} {d : DestId} {b : Standing} (hb : s.bound d = some b) (hu : b.unbinding = none) :
    ∃ c, (s.offerSlot d).1.bound d = some c ∧ c.seqNo = b.seqNo + 1 ∧ c.ctx = b.ctx := by
  have skipped : (s.ctxRuns b.ctx = false ∨ b.freeSlot? = none ∨ s.slotBase b = none) →
      ∃ c, (s.offerSlot d).1.bound d = some c ∧ c.seqNo = b.seqNo + 1 ∧ c.ctx = b.ctx := by
    intro h
    obtain ⟨c, hc, hseq, -, hctx⟩ := State.bound_skipBound hb
    rw [State.offerSlot_of_skipped hb hu h]
    exact ⟨c, hc, hseq, hctx⟩
  cases hr : s.ctxRuns b.ctx with
  | false => exact skipped (.inl hr)
  | true =>
    cases hk : b.freeSlot? with
    | none => exact skipped (.inr (.inl hk))
    | some k =>
      cases hbase : s.slotBase b with
      | none => exact skipped (.inr (.inr hbase))
      | some base =>
        rw [State.offerSlot_of_free hb hu hr hk hbase]
        exact ⟨_, s.bound_takeNumber d b (some k), rfl, rfl⟩

/-- A binding with a slot free again (R271). -/
def Standing.freeing (b : Standing) (k : Nat) : Standing :=
  { b with held := setBit b.held k false, slotJobs := b.slotJobs.filter (fun p => p.1 != k) }

/-- A slot is given back: of its binding only what holds slots changes. -/
theorem State.bound_freeSlot {s : State} {c : CtxId} {d e : DestId} {k : Nat} {b : Standing} (hb : s.bound e = some b) :
    ∃ y, (s.freeSlot c d k).bound e = some y ∧ y.seqNo = b.seqNo := by
  unfold State.freeSlot
  split
  · next x hx =>
    rcases State.bound_setBinding (y := x.freeing k) hx (State.bindingOf_ctx hx : x.ctx = c) hb with h | ⟨rfl, h⟩
    · exact ⟨b, h, rfl⟩
    · exact ⟨b.freeing k, h, rfl⟩
  · exact ⟨b, hb, rfl⟩

theorem State.offered_freeSlot (s : State) (c : CtxId) (d : DestId) (k : Nat) : Offered s (s.freeSlot c d k) := by
  unfold State.freeSlot
  split
  · exact .setBinding s d _
  · exact .refl s

theorem State.offered_skipHeld (s : State) (c : CtxId) (d : DestId) (n : W64) (k : Nat) : Offered s (s.skipHeld c d n k) :=
  ((s.offered_freeSlot c d k).trans (State.skipFrame_skipped _ c d n).offered).trans (.setReg _ _ _)

/-- A frame that is skipped after all leaves the numbers of every binding. -/
theorem State.bound_skipHeld {s : State} {c : CtxId} {d e : DestId} {n : W64} {k : Nat} {b : Standing} (hb : s.bound e = some b) :
    ∃ y, (s.skipHeld c d n k).bound e = some y ∧ y.seqNo = b.seqNo := by
  obtain ⟨y, hy, hseq⟩ := State.bound_freeSlot (c := c) (d := d) (k := k) hb
  obtain ⟨z, hz, hyz⟩ := (State.skipFrame_skipped (s.freeSlot c d k) c d n).bound e y hy
  exact ⟨z, hz, hyz.seqNo.trans hseq⟩

end Sys2Proof.Machine

/-! PROOF. A frame's first line leaves the pipe (R13, R14, R257, R270, R276). -/

namespace Sys2Proof.Machine

theorem exec_frameFirstLineOut (p : PipeId) (st : StreamId) (s : State) :
    exec (.frameFirstLineOut p st) s = execFrameFirstLineOut p st s := rfl

/-! ## Streams -/

@[simp] theorem State.stream_setStream (s : State) (p : PipeId) (st : StreamId) (x : Stream) :
    (s.setStream p st x).stream p st = x := by
  simp [State.stream, State.setStream]

theorem State.stream_congr {s u : State} (h : u.streams = s.streams) (p : PipeId) (st : StreamId) :
    u.stream p st = s.stream p st := by
  simp only [State.stream, h]

/-! ## The codec branch -/

/-- Only an encoder, its count of dropped frames and a report of them may differ: nothing of the contexts, models and bindings. -/
structure Encoded (s u : State) : Prop where
  rest : u = { s with regs := u.regs, enc := u.enc, reports := u.reports, reservedUsed := u.reservedUsed }
  skips : ∀ d, u.skipCount d = s.skipCount d

theorem Encoded.refl (s : State) : Encoded s s := ⟨rfl, fun _ => rfl⟩

section
variable {s u : State} (h : Encoded s u)
include h

theorem Encoded.offered : Offered s u := by
  unfold Offered
  rw [h.rest]

theorem Encoded.standing : u.standing = s.standing := by rw [h.rest]

theorem Encoded.bound (d : DestId) : u.bound d = s.bound d := State.bound_congr h.standing d

theorem Encoded.ctxRuns (c : CtxId) : u.ctxRuns c = s.ctxRuns c := by
  rw [h.rest]
  rfl

theorem Encoded.slotBase (b : Standing) : u.slotBase b = s.slotBase b := by
  rw [h.rest]
  rfl

end

theorem vcEncDropCount_ne_ispDestSkipCount (p : PipeId) (d : DestId) :
    Reg.ispDestSkipCount (d.val / 8) (d.val % 8) ≠ Reg.vcEncDropCount p.val := by
  revert p d; decide

/-- A report touches the reports and the registers that count those lost. -/
theorem State.report_frame (s : State) (r : Report) :
    s.report r = { s with
      regs := (s.report r).regs, reports := (s.report r).reports, reservedUsed := (s.report r).reservedUsed } := by
  unfold State.report
  dsimp only
  split
  · rfl
  · split <;> rfl

/-- What the codec branch does with a frame's first line. -/
theorem State.offerEnc_encoded (s : State) (i : EncId) (start : W64) (block : List Byte) :
    Encoded s (s.offerEnc i start block).1 := by
  unfold State.offerEnc
  dsimp only
  split
  · exact .refl s
  · split
    · exact ⟨rfl, fun _ => rfl⟩
    · refine ⟨?_, fun d => ?_⟩
      · unfold State.codecReport
        rw [State.report_frame]
        rfl
      · exact ((Wrote.report _ (by decide : (7 : Nat) < 16)).skipped.skipCount d).trans
          (State.reg_setReg_ne _ _ _ _ (vcEncDropCount_ne_ispDestSkipCount _ d))

/-- The codec branch, where the frame's set enables it. -/
def State.offerCodec (s : State) (p : PipeId) (st : StreamId) (f : Frame) : State × Option W64 :=
  if setEnable f.set 0 then s.offerEnc (encOf p st) f.startGate f.block else (s, none)

theorem State.offerCodec_encoded (s : State) (p : PipeId) (st : StreamId) (f : Frame) : Encoded s (s.offerCodec p st f).1 := by
  unfold State.offerCodec
  split
  · exact s.offerEnc_encoded _ _ _
  · exact .refl s

/-! ## The store branch -/

/-- The store branch after the codec branch, where the frame's set enables it. -/
def State.offerStore (s : State) (p : PipeId) (st : StreamId) (f : Frame) : State × Option (W64 × Nat) :=
  if setEnable f.set 1 then (s.offerCodec p st f).1.offerSlot (setDest f.set) else ((s.offerCodec p st f).1, none)

theorem State.firstLine_fst (s : State) (p : PipeId) (st : StreamId) (f : Frame) :
    (s.firstLine p st f).1 = (s.offerStore p st f).1 := rfl

theorem State.firstLine_slotCtx {s : State} (p : PipeId) (st : StreamId) {f : Frame} {b : Standing}
    (hb : s.bound (setDest f.set) = some b) : (s.firstLine p st f).2.slotCtx = b.ctx := by
  simp [State.firstLine, hb]

theorem State.offered_offerStore (s : State) (p : PipeId) (st : StreamId) (f : Frame) : Offered s (s.offerStore p st f).1 := by
  have coded := (s.offerCodec_encoded p st f).offered
  unfold State.offerStore
  split
  · exact coded.trans (State.offered_offerSlot _ _)
  · exact coded

section
variable {s : State} (p : PipeId) (st : StreamId) {f : Frame}

/-- With no store branch no binding moves. -/
theorem State.offerStore_of_disabled (h : setEnable f.set 1 = false) :
    (s.offerStore p st f).2 = none ∧ (s.offerStore p st f).1.standing = s.standing := by
  simp [State.offerStore, h, (s.offerCodec_encoded p st f).standing]

/-- With no binding the frame is counted. -/
theorem State.offerStore_of_unbound (h : setEnable f.set 1 = true) (hb : s.bound (setDest f.set) = none) :
    (s.offerStore p st f).2 = none ∧ (s.offerStore p st f).1.standing = s.standing ∧
      ((s.offerStore p st f).1.skipCount (setDest f.set)).toNat = satAdd 32 (s.skipCount (setDest f.set)).toNat 1 := by
  have coded := s.offerCodec_encoded p st f
  rw [State.offerStore, if_pos h, State.offerSlot_of_unbound ((coded.bound _).trans hb), State.skipCount_countSkip, coded.skips]
  exact ⟨rfl, coded.standing, rfl⟩

variable {b : Standing} (h : setEnable f.set 1 = true) (hb : s.bound (setDest f.set) = some b) (hu : b.unbinding = none)
include h hb hu

/-- The frame takes the next free slot of its destination, and the next number (R270). -/
theorem State.offerStore_of_free {k : Nat} {base : Nat × Nat} (hr : s.ctxRuns b.ctx = true) (hk : b.freeSlot? = some k)
    (hbase : s.slotBase b = some base) :
    (s.offerStore p st f).2 = some (b.seqNo + 1, k) ∧
      (s.offerStore p st f).1.bound (setDest f.set) = some (b.taking (some k)) := by
  have coded := s.offerCodec_encoded p st f
  rw [State.offerStore, if_pos h, State.offerSlot_of_free ((coded.bound _).trans hb) hu ((coded.ctxRuns _).trans hr) hk
    ((coded.slotBase b).trans hbase)]
  exact ⟨rfl, State.bound_takeNumber _ _ _ _⟩

/-- The frame is skipped and counted under the next number (R14). -/
theorem State.offerStore_of_skipped (hs : s.ctxRuns b.ctx = false ∨ b.freeSlot? = none ∨ s.slotBase b = none) :
    (s.offerStore p st f).2 = none ∧
      ((s.offerStore p st f).1.skipCount (setDest f.set)).toNat = satAdd 32 (s.skipCount (setDest f.set)).toNat 1 ∧
      ∃ c, (s.offerStore p st f).1.bound (setDest f.set) = some c ∧ c.seqNo = b.seqNo + 1 ∧ c.held = b.held := by
  have coded := s.offerCodec_encoded p st f
  have hb' := (coded.bound _).trans hb
  obtain ⟨c, hc, hseq, hheld, -⟩ := State.bound_skipBound hb'
  have skips := (State.skipBound_of_bound hb').skipCount (setDest f.set)
  rw [State.offerStore, if_pos h, State.offerSlot_of_skipped hb' hu (by rwa [coded.ctxRuns, coded.slotBase]),
    State.skipCount_countSkip, skips]
  refine ⟨rfl, ?_, c, hc, hseq, hheld⟩
  rw [State.takeNumber_eq]
  exact congrArg (fun v : W64 => satAdd 32 v.toNat 1) (coded.skips _)

/-- Either way it takes the next number. -/
theorem State.bound_offerStore :
    ∃ c, (s.offerStore p st f).1.bound (setDest f.set) = some c ∧ c.seqNo = b.seqNo + 1 := by
  obtain ⟨c, hc, hseq, -⟩ := State.bound_offerSlot (((s.offerCodec_encoded p st f).bound _).trans hb) hu
  rw [State.offerStore, if_pos h]
  exact ⟨c, hc, hseq⟩

end

/-! ## A frame that closed before -/

theorem State.fillEnc_offered (s : State) (i : EncId) (n : W64) (picture : List Nat) :
    Offered s (s.fillEnc i n picture) ∧ (s.fillEnc i n picture).standing = s.standing := by
  unfold State.fillEnc
  dsimp only
  split
  · exact ⟨rfl, rfl⟩
  · exact ⟨.refl s, rfl⟩

/-- The device with a frame's codec copy whole, where it has one (R268). -/
def State.codedWhole (s : State) (p : PipeId) (st : StreamId) (f : Frame) : State :=
  f.coded.elim s (fun n => s.fillEnc (encOf p st) n (pictureOf f.set (s.defects p) f.lines))

theorem State.codedWhole_offered (s : State) (p : PipeId) (st : StreamId) (f : Frame) :
    Offered s (s.codedWhole p st f) ∧ (s.codedWhole p st f).standing = s.standing := by
  unfold State.codedWhole
  cases f.coded with
  | none => exact ⟨.refl s, rfl⟩
  | some n => exact s.fillEnc_offered _ _ _

/-- The last line of a frame: its codec copy is whole, and one that SKIPMASK names gives its slot back (R268, R271). -/
theorem State.lastLine_cases (s : State) (p : PipeId) (st : StreamId) (f : Frame) :
    s.lastLine p st f = (s.codedWhole p st f, f) ∨
      ∃ n k, s.lastLine p st f = ((s.codedWhole p st f).skipHeld f.slotCtx (setDest f.set) n k, { f with slot := none }) := by
  have whole : s.lastLine p st f = match f.slot with
      | some (n, k) => if (f.flags.toNat % 256) &&& leAt f.set 0x018 1 != 0 then
          ((s.codedWhole p st f).skipHeld f.slotCtx (setDest f.set) n k, { f with slot := none })
        else (s.codedWhole p st f, f)
      | none => (s.codedWhole p st f, f) := by
    unfold State.lastLine State.codedWhole
    cases f.coded <;> rfl
  rw [whole]
  split
  · split
    · exact .inr ⟨_, _, rfl⟩
    · exact .inl rfl
  · exact .inl rfl

/-- What the last line of a frame leaves of the device: no binding's number moves. -/
theorem State.lastLine_offered (s : State) (p : PipeId) (st : StreamId) (f : Frame) :
    Offered s (s.lastLine p st f).1 ∧ (s.lastLine p st f).2.firstOut = f.firstOut ∧
      ∀ d b, s.bound d = some b → ∃ c, (s.lastLine p st f).1.bound d = some c ∧ c.seqNo = b.seqNo := by
  obtain ⟨coded, standing⟩ := s.codedWhole_offered p st f
  have bound := State.bound_congr standing
  rcases s.lastLine_cases p st f with h | ⟨n, k, h⟩
  · rw [h]
    exact ⟨coded, rfl, fun d b hb => ⟨b, (bound d).trans hb, rfl⟩⟩
  · rw [h]
    exact ⟨coded.trans (State.offered_skipHeld _ _ _ _ _), rfl, fun d b hb => State.bound_skipHeld ((bound d).trans hb)⟩

/-- A frame whose first line has left stands behind the stream's others, or has no place there; the open frame stays. -/
theorem State.pass_of_firstOut {s : State} {p : PipeId} {st : StreamId} {f : Frame} (hf : f.firstOut = true) :
    ((s.pass p st f).stream p st).frame = (s.stream p st).frame ∧
      ((s.pass p st f).stream p st).out.filter (fun f => !f.firstOut) = (s.stream p st).out.filter (fun f => !f.firstOut) ∧
      ∀ d b, s.bound d = some b → ∃ c, (s.pass p st f).bound d = some c ∧ c.seqNo = b.seqNo := by
  obtain ⟨offered, firstOut, bound⟩ := s.lastLine_offered p st f
  have stream := State.stream_congr offered.streams p st
  unfold State.pass
  rw [if_pos hf]
  dsimp only
  split
  · refine ⟨?_, ?_, bound⟩
    · rw [State.stream_setStream, stream]
    · rw [State.stream_setStream, stream]
      simp [firstOut, hf]
  · exact ⟨by rw [stream], by rw [stream], bound⟩

/-- One fewer of a list's elements of a kind is left when the first of them goes. -/
theorem length_filter_erase {α : Type} [DecidableEq α] {l : List α} {a : α} {p : α → Bool} (h : l.find? p = some a) :
    ((l.erase a).filter p).length + 1 = (l.filter p).length := by
  have perm := (List.perm_cons_erase (List.mem_of_find?_eq_some h)).filter p
  rw [List.filter_cons_of_pos (List.find?_some h)] at perm
  exact perm.length_eq.symm

/-! ## The three cases of the event -/

section
variable {s : State} {p : PipeId} {st : StreamId} {f : Frame} (hw : s.works = true)
include hw

/-- The open frame's first line leaves. -/
theorem gives_firstLine_of_open (hout : (s.stream p st).out.find? (fun f => !f.firstOut) = none)
    (hf : (s.stream p st).frame = some f) (h1 : f.firstOut = false) (hl : f.hasLine = true) {P : State → Prop}
    (hp : ∀ u, (u.stream p st).frame = some (s.firstLine p st f).2 → u.regs = (s.offerStore p st f).1.regs →
      u.standing = (s.offerStore p st f).1.standing → P u) : Gives (.frameFirstLineOut p st) s P := by
  refine ⟨_, ?_, hp ((s.firstLine p st f).1.setStream p st
    { (s.firstLine p st f).1.stream p st with frame := some (s.firstLine p st f).2 }) (by rw [State.stream_setStream]) rfl rfl⟩
  simp [exec_frameFirstLineOut, execFrameFirstLineOut, hw, hout, hf, h1, hl, ok]

/-- The first line of a frame that closed before leaves. -/
theorem gives_firstLine_of_closed (hout : (s.stream p st).out.find? (fun f => !f.firstOut) = some f) :
    Gives (.frameFirstLineOut p st) s (fun u => (u.stream p st).frame = (s.stream p st).frame ∧
      ((u.stream p st).out.filter (fun f => !f.firstOut)).length + 1 = ((s.stream p st).out.filter (fun f => !f.firstOut)).length ∧
      ∀ b, setEnable f.set 1 = true → s.bound (setDest f.set) = some b → b.unbinding = none →
        ∃ c, u.bound (setDest f.set) = some c ∧ c.seqNo = b.seqNo + 1) := by
  have taken : ∃ s1 : State, s1 = s.setStream p st { s.stream p st with out := (s.stream p st).out.erase f } := ⟨_, rfl⟩
  obtain ⟨s1, hs1⟩ := taken
  have stream : s1.stream p st = { s.stream p st with out := (s.stream p st).out.erase f } := by rw [hs1, State.stream_setStream]
  have bound : ∀ d, s1.bound d = s.bound d := fun d => by rw [hs1]; rfl
  obtain ⟨frame, waits, numbers⟩ := State.pass_of_firstOut (s := (s1.firstLine p st f).1) (p := p) (st := st)
    (f := (s1.firstLine p st f).2) rfl
  have line := State.stream_congr (s1.offered_offerStore p st f).streams p st
  rw [State.firstLine_fst, line, stream] at frame waits
  refine ⟨(s1.firstLine p st f).1.pass p st (s1.firstLine p st f).2, ?_, frame, ?_, fun b he hb hu => ?_⟩
  · simp [exec_frameFirstLineOut, execFrameFirstLineOut, hw, hout, ok, hs1]
  · rw [State.firstLine_fst, waits]
    exact length_filter_erase hout
  · obtain ⟨c, hc, hseq⟩ := State.bound_offerStore p st he ((bound _).trans hb) hu
    obtain ⟨x, hx, hxs⟩ := numbers _ c hc
    exact ⟨x, hx, hxs.trans hseq⟩

/-- With no first line to leave nothing happens. -/
theorem gives_firstLine_of_none (hout : (s.stream p st).out.find? (fun f => !f.firstOut) = none)
    (hf : (s.stream p st).frame = some f) (h : f.firstOut = true ∨ f.hasLine = false) :
    Gives (.frameFirstLineOut p st) s (fun u => u = s) := by
  refine ⟨s, ?_, rfl⟩
  rcases h with h | h <;> simp [exec_frameFirstLineOut, execFrameFirstLineOut, hw, hout, hf, h, ok]

end

end Sys2Proof.Machine

/-! PROOF. A frame is delivered to its slot, what its descriptor row says, and the slot is released (R16, R214, R232, R270, R271,
R273). -/

namespace Sys2Proof.Machine

theorem exec_slotDescriptorWrite (d : DestId) (s : State) : exec (.slotDescriptorWrite d) s = execSlotDescriptorWrite d s := rfl
theorem exec_slotRelease (d : DestId) (slot : SlotNo) (s : State) : exec (.slotRelease d slot) s = execSlotRelease d slot s := rfl

/-! ## Little-endian fields of a byte list (R4) -/

theorem leBytes_length (n v : Nat) : (leBytes n v).length = n := by
  induction n generalizing v with
  | zero => rfl
  | succ n ih => simp [leBytes, ih]

theorem ofLe_leBytes (n v : Nat) : ofLe (leBytes n v) = v % 256 ^ n := by
  induction n generalizing v with
  | zero => simp [leBytes, ofLe, Nat.mod_one]
  | succ n ih =>
    have byte : (BitVec.ofNat 8 v).toNat = v % 256 := BitVec.toNat_ofNat v 8
    rw [leBytes, ofLe, ih, byte, Nat.pow_succ', Nat.mod_mul]

theorem ofLe_lt (l : List Byte) : ofLe l < 256 ^ l.length := by
  induction l with
  | nil => simp [ofLe]
  | cons b r ih =>
    have := b.isLt
    rw [ofLe, List.length_cons, Nat.pow_succ']
    omega

/-- A field of one byte is a byte. -/
theorem leAt_one_lt (l : List Byte) (o : Nat) : leAt l o 1 < 256 :=
  lt_of_lt_of_le (ofLe_lt _) (Nat.pow_le_pow_right (by decide) (List.length_take_le _ _) |>.trans (by decide : 256 ^ 1 ≤ 256))

/-- The field at the start of a list reads the number written there. -/
theorem leAt_leBytes_append (n v : Nat) (l : List Byte) : leAt (leBytes n v ++ l) 0 n = v % 256 ^ n := by
  rw [leAt, List.drop_zero, List.take_left' (leBytes_length n v), ofLe_leBytes]

/-- A field that lies behind a number written at the start. -/
theorem leAt_skip (n v : Nat) (l : List Byte) (o m : Nat) (h : n ≤ o) : leAt (leBytes n v ++ l) o m = leAt l (o - n) m := by
  have hd : (leBytes n v ++ l).drop o = l.drop (o - n) := by
    rw [List.drop_append, List.drop_eq_nil_of_le (by rw [leBytes_length]; exact h), leBytes_length, List.nil_append]
  simp only [leAt, hd]

/-! ## The descriptor row (R273) -/

theorem descriptorRow_length {f : Frame} (n : W64) (k defects : Nat) (t : ConvTally) (he : f.embedded.length ≤ 384) :
    (descriptorRow f n k defects t).length = 512 := by
  simp only [descriptorRow, List.length_append, leBytes_length, List.length_replicate]
  omega

theorem descriptorRow_embedded {f : Frame} (n : W64) (k defects : Nat) (t : ConvTally) :
    ((descriptorRow f n k defects t).drop 128).take f.embedded.length = f.embedded := by
  rw [descriptorRow, List.append_assoc, List.drop_left', List.take_left]
  simp only [List.length_append, leBytes_length, List.length_replicate]

/-- What the descriptor row says of its frame. -/
theorem descriptorRow_fields {f : Frame} (n : W64) (k defects : Nat) (t : ConvTally) (he : f.embedded.length ≤ 384) :
    let r := descriptorRow f n k defects t
    leAt r 0 8 = n.toNat ∧ leAt r 8 1 = setPort f.set ∧ leAt r 9 1 = k % 256 ∧ leAt r 10 2 = f.flags.toNat ∧
    leAt r 12 2 = linesOf f.lines 0 % 65536 ∧ leAt r 14 2 = filledLines f.set f.lines % 65536 ∧ leAt r 32 4 = f.crcFails % 2 ^ 32 ∧
    leAt r 36 4 = defects % 2 ^ 32 ∧ leAt r 40 4 = t.conv % 2 ^ 32 ∧ leAt r 44 4 = t.clip % 2 ^ 32 ∧
    leAt r 48 2 = f.embedded.length ∧
    leAt r 16 8 = f.startGate.toNat ∧ leAt r 24 8 = f.endGate.toNat ∧ (r.drop 128).take f.embedded.length = f.embedded := by
  have number : n.toNat < 18446744073709551616 := n.isLt
  have port : setPort f.set < 256 := leAt_one_lt f.set 0
  have flags : f.flags.toNat < 65536 := f.flags.isLt
  have start : f.startGate.toNat < 18446744073709551616 := f.startGate.isLt
  have finish : f.endGate.toNat < 18446744073709551616 := f.endGate.isLt
  have length : f.embedded.length < 65536 := by omega
  refine ⟨?_, ?_, ?_, ?_, ?_, ?_, ?_, ?_, ?_, ?_, ?_, ?_, ?_, descriptorRow_embedded n k defects t⟩
  all_goals
    simp [descriptorRow, List.append_assoc, leAt_skip, leAt_leBytes_append, number, port, flags, start, finish, length]

/-! ## Rows -/

theorem padRow_length (bs : List Byte) : (padRow bs).length = 512 := by
  simp only [padRow, List.length_take, List.length_append, List.length_replicate]
  omega

theorem rowsOf_flatten_length (bs : List Byte) {n : Nat} (hn : n ≤ (rowsOf bs).length) :
    ((rowsOf bs).take n).flatten.length = 512 * n := by
  have rows : ∀ r ∈ (rowsOf bs).take n, r.length = 512 := by
    intro r hr
    obtain ⟨i, -, rfl⟩ := List.mem_map.1 (List.mem_of_mem_take hr)
    exact padRow_length _
  rw [List.length_flatten, List.map_congr_left rows, List.map_const', List.sum_replicate, List.length_take, Nat.min_eq_left hn]
  simp [Nat.mul_comm]

/-- Rows follow one another (R146). -/
theorem rowAddr_add (st r n : Nat) : rowAddr st (r + n) = rowAddr st r + 512 * n := by
  unfold rowAddr
  split <;> ring

theorem State.rd_congr {s u : State} (h : u.mem = s.mem) (a n : Nat) : u.rd a n = s.rd a n := by
  simp only [State.rd, h]

theorem State.byteAt_congr {s u : State} (h : u.mem = s.mem) (a : Nat) : u.byteAt a = s.byteAt a := by
  simp only [State.byteAt, h]

/-- Two runs of bytes written one behind the other. -/
theorem State.rd_wr_wr {s u : State} {a : Nat} {bs cs : List Byte} (h : u.mem = ((s.wr a bs).wr (a + bs.length) cs).mem) :
    u.rd a bs.length = bs ∧ u.rd (a + bs.length) cs.length = cs ∧
      ∀ y, y < a ∨ a + bs.length + cs.length ≤ y → u.byteAt y = s.byteAt y := by
  refine ⟨?_, ?_, fun y hy => ?_⟩
  · rw [State.rd_congr h, State.rd_wr_out _ _ _ _ _ (.inl le_rfl), State.rd_wr]
  · rw [State.rd_congr h, State.rd_wr]
  · rw [State.byteAt_congr h, State.byteAt_wr, if_neg (by omega), State.byteAt_wr, if_neg (by omega)]

/-! ## Delivery -/

theorem State.not_ctxEnds_of_ctxRuns {s : State} {c : CtxId} (h : s.ctxRuns c = true) : s.ctxEnds c = false := by
  unfold State.ctxRuns at h
  unfold State.ctxEnds
  cases hc : s.ctx? c with
  | none => rfl
  | some x => simp_all

theorem State.countTensor_frame (s : State) (p : PipeId) (t : ConvTally) :
    s.countTensor p t = { s with regs := (s.countTensor p t).regs } := by
  unfold State.countTensor
  dsimp only
  split <;> rfl

/-- The rows of a frame's tensor that its slot holds, less the descriptor's (log 55). -/
def fittingRows (l : List Byte) (x : Standing) : Nat := min (rowsOf l).length (x.slotRows - 1)

/-- A binding with the job of a frame in one of its slots (R271). -/
def Standing.holding (b : Standing) (k : Nat) (uid : W32) : Standing := { b with slotJobs := b.slotJobs ++ [(k, uid)] }

/-- The device with a frame's rows in its slot, its descriptor row behind them, and its conversions counted. -/
def State.delivered (s : State) (p : PipeId) (st : StreamId) (f : Frame) (n : W64) (k : Nat) (x : Standing) (store row : Nat) :
    State :=
  let t := tensorOf f.set (s.defects p) f.lines
  (((s.setStream p st { s.stream p st with out := (s.stream p st).out.erase f }).wr
    (rowAddr store row) ((rowsOf t.1).take (fittingRows t.1 x)).flatten).wr
    (rowAddr store (row + fittingRows t.1 x))
      (descriptorRow f n k (replacements f.set (s.defects p) f.lines) t.2)).countTensor p t.2

theorem State.delivered_frame (s : State) (p : PipeId) (st : StreamId) (f : Frame) (n : W64) (k : Nat) (x : Standing)
    (store row : Nat) : s.delivered p st f n k x store row = { s with
      streams := (s.delivered p st f n k x store row).streams
      mem := (s.delivered p st f n k x store row).mem
      regs := (s.delivered p st f n k x store row).regs } := by
  unfold State.delivered
  dsimp only
  rw [State.countTensor_frame]
  rfl

/-- What stands in memory once a frame has been delivered (R269, R270, R273). -/
theorem State.delivered_mem (s : State) (p : PipeId) (st : StreamId) {f : Frame} (n : W64) (k : Nat) (x : Standing)
    (store row : Nat) (he : f.embedded.length ≤ 384) {u : State} (hu : u.mem = (s.delivered p st f n k x store row).mem) :
    let t := tensorOf f.set (s.defects p) f.lines
    let fit := fittingRows t.1 x
    u.rd (rowAddr store row) (512 * fit) = ((rowsOf t.1).take fit).flatten ∧
      u.rd (rowAddr store row + 512 * fit) 512 = descriptorRow f n k (replacements f.set (s.defects p) f.lines) t.2 ∧
      ∀ y, y < rowAddr store row ∨ rowAddr store row + 512 * (fit + 1) ≤ y → u.byteAt y = s.byteAt y := by
  intro t fit
  have rows : ((rowsOf t.1).take fit).flatten.length = 512 * fit := rowsOf_flatten_length t.1 (Nat.min_le_left _ _)
  have desc := descriptorRow_length (f := f) n k (replacements f.set (s.defects p) f.lines) t.2 he
  have mem : u.mem = ((s.wr (rowAddr store row) ((rowsOf t.1).take fit).flatten).wr
      (rowAddr store row + ((rowsOf t.1).take fit).flatten.length)
      (descriptorRow f n k (replacements f.set (s.defects p) f.lines) t.2)).mem := by
    rw [hu, rows, ← rowAddr_add, State.delivered, State.countTensor_frame]
    rfl
  have written := State.rd_wr_wr mem
  rw [rows, desc] at written
  obtain ⟨hrows, hdesc, hrest⟩ := written
  exact ⟨hrows, hdesc, fun y hy => hrest y (hy.imp_right (fun h => by rwa [Nat.add_assoc, ← Nat.mul_succ]))⟩

section
variable {s : State} {d : DestId} {p : PipeId} {st : StreamId} {f : Frame} {n : W64} {k : Nat} {x : Standing}
  (hw : s.works = true) (hd : s.deliverable d = some (p, st, f, n, k)) (hx : s.bindingOf f.slotCtx d = some x)
include hw hd hx

/-- A frame whose context runs is delivered, and its job joins the queue (R214, R232). -/
theorem exec_slotDescriptorWrite_of_runs {store first : Nat} {m : Model} (hreset : s.lodge.inReset = false)
    (hbase : s.slotBase x = some (store, first)) (hm : s.model? x.ctx x.model = some m) (hr : s.ctxRuns x.ctx = true) :
    let t := s.delivered p st f n k x store (first + x.slotRows * k)
    exec (.slotDescriptorWrite d) s = ok ((t.setBinding d (x.holding k t.uids)).enqueue m
      (frameJob t d x n k (first + x.slotRows * k))) := by
  have ends := State.not_ctxEnds_of_ctxRuns hr
  simp only [exec_slotDescriptorWrite, execSlotDescriptorWrite, hw, hd, hx, hbase, hm, ends, hreset, hr, Bool.not_true,
    Bool.or_self, Bool.false_eq_true, if_false]
  rfl

/-- What a delivery leaves of memory, the jobs and the frame's binding (R16, R214, R232). -/
theorem gives_slotDescriptorWrite_of_runs {store first : Nat} {m : Model} (hreset : s.lodge.inReset = false)
    (hbase : s.slotBase x = some (store, first)) (hm : s.model? x.ctx x.model = some m) (hr : s.ctxRuns x.ctx = true)
    {P : State → Prop} (hp : ∀ u j, u.mem = (s.delivered p st f n k x store (first + x.slotRows * k)).mem → u.jobs = s.jobs ++ [j] →
      j.ctx = x.ctx → j.model = x.model → j.seed = x.seed + n →
      j.state = (if (m.ctx, m.number, m.jobsSinceReg + 1) ∈ s.rink.aborted then .ended else .queued) →
      j.standing = some (d, n, k) → j.strict = x.strict → j.args = x.args →
      j.deadline = (if x.deadline = 0 then 0 else s.gate + BitVec.ofNat 64 x.deadline) →
      u.bindingOf f.slotCtx d = some (x.holding k s.uids) → P u) :
    Gives (.slotDescriptorWrite d) s P := by
  have run := exec_slotDescriptorWrite_of_runs hw hd hx hreset hbase hm hr
  have frame := s.delivered_frame p st f n k x store (first + x.slotRows * k)
  generalize s.delivered p st f n k x store (first + x.slotRows * k) = t at run frame hp
  dsimp only at run
  have uids : t.uids = s.uids := by rw [frame]
  have gate : t.gate = s.gate := by rw [frame]
  have hx' : t.bindingOf f.slotCtx d = some x :=
    (State.bindingOf_congr (by rw [frame]) (by rw [frame]) _ _).trans hx
  have bound := State.bindingOf_setBinding (y := x.holding k t.uids) hx'
    (State.bindingOf_ctx hx : x.ctx = f.slotCtx)
  have put := t.setBinding_frame d (x.holding k t.uids)
  generalize t.setBinding d (x.holding k t.uids) = v at run bound put
  have models : v.models = s.models := by rw [put, frame]
  have jobs : v.jobs = s.jobs := by rw [put, frame]
  have rink : v.rink = s.rink := by rw [put, frame]
  have mem : v.mem = t.mem := by rw [put]
  have housed := State.enqueue_housed ((State.model?_congr models _ _).trans hm) (frameJob t d x n k (first + x.slotRows * k))
  refine ⟨_, run, hp _ (v.joining m (frameJob t d x n k (first + x.slotRows * k))) (housed.mem.trans mem)
    (housed.jobs.trans (congrArg (· ++ _) jobs)) rfl rfl rfl ?_ rfl rfl rfl ?_ ?_⟩
  · rw [← rink]
    rfl
  · rw [← gate]
    rfl
  · rw [State.bindingOf_congr housed.standing housed.withdrawn, ← uids]
    exact bound

/-- A frame whose context does not run gives its slot back, and is skipped but where the context ends (R240, R271). -/
theorem exec_slotDescriptorWrite_of_halted (hr : s.ctxRuns x.ctx = false) :
    ∃ t u, t.jobs = s.jobs ∧ t.cores = s.cores ∧ Offered t u ∧ exec (.slotDescriptorWrite d) s = ok u := by
  have given : ∀ t : State, Offered t (if s.ctxEnds x.ctx then t.freeSlot x.ctx d k else t.skipHeld x.ctx d n k) := by
    intro t
    split
    · exact t.offered_freeSlot _ _ _
    · exact t.offered_skipHeld _ _ _ _
  cases hbase : s.slotBase x with
  | none =>
    refine ⟨s.setStream p st { s.stream p st with out := (s.stream p st).out.erase f }, _, rfl, rfl, given _, ?_⟩
    simp [exec_slotDescriptorWrite, execSlotDescriptorWrite, hw, hd, hx, hbase]
  | some base =>
    cases hm : s.model? x.ctx x.model with
    | none =>
      refine ⟨s.setStream p st { s.stream p st with out := (s.stream p st).out.erase f }, _, rfl, rfl, given _, ?_⟩
      simp [exec_slotDescriptorWrite, execSlotDescriptorWrite, hw, hd, hx, hbase, hm]
    | some m =>
      have frame := s.delivered_frame p st f n k x base.1 (base.2 + x.slotRows * k)
      refine ⟨s.delivered p st f n k x base.1 (base.2 + x.slotRows * k), _, by rw [frame], by rw [frame], given _, ?_⟩
      cases he : s.ctxEnds x.ctx <;>
        simp [exec_slotDescriptorWrite, execSlotDescriptorWrite, hw, hd, hx, hbase, hm, hr, he] <;> rfl

end

/-! ## Release -/

/-- A slot whose counter has passed its index is free again (R271). -/
theorem exec_slotRelease_of_passed {s : State} {d : DestId} {slot : SlotNo} {x : Standing} {uid : W32} {i : Nat} {im : InputEntry}
    {j : Job} {c : Counter} (hreset : s.lodge.inReset = false) (hb : s.bound d = some x)
    (hslot : x.slotJobs.find? (fun q => q.1 == slot.val) = some (i, uid))
    (him : (s.model? x.ctx x.model).bind (fun m => m.image.bind (·.input)) = some im)
    (hj : s.jobs.find? (fun j => j.uid == uid) = some j) (hc : s.jobCounter j im.counter = some c) (hpast : im.index < c.doneLow) :
    exec (.slotRelease d slot) s = ok (s.setBound d (some (x.freeing slot.val))) := by
  have freed : s.freeSlot x.ctx d slot.val = s.setBound d (some (x.freeing slot.val)) := by
    unfold State.freeSlot
    rw [State.bindingOf_of_bound hb]
    exact State.setBinding_of_bound hb rfl
  simp only [exec_slotRelease, execSlotRelease, hreset, hb, hslot, him, hj, hc, hpast, freed, Bool.false_eq_true, if_false, if_true]

end Sys2Proof.Machine

namespace Sys2Proof

open Machine

/-- Settles O47: a frame's first line by the three cases of its stream, with the store branch's rule for each state of the binding;
the rest by what a delivery writes, what its descriptor row says, and the one binding that a release changes. -/
theorem slotsOfDestinations : Obligations.SlotsOfDestinations := by
  refine ⟨fun s p st f hw => ⟨fun hout hf h1 hl => ?_, fun hout => gives_firstLine_of_closed hw hout,
    fun hout hf h => gives_firstLine_of_none hw hout hf h⟩, ?_, ?_, ?_, ?_⟩
  · refine gives_firstLine_of_open hw hout hf h1 hl (fun u hframe hregs hstanding => ?_)
    have count : u.skipCount (setDest f.set) = (s.offerStore p st f).1.skipCount (setDest f.set) := by
      simp only [State.skipCount, State.reg, hregs]
    have bound := State.bound_congr hstanding (setDest f.set)
    refine ⟨_, hframe, rfl, rfl, rfl, rfl, fun he => ?_, fun he hb => ?_, fun b he hb hu =>
      ⟨fun k base hr hk hbase => ?_, fun hs => ?_⟩⟩
    · obtain ⟨slot, standing⟩ := State.offerStore_of_disabled p st he
      exact ⟨slot, hstanding.trans standing⟩
    · obtain ⟨slot, standing, skips⟩ := State.offerStore_of_unbound p st he hb
      exact ⟨slot, (congrArg BitVec.toNat count).trans skips, hstanding.trans standing⟩
    · obtain ⟨slot, taken⟩ := State.offerStore_of_free p st he hb hu hr hk hbase
      exact ⟨slot, State.firstLine_slotCtx p st hb, bound.trans taken⟩
    · obtain ⟨slot, skips, c, hc, hseq, hheld⟩ := State.offerStore_of_skipped p st he hb hu hs
      exact ⟨slot, (congrArg BitVec.toNat count).trans skips, c, bound.trans hc, hseq, hheld⟩
  · intro s d p st f n k x store first m hw hreset hd hx hbase hm hr he
    refine gives_slotDescriptorWrite_of_runs hw hd hx hreset hbase hm hr
      (fun u j hmem hjobs hctx hmodel hseed hstate hstanding hstrict hargs hdeadline hbound => ?_)
    obtain ⟨rows, descriptor, rest⟩ := State.delivered_mem s p st n k x store (first + x.slotRows * k) he hmem
    exact ⟨rows, descriptor, rest, ⟨j, hjobs, hctx, hmodel, hseed, hstate, hstanding, hstrict, hargs, hdeadline⟩, _, hbound, rfl⟩
  · intro s d p st f n k x hw hd hx hr
    obtain ⟨t, u, jobs, cores, offered, run⟩ := exec_slotDescriptorWrite_of_halted hw hd hx hr
    exact ⟨u, run, offered.jobs.trans jobs, offered.cores.trans cores⟩
  · exact fun f n k defects t he => ⟨descriptorRow_length n k defects t he, descriptorRow_fields n k defects t he⟩
  · intro s d slot x uid i im j c hreset hb hslot him hj hc hpast
    refine ⟨_, exec_slotRelease_of_passed hreset hb hslot him hj hc hpast, rfl, ⟨x.freeing slot.val, ?_, rfl, fun q hq => ?_, rfl⟩,
      fun e he => ?_⟩
    · rw [State.bound_setBound, if_pos rfl]
    · simpa using (List.mem_filter.1 hq).2
    · rw [State.bound_setBound, if_neg he]

end Sys2Proof

/-! PROOF. What the counts of conversions hold after they have risen, and when SAT is set (R36, R37, R363). -/

namespace Sys2Proof.Machine

open Laws

/-! ## One count rises -/

theorem State.reg_congr {s u : State} (h : u.regs = s.regs) (o : Nat) : u.reg o = s.reg o := by
  simp only [State.reg, h]

/-- What a count keeps at its source after it has risen; the other counts stay. -/
theorem lookupD_bump_deltas (s : State) (off n o : Nat) :
    lookupD 0 (s.bump off n).deltas o =
      if o = off then (splitDelta (lookupD 0 s.deltas off) n).1 else lookupD 0 s.deltas o := by
  rw [bump_deltas, splitDelta]
  by_cases hn : n = 0
  · by_cases ho : o = off <;> simp [hn, ho]
  · simp only [if_neg hn, lookupD_writeOne]

/-- A register with bit 3 set. -/
theorem setBit_three (w : W64) : setBit w 3 true = w ||| 8 := by
  apply BitVec.eq_of_toNat_eq
  have high : (w.toNat ||| 8) / 2 ^ 3 = w.toNat / 8 ||| 1 := Nat.or_div_two_pow
  have low : (w.toNat ||| 8) % 2 ^ 3 = w.toNat % 8 := by rw [Nat.or_mod_two_pow]; exact Nat.or_zero _
  have odd : w.toNat / 8 ||| 1 = w.toNat / 16 * 2 + 1 := by
    have top : (w.toNat / 8 ||| 1) / 2 = w.toNat / 8 / 2 := by simp [Nat.or_div_two]
    have last : (w.toNat / 8 ||| 1) % 2 = 1 := by simp [Nat.or_mod_two_eq_one]
    omega
  rw [setBit, if_pos rfl, setField_toNat w 3 3 1 (by decide) (by decide), BitVec.toNat_or]
  change _ = w.toNat ||| 8
  omega

/-- A rise that sends to its register is a transfer of what is sent, once the delta is kept. -/
theorem State.bump_of_sent {s : State} {off n : Nat} (h : (splitDelta (lookupD 0 s.deltas off) n).2 ≠ 0) :
    ∃ u : State, u.regs = s.regs ∧ s.bump off n = u.transfer off (splitDelta (lookupD 0 s.deltas off) n).2 := by
  have hn : n ≠ 0 := fun e => h (by simp [splitDelta, e])
  simp only [splitDelta, if_neg hn] at h ⊢
  have reached : ¬ lookupD 0 s.deltas off + n < 4096 := fun e => h (by rw [Nat.div_eq_of_lt e, Nat.zero_mul])
  simp only [State.bump, if_neg hn, if_neg reached]
  exact ⟨{ s with deltas := writeOne 0 s.deltas off ((lookupD 0 s.deltas off + n) % 4096) }, rfl, rfl⟩

/-- A rise that sends nothing leaves the registers. -/
theorem State.bump_regs_of_unsent {s : State} {off n : Nat} (h : (splitDelta (lookupD 0 s.deltas off) n).2 = 0) :
    (s.bump off n).regs = s.regs := by
  by_cases hn : n = 0
  · rw [hn, bump_zero]
  · simp only [splitDelta, if_neg hn] at h
    have below : lookupD 0 s.deltas off + n < 4096 := by omega
    simp only [State.bump, if_neg hn, if_pos below]

/-- What a transfer adds to the register of its count. -/
theorem State.reg_transfer_same (s : State) {off : Nat} (n : Nat)
    (hc : ∀ j, convCore off = some j → off ≠ Reg.vxeConvStatus j) :
    (s.transfer off n).reg off = BitVec.ofNat 64 (satAdd (regWidth off) (s.reg off).toNat n) := by
  unfold State.transfer State.inc
  dsimp only
  split
  · next j hj =>
    split
    · rw [State.setFlag, State.reg_setReg_ne _ _ _ _ (hc j hj), State.reg_setReg_same]
    · rw [State.reg_setReg_same]
  · rw [State.reg_setReg_same]

/-- A transfer of a conversion count sets SAT where the count reaches its greatest value (R37). -/
theorem State.reg_transfer_status (s : State) {off j : Nat} (n : Nat) (hj : convCore off = some j)
    (hne : off ≠ Reg.vxeConvStatus j) :
    (s.transfer off n).reg (Reg.vxeConvStatus j) = s.reg (Reg.vxeConvStatus j) |||
      if ((s.transfer off n).reg off).toNat = 2 ^ 64 - 1 then 8 else 0 := by
  rw [State.reg_transfer_same s n (fun i hi => by rw [hj] at hi; cases hi; exact hne)]
  unfold State.transfer State.inc
  simp only [hj, State.reg_setReg_same]
  split
  · rw [State.setFlag, State.reg_setReg_same, setBit_three, State.reg_setReg_ne _ _ _ _ hne.symm]
  · rw [State.reg_setReg_ne _ _ _ _ hne.symm]
    simp

/-- The register of a count after it has risen: what its source sends is added. -/
theorem State.reg_bump_same (s : State) {off : Nat} (n : Nat)
    (hc : ∀ j, convCore off = some j → off ≠ Reg.vxeConvStatus j) :
    (s.bump off n).reg off =
      if (splitDelta (lookupD 0 s.deltas off) n).2 = 0 then s.reg off
      else BitVec.ofNat 64 (satAdd (regWidth off) (s.reg off).toNat (splitDelta (lookupD 0 s.deltas off) n).2) := by
  split
  · next h => exact State.reg_congr (State.bump_regs_of_unsent h) off
  · next h =>
    obtain ⟨u, regs, run⟩ := State.bump_of_sent h
    rw [run, State.reg_transfer_same u _ hc, State.reg_congr regs]

/-- A conversion count that sends to its register sets SAT where the register then reads its greatest value (R37). -/
theorem State.reg_bump_status (s : State) {off j : Nat} (n : Nat) (hj : convCore off = some j)
    (hne : off ≠ Reg.vxeConvStatus j) :
    (s.bump off n).reg (Reg.vxeConvStatus j) = s.reg (Reg.vxeConvStatus j) |||
      if (splitDelta (lookupD 0 s.deltas off) n).2 ≠ 0 ∧ ((s.bump off n).reg off).toNat = 2 ^ 64 - 1 then 8 else 0 := by
  by_cases h : (splitDelta (lookupD 0 s.deltas off) n).2 = 0
  · simp [h, State.reg_congr (State.bump_regs_of_unsent h)]
  · obtain ⟨u, regs, run⟩ := State.bump_of_sent h
    rw [run, State.reg_transfer_status u _ hj hne, State.reg_congr regs]
    simp only [ne_eq, h, not_false_eq_true, true_and]

theorem State.core_bump (s : State) (off n : Nat) (j : CoreId) : (s.bump off n).core j = s.core j := by
  rw [bump_frame]
  rfl

@[simp] theorem State.bump_writes (s : State) (off n : Nat) : (s.bump off n).writes = s.writes := by rw [bump_frame]

/-- Sticky bits touch registers alone. -/
theorem State.stick_frame (s : State) (o m : Nat) : s.stick o m = { s with regs := (s.stick o m).regs } := by
  unfold State.stick
  split <;> rfl

@[simp] theorem State.core_stick (s : State) (o m : Nat) (j : CoreId) : (s.stick o m).core j = s.core j := by
  rw [stick_frame]
  rfl

@[simp] theorem State.stick_deltas (s : State) (o m : Nat) : (s.stick o m).deltas = s.deltas := by rw [stick_frame]
@[simp] theorem State.stick_writes (s : State) (o m : Nat) : (s.stick o m).writes = s.writes := by rw [stick_frame]

end Sys2Proof.Machine

namespace Sys2Proof

open Machine Laws

/-! ## Several counts rise, one after another -/

theorem riseAt_append_one (l : List (Nat × Nat)) (off n o : Nat) :
    riseAt (l ++ [(off, n)]) o = riseAt l o + if o = off then n else 0 := by
  by_cases h : o = off
  · subst h; simp [riseAt]
  · have h' : off ≠ o := fun e => h e.symm
    simp [riseAt, h, h']

theorem riseAt_of_not_mem {l : List (Nat × Nat)} {o : Nat} (h : o ∉ l.map (·.1)) : riseAt l o = 0 := by
  have none : l.filter (fun e => e.1 == o) = [] :=
    List.filter_eq_nil_iff.2 (fun e he => by
      simpa using fun x : e.1 = o => h (x ▸ List.mem_map_of_mem he))
  simp [riseAt, none]

theorem sentBy_append_of_ne (l : List (Nat × Nat)) {off o : Nat} (n : Nat) (s : State) (h : o ≠ off) :
    sentBy (l ++ [(off, n)]) s o = sentBy l s o := by
  simp only [sentBy, riseAt_append_one, if_neg h, Nat.add_zero]

theorem sentBy_append_same {l : List (Nat × Nat)} {off : Nat} (n : Nat) (s : State) (h : off ∉ l.map (·.1)) :
    sentBy (l ++ [(off, n)]) s off = (splitDelta (lookupD 0 s.deltas off) n).2 := by
  simp only [sentBy, riseAt_append_one, riseAt_of_not_mem h, if_pos, Nat.zero_add]

theorem Counted.refl (offs : List Nat) (s : State) : Counted [] offs s s where
  waits _ := by simp [riseAt, splitDelta]
  sent _ he := absurd he List.not_mem_nil
  regs _ _ := rfl

/-- One count more rises. -/
theorem Counted.bump {l : List (Nat × Nat)} {offs : List Nat} {s u : State} (h : Counted l offs s u) {off : Nat} (n : Nat)
    (hl : off ∉ l.map (·.1)) (ho : off ∉ offs)
    (hc : ∀ j, convCore off = some j → Reg.vxeConvStatus j ∈ offs ∧ Reg.vxeConvStatus j ∉ l.map (·.1)) :
    Counted (l ++ [(off, n)]) offs s (u.bump off n) := by
  have hself : ∀ j, convCore off = some j → off ≠ Reg.vxeConvStatus j := fun j hj e => ho (e ▸ (hc j hj).1)
  have before : lookupD 0 u.deltas off = lookupD 0 s.deltas off := by
    rw [h.waits, riseAt_of_not_mem hl, splitDelta, if_pos rfl]
  refine ⟨fun o => ?_, fun e he => ?_, fun o hn => ?_⟩
  · rw [lookupD_bump_deltas, riseAt_append_one]
    by_cases e : o = off
    · subst e
      rw [if_pos rfl, if_pos rfl, before, riseAt_of_not_mem hl, Nat.zero_add]
    · rw [if_neg e, if_neg e, Nat.add_zero, h.waits]
  · rcases List.mem_append.1 he with old | new
    · have mem : e.1 ∈ l.map (·.1) := List.mem_map_of_mem old
      have ne : e.1 ≠ off := fun x => hl (x ▸ mem)
      rw [bump_reg_ne _ _ _ _ ne (fun j hj x => (hc j hj).2 (x ▸ mem)), sentBy_append_of_ne _ _ _ ne, h.sent e old]
    · obtain rfl : e = (off, n) := by simpa using new
      rw [State.reg_bump_same _ _ hself, sentBy_append_same _ _ hl, before,
        h.regs off (fun x => (List.mem_append.1 x).elim hl ho)]
  · simp only [List.map_append, List.map_cons, List.map_nil, List.mem_append, List.mem_singleton, not_or] at hn
    obtain ⟨⟨notOld, ne⟩, notOff⟩ := hn
    rw [bump_reg_ne _ _ _ _ ne (fun j hj x => notOff (x ▸ (hc j hj).1)),
      h.regs o (fun x => (List.mem_append.1 x).elim notOld notOff)]

/-- Counts stand as they did where only registers that hold no count have changed. -/
theorem Counted.of_sameRegs {l : List (Nat × Nat)} {offs : List Nat} {s u v : State} (h : Counted l offs s u)
    (hd : v.deltas = u.deltas) (hr : SameRegs offs u v) (hn : ∀ o ∈ offs, o ∉ l.map (·.1)) : Counted l offs s v where
  waits o := by rw [hd, h.waits]
  sent e he := by rw [hr e.1 (fun x => hn _ x (List.mem_map_of_mem he)), h.sent e he]
  regs o ho := by rw [hr o (fun x => ho (List.mem_append_right _ x)), h.regs o ho]

/-- More registers may differ. -/
theorem Counted.mono {l : List (Nat × Nat)} {offs more : List Nat} {s u : State} (h : Counted l offs s u) (hs : offs ⊆ more) :
    Counted l more s u where
  waits := h.waits
  sent := h.sent
  regs o ho := h.regs o (fun x => ho (List.mem_append.2 ((List.mem_append.1 x).imp_right (fun y => hs y))))

/-- Counts of a state whose counts and registers are those of another. -/
theorem Counted.of_start {l : List (Nat × Nat)} {offs : List Nat} {s t u : State} (h : Counted l offs t u)
    (hr : t.regs = s.regs) (hd : t.deltas = s.deltas) : Counted l offs s u where
  waits o := by rw [h.waits, hd]
  sent e he := by
    have sent : sentBy l t e.1 = sentBy l s e.1 := by simp only [sentBy, hd]
    rw [h.sent e he, sent, State.reg_congr hr]
  regs o ho := by rw [h.regs o ho, State.reg_congr hr]

/-! ## Conversions and SAT -/

theorem convCore_vxeConvCount (k : CoreId) : convCore (Reg.vxeConvCount k) = some k.val := by revert k; decide
theorem convCore_vxeClipCount (k : CoreId) : convCore (Reg.vxeClipCount k) = some k.val := by revert k; decide
theorem convCore_vxeNanCount (k : CoreId) : convCore (Reg.vxeNanCount k) = some k.val := by revert k; decide
theorem convCore_mxeWrapCount (k : CoreId) : convCore (Reg.mxeWrapCount k) = none := by revert k; decide

theorem convRegs_nodup (k : CoreId) : (convRegs k).Nodup := by revert k; decide

theorem vxeConvStatus_not_mem_convCounts (k : CoreId) (t : ConvTally) : Reg.vxeConvStatus k ∉ (convCounts k t).map (·.1) :=
  (List.nodup_cons.1 (convRegs_nodup k)).1

theorem any_congr_of_mem {α : Type} {l : List α} {p q : α → Bool} (h : ∀ x ∈ l, p x = q x) : l.any p = l.any q := by
  rw [Bool.eq_iff_iff, List.any_eq_true, List.any_eq_true]
  exact exists_congr (fun x => and_congr_right (fun hx => by rw [h x hx]))

/-- Which counts saturate is seen in their registers. -/
theorem any_saturates_congr {l : List (Nat × Nat)} (m : List (Nat × Nat)) (s : State) {u v : State}
    (h : ∀ e ∈ l, v.reg e.1 = u.reg e.1) :
    l.any (fun e => saturates m s v e.1) = l.any (fun e => saturates m s u e.1) :=
  any_congr_of_mem (fun e he => by simp only [saturates, h e he])

/-- SAT is sticky: set twice is set once. -/
theorem or_sat_or_sat (w : W64) (a : Bool) (p : Prop) [Decidable p] :
    (w ||| if a then 8 else 0) ||| (if p then 8 else 0) = w ||| if a || decide p then 8 else 0 := by
  cases a <;> by_cases hp : p <;> simp [hp, BitVec.or_assoc]

/-- SAT joins the other flags of a conversion. -/
theorem or_sat_or_flags (w : W64) (a : Bool) (clip nan ovf : Nat) :
    (w ||| if a then 8 else 0) |||
        BitVec.ofNat 64 ((if 0 < clip then 1 else 0) + (if 0 < nan then 2 else 0) + (if 0 < ovf then 4 else 0)) =
      w ||| BitVec.ofNat 64 ((if 0 < clip then 1 else 0) + (if 0 < nan then 2 else 0) + (if 0 < ovf then 4 else 0) +
        (if a then 8 else 0)) := by
  rw [BitVec.or_assoc]
  congr 1
  cases a <;> split_ifs <;> rfl

/-- Counts of core k's conversions have risen, and SAT is set where one of them has reached its greatest value (R37). -/
structure SatRaised (k : CoreId) (l : List (Nat × Nat)) (s u : State) : Prop where
  counts : Counted l [Reg.vxeConvStatus k] s u
  status : u.reg (Reg.vxeConvStatus k) =
    s.reg (Reg.vxeConvStatus k) ||| if l.any (fun e => saturates l s u e.1) then 8 else 0

theorem SatRaised.refl (k : CoreId) (s : State) : SatRaised k [] s s := ⟨.refl _ s, by simp⟩

theorem SatRaised.bump {k : CoreId} {l : List (Nat × Nat)} {s u : State} (h : SatRaised k l s u) {off : Nat} (n : Nat)
    (hj : convCore off = some k.val) (hl : off ∉ l.map (·.1)) (hk : Reg.vxeConvStatus k ∉ l.map (·.1))
    (hne : off ≠ Reg.vxeConvStatus k) : SatRaised k (l ++ [(off, n)]) s (u.bump off n) := by
  have status : ∀ j, convCore off = some j → Reg.vxeConvStatus j = Reg.vxeConvStatus k := fun j hj' => by
    rw [hj] at hj'; cases hj'; rfl
  have old : ∀ e ∈ l, saturates (l ++ [(off, n)]) s (u.bump off n) e.1 = saturates l s u e.1 := fun e he => by
    have mem : e.1 ∈ l.map (·.1) := List.mem_map_of_mem he
    have ne : e.1 ≠ off := fun x => hl (x ▸ mem)
    have reg := bump_reg_ne u off n e.1 ne (fun j hj' x => hk (status j hj' ▸ x ▸ mem))
    simp only [saturates, sentBy_append_of_ne _ _ _ ne, reg]
  have new : saturates (l ++ [(off, n)]) s (u.bump off n) off = decide
      ((splitDelta (lookupD 0 u.deltas off) n).2 ≠ 0 ∧ ((u.bump off n).reg off).toNat = 2 ^ 64 - 1) := by
    have before : lookupD 0 u.deltas off = lookupD 0 s.deltas off := by
      rw [h.counts.waits, riseAt_of_not_mem hl, splitDelta, if_pos rfl]
    rw [saturates, sentBy_append_same _ _ hl, before]
    simp [bne, Bool.beq_eq_decide_eq]
  refine ⟨h.counts.bump n hl (by simpa using hne) (fun j hj' => ?_), ?_⟩
  · rw [status j hj']
    exact ⟨List.mem_singleton_self _, hk⟩
  · rw [State.reg_bump_status u n hj hne, h.status, List.any_append, any_congr_of_mem old]
    simp only [List.any_cons, List.any_nil, Bool.or_false, new, or_sat_or_sat]

/-- The three counts of a conversion rise (R36, R37). -/
theorem SatRaised.convCounts (k : CoreId) (s : State) (t : ConvTally) : SatRaised k (convCounts k t) s
    (((s.bump (Reg.vxeConvCount k) t.conv).bump (Reg.vxeClipCount k) t.clip).bump (Reg.vxeNanCount k) t.nan) := by
  have clipNe : Reg.vxeClipCount k ≠ Reg.vxeConvCount k := by simp [Reg.vxeClipCount, Reg.vxeConvCount]
  have nanNe : Reg.vxeNanCount k ∉ [Reg.vxeConvCount k, Reg.vxeClipCount k] := by
    simp [Reg.vxeNanCount, Reg.vxeConvCount, Reg.vxeClipCount]
  have status := vxeConvStatus_not_mem_convCounts k t
  simp only [Sys2Proof.convCounts, List.map_cons, List.map_nil, List.mem_cons, List.not_mem_nil, not_or] at status
  obtain ⟨statusConv, statusClip, statusNan, -⟩ := status
  have conv : SatRaised k [(Reg.vxeConvCount k, t.conv)] s (s.bump (Reg.vxeConvCount k) t.conv) :=
    (SatRaised.refl k s).bump _ (convCore_vxeConvCount k) List.not_mem_nil List.not_mem_nil (Ne.symm statusConv)
  have clip := conv.bump (off := Reg.vxeClipCount k) t.clip (convCore_vxeClipCount k) (by simpa using clipNe)
    (by simpa using statusConv) (Ne.symm statusClip)
  exact clip.bump (off := Reg.vxeNanCount k) t.nan (convCore_vxeNanCount k) (by simpa using nanNe)
    (by simpa using ⟨statusConv, statusClip⟩) (Ne.symm statusNan)

/-- A conversion is counted at its core and in the tile's totals (R36–R38). -/
theorem Converted.of_countConv (k : CoreId) (s : State) (t : ConvTally) : Converted k t [] [] s (s.countConv k t) := by
  obtain ⟨counts, status⟩ := SatRaised.convCounts k s t
  have core : (((s.bump (Reg.vxeConvCount k) t.conv).bump (Reg.vxeClipCount k) t.clip).bump (Reg.vxeNanCount k) t.nan).core k =
      s.core k := by
    rw [State.core_bump, State.core_bump, State.core_bump]
  unfold State.countConv
  dsimp only
  generalize ((s.bump (Reg.vxeConvCount k) t.conv).bump (Reg.vxeClipCount k) t.clip).bump (Reg.vxeNanCount k) t.nan = u
    at counts status core
  have apart := vxeConvStatus_not_mem_convCounts k t
  have same : ∀ m c, (convCounts k t).any
      (fun e => saturates (convCounts k t) s ((u.stick (Reg.vxeConvStatus k) m).setCore k c) e.1) =
        (convCounts k t).any (fun e => saturates (convCounts k t) s u e.1) := fun m c =>
    any_saturates_congr _ _ (fun e he =>
      State.reg_stick_ne _ _ _ _ (fun x : e.1 = _ => apart (x ▸ List.mem_map_of_mem he)))
  refine ⟨?_, ?_, ?_⟩
  · rw [List.append_nil]
    exact counts.of_sameRegs (State.stick_deltas _ _ _) (fun o ho => State.reg_stick_ne _ _ _ _ (by simpa using ho))
      (by simpa using apart)
  · rw [List.append_nil, State.reg_setCore, State.reg_stick_same, status, or_sat_or_flags, same]
  · rw [State.core_setCore_same, State.core_stick, core]

/-- Another count rises beside those of the conversion. -/
theorem Converted.bump {k : CoreId} {t : ConvTally} {offs : List Nat} {s u : State} (h : Converted k t [] offs s u) {off : Nat}
    (n : Nat) (hc : convCore off = none) (hl : off ∉ (convCounts k t).map (·.1)) (ho : off ∉ Reg.vxeConvStatus k :: offs) :
    Converted k t [(off, n)] offs s (u.bump off n) := by
  obtain ⟨counts, flags, tile⟩ := h
  rw [List.append_nil] at counts flags
  have none : ∀ (o j : Nat), convCore off = some j → o ≠ Reg.vxeConvStatus j := fun o j hj => by rw [hc] at hj; cases hj
  have same : ∀ e ∈ convCounts k t,
      saturates (convCounts k t ++ [(off, n)]) s (u.bump off n) e.1 = saturates (convCounts k t) s u e.1 := fun e he => by
    have ne : e.1 ≠ off := fun x => hl (x ▸ List.mem_map_of_mem he)
    simp only [saturates, sentBy_append_of_ne _ _ _ ne, bump_reg_ne _ _ _ _ ne (none e.1)]
  refine ⟨counts.bump n hl ho (fun j hj => by rw [hc] at hj; cases hj), ?_, ?_⟩
  · rw [bump_reg_ne _ _ _ _ (fun x => ho (by rw [← x]; exact List.mem_cons_self)) (none _), flags, any_congr_of_mem same]
  · rw [State.core_bump, tile]

/-- More registers may differ. -/
theorem Converted.mono {k : CoreId} {t : ConvTally} {more : List (Nat × Nat)} {offs offs' : List Nat} {s u : State}
    (h : Converted k t more offs s u) (hs : offs ⊆ offs') : Converted k t more offs' s u :=
  ⟨h.counts.mono (List.cons_subset_cons _ hs), h.flags, h.tile⟩

/-- A conversion stands as it was counted where only registers beside its counts and flags have changed. -/
theorem Converted.of_sameRegs {k : CoreId} {t : ConvTally} {more : List (Nat × Nat)} {offs : List Nat} {s u v : State}
    (h : Converted k t more offs s u) (hd : v.deltas = u.deltas) (hr : SameRegs offs u v)
    (hn : ∀ o ∈ offs, o ∉ (convCounts k t ++ more).map (·.1)) (hs : Reg.vxeConvStatus k ∉ offs)
    (hm : Reg.vxeConvStatus k ∉ more.map (·.1)) (ht : (v.core k).tile = (u.core k).tile) : Converted k t more offs s v := by
  refine ⟨h.counts.of_sameRegs hd (fun o ho => hr o (fun x => ho (List.mem_cons_of_mem _ x))) ?_, ?_, ht.trans h.tile⟩
  · rintro o (_ | ⟨_, ho⟩)
    · rw [List.map_append, List.mem_append, not_or]
      exact ⟨vxeConvStatus_not_mem_convCounts k t, hm⟩
    · exact hn o ho
  · have same : ∀ e ∈ convCounts k t, v.reg e.1 = u.reg e.1 := fun e he =>
      hr e.1 (fun x => hn _ x (List.mem_map_of_mem (List.mem_append_left _ he)))
    rw [hr _ hs, any_saturates_congr _ _ same, h.flags]

/-- A conversion counted from a state with the same counts, registers and tile. -/
theorem Converted.of_start {k : CoreId} {t : ConvTally} {more : List (Nat × Nat)} {offs : List Nat} {s v u : State}
    (h : Converted k t more offs v u) (hr : v.regs = s.regs) (hd : v.deltas = s.deltas) (hc : v.core k = s.core k) :
    Converted k t more offs s u := by
  refine ⟨h.counts.of_start hr hd, ?_, hc ▸ h.tile⟩
  have sent : ∀ l o, sentBy l v o = sentBy l s o := fun l o => by simp only [sentBy, hd]
  have flags := h.flags
  simp only [saturates, sent, State.reg_congr hr] at flags
  exact flags

/-! ## What an engine command may touch -/

/-- A command of core k has acted: its core, the listed registers, the counts' sources, the row writes on their way and the free
values drawn may differ, nothing else. -/
structure Acted (k : CoreId) (offs : List Nat) (s u : State) : Prop where
  rest : u = { s with cores := u.cores, regs := u.regs, draws := u.draws, deltas := u.deltas, writes := u.writes }
  cores : ∀ j, j ≠ k → u.core j = s.core j
  regs : SameRegs offs s u

theorem Acted.refl (k : CoreId) (offs : List Nat) (s : State) : Acted k offs s s := ⟨rfl, fun _ _ => rfl, fun _ _ => rfl⟩

theorem Acted.trans {k : CoreId} {offs : List Nat} {s t u : State} (h : Acted k offs s t) (g : Acted k offs t u) :
    Acted k offs s u where
  rest := g.rest.trans (by rw [h.rest])
  cores j hj := (g.cores j hj).trans (h.cores j hj)
  regs o ho := (g.regs o ho).trans (h.regs o ho)

theorem Acted.setCore (k : CoreId) (offs : List Nat) (s : State) (c : Core) : Acted k offs s (s.setCore k c) :=
  ⟨rfl, fun _ hj => State.core_setCore_ne _ _ _ _ hj, fun _ _ => rfl⟩

theorem Acted.stick (k : CoreId) {offs : List Nat} (s : State) {o : Nat} (m : Nat) (ho : o ∈ offs) :
    Acted k offs s (s.stick o m) where
  rest := by rw [State.stick_frame]
  cores _ _ := State.core_stick _ _ _ _
  regs p hp := State.reg_stick_ne _ _ _ _ (fun e => hp (e ▸ ho))

theorem Acted.bump (k : CoreId) {offs : List Nat} (s : State) {o : Nat} (n : Nat) (ho : o ∈ offs)
    (hc : ∀ j, convCore o = some j → Reg.vxeConvStatus j ∈ offs) : Acted k offs s (s.bump o n) where
  rest := by rw [bump_frame]
  cores _ _ := State.core_bump _ _ _ _
  regs p hp := bump_reg_ne _ _ _ _ (fun e => hp (e ▸ ho)) (fun j hj e => hp (e ▸ hc j hj))

theorem Acted.countConv (k : CoreId) {offs : List Nat} (s : State) (t : ConvTally) (ho : convRegs k ⊆ offs) :
    Acted k offs s (s.countConv k t) := by
  simp only [convRegs, List.cons_subset, List.nil_subset, and_true] at ho
  obtain ⟨status, conv, clip, nan⟩ := ho
  have own : ∀ {o : Nat}, convCore o = some k.val → ∀ j, convCore o = some j → Reg.vxeConvStatus j ∈ offs :=
    fun h j hj => by rw [h] at hj; cases hj; exact status
  exact ((((Acted.bump k s _ conv (own (convCore_vxeConvCount k))).trans (.bump k _ _ clip (own (convCore_vxeClipCount k)))).trans
    (.bump k _ _ nan (own (convCore_vxeNanCount k)))).trans (.stick k _ _ status)).trans (.setCore k _ _ _)

theorem Acted.sendRows (k : CoreId) (offs : List Nat) (s : State) (q : QueueId) (cmd : Cmd) (t : Tile) (st r : Nat)
    (rows : List (List Byte)) : Acted k offs s (s.sendRows k q cmd t st r rows) := ⟨rfl, fun _ _ => rfl, fun _ _ => rfl⟩

theorem Acted.markExecuted (k : CoreId) (offs : List Nat) (s : State) (q : QueueId) (n : Nat) :
    Acted k offs s (s.markExecuted k q n) := .setCore k offs s _

/-- Where the counts' sources, the row writes and the draws are those of the second state, the command changed its core and
registers alone. -/
theorem Acted.onlyCore {k : CoreId} {offs : List Nat} {s v u : State} (h : Acted k offs s u)
    (hv : v = { s with draws := u.draws, deltas := u.deltas, writes := u.writes }) : OnlyCore k offs v u := by
  subst hv
  exact ⟨h.rest, h.cores, h.regs⟩

end Sys2Proof

/-! PROOF. The turn of an engine command, its mark, and the rows it sends (R20, R53, R67, R68, R138). -/

namespace Sys2Proof.Machine

theorem exec_vld (k : CoreId) (s : State) :
    exec (.vld k) s = ok (vectorStep k 0x01 (fun s _ cmd => runVld s k cmd) s) := rfl
theorem exec_vst (k : CoreId) (s : State) :
    exec (.vst k) s = ok (vectorStep k 0x02 (fun s t cmd => runVst s k t cmd) s) := rfl
theorem exec_vparam (k : CoreId) (s : State) : exec (.vparam k) s = ok (vectorStep k 0x03 (fun s _ _ => s) s) := rfl
theorem exec_mread (k : CoreId) (s : State) : exec (.mread k) s = ok (s.engineEvent k (matrixStep k 5)) := rfl
theorem exec_mspill (k : CoreId) (s : State) : exec (.mspill k) s = ok (s.engineEvent k (matrixStep k 6)) := rfl
theorem exec_mfill (k : CoreId) (s : State) : exec (.mfill k) s = ok (s.engineEvent k (matrixStep k 7)) := rfl

/-! ## The mark of a command that has acted -/

theorem State.core_markExecuted (s : State) (k : CoreId) (q : QueueId) (n : Nat) : (s.markExecuted k q n).core k =
    (s.core k).setQueue q (modifyNth (fun c => { c with phase := .executed }) n ((s.core k).queue q)) :=
  State.core_setCore_same _ _ _

@[simp] theorem State.markExecuted_deltas (s : State) (k : CoreId) (q : QueueId) (n : Nat) :
    (s.markExecuted k q n).deltas = s.deltas := rfl
@[simp] theorem State.markExecuted_writes (s : State) (k : CoreId) (q : QueueId) (n : Nat) :
    (s.markExecuted k q n).writes = s.writes := rfl
@[simp] theorem State.reg_markExecuted (s : State) (k : CoreId) (q : QueueId) (n o : Nat) :
    (s.markExecuted k q n).reg o = s.reg o := rfl

@[simp] theorem State.core_spendScales (s : State) (j : CoreId) : s.spendScales.core j = s.core j := rfl
@[simp] theorem State.reg_spendScales (s : State) (o : Nat) : s.spendScales.reg o = s.reg o := rfl
@[simp] theorem State.spendScales_deltas (s : State) : s.spendScales.deltas = s.deltas := rfl
@[simp] theorem State.spendScales_writes (s : State) : s.spendScales.writes = s.writes := rfl

/-- A conversion changes the tile's totals alone of its core. -/
theorem State.core_countConv (s : State) (k : CoreId) (t : ConvTally) : (s.countConv k t).core k =
    { s.core k with tile := (s.core k).tile.map (fun x =>
      { x with conv := x.conv + t.conv, clip := x.clip + t.clip, nan := x.nan + t.nan }) } := by
  unfold State.countConv
  dsimp only
  rw [State.core_setCore_same, State.core_stick, State.core_bump, State.core_bump, State.core_bump]

@[simp] theorem State.countConv_writes (s : State) (k : CoreId) (t : ConvTally) : (s.countConv k t).writes = s.writes := by
  unfold State.countConv
  dsimp only
  rw [State.setCore_writes, State.stick_writes, State.bump_writes, State.bump_writes, State.bump_writes]

end Sys2Proof.Machine

namespace Sys2Proof

open Machine

/-- A command whose run leaves its core's queues is marked in its own. -/
theorem Executed.of_markExecuted {k : CoreId} {s u : State} (q : QueueId) (n : Nat)
    (h : (u.core k).queues = (s.core k).queues) : Executed k q n s (u.markExecuted k q n) := by
  have queue : ∀ r, (u.core k).queue r = (s.core k).queue r := fun r => by simp only [Core.queue, h]
  refine ⟨?_, fun r hr => ?_⟩
  · rw [State.core_markExecuted, Core.queue_setQueue, if_pos rfl, queue]
  · rw [State.core_markExecuted, Core.queue_setQueue, if_neg hr, queue]

/-- The mark does not touch what was converted. -/
theorem Converted.markExecuted {k : CoreId} {t : ConvTally} {more : List (Nat × Nat)} {offs : List Nat} {s u : State}
    (h : Converted k t more offs s u) (q : QueueId) (n : Nat) : Converted k t more offs s (u.markExecuted k q n) :=
  ⟨⟨h.counts.waits, h.counts.sent, h.counts.regs⟩, h.flags, by rw [State.core_markExecuted]; exact h.tile⟩

/-! ## Draws -/

theorem Acted.spendScales (k : CoreId) (offs : List Nat) (s : State) : Acted k offs s s.spendScales :=
  ⟨rfl, fun _ _ => rfl, fun _ _ => rfl⟩

/-- The draw of an element of a conversion that rounds stochastically (R39), none without it. -/
theorem drawAt_spec (s : State) (t : Tile) (cmd : Cmd) (stochastic : Bool) (e : Nat) :
    let draw := drawAt (s.seedOf t) (paramOf stochastic cmd) e
    (stochastic = false → draw = none) ∧
    (∀ b j, stochastic = true → cmd.before = some b → s.job? t.job = some j →
      draw = some (draw24 j.seed (field b 63 48) (field b 47 0 + e))) := by
  refine ⟨fun h => by simp [drawAt, paramOf, h], fun b j h hb hj => ?_⟩
  simp [drawAt, paramOf, h, hb, State.seedOf, hj]

/-! ## Turns -/

/-- A vector command acts in its turn (R67, R68). -/
theorem VectorTurn.gives {s : State} {k : CoreId} {t : Tile} {code n : Nat} {cmd : Cmd} (h : VectorTurn s k t code n cmd)
    {i : Instr} {run : State → Tile → Cmd → State} (hi : exec i s = ok (vectorStep k code run s)) {P : State → Prop}
    (hP : P ((run s t cmd).markExecuted k 1 n)) : Gives i s P := by
  refine ⟨_, ?_, hP⟩
  rw [hi]
  simp only [ok, vectorStep, h.tile, h.next]

/-- The command that an event of a code acts on has that code. -/
theorem cmd_of_nextMatrix {s : State} {k : CoreId} {code n : Nat} {cmd : Cmd} (h : nextMatrix s k code = some (n, cmd)) :
    Desc.cmd cmd.desc = code := by
  obtain ⟨⟨x, m⟩, hx, e⟩ := Option.map_eq_some_iff.1 h
  obtain ⟨rfl, rfl⟩ : m = n ∧ x = cmd := by simpa using e
  have accepted := List.find?_some hx
  simp only [Bool.and_eq_true, beq_iff_eq] at accepted
  exact accepted.1

/-- A read-out, spill or fill acts in its turn, with no chain due to end before it (R50, R53). -/
theorem AccTurn.gives {s : State} {k : CoreId} {t : Tile} {code n : Nat} {cmd : Cmd} (h : AccTurn s k t code n cmd)
    (hc : code = 5 ∨ code = 6 ∨ code = 7) {i : Instr} (hi : exec i s = ok (s.engineEvent k (matrixStep k code)))
    {P : State → Prop} (hP : P ((runAccAccess s k t cmd).markExecuted k 0 n)) : Gives i s P := by
  obtain ⟨⟨tile, live, next⟩, chain⟩ := h
  have noEnd : chainEndIfDue s k = s := by simp [chainEndIfDue, tile, chain]
  have run : runMatrix s k t n cmd = some ((runAccAccess s k t cmd).markExecuted k 0 n) := by
    unfold runMatrix
    rw [cmd_of_nextMatrix next]
    rcases hc with rfl | rfl | rfl <;> rfl
  refine ⟨_, ?_, hP⟩
  rw [hi, State.engineEvent, if_neg live]
  simp only [ok, matrixStep, noEnd, ite_self, tile, next, run, Option.getD_some]

/-! ## Rows on their way -/

/-- The writes of a command that sends rows to a store from a row on. -/
def rowWrites (k : CoreId) (q : QueueId) (cmd : Cmd) (t : Tile) (st r : Nat) (rows : List (List Byte)) : List RowWrite :=
  rows.zipIdx.map (fun p => ⟨rowAddr st (r + p.2), false, 0, p.1, some (t.tag k), some (k, q, cmd.seq), true⟩)

@[simp] theorem State.core_sendRows (s : State) (k : CoreId) (q : QueueId) (cmd : Cmd) (t : Tile) (st r : Nat)
    (rows : List (List Byte)) (j : CoreId) : (s.sendRows k q cmd t st r rows).core j = s.core j := rfl

@[simp] theorem State.sendRows_deltas (s : State) (k : CoreId) (q : QueueId) (cmd : Cmd) (t : Tile) (st r : Nat)
    (rows : List (List Byte)) : (s.sendRows k q cmd t st r rows).deltas = s.deltas := rfl

@[simp] theorem State.reg_sendRows (s : State) (k : CoreId) (q : QueueId) (cmd : Cmd) (t : Tile) (st r : Nat)
    (rows : List (List Byte)) (o : Nat) : (s.sendRows k q cmd t st r rows).reg o = s.reg o := rfl

theorem State.sendRows_writes (s : State) (k : CoreId) (q : QueueId) (cmd : Cmd) (t : Tile) (st r : Nat)
    (rows : List (List Byte)) : (s.sendRows k q cmd t st r rows).writes = s.writes ++ rowWrites k q cmd t st r rows := rfl

theorem rowWrites_row (k : CoreId) (q : QueueId) (cmd : Cmd) (t : Tile) (st r : Nat) (rows : List (List Byte)) :
    (rowWrites k q cmd t st r rows).map (·.row) = (List.range rows.length).map (fun i => rowAddr st (r + i)) := by
  rw [rowWrites, List.map_map, List.range_eq_range', ← List.zipIdx_map_snd 0 rows, List.map_map]
  rfl

theorem rowWrites_data (k : CoreId) (q : QueueId) (cmd : Cmd) (t : Tile) (st r : Nat) (rows : List (List Byte)) :
    (rowWrites k q cmd t st r rows).map (·.data) = rows := by
  rw [rowWrites, List.map_map]
  exact List.zipIdx_map_fst 0 rows

/-- Row writes that a command sends, of whole rows whose bytes begin with bs. -/
theorem SentRows.of_rowWrites {k : CoreId} {q : QueueId} {cmd : Cmd} {t : Tile} {st r : Nat} {rows : List (List Byte)}
    {bs : List Byte} {s u : State} (hu : u.writes = s.writes ++ rowWrites k q cmd t st r rows)
    (hl : ∀ x ∈ rows, x.length = 512) (hb : bs <+: rows.flatten) : SentRows k q cmd t st r rows.length bs s u := by
  refine ⟨_, hu, rowWrites_row k q cmd t st r rows, fun x hx => ?_, ?_⟩
  · have data : x.data ∈ rows := rowWrites_data k q cmd t st r rows ▸ List.mem_map_of_mem hx
    obtain ⟨p, -, rfl⟩ := List.mem_map.1 hx
    exact ⟨rfl, rfl, rfl, rfl, hl _ data⟩
  · rw [List.flatMap_def, rowWrites_data]
    exact (List.prefix_iff_eq_take.1 hb).symm

end Sys2Proof

namespace Sys2Proof.Machine

/-! ## Bytes cut into rows (R20) -/

theorem cdiv_zero (b : Nat) : cdiv 0 b = 0 := by cases b <;> simp [cdiv]

theorem cdiv_add_self {a b : Nat} (hb : 0 < b) : cdiv (a + b) b = cdiv a b + 1 := by
  unfold cdiv
  rw [show a + b + b - 1 = a + b - 1 + b by omega, Nat.add_div_right _ hb]

theorem cdiv_eq_one {a b : Nat} (h0 : 0 < a) (h : a ≤ b) : cdiv a b = 1 := by
  unfold cdiv
  rw [Nat.div_eq_iff (by omega)]
  omega

theorem cdiv_mul_left {b : Nat} (n : Nat) (hb : 0 < b) : cdiv (b * n) b = n := by
  induction n with
  | zero => exact cdiv_zero b
  | succ n ih => rw [Nat.mul_succ, cdiv_add_self hb, ih]

/-- A division that rounds up: the whole parts, and one more where something is left. -/
theorem cdiv_eq_div_add {a b : Nat} (hb : 0 < b) : cdiv a b = a / b + cdiv (a % b) b := by
  have split : ∀ q r, cdiv (b * q + r) b = q + cdiv r b := fun q r => by
    induction q with
    | zero => simp
    | succ q ih => rw [Nat.mul_succ, Nat.add_right_comm, cdiv_add_self hb, ih]; omega
  conv_lhs => rw [← Nat.div_add_mod a b, split]

@[simp] theorem rowsOf_length (bs : List Byte) : (rowsOf bs).length = cdiv bs.length 512 := by simp [rowsOf]

theorem length_of_mem_rowsOf {bs r : List Byte} (h : r ∈ rowsOf bs) : r.length = 512 := by
  obtain ⟨i, -, rfl⟩ := List.mem_map.1 h
  exact padRow_length _

/-- The bytes of a row come first, zeros fill it. -/
theorem prefix_padRow {bs : List Byte} (h : bs.length ≤ 512) : bs <+: padRow bs := by
  unfold padRow
  rw [List.take_append, List.take_of_length_le h]
  exact List.prefix_append _ _

theorem padRow_drop {bs : List Byte} {n : Nat} (h : bs.length ≤ n) : (padRow bs).drop n = List.replicate (512 - n) 0 := by
  unfold padRow
  rw [List.drop_take, List.drop_append, List.drop_eq_nil_of_le h, List.nil_append, List.drop_replicate, List.take_replicate]
  congr 1
  omega

/-- The first row and the rows of the other bytes. -/
theorem rowsOf_of_ne_nil {bs : List Byte} (h : bs ≠ []) : rowsOf bs = padRow (bs.take 512) :: rowsOf (bs.drop 512) := by
  have pos : 0 < bs.length := List.length_pos_iff.2 h
  have count : cdiv bs.length 512 = cdiv (bs.drop 512).length 512 + 1 := by
    rw [List.length_drop]
    rcases Nat.le_total bs.length 512 with le | ge
    · rw [Nat.sub_eq_zero_of_le le, cdiv_zero, cdiv_eq_one pos le]
    · rw [← cdiv_add_self (by decide), Nat.sub_add_cancel ge]
  simp only [rowsOf, count, List.range_succ_eq_map, List.map_cons, List.map_map, List.drop_drop, Nat.mul_zero, List.drop_zero]
  congr 1
  exact List.map_congr_left (fun i _ => by simp only [Function.comp_apply, Nat.mul_succ, Nat.add_comm])

/-- Rows hold the bytes that were cut into them. -/
theorem prefix_flatten_rowsOf (bs : List Byte) : bs <+: (rowsOf bs).flatten := by
  by_cases h : bs = []
  · exact h ▸ List.nil_prefix
  · rw [rowsOf_of_ne_nil h, List.flatten_cons]
    rcases Nat.le_total bs.length 512 with le | ge
    · rw [List.take_of_length_le le]
      exact (prefix_padRow le).trans (List.prefix_append _ _)
    · have row : padRow (bs.take 512) = bs.take 512 :=
        ((prefix_padRow (List.length_take_le _ _)).eq_of_length (by rw [padRow_length, List.length_take]; omega)).symm
      have ih := prefix_flatten_rowsOf (bs.drop 512)
      conv_lhs => rw [← List.take_append_drop 512 bs]
      rw [row, List.prefix_append_right_inj]
      exact ih
termination_by bs.length
decreasing_by
  rw [List.length_drop]
  have := List.length_pos_iff.2 h
  omega

theorem length_of_mem_rowsOpenEnd {s : State} {b : Nat} {bs r : List Byte} (h : r ∈ (s.rowsOpenEnd b bs).1) : r.length = 512 :=
  length_of_mem_rowsOf h

theorem prefix_flatten_rowsOpenEnd (s : State) (b : Nat) (bs : List Byte) : bs <+: (s.rowsOpenEnd b bs).1.flatten :=
  (List.prefix_append _ _).trans (prefix_flatten_rowsOf _)

/-- How many rows hold bytes whose last row is left open; elements of 6 bits fill 480 bytes of it. -/
theorem rowsOpenEnd_length (s : State) {b : Nat} {bs : List Byte} (h : b = 6 → bs.length ≤ 480) :
    (s.rowsOpenEnd b bs).1.length = cdiv bs.length 512 := by
  simp only [State.rowsOpenEnd, rowsOf_length, List.length_append, List.length_map, List.length_range]
  unfold cdiv
  split
  · next six =>
    have := h six
    omega
  · omega

/-- With elements of 6 bits the last 32 bytes of the row left open are zeros. -/
theorem rowsOpenEnd_drop {s : State} {bs r : List Byte} (h : bs.length ≤ 480) (hr : r ∈ (s.rowsOpenEnd 6 bs).1) :
    r.drop 480 = List.replicate 32 0 := by
  obtain ⟨i, hi, rfl⟩ := List.mem_map.1 hr
  refine padRow_drop ((List.length_take_le' _ _).trans ?_)
  simp only [List.length_drop, List.length_append, List.length_map, List.length_range]
  unfold cdiv
  simp only [if_true]
  omega

/-! ## Elements packed into rows (R20) -/

theorem fmtBits_eq {f : Nat} (h : fmtBits f ≠ 0) :
    fmtBits f = 4 ∨ fmtBits f = 6 ∨ fmtBits f = 8 ∨ fmtBits f = 16 ∨ fmtBits f = 32 := by
  unfold fmtBits at h ⊢
  split <;> simp_all

theorem pack4_length (es : List Nat) : (pack4 es).length = cdiv es.length 2 := by
  induction es using pack4.induct with
  | case1 a b r ih => simp only [pack4, List.length_cons, ih, ← cdiv_add_self (by decide : 0 < 2)]
  | case2 a => simp [pack4, cdiv]
  | case3 => simp [pack4, cdiv]

theorem pack6_length (es : List Nat) : (pack6 es).length = 3 * cdiv es.length 4 := by
  induction es using pack6.induct with
  | case1 a b c d r ih =>
    have count : cdiv (a :: b :: c :: d :: r).length 4 = cdiv r.length 4 + 1 :=
      cdiv_add_self (a := r.length) (b := 4) (by decide)
    rw [pack6, List.length_append, leBytes_length, ih, count]
    omega
  | case2 a b c => simp [pack6, leBytes_length, cdiv]
  | case3 a b => simp [pack6, leBytes_length, cdiv]
  | case4 a => simp [pack6, leBytes_length, cdiv]
  | case5 => simp [pack6, cdiv]

theorem packBytes_length (b : Nat) (es : List Nat) : (packBytes b es).length =
    if b = 4 then cdiv es.length 2 else if b = 6 then 3 * cdiv es.length 4 else es.length * (b / 8) := by
  unfold packBytes
  split
  · exact pack4_length es
  · split
    · exact pack6_length es
    · simp only [List.length_flatMap, leBytes_length, List.map_const', List.sum_replicate, smul_eq_mul]

/-- The elements of a row fill it; those of 6 bits leave its last 32 bytes (R20). -/
theorem packBytes_length_le {f : Nat} (hf : fmtBits f ≠ 0) {es : List Nat} (h : es.length ≤ perRow (fmtBits f)) :
    (packBytes (fmtBits f) es).length ≤ if fmtBits f = 6 then 480 else 512 := by
  rw [packBytes_length]
  rcases fmtBits_eq hf with e | e | e | e | e <;>
  · rw [e] at h ⊢
    simp only [perRow, cdiv, Nat.reduceEqDiff, Nat.reduceDiv, if_true, if_false] at h ⊢
    omega

/-- What does not fill a row takes one, unless it is nothing. -/
theorem cdiv_packBytes {f : Nat} (hf : fmtBits f ≠ 0) {es : List Nat} (h : es.length ≤ perRow (fmtBits f)) :
    cdiv (packBytes (fmtBits f) es).length 512 = cdiv es.length (perRow (fmtBits f)) := by
  rw [packBytes_length]
  rcases fmtBits_eq hf with e | e | e | e | e <;>
  · rw [e] at h ⊢
    simp only [perRow, cdiv, Nat.reduceEqDiff, Nat.reduceDiv, if_true, if_false] at h ⊢
    omega

theorem perRow_pos {f : Nat} (hf : fmtBits f ≠ 0) : 0 < perRow (fmtBits f) := by
  rcases fmtBits_eq hf with e | e | e | e | e <;> rw [e] <;> decide

@[simp] theorem packRows_length (b pad : Nat) (es : List Nat) : (packRows b pad es).length = cdiv es.length (perRow b) := by
  simp [packRows]

/-- A packed row holds the bytes of the elements of a row. -/
theorem mem_packRows {b pad : Nat} {es : List Nat} {r : List Byte} (h : r ∈ packRows b pad es) :
    ∃ part, part.length = perRow b ∧ r = padRow (packBytes b part) := by
  obtain ⟨i, -, rfl⟩ := List.mem_map.1 h
  refine ⟨_, ?_, rfl⟩
  simp only [List.length_append, List.length_take, List.length_replicate]
  omega

theorem length_of_mem_packRows {b pad : Nat} {es : List Nat} {r : List Byte} (h : r ∈ packRows b pad es) : r.length = 512 := by
  obtain ⟨part, -, rfl⟩ := mem_packRows h
  exact padRow_length _

end Sys2Proof.Machine

/-! PROOF. Vector loads and stores (R69, R70, R132). -/

namespace Sys2Proof

open Machine

/-! ## VLD -/

/-- The lane and the flags of each element that a load brings (R69). -/
def loadedElems (s : State) (k : CoreId) (cmd : Cmd) : List (W32 × ArithFlags) :=
  let d : Desc := cmd.desc
  let c := s.core k
  let f := field d 37 34
  let sc := field d 33 32
  let codes := (unpackRows (fmtBits f) (s.rowsFrom k.val (field d 29 15) (vecRows f d.run))).take (256 * d.run)
  codes.zipIdx.map (fun p =>
    if bit d 39 then plain (BitVec.ofNat 32 p.1)
    else decodeLane f sc (zeroPoint c d) p.1
      (if sc = 0 then 0 else scaleLane s c d.va (field d 58 51) (p.2 / groupSize (field d 31 30))))

theorem runVld_eq (s : State) (k : CoreId) (cmd : Cmd) : runVld s k cmd =
    ((s.setCore k ((s.core k).setLanes (Desc.vd cmd.desc) 0 ((loadedElems s k cmd).map (·.1)))).stickArith k
      ((loadedElems s k cmd).foldl (fun a r => a.or r.2) .none)).spendScales := rfl

theorem runVld_core (s : State) (k : CoreId) (cmd : Cmd) : (runVld s k cmd).core k =
    (s.core k).setLanes (Desc.vd cmd.desc) 0 ((loadedElems s k cmd).map (·.1)) := by
  rw [runVld_eq, State.core_spendScales, State.stickArith, State.core_stick, State.core_setCore_same]

theorem runVld_lane (s : State) (k : CoreId) (cmd : Cmd) (x : Nat) : lookupD 0 ((runVld s k cmd).core k).vregs x =
    if 256 * Desc.vd cmd.desc ≤ x ∧ x < 256 * Desc.vd cmd.desc + (loadedElems s k cmd).length
    then ((loadedElems s k cmd).map (·.1)).getD (x - 256 * Desc.vd cmd.desc) 0 else lookupD 0 (s.core k).vregs x := by
  rw [runVld_core, Core.setLanes, lookupD_writeRun, List.length_map, Nat.add_zero]

theorem runVld_reg (s : State) (k : CoreId) (cmd : Cmd) : (runVld s k cmd).reg (Reg.vxeArithStatus k) =
    s.reg (Reg.vxeArithStatus k) |||
      BitVec.ofNat 64 ((loadedElems s k cmd).foldl (fun a r => a.or r.2) ArithFlags.none).mask := by
  rw [runVld_eq, State.reg_spendScales, State.stickArith, State.reg_stick_same, State.reg_setCore]

theorem Acted.runVld (s : State) (k : CoreId) (cmd : Cmd) : Acted k [Reg.vxeArithStatus k] s (runVld s k cmd) := by
  rw [runVld_eq]
  exact ((Acted.setCore k _ s _).trans (.stick k _ _ (List.mem_singleton_self _))).trans (.spendScales k _ _)

theorem runVld_deltas (s : State) (k : CoreId) (cmd : Cmd) : (runVld s k cmd).deltas = s.deltas := by
  rw [runVld_eq, State.spendScales_deltas, State.stickArith, State.stick_deltas, State.setCore_deltas]

theorem runVld_writes (s : State) (k : CoreId) (cmd : Cmd) : (runVld s k cmd).writes = s.writes := by
  rw [runVld_eq, State.spendScales_writes, State.stickArith, State.stick_writes, State.setCore_writes]

/-! ## VST -/

/-- The code and the counts of the lane that is element e of a store (R26, R70). -/
def storedElem (s : State) (k : CoreId) (t : Tile) (cmd : Cmd) (lane : W32) (e : Nat) : Nat × ConvTally :=
  let d : Desc := cmd.desc
  let c := s.core k
  if bit d 39 then (lane.toNat, ConvTally.zero)
  else convert (field d 37 34) (bit d 40) (zeroPoint c d) (drawAt (s.seedOf t) (paramOf (bit d 41) cmd) e)
    (storeValue d lane (if field d 33 32 = 0 then 0
      else scaleLane s c d.va (field d 58 51) (e / groupSize (field d 31 30))))

/-- The elements of a store, from the lanes of its run. -/
def storedElems (s : State) (k : CoreId) (t : Tile) (cmd : Cmd) : List (Nat × ConvTally) :=
  (readRun 0 (s.core k).vregs (256 * Desc.vd cmd.desc) (256 * Desc.run cmd.desc)).zipIdx.map
    (fun p => storedElem s k t cmd p.1 p.2)

/-- What the conversions of a store add to the counts. -/
def storedTally (s : State) (k : CoreId) (t : Tile) (cmd : Cmd) : ConvTally :=
  (storedElems s k t cmd).foldl (fun a r => a.add r.2) .zero

/-- The rows that a store sends. -/
def storedRows (s : State) (k : CoreId) (t : Tile) (cmd : Cmd) : List (List Byte) :=
  packRows (fmtBits (field cmd.desc 37 34)) 0 ((storedElems s k t cmd).map (·.1))

theorem runVst_eq (s : State) (k : CoreId) (t : Tile) (cmd : Cmd) : runVst s k t cmd =
    (s.countConv k (storedTally s k t cmd)).spendScales.sendRows k 1 cmd t k.val (field cmd.desc 29 15)
      (storedRows s k t cmd) := rfl

theorem storedElems_length (s : State) (k : CoreId) (t : Tile) (cmd : Cmd) :
    (storedElems s k t cmd).length = 256 * Desc.run cmd.desc := by
  simp [storedElems]

theorem eq_storedElem {s : State} {k : CoreId} {t : Tile} {cmd : Cmd} {e : Nat} {r : Nat × ConvTally}
    (h : (storedElems s k t cmd)[e]? = some r) :
    r = storedElem s k t cmd (lookupD 0 (s.core k).vregs (256 * Desc.vd cmd.desc + e)) e := by
  obtain ⟨inside, rfl⟩ := List.getElem?_eq_some_iff.1 h
  simp [storedElems, readRun_eq]

theorem runVst_core (s : State) (k : CoreId) (t : Tile) (cmd : Cmd) : (runVst s k t cmd).core k =
    (s.countConv k (storedTally s k t cmd)).core k := by
  rw [runVst_eq, State.core_sendRows, State.core_spendScales]

theorem Acted.runVst (s : State) (k : CoreId) (t : Tile) (cmd : Cmd) : Acted k (convRegs k) s (runVst s k t cmd) := by
  rw [runVst_eq]
  exact ((Acted.countConv k s _ (List.Subset.refl _)).trans (.spendScales k _ _)).trans (.sendRows k _ _ 1 cmd t _ _ _)

theorem runVst_writes (s : State) (k : CoreId) (t : Tile) (cmd : Cmd) : (runVst s k t cmd).writes =
    s.writes ++ rowWrites k 1 cmd t k (field cmd.desc 29 15) (storedRows s k t cmd) := by
  rw [runVst_eq, State.sendRows_writes, State.spendScales_writes, State.countConv_writes]

theorem Converted.of_runVst (s : State) (k : CoreId) (t : Tile) (cmd : Cmd) :
    Converted k (storedTally s k t cmd) [] [] s (runVst s k t cmd) := by
  refine (Converted.of_countConv k s _).of_sameRegs ?_ (fun o _ => ?_) (by simp) (by simp) (by simp) ?_
  · rw [runVst_eq, State.sendRows_deltas, State.spendScales_deltas]
  · rw [runVst_eq, State.reg_sendRows, State.reg_spendScales]
  · rw [runVst_core]

/-! ## The three commands -/

/-- Settles O18: what each run leaves of the core, the registers and the row writes, with the elements of a load or store one by
one. -/
theorem vectorLoadsAndStores : Obligations.VectorLoadsAndStores := by
  intro s k t n cmd d c f sc raw scale codes loaded
  refine ⟨fun h => ?_, fun h => ?_, fun h => ?_⟩
  · have elems : loaded = loadedElems s k cmd := rfl
    have core := runVld_core s k cmd
    refine h.gives (exec_vld k s) ⟨.of_markExecuted 1 n (by rw [core]; rfl), ?_,
      ((Acted.runVld s k cmd).trans (.markExecuted k _ _ 1 n)).onlyCore ?_, fun x => ?_, ?_⟩
    · rw [OnlyLanes, State.core_markExecuted, core]
      rfl
    · rw [State.markExecuted_deltas, State.markExecuted_writes, runVld_deltas, runVld_writes]
    · rw [State.core_markExecuted, Core.setQueue_vregs, runVld_lane, ← elems]
    · rw [State.reg_markExecuted, runVld_reg, ← elems]
  · have core := (runVst_core s k t cmd).trans (State.core_countConv _ _ _)
    refine h.gives (exec_vst k s) ⟨.of_markExecuted 1 n (by rw [core]), ?_,
      ((Acted.runVst s k t cmd).trans (.markExecuted k _ _ 1 n)).onlyCore rfl, storedElems s k t cmd,
      storedElems_length s k t cmd, fun e r hr => ?_, (Converted.of_runVst s k t cmd).markExecuted 1 n,
      .of_rowWrites (runVst_writes s k t cmd) (fun x hx => length_of_mem_packRows hx) (List.prefix_refl _)⟩
    · rw [State.core_markExecuted, core]
      rfl
    · obtain ⟨without, drawn⟩ := drawAt_spec s t cmd (d.getLsbD 41) e
      exact ⟨_, without, fun b j hs => drawn b j hs, eq_storedElem hr⟩
  · refine h.gives (exec_vparam k s) ⟨(Acted.markExecuted k [] s 1 n).onlyCore rfl, .of_markExecuted 1 n rfl, ?_⟩
    rw [State.core_markExecuted]
    rfl

end Sys2Proof

/-! PROOF. Read-outs, spills and fills of the accumulators (R20, R52, R58, R59). -/

namespace Sys2Proof.Machine

/-! ## Pairs of indices in order -/

/-- Pairs counted through, the second index fastest. -/
theorem flatMap_range_map_range {α : Type} (f : Nat → Nat → α) (n m : Nat) :
    (List.range n).flatMap (fun i => (List.range m).map (f i)) = (List.range (n * m)).map (fun e => f (e / m) (e % m)) := by
  induction n with
  | zero => simp
  | succ n ih =>
    rw [List.range_succ, List.flatMap_append, ih, Nat.succ_mul, List.range_add, List.map_append, List.map_map,
      List.flatMap_singleton]
    congr 1
    refine List.map_congr_left (fun j hj => ?_)
    have hj := List.mem_range.1 hj
    have pos : 0 < m := by omega
    simp [Nat.mul_comm n m, Nat.mul_add_div pos, Nat.div_eq_of_lt hj, Nat.mod_eq_of_lt hj]

/-- The accumulators of entries one by one (R52). -/
theorem entryAccs_eq (sh cl e0 n : Nat) : entryAccs sh cl e0 n = (List.range (n * mxCols sh cl)).map (fun e =>
    accIndex (mxCols sh cl) ((e0 + e / mxCols sh cl) % mxEntries sh cl) (e % mxCols sh cl)) :=
  flatMap_range_map_range (fun i c => accIndex (mxCols sh cl) ((e0 + i) % mxEntries sh cl) c) n (mxCols sh cl)

/-- Entries that are no more than the array has take each accumulator once. -/
theorem entryAccs_nodup {sh cl e0 n : Nat} (h : n ≤ mxEntries sh cl) : (entryAccs sh cl e0 n).Nodup := by
  rw [entryAccs_eq]
  refine List.Nodup.map_on (fun x hx y hy e => ?_) List.nodup_range
  have pos : 0 < mxCols sh cl := Nat.pos_of_ne_zero (fun z => by simp [z] at hx)
  have inside : ∀ z ∈ List.range (n * mxCols sh cl), z / mxCols sh cl < mxEntries sh cl := fun z hz =>
    (Nat.div_lt_of_lt_mul (Nat.mul_comm n _ ▸ List.mem_range.1 hz)).trans_le h
  unfold accIndex at e
  have column : x % mxCols sh cl = y % mxCols sh cl := by
    have := congrArg (· % mxCols sh cl) e
    simpa [Nat.mul_add_mod_self_right] using this
  have entry : (e0 + x / mxCols sh cl) % mxEntries sh cl = (e0 + y / mxCols sh cl) % mxEntries sh cl := by
    rw [column, Nat.add_right_cancel_iff] at e
    exact Nat.eq_of_mul_eq_mul_right pos e
  have quotient : x / mxCols sh cl = y / mxCols sh cl :=
    Nat.ModEq.eq_of_lt_of_lt (Nat.ModEq.add_left_cancel' e0 entry) (inside x hx) (inside y hy)
  rw [← Nat.div_add_mod x (mxCols sh cl), quotient, column, Nat.div_add_mod]

/-! ## Several entries of a map written one after another -/

section WriteAll

variable {α β : Type} [DecidableEq α] (d : α) (g : β → α)

/-- A key that is not written reads as before. -/
theorem lookupD_foldl_writeOne_of_not_mem {l : List (Nat × β)} {x : Nat} (h : x ∉ l.map (·.1)) (m : List (Nat × α)) :
    lookupD d (l.foldl (fun m p => writeOne d m p.1 (g p.2)) m) x = lookupD d m x := by
  induction l generalizing m with
  | nil => rfl
  | cons p l ih =>
    simp only [List.map_cons, List.mem_cons, not_or] at h
    rw [List.foldl_cons, ih h.2, lookupD_writeOne, if_neg h.1]

/-- A key that is written once reads what was written. -/
theorem lookupD_foldl_writeOne_of_mem {l : List (Nat × β)} {x : Nat} {v : β} (hn : (l.map (·.1)).Nodup) (h : (x, v) ∈ l)
    (m : List (Nat × α)) : lookupD d (l.foldl (fun m p => writeOne d m p.1 (g p.2)) m) x = g v := by
  induction l generalizing m with
  | nil => exact absurd h List.not_mem_nil
  | cons p l ih =>
    simp only [List.map_cons, List.nodup_cons] at hn
    rcases List.mem_cons.1 h with rfl | h
    · rw [List.foldl_cons, lookupD_foldl_writeOne_of_not_mem d g hn.1, lookupD_writeOne, if_pos rfl]
    · rw [List.foldl_cons, ih hn.2 h]

end WriteAll

/-! ## Fills -/

theorem runMfill_core (s : State) (k : CoreId) (cmd : Cmd) :
    (runMfill s k cmd).core k = { s.core k with acc := ((runMfill s k cmd).core k).acc } := by
  unfold runMfill
  rw [State.core_setCore_same]

/-- An accumulator that a fill reaches takes the 8 bytes of its place. -/
theorem runMfill_accAt {s : State} {k : CoreId} {cmd : Cmd} {e i : Nat}
    (hn : field cmd.desc 22 11 ≤ mxEntries (Desc.shape cmd.desc) (Desc.cls cmd.desc))
    (h : (entryAccs (Desc.shape cmd.desc) (Desc.cls cmd.desc) (field cmd.desc 33 23) (field cmd.desc 22 11))[e]? = some i) :
    ((runMfill s k cmd).core k).accAt i =
      fillAcc (leAt (s.rowsFrom k (field cmd.desc 63 49) (spillRows cmd.desc)) (8 * e) 8) := by
  unfold runMfill
  rw [State.core_setCore_same]
  refine lookupD_foldl_writeOne_of_mem _ (fun j => fillAcc (leAt _ (8 * j) 8)) ?_ (List.mem_zipIdx_iff_getElem?.2 h) _
  rw [List.zipIdx_map_fst]
  exact entryAccs_nodup hn

theorem runMfill_accAt_of_not_mem {s : State} {k : CoreId} {cmd : Cmd} {i : Nat}
    (h : i ∉ entryAccs (Desc.shape cmd.desc) (Desc.cls cmd.desc) (field cmd.desc 33 23) (field cmd.desc 22 11)) :
    ((runMfill s k cmd).core k).accAt i = (s.core k).accAt i := by
  unfold runMfill
  rw [State.core_setCore_same]
  refine lookupD_foldl_writeOne_of_not_mem _ (fun j => fillAcc (leAt _ (8 * j) 8)) ?_ _
  rwa [List.zipIdx_map_fst]

/-! ## Spills -/

/-- The bytes that a spill sends (R59). -/
def spilledBytes (s : State) (k : CoreId) (cmd : Cmd) : List Byte :=
  (entryAccs (Desc.shape cmd.desc) (Desc.cls cmd.desc) (field cmd.desc 33 23) (field cmd.desc 22 11)).flatMap
    (fun i => spillBytes ((s.core k).accAt i))

theorem spillBytes_length (a : Acc) : (spillBytes a).length = 8 := by
  cases a <;> exact leBytes_length _ _

theorem runMspill_eq (s : State) (k : CoreId) (t : Tile) (cmd : Cmd) : runMspill s k t cmd =
    (s.rowsOpenEnd 64 (spilledBytes s k cmd)).2.sendRows k 0 cmd t k.val (field cmd.desc 63 49)
      (s.rowsOpenEnd 64 (spilledBytes s k cmd)).1 := rfl

theorem spilledBytes_length (s : State) (k : CoreId) (cmd : Cmd) : (spilledBytes s k cmd).length =
    8 * (entryAccs (Desc.shape cmd.desc) (Desc.cls cmd.desc) (field cmd.desc 33 23) (field cmd.desc 22 11)).length := by
  simp only [spilledBytes, List.length_flatMap, spillBytes_length, List.map_const', List.sum_replicate, smul_eq_mul]
  exact Nat.mul_comm _ _

theorem State.core_rowsOpenEnd (s : State) (b : Nat) (bs : List Byte) (j : CoreId) : (s.rowsOpenEnd b bs).2.core j = s.core j :=
  rfl

theorem runMspill_core (s : State) (k : CoreId) (t : Tile) (cmd : Cmd) : (runMspill s k t cmd).core k = s.core k := by
  rw [runMspill_eq, State.core_sendRows, State.core_rowsOpenEnd]

theorem runMspill_writes (s : State) (k : CoreId) (t : Tile) (cmd : Cmd) : (runMspill s k t cmd).writes =
    s.writes ++ rowWrites k 0 cmd t k (field cmd.desc 63 49) (s.rowsOpenEnd 64 (spilledBytes s k cmd)).1 := by
  rw [runMspill_eq, State.sendRows_writes]
  rfl

theorem runMspill_deltas (s : State) (k : CoreId) (t : Tile) (cmd : Cmd) : (runMspill s k t cmd).deltas = s.deltas := by
  rw [runMspill_eq, State.sendRows_deltas]
  rfl

/-! ## Read-outs -/

/-- Entry and column of the element at a place of a read-out: along the columns, or along the entries (R58). -/
def readPlace (d : Desc) (e : Nat) : Nat × Nat :=
  if bit d 79 then (e % field d 22 11, e / field d 22 11) else (e / mxCols d.shape d.cls, e % mxCols d.shape d.cls)

/-- The entries and columns of a read-out in its order. -/
def readOrder (d : Desc) : List (Nat × Nat) :=
  let cols := mxCols d.shape d.cls
  let n := field d 22 11
  if bit d 79 then (List.range cols).flatMap (fun j => (List.range n).map (fun i => (i, j)))
  else (List.range n).flatMap (fun i => (List.range cols).map (fun j => (i, j)))

theorem readOrder_eq (d : Desc) : readOrder d = (List.range (field d 22 11 * mxCols d.shape d.cls)).map (readPlace d) := by
  unfold readOrder
  dsimp only
  split
  · next h =>
    rw [flatMap_range_map_range (fun j i => (i, j)), Nat.mul_comm]
    exact List.map_congr_left (fun e _ => by rw [readPlace, if_pos h])
  · next h =>
    rw [flatMap_range_map_range (fun i j => (i, j))]
    exact List.map_congr_left (fun e _ => by rw [readPlace, if_neg h])

/-- The code, the counts and the wrap of the entry and column that is element e of a read-out (R58). -/
def readElemAt (s : State) (k : CoreId) (t : Tile) (cmd : Cmd) (x : Nat × Nat) (e : Nat) : Nat × ConvTally × Bool :=
  let d : Desc := cmd.desc
  let p := mreadParamRows d
  let prow := s.rowsFrom k.val (field d 48 34) (p.1 + p.2)
  readElemExact d (readMult d prow x.2) (readBias d prow x.2) (drawAt (s.seedOf t) (paramOf (bit d 78) cmd) e)
    ((s.core k).accAt (accIndex (mxCols d.shape d.cls) ((field d 33 23 + x.1) % mxEntries d.shape d.cls) x.2))

/-- The elements of a read-out. -/
def readElems (s : State) (k : CoreId) (t : Tile) (cmd : Cmd) : List (Nat × ConvTally × Bool) :=
  (readOrder cmd.desc).zipIdx.map (fun x => readElemAt s k t cmd x.1 x.2)

theorem readElems_length (s : State) (k : CoreId) (t : Tile) (cmd : Cmd) : (readElems s k t cmd).length =
    field cmd.desc 22 11 * mxCols (Desc.shape cmd.desc) (Desc.cls cmd.desc) := by
  simp [readElems, readOrder_eq]

theorem eq_readElemAt {s : State} {k : CoreId} {t : Tile} {cmd : Cmd} {e : Nat} {r : Nat × ConvTally × Bool}
    (h : (readElems s k t cmd)[e]? = some r) : r = readElemAt s k t cmd (readPlace cmd.desc e) e := by
  obtain ⟨inside, rfl⟩ := List.getElem?_eq_some_iff.1 h
  simp [readElems, readOrder_eq]

/-- What the conversions of a read-out add to the counts. -/
def readTally (s : State) (k : CoreId) (t : Tile) (cmd : Cmd) : ConvTally :=
  (readElems s k t cmd).foldl (fun a r => a.add r.2.1) .zero

/-- How many elements of a read-out come from entries that had wrapped. -/
def readWraps (s : State) (k : CoreId) (t : Tile) (cmd : Cmd) : Nat := ((readElems s k t cmd).filter (·.2.2)).length

/-- The codes of a read-out that fill rows. -/
def readWhole (s : State) (k : CoreId) (t : Tile) (cmd : Cmd) : Nat :=
  let e := perRow (fmtBits (field cmd.desc 71 68))
  ((readElems s k t cmd).map (·.1)).length / e * e

/-- The full rows of a read-out. -/
def readHead (s : State) (k : CoreId) (t : Tile) (cmd : Cmd) : List (List Byte) :=
  packRows (fmtBits (field cmd.desc 71 68)) 0 (((readElems s k t cmd).map (·.1)).take (readWhole s k t cmd))

/-- The bytes of a read-out that follow its full rows. -/
def readTail (s : State) (k : CoreId) (t : Tile) (cmd : Cmd) : List Byte :=
  packBytes (fmtBits (field cmd.desc 71 68)) (((readElems s k t cmd).map (·.1)).drop (readWhole s k t cmd))

/-- The rows that a read-out sends. -/
def readRows (s : State) (k : CoreId) (t : Tile) (cmd : Cmd) : List (List Byte) :=
  readHead s k t cmd ++ (s.rowsOpenEnd (fmtBits (field cmd.desc 71 68)) (readTail s k t cmd)).1

theorem runMread_eq (s : State) (k : CoreId) (t : Tile) (cmd : Cmd) : runMread s k t cmd =
    (((((s.rowsOpenEnd (fmtBits (field cmd.desc 71 68)) (readTail s k t cmd)).2.countConv k (readTally s k t cmd)).bump
      (Reg.mxeWrapCount k) (readWraps s k t cmd)).stick (Reg.mxeAccStatus k) (if 0 < readWraps s k t cmd then 1 else 0)).sendRows
      k 0 cmd t k.val (field cmd.desc 63 49) (readRows s k t cmd)) := rfl

theorem runMread_core (s : State) (k : CoreId) (t : Tile) (cmd : Cmd) : (runMread s k t cmd).core k =
    { s.core k with tile := ((runMread s k t cmd).core k).tile } := by
  rw [runMread_eq, State.core_sendRows, State.core_stick, State.core_bump, State.core_countConv, State.core_rowsOpenEnd]

theorem runMread_writes (s : State) (k : CoreId) (t : Tile) (cmd : Cmd) : (runMread s k t cmd).writes =
    s.writes ++ rowWrites k 0 cmd t k (field cmd.desc 63 49) (readRows s k t cmd) := by
  rw [runMread_eq, State.sendRows_writes, State.stick_writes, State.bump_writes, State.countConv_writes]
  rfl

theorem length_of_mem_readRows {s : State} {k : CoreId} {t : Tile} {cmd : Cmd} {r : List Byte} (h : r ∈ readRows s k t cmd) :
    r.length = 512 :=
  (List.mem_append.1 h).elim length_of_mem_packRows length_of_mem_rowsOpenEnd

/-- The rows of a read-out hold its full rows, and then the bytes that follow. -/
theorem prefix_flatten_readRows (s : State) (k : CoreId) (t : Tile) (cmd : Cmd) :
    (readHead s k t cmd).flatten ++ readTail s k t cmd <+: (readRows s k t cmd).flatten := by
  rw [readRows, List.flatten_append, List.prefix_append_right_inj]
  exact prefix_flatten_rowsOpenEnd _ _ _

theorem readTail_elems_length (s : State) (k : CoreId) (t : Tile) (cmd : Cmd) :
    (((readElems s k t cmd).map (·.1)).drop (readWhole s k t cmd)).length =
      (readElems s k t cmd).length % perRow (fmtBits (field cmd.desc 71 68)) := by
  rw [List.length_drop, readWhole, List.length_map]
  have := Nat.div_add_mod' (readElems s k t cmd).length (perRow (fmtBits (field cmd.desc 71 68)))
  omega

section Format

variable {s : State} {k : CoreId} {t : Tile} {cmd : Cmd} (hf : fmtBits (field cmd.desc 71 68) ≠ 0)
include hf

/-- What follows the full rows fills less than one. -/
theorem readTail_elems_length_le :
    (((readElems s k t cmd).map (·.1)).drop (readWhole s k t cmd)).length ≤ perRow (fmtBits (field cmd.desc 71 68)) := by
  rw [readTail_elems_length]
  exact (Nat.mod_lt _ (perRow_pos hf)).le

theorem readTail_length_le : (readTail s k t cmd).length ≤ if fmtBits (field cmd.desc 71 68) = 6 then 480 else 512 :=
  packBytes_length_le hf (readTail_elems_length_le hf)

/-- A read-out sends as many rows as its elements need (R20). -/
theorem readRows_length : (readRows s k t cmd).length =
    cdiv (readElems s k t cmd).length (perRow (fmtBits (field cmd.desc 71 68))) := by
  have pos := perRow_pos hf
  have whole : (((readElems s k t cmd).map (·.1)).take (readWhole s k t cmd)).length =
      perRow (fmtBits (field cmd.desc 71 68)) *
        ((readElems s k t cmd).length / perRow (fmtBits (field cmd.desc 71 68))) := by
    rw [List.length_take, readWhole, List.length_map, Nat.mul_comm, Nat.min_eq_left]
    exact Nat.mul_div_le _ _
  have tail : (readTail s k t cmd).length ≤ if fmtBits (field cmd.desc 71 68) = 6 then 480 else 512 := readTail_length_le hf
  rw [readRows, List.length_append, readHead, packRows_length, whole, cdiv_mul_left _ pos,
    rowsOpenEnd_length s (fun six => by simpa [six] using tail), readTail, cdiv_packBytes hf (readTail_elems_length_le hf),
    readTail_elems_length, ← cdiv_eq_div_add pos]

/-- Rows of 6-bit elements end in zeros (R20). -/
theorem readRows_drop (six : fmtBits (field cmd.desc 71 68) = 6) {r : List Byte} (h : r ∈ readRows s k t cmd) :
    r.drop 480 = List.replicate 32 0 := by
  rcases List.mem_append.1 h with head | tail
  · obtain ⟨part, hp, rfl⟩ := mem_packRows head
    have := packBytes_length_le hf hp.le
    rw [if_pos six] at this
    exact padRow_drop this
  · have bytes : (readTail s k t cmd).length ≤ _ := readTail_length_le hf
    rw [if_pos six] at bytes
    rw [six] at tail
    exact rowsOpenEnd_drop bytes tail

end Format

end Sys2Proof.Machine

namespace Sys2Proof

open Machine Laws

/-! ## Registers of a read-out -/

theorem mxeWrapCount_not_mem_convRegs (k : CoreId) : Reg.mxeWrapCount k ∉ convRegs k := by revert k; decide
theorem mxeAccStatus_not_mem_convRegs (k : CoreId) : Reg.mxeAccStatus k ∉ convRegs k := by revert k; decide
theorem mxeWrapCount_ne_mxeAccStatus (k : CoreId) : Reg.mxeWrapCount k ≠ Reg.mxeAccStatus k := by revert k; decide

theorem mxeWrapCount_ne_vxeConvStatus (k : CoreId) : Reg.mxeWrapCount k ≠ Reg.vxeConvStatus k :=
  List.ne_of_not_mem_cons (mxeWrapCount_not_mem_convRegs k)
theorem mxeAccStatus_ne_vxeConvStatus (k : CoreId) : Reg.mxeAccStatus k ≠ Reg.vxeConvStatus k :=
  List.ne_of_not_mem_cons (mxeAccStatus_not_mem_convRegs k)

/-- No core's conversions are counted at the wrap count. -/
theorem not_convCore_mxeWrapCount {k : CoreId} {j : Nat} : convCore (Reg.mxeWrapCount k) ≠ some j := by
  rw [convCore_mxeWrapCount]
  exact Option.some_ne_none j |>.symm

theorem Acted.rowsOpenEnd (k : CoreId) (offs : List Nat) (s : State) (b : Nat) (bs : List Byte) :
    Acted k offs s (s.rowsOpenEnd b bs).2 := ⟨rfl, fun _ _ => rfl, fun _ _ => rfl⟩

theorem Acted.runMspill (s : State) (k : CoreId) (t : Tile) (cmd : Cmd) : Acted k [] s (runMspill s k t cmd) := by
  rw [runMspill_eq]
  exact (Acted.rowsOpenEnd k _ s _ _).trans (.sendRows k _ _ 0 cmd t _ _ _)

theorem Acted.runMread (s : State) (k : CoreId) (t : Tile) (cmd : Cmd) :
    Acted k (Reg.mxeWrapCount k :: Reg.mxeAccStatus k :: convRegs k) s (runMread s k t cmd) := by
  rw [runMread_eq]
  exact ((((Acted.rowsOpenEnd k _ s _ _).trans (.countConv k _ _ (by simp))).trans
    (.bump k _ _ (by simp) (fun _ hj => absurd hj not_convCore_mxeWrapCount))).trans (.stick k _ _ (by simp))).trans
    (.sendRows k _ _ 0 cmd t _ _ _)

/-- The counts that a read-out raises: those of its conversions, and the wrapped entries (R36, R58). -/
theorem Converted.of_runMread (s : State) (k : CoreId) (t : Tile) (cmd : Cmd) :
    Converted k (readTally s k t cmd) [(Reg.mxeWrapCount k, readWraps s k t cmd)] [Reg.mxeAccStatus k] s
      (runMread s k t cmd) := by
  let s0 := (s.rowsOpenEnd (fmtBits (field cmd.desc 71 68)) (readTail s k t cmd)).2
  have notConv : ∀ {o}, o ∉ convRegs k → o ∉ (convCounts k (readTally s k t cmd)).map (·.1) :=
    fun h => List.not_mem_of_not_mem_cons h
  have conv : Converted k (readTally s k t cmd) [] [Reg.mxeAccStatus k] s0 (s0.countConv k (readTally s k t cmd)) :=
    (Converted.of_countConv k s0 _).mono (List.nil_subset _)
  have wrap := conv.bump (off := Reg.mxeWrapCount k) (readWraps s k t cmd) (convCore_mxeWrapCount k)
    (notConv (mxeWrapCount_not_mem_convRegs k))
    (by simpa using ⟨mxeWrapCount_ne_vxeConvStatus k, mxeWrapCount_ne_mxeAccStatus k⟩)
  refine (wrap.of_sameRegs ?_ (fun o ho => ?_) ?_ ?_ ?_ ?_).of_start (v := s0) rfl rfl rfl
  · rw [runMread_eq, State.sendRows_deltas, State.stick_deltas]
  · rw [runMread_eq, State.reg_sendRows, State.reg_stick_ne _ _ _ _ (by simpa using ho)]
  · rw [List.forall_mem_singleton, List.map_append, List.mem_append, not_or]
    exact ⟨notConv (mxeAccStatus_not_mem_convRegs k), by simpa using (mxeWrapCount_ne_mxeAccStatus k).symm⟩
  · simpa using (mxeAccStatus_ne_vxeConvStatus k).symm
  · simpa using (mxeWrapCount_ne_vxeConvStatus k).symm
  · rw [runMread_eq, State.core_sendRows, State.core_stick]

/-- A wrapped entry sets the wrap flag (R58). -/
theorem runMread_accStatus (s : State) (k : CoreId) (t : Tile) (cmd : Cmd) :
    (runMread s k t cmd).reg (Reg.mxeAccStatus k) =
      s.reg (Reg.mxeAccStatus k) ||| if 0 < readWraps s k t cmd then 1 else 0 := by
  have conv : ∀ (u : State) x, (u.countConv k x).reg (Reg.mxeAccStatus k) = u.reg (Reg.mxeAccStatus k) := fun u x =>
    (Acted.countConv k u x (List.Subset.refl _)).regs _ (mxeAccStatus_not_mem_convRegs k)
  have wrap : ∀ (u : State) x, (u.bump (Reg.mxeWrapCount k) x).reg (Reg.mxeAccStatus k) = u.reg (Reg.mxeAccStatus k) :=
    fun u x => bump_reg_ne _ _ _ _ (mxeWrapCount_ne_mxeAccStatus k).symm
      (fun _ hj => absurd hj not_convCore_mxeWrapCount)
  have start : ∀ (b : Nat) bs o, (s.rowsOpenEnd b bs).2.reg o = s.reg o := fun _ _ _ => rfl
  rw [runMread_eq, State.reg_sendRows, State.reg_stick_same, wrap, conv, start]
  congr 1
  split <;> rfl

/-! ## The three commands -/

/-- Settles O23: the rows of a read-out or a spill hold its bytes, its elements and counts are those of its order, and a fill writes
each accumulator of its entries once. -/
theorem readOutSpillFill : Obligations.ReadOutSpillFill := by
  intro s k t n cmd d c cols num e0 accs f b p prow place kept
  refine ⟨fun h hb hnum => ?_, fun h => ?_, fun h hn => ?_⟩
  · have core := runMread_core s k t cmd
    have run : runAccAccess s k t cmd = runMread s k t cmd := if_pos (cmd_of_nextMatrix h.turn.next)
    refine h.gives (.inl rfl) (exec_mread k s) ?_
    rw [run]
    have count : (readRows s k t cmd).length = cdiv (num * cols) (perRow b) := by
      rw [readRows_length hb, readElems_length]
    refine ⟨⟨.of_markExecuted 0 n (by rw [core]), ?_,
        ((Acted.runMread s k t cmd).trans (.markExecuted k _ _ 0 n)).onlyCore rfl⟩,
      readElems s k t cmd, readElems_length s k t cmd, fun e r hr => ?_, (Converted.of_runMread s k t cmd).markExecuted 0 n,
      ?_, ?_, fun six w hw => ?_⟩
    · rw [State.core_markExecuted, core]
      rfl
    · obtain ⟨without, drawn⟩ := drawAt_spec s t cmd (d.getLsbD 78) e
      exact ⟨_, without, fun x j hs => drawn x j hs, eq_readElemAt hr⟩
    · rw [State.reg_markExecuted, runMread_accStatus]
      rfl
    · rw [← count]
      exact .of_rowWrites (runMread_writes s k t cmd) (fun x hx => length_of_mem_readRows hx) (prefix_flatten_readRows s k t cmd)
    · rw [State.markExecuted_writes, runMread_writes, List.drop_left] at hw
      exact readRows_drop hb six (rowWrites_data k 0 cmd t k _ (readRows s k t cmd) ▸ List.mem_map_of_mem hw)
  · have core := runMspill_core s k t cmd
    have run : runAccAccess s k t cmd = runMspill s k t cmd := by
      simp [runAccAccess, cmd_of_nextMatrix h.turn.next]
    refine h.gives (.inr (.inl rfl)) (exec_mspill k s) ?_
    rw [run]
    refine ⟨⟨.of_markExecuted 0 n (by rw [core]), ?_,
        ((Acted.runMspill s k t cmd).trans (.markExecuted k _ _ 0 n)).onlyCore rfl⟩, ?_, ?_⟩
    · rw [State.core_markExecuted, core]
      rfl
    · rw [State.markExecuted_deltas, runMspill_deltas]
    · rw [← spilledBytes_length s k cmd, ← rowsOpenEnd_length s (b := 64) (fun six => absurd six (by decide))]
      exact .of_rowWrites (runMspill_writes s k t cmd) (fun x hx => length_of_mem_rowsOpenEnd hx)
        (prefix_flatten_rowsOpenEnd s 64 (spilledBytes s k cmd))
  · have core := runMfill_core s k cmd
    have run : runAccAccess s k t cmd = runMfill s k cmd := by
      simp [runAccAccess, cmd_of_nextMatrix h.turn.next]
    refine h.gives (.inr (.inr rfl)) (exec_mfill k s) ?_
    rw [run]
    have acc : ∀ i, (((runMfill s k cmd).markExecuted k 0 n).core k).accAt i = ((runMfill s k cmd).core k).accAt i := fun i => by
      rw [State.core_markExecuted]
      rfl
    refine ⟨.of_markExecuted 0 n (by rw [core]), ((Acted.setCore k _ s _).trans (.markExecuted k _ _ 0 n)).onlyCore rfl, ?_,
      fun e i hi => ?_, fun i hi => ?_⟩
    · rw [State.core_markExecuted, core]
      rfl
    · rw [acc]
      exact runMfill_accAt hn hi
    · rw [acc]
      exact runMfill_accAt_of_not_mem hi

end Sys2Proof

/-! PROOF. Integer lanes and integer accumulators are exact, and a fill restores what a spill writes (R54, R59, R72). -/

namespace Sys2Proof.Machine

/-! ## Integer lanes (R72) -/

/-- The signed value of the low n bits is the balanced remainder. -/
theorem sext_eq_bmod (n v : Nat) : sext n v = (v : Int).bmod (2 ^ n) := by
  unfold sext
  dsimp only
  rw [Int.bmod_def, ← Int.natCast_emod]
  generalize 2 ^ n = m
  split <;> split <;> omega

theorem cast_wrapNat (n : Nat) (v : Int) : (wrapNat n v : Int) = v % (2 ^ n : Nat) :=
  Int.toNat_of_nonneg (Int.emod_nonneg _ (by positivity))

theorem IntForm.toInt_write {F : IntForm} (hw : F.w ≤ 32) (hs : F.sgn = true) (v : Int) :
    (F.write v).toInt = v.bmod (2 ^ F.w) := by
  have divides : 2 ^ F.w ∣ 2 ^ 32 := pow_dvd_pow 2 hw
  have whole : ((2 ^ F.w : Nat) : Int) ≤ 2 ^ 32 := by exact_mod_cast Nat.le_of_dvd (by decide) divides
  have low := Int.le_bmod (x := v) (Nat.two_pow_pos F.w)
  have high := Int.bmod_lt (x := v) (Nat.two_pow_pos F.w)
  rw [IntForm.write, if_pos hs, BitVec.toInt_ofInt, sext_eq_bmod, cast_wrapNat, Int.emod_bmod]
  refine Int.bmod_eq_of_le_mul_two ?_ ?_ <;> push_cast at * <;> omega

theorem IntForm.toNat_write {F : IntForm} (hw : F.w ≤ 32) (hs : F.sgn = false) (v : Int) :
    ((F.write v).toNat : Int) = v % (2 ^ F.w : Nat) := by
  have small : wrapNat F.w v < 2 ^ 32 := by
    have := Int.emod_lt_of_pos v (show (0 : Int) < (2 ^ F.w : Nat) by positivity)
    rw [← cast_wrapNat, Int.ofNat_lt] at this
    exact this.trans_le (Nat.pow_le_pow_right (by decide) hw)
  rw [IntForm.write, if_neg (by simp [hs]), BitVec.toNat_ofNat, Nat.mod_eq_of_lt small, cast_wrapNat]

/-- A lane written reads as its number, whichever way it is extended. -/
theorem IntForm.read_write {F : IntForm} (hw : F.w ≤ 32) (v : Int) :
    F.read (F.write v) = if F.sgn then (F.write v).toInt else ((F.write v).toNat : Int) := by
  unfold IntForm.read
  split
  · next hs =>
    rw [sext_eq_bmod, ← Int.bmod_bmod_of_dvd (pow_dvd_pow 2 hw), ← BitVec.toInt_eq_toNat_bmod, IntForm.toInt_write hw hs,
      Int.bmod_bmod_of_dvd (dvd_refl _)]
  · next hs =>
    rw [Int.natCast_emod, IntForm.toNat_write hw (by simpa using hs), Int.emod_emod_of_dvd _ (dvd_refl _)]

/-- A lane written reads as a number of the form's range that agrees with it modulo 2^W. -/
theorem IntForm.read_write_spec {F : IntForm} (hp : 0 < F.w) (hw : F.w ≤ 32) (v : Int) :
    (F.lo ≤ F.read (F.write v) ∧ F.read (F.write v) ≤ F.hi) ∧ ((2 ^ F.w : Nat) : Int) ∣ F.read (F.write v) - v := by
  rw [IntForm.read_write hw]
  unfold IntForm.lo IntForm.hi
  split
  · next hs =>
    have twice : 2 ^ F.w = 2 * 2 ^ (F.w - 1) := by rw [← pow_succ', Nat.sub_add_cancel hp]
    have low := Int.le_bmod (x := v) (Nat.two_pow_pos F.w)
    have high := Int.bmod_lt (x := v) (Nat.two_pow_pos F.w)
    rw [IntForm.toInt_write hw hs]
    refine ⟨?_, Int.dvd_bmod_sub_self⟩
    rw [twice] at low high ⊢
    omega
  · next hs =>
    rw [IntForm.toNat_write hw (by simpa using hs)]
    have low := Int.emod_nonneg v (show ((2 ^ F.w : Nat) : Int) ≠ 0 by positivity)
    have high := Int.emod_lt_of_pos v (show (0 : Int) < (2 ^ F.w : Nat) by positivity)
    refine ⟨by omega, ?_⟩
    rw [← Int.neg_sub, Int.dvd_neg]
    exact Int.dvd_self_sub_emod

/-- How many numbers a form has. -/
theorem IntForm.hi_sub_lo {F : IntForm} (hp : 0 < F.w) : F.hi - F.lo = (2 ^ F.w : Nat) - 1 := by
  have twice : 2 ^ F.w = 2 * 2 ^ (F.w - 1) := by rw [← pow_succ', Nat.sub_add_cancel hp]
  unfold IntForm.lo IntForm.hi
  split
  · rw [twice]; push_cast; ring
  · ring

/-- A number in range is read as it was written. -/
theorem IntForm.read_write_of_mem {F : IntForm} (hp : 0 < F.w) (hw : F.w ≤ 32) {v : Int} (hl : F.lo ≤ v) (hh : v ≤ F.hi) :
    F.read (F.write v) = v := by
  obtain ⟨⟨low, high⟩, same⟩ := IntForm.read_write_spec hp hw v
  have size := IntForm.hi_sub_lo hp
  have := Int.eq_zero_of_abs_lt_dvd same (by rw [abs_lt]; omega)
  omega

/-- A result is a lane written. -/
theorem IntForm.finish_eq_write (F : IntForm) (v : Int) : ∃ x, (F.finish v).1 = F.write x := by
  unfold IntForm.finish
  split
  · exact ⟨v, rfl⟩
  · split
    · exact ⟨_, rfl⟩
    · exact ⟨v, rfl⟩

theorem IntForm.finish_of_mem {F : IntForm} {v : Int} (h : F.lo ≤ v ∧ v ≤ F.hi) : F.finish v = (F.write v, .none) := if_pos h

theorem IntForm.finish_of_below {F : IntForm} {v : Int} (hs : F.sat = true) (h : v < F.lo) :
    F.finish v = (F.write F.lo, { isat := true }) := by
  rw [IntForm.finish, if_neg (by omega), if_pos hs, if_pos h]

theorem IntForm.finish_of_above {F : IntForm} {v : Int} (hp : 0 < F.w) (hs : F.sat = true) (h : F.hi < v) :
    F.finish v = (F.write F.hi, { isat := true }) := by
  have size := IntForm.hi_sub_lo hp
  have pos : (0 : Int) < (2 ^ F.w : Nat) := by positivity
  rw [IntForm.finish, if_neg (by omega), if_pos hs, if_neg (by omega)]

theorem IntForm.finish_of_wrap {F : IntForm} {v : Int} (hs : F.sat = false) (h : v < F.lo ∨ F.hi < v) :
    F.finish v = (F.write v, { iwrap := true }) := by
  rw [IntForm.finish, if_neg (by omega), if_neg (by simp [hs])]

/-! ## Integer accumulators (R54) -/

/-- A number that fits 40 bits is read as it was written. -/
theorem toInt_ofInt_of_fits {x : Int} (hl : -2 ^ 39 ≤ x) (hh : x < 2 ^ 39) : (BitVec.ofInt 40 x).toInt = x := by
  rw [BitVec.toInt_ofInt]
  exact Int.bmod_eq_of_le_mul_two (by norm_num; omega) (by norm_num; omega)

theorem toInt_add_one {w : BitVec 4} (h : w.toInt < 7) : (w + 1).toInt = w.toInt + 1 := by
  revert w; decide

theorem toInt_sub_one {w : BitVec 4} (h : -8 < w.toInt) : (w - 1).toInt = w.toInt - 1 := by
  revert w; decide

/-- The low bits and the wraps of an accumulator stand for one number, to which a contribution adds itself. -/
theorem accAdd_value {low : BitVec 40} {w : BitVec 4} {p : Int} (hp : -2 ^ 40 < p) (hq : p < 2 ^ 40) (hw : w.toInt < 7)
    (hv : -8 < w.toInt) :
    (accAdd low w p).1.toInt + 2 ^ 40 * (accAdd low w p).2.toInt = low.toInt + 2 ^ 40 * w.toInt + p := by
  have low1 := BitVec.le_toInt low
  have low2 := BitVec.toInt_lt (x := low)
  norm_num at hp hq low1 low2
  unfold accAdd
  dsimp only
  split
  · rw [toInt_ofInt_of_fits (by omega) (by omega), toInt_add_one hw]; ring
  · split
    · rw [toInt_ofInt_of_fits (by omega) (by omega), toInt_sub_one hv]; ring
    · rw [toInt_ofInt_of_fits (by omega) (by omega)]; ring

/-- A contribution that does not carry out of the low bits leaves the wraps. -/
theorem accAdd_of_fits {low : BitVec 40} (w : BitVec 4) {p : Int} (hl : -2 ^ 39 ≤ low.toInt + p) (hh : low.toInt + p < 2 ^ 39) :
    (accAdd low w p).2 = w ∧ (accAdd low w p).1.toInt = low.toInt + p := by
  have kept : accAdd low w p = (BitVec.ofInt 40 (low.toInt + p), w) := by
    rw [accAdd, if_neg (by omega), if_neg (by omega)]
  rw [kept]
  exact ⟨rfl, toInt_ofInt_of_fits hl hh⟩

/-! ## Spills and fills (R59) -/

/-- A fill brings back what a spill writes. -/
theorem fillAcc_ofLe_spillBytes (a : Acc) : fillAcc (ofLe (spillBytes a)) = a := by
  cases a with
  | int low w =>
    have hlow := low.isLt
    have hw := w.isLt
    rw [spillBytes, ofLe_leBytes, Nat.mod_eq_of_lt (by omega), fillAcc, if_neg (by omega), Acc.int.injEq]
    constructor <;> apply BitVec.eq_of_toNat_eq <;> rw [BitVec.toNat_ofNat] <;> omega
  | fp b =>
    have hb := b.isLt
    rw [spillBytes, ofLe_leBytes, Nat.mod_eq_of_lt (by omega), fillAcc, if_pos (by omega), Acc.fp.injEq]
    apply BitVec.eq_of_toNat_eq
    rw [BitVec.toNat_ofNat]
    omega

end Sys2Proof.Machine

namespace Sys2Proof

open Machine

/-- Settles O16: a lane written reads as the number of its range that agrees modulo 2^W; an addition to an accumulator by whether it
carries out of the low bits; a spill and a fill type by type. -/
theorem exactIntegers : Obligations.ExactIntegers := by
  refine ⟨fun F v hw => ?_, fun low w p hp hq => ⟨accAdd_value hp hq, accAdd_of_fits w⟩, fillAcc_ofLe_spillBytes⟩
  have pos : 0 < F.w := by omega
  have le : F.w ≤ 32 := by omega
  have size := IntForm.hi_sub_lo pos
  have span : (0 : Int) < (2 ^ F.w : Nat) := by positivity
  obtain ⟨x, written⟩ := IntForm.finish_eq_write F v
  obtain ⟨⟨low, high⟩, -⟩ := IntForm.read_write_spec pos le x
  have value := IntForm.read_write le x
  rw [← written] at low high value
  refine ⟨fun h => ?_, fun hs h => ?_, fun hs h => ?_, fun hs h => ?_, low, high, fun hs => ?_, fun hs => ?_⟩
  · rw [IntForm.finish_of_mem h]
    exact ⟨IntForm.read_write_of_mem pos le h.1 h.2, rfl⟩
  · rw [IntForm.finish_of_below hs h]
    exact ⟨IntForm.read_write_of_mem pos le le_rfl (by omega), rfl⟩
  · rw [IntForm.finish_of_above pos hs h]
    exact ⟨IntForm.read_write_of_mem pos le (by omega) le_rfl, rfl⟩
  · rw [IntForm.finish_of_wrap hs h]
    exact ⟨Int.emod_eq_zero_of_dvd (IntForm.read_write_spec pos le v).2, rfl⟩
  · rw [value, if_pos hs]
  · rw [value, if_neg (by simp [hs])]

end Sys2Proof

/-! PROOF. Activity windows, and promotions of requests and transfers (R64–R66, R151, R153, R154, R355). -/

namespace Sys2Proof.Machine

open Laws

theorem exec_storeRequestPromotion (st : StoreId) (wait : Nat) (busy : RefusedRequest) (s : State) :
    exec (.storeRequestPromotion st wait busy) s = execStoreRequestPromotion st wait busy s := rfl

/-! ## One window of an engine -/

/-- The active count after a window: towards what is offered or spun, within the slope limit and the ceiling (R64, R355). -/
def Activity.nextCount (a : Activity) (limit offered : Nat) : Nat :=
  min (min (max (max offered a.spinLevel) (a.count - limit)) (a.count + limit)) (min 256 (max a.ceiling (a.count - limit)))

section Window

variable (a : Activity) (limit offered : Nat)

theorem nextActivity_count : (nextActivity a limit offered).count = a.nextCount limit offered := by
  unfold nextActivity
  dsimp only
  split
  · rfl
  · split
    · split <;> rfl
    · rfl

theorem nextActivity_ceiling : (nextActivity a limit offered).ceiling = a.ceiling := by
  unfold nextActivity
  dsimp only
  split
  · rfl
  · split
    · split <;> rfl
    · rfl

variable {a}

/-- A spin without a count of windows ends with real work (R66; log 102). -/
theorem nextActivity_of_unlimited (h : a.spinWindows = none) : nextActivity a limit offered =
    { a with count := a.nextCount limit offered, spinLevel := if 0 < offered then 0 else a.spinLevel } := by
  unfold nextActivity
  rw [h]
  rfl

/-- A window that reaches the level is one of those the spin is held for (R66; log 102). -/
theorem nextActivity_of_reached {w : Nat} (h : a.spinWindows = some w) (hl : 0 < a.spinLevel)
    (hr : a.spinLevel ≤ a.nextCount limit offered) : nextActivity a limit offered =
    if w ≤ 1 then { a with count := a.nextCount limit offered, spinLevel := 0, spinWindows := none }
    else { a with count := a.nextCount limit offered, spinWindows := some (w - 1) } := by
  have reached : (decide (0 < a.spinLevel) && decide (a.spinLevel ≤ a.nextCount limit offered)) = true := by simp [hl, hr]
  unfold nextActivity
  rw [h]
  exact if_pos reached

/-- A window below the level does not count for the spin (R66). -/
theorem nextActivity_of_below {w : Nat} (h : a.spinWindows = some w) (hb : a.nextCount limit offered < a.spinLevel) :
    nextActivity a limit offered = { a with count := a.nextCount limit offered } := by
  have below : ¬ (decide (0 < a.spinLevel) && decide (a.spinLevel ≤ a.nextCount limit offered)) = true := by
    simp [Nat.not_le.2 hb]
  unfold nextActivity
  rw [h]
  exact if_neg below

end Window

/-! ## Counts of the stores and the Pistes -/

theorem convCore_stoRefuseCount (st : StoreId) : convCore (Reg.stoRefuseCount st) = none := by revert st; decide
theorem convCore_stoConflictCount (st : StoreId) : convCore (Reg.stoConflictCount st) = none := by revert st; decide
theorem convCore_stoPromoteCount (st : StoreId) : convCore (Reg.stoPromoteCount st) = none := by revert st; decide
theorem convCore_pstPromoteCount : convCore Reg.pstPromoteCount = none := by decide

/-- Only counts may differ: their registers, and what waits at their sources. -/
def Tallied (s u : State) : Prop := u = { s with regs := u.regs, deltas := u.deltas }

theorem Tallied.trans {s t u : State} (h : Tallied s t) (k : Tallied t u) : Tallied s u :=
  Eq.trans k (by rw [show t = _ from h])

theorem Tallied.bump (s : State) (off n : Nat) : Tallied s (s.bump off n) := bump_frame s off n

theorem Tallied.maxWait (s : State) (off width n : Nat) : Tallied s (s.maxWait off width n) := rfl

/-- The longest wait after a wait: the longer of the two, within 16 bits (R154). -/
theorem State.toNat_reg_maxWait (s : State) (off n : Nat) :
    ((s.maxWait off 16 n).reg off).toNat = max (s.reg off).toNat (min n 65535) := by
  have := (s.reg off).isLt
  rw [State.maxWait, State.reg_setReg_same, BitVec.toNat_ofNat]
  exact Nat.mod_eq_of_lt (by omega)

end Sys2Proof.Machine

namespace Sys2Proof

open Machine Laws

/-- One count more rises, of no conversion. -/
theorem Counted.bump_of_no_conv {l : List (Nat × Nat)} {offs : List Nat} {s u : State} (h : Counted l offs s u) {off : Nat}
    (n : Nat) (hc : convCore off = none) (hl : off ∉ l.map (·.1)) (ho : off ∉ offs) :
    Counted (l ++ [(off, n)]) offs s (u.bump off n) :=
  h.bump n hl ho (fun j hj => by rw [hc] at hj; cases hj)

/-- The longest wait is no count. -/
theorem Counted.maxWait {l : List (Nat × Nat)} {s u : State} {off : Nat} (h : Counted l [] s u) (n : Nat)
    (hl : off ∉ l.map (·.1)) : Counted l [off] s (u.maxWait off 16 n) :=
  (h.mono (List.nil_subset _)).of_sameRegs rfl (fun o ho => State.reg_setReg_ne _ _ _ _ (by simpa using ho))
    (by simpa using hl)

/-- Counts leave the longest wait, which then takes the new one. -/
theorem Counted.toNat_reg_maxWait {l : List (Nat × Nat)} {s u : State} {off : Nat} (h : Counted l [] s u) (n : Nat)
    (hl : off ∉ l.map (·.1)) : ((u.maxWait off 16 n).reg off).toNat = max (s.reg off).toNat (min n 65535) := by
  rw [State.toNat_reg_maxWait, h.regs off (by simpa using hl)]

section Promotion

variable (s : State) (st : StoreId) (wait conflicts : Nat)

/-- A request refused in so many steps, so many of them for a busy bank (R154). -/
def refused : State := (s.bump (Reg.stoRefuseCount st) wait).bump (Reg.stoConflictCount st) conflicts

/-- The same, and its promotion after 32 refusals (R151). -/
def promoted : State := if 32 ≤ wait then (refused s st wait conflicts).bump (Reg.stoPromoteCount st) 1
  else refused s st wait conflicts

theorem tallied_refused : Tallied s (refused s st wait conflicts) := (Tallied.bump s _ _).trans (.bump _ _ _)

theorem tallied_promoted : Tallied s (promoted s st wait conflicts) := by
  unfold promoted
  split
  · exact (tallied_refused s st wait conflicts).trans (.bump _ _ _)
  · exact tallied_refused s st wait conflicts

theorem counted_refused :
    Counted [(Reg.stoRefuseCount st, wait), (Reg.stoConflictCount st, conflicts)] [] s (refused s st wait conflicts) := by
  have apart : Reg.stoConflictCount st ≠ Reg.stoRefuseCount st := by simp [Reg.stoConflictCount, Reg.stoRefuseCount]
  exact ((Counted.refl _ s).bump_of_no_conv wait (convCore_stoRefuseCount st) List.not_mem_nil
    List.not_mem_nil).bump_of_no_conv conflicts (convCore_stoConflictCount st) (by simpa using apart) List.not_mem_nil

theorem counted_promoted : Counted ([(Reg.stoRefuseCount st, wait), (Reg.stoConflictCount st, conflicts)] ++
    if 32 ≤ wait then [(Reg.stoPromoteCount st, 1)] else []) [] s (promoted s st wait conflicts) := by
  unfold promoted
  split
  · exact (counted_refused s st wait conflicts).bump_of_no_conv 1 (convCore_stoPromoteCount st)
      (by simp [Reg.stoPromoteCount, Reg.stoConflictCount, Reg.stoRefuseCount]) List.not_mem_nil
  · rw [List.append_nil]
    exact counted_refused s st wait conflicts

/-- The longest wait of a store is none of its counts. -/
theorem stoMaxWait_not_mem_counts (more : Prop) [Decidable more] : Reg.stoMaxWait st ∉
    ([(Reg.stoRefuseCount st, wait), (Reg.stoConflictCount st, conflicts)] ++
      if more then [(Reg.stoPromoteCount st, 1)] else [] : List (Nat × Nat)).map (·.1) := by
  split <;> simp [Reg.stoMaxWait, Reg.stoRefuseCount, Reg.stoConflictCount, Reg.stoPromoteCount]

/-- A shadow load is counted and no more (R154). -/
theorem exec_storeRequestPromotion_of_shadow {conflicts : Nat} (hc : conflicts ≤ wait) :
    exec (.storeRequestPromotion st wait ⟨conflicts, true⟩) s = ok (refused s st wait conflicts) := by
  rw [exec_storeRequestPromotion, execStoreRequestPromotion, Nat.min_eq_left hc]
  rfl

theorem exec_storeRequestPromotion_of_request {conflicts : Nat} (hc : conflicts ≤ wait) :
    exec (.storeRequestPromotion st wait ⟨conflicts, false⟩) s =
      ok ((promoted s st wait conflicts).maxWait (Reg.stoMaxWait st) 16 wait) := by
  rw [exec_storeRequestPromotion, execStoreRequestPromotion, Nat.min_eq_left hc]
  rfl

/-- A Piste transfer after its wait: promoted after 128 slots (R153). -/
def transferred : State := if 128 ≤ wait then s.bump Reg.pstPromoteCount 1 else s

theorem tallied_transferred : Tallied s (transferred s wait) := by
  unfold transferred
  split
  · exact .bump _ _ _
  · rfl

theorem counted_transferred :
    Counted (if 128 ≤ wait then [(Reg.pstPromoteCount, 1)] else []) [] s (transferred s wait) := by
  unfold transferred
  split
  · exact (Counted.refl _ s).bump_of_no_conv 1 convCore_pstPromoteCount List.not_mem_nil List.not_mem_nil
  · exact .refl _ s

theorem pstMaxWait_not_mem_counts :
    Reg.pstMaxWait ∉ (if 128 ≤ wait then [(Reg.pstPromoteCount, 1)] else []).map (·.1) := by
  split <;> simp [Reg.pstMaxWait, Reg.pstPromoteCount]

end Promotion

/-- Settles O24: a window of one engine by the cases of its spin; a promotion as counts that rise one after another. -/
theorem activityAndPromotions : Obligations.ActivityAndPromotions := by
  refine ⟨fun s k offered => ?_, fun s st wait conflicts shadow hc => ⟨?_, ?_⟩⟩
  · intro falls moved
    have window : ∀ a L work, moved a (a.window s.power L work) L work := by
      intro a L work
      let b := moveCeiling a L falls
      have count : (a.window s.power L work).count = b.nextCount L work := nextActivity_count b L work
      have ceiling : (a.window s.power L work).ceiling = if falls then a.ceiling - L else min 256 (a.ceiling + L) :=
        nextActivity_ceiling b L work
      have bound : (a.window s.power L work).count = min (min (max (max work a.spinLevel) (a.count - L)) (a.count + L))
          (min 256 (max (a.window s.power L work).ceiling (a.count - L))) := by
        rw [count, ceiling]
        rfl
      refine ⟨by omega, by omega, ceiling, fun _ => by omega, fun hf full small => ?_, fun unlimited => ?_,
        fun w held pos reached => ?_, fun w held below => ?_⟩
      · rw [hf, full] at ceiling
        simp only [Bool.false_eq_true, if_false] at ceiling
        exact ⟨by omega, fun _ _ _ => by omega⟩
      · have step : a.window s.power L work = _ := nextActivity_of_unlimited (a := b) L work unlimited
        rw [step]
        exact ⟨unlimited, rfl⟩
      · have step : a.window s.power L work = _ := nextActivity_of_reached (a := b) L work held pos (count ▸ reached)
        rw [step]
        split
        · rfl
        · exact ⟨rfl, rfl⟩
      · have step : a.window s.power L work = _ := nextActivity_of_below (a := b) L work held (count ▸ below)
        rw [step]
        exact ⟨rfl, held⟩
    refine ⟨fun low => ⟨s, if_pos low, rfl⟩, fun high => ⟨_, if_neg (by simp [high]), ?_⟩⟩
    beta_reduce
    rw [State.core_setCore_same]
    exact ⟨⟨rfl, fun _ hj => State.core_setCore_ne _ _ _ _ hj, fun _ _ => rfl⟩, rfl, window _ _ _, window _ _ _⟩
  · cases shadow
    · have apart := stoMaxWait_not_mem_counts st wait conflicts (32 ≤ wait)
      refine ⟨_, exec_storeRequestPromotion_of_request s st wait hc,
        (tallied_promoted s st wait conflicts).trans (.maxWait _ _ _ _), ?_, ?_⟩
      · exact (counted_promoted s st wait conflicts).toNat_reg_maxWait wait apart
      · simpa using (counted_promoted s st wait conflicts).maxWait wait apart
    · have apart := stoMaxWait_not_mem_counts st wait conflicts False
      have counted := counted_refused s st wait conflicts
      refine ⟨_, exec_storeRequestPromotion_of_shadow s st wait hc, tallied_refused s st wait conflicts, ?_, ?_⟩
      · rw [if_pos rfl, counted.regs _ (by simpa using apart)]
      · simpa using counted.mono (List.nil_subset [Reg.stoMaxWait st])
  · have apart := pstMaxWait_not_mem_counts wait
    exact ⟨_, rfl, (tallied_transferred s wait).trans (.maxWait _ _ _ _),
      (counted_transferred s wait).toNat_reg_maxWait (2 * wait) apart,
      (counted_transferred s wait).maxWait (2 * wait) apart⟩

end Sys2Proof

/-! PROOF. What the read-outs, spills and fills that take their turn by themselves may touch (R53). -/

namespace Sys2Proof.Machine

/-! ## Lists with one entry changed -/

section ModifyNth

variable {α : Type} (f : α → α)

theorem modifyNth_eq_modify (n : Nat) (l : List α) : modifyNth f n l = l.modify n f := by
  induction l generalizing n with
  | nil => cases n <;> simp [modifyNth]
  | cons a r ih => cases n <;> simp [modifyNth, ih]

theorem getElem?_modifyNth (n i : Nat) (l : List α) :
    (modifyNth f n l)[i]? = if n = i then l[i]?.map f else l[i]? := by
  rw [modifyNth_eq_modify, List.getElem?_modify]
  split <;> simp

/-- An entry changed within a relation changes the list within it. -/
theorem forall₂_modifyNth {R : α → α → Prop} (refl : ∀ x, R x x) {n : Nat} {l : List α}
    (h : ∀ x, l[n]? = some x → R x (f x)) : List.Forall₂ R l (modifyNth f n l) := by
  induction l generalizing n with
  | nil => cases n <;> exact .nil
  | cons a r ih =>
    cases n with
    | zero => exact .cons (h a rfl) (List.forall₂_same.2 (fun x _ => refl x))
    | succ n => exact .cons (refl a) (ih (fun x hx => h x hx))

end ModifyNth

/-! ## Commands that only a drain may mark -/

/-- A command as it was, but for its bookkeeping, and that it may have had its effect. -/
def Cmd.Kept (x y : Cmd) : Prop := y.desc = x.desc ∧ (y.phase = x.phase ∨ y.phase = .executed)

theorem Cmd.Kept.refl (x : Cmd) : x.Kept x := ⟨rfl, .inl rfl⟩

theorem Cmd.Kept.trans {x y z : Cmd} (h : x.Kept y) (g : y.Kept z) : x.Kept z := by
  obtain ⟨desc, phase⟩ := h
  obtain ⟨desc', phase'⟩ := g
  refine ⟨desc'.trans desc, ?_⟩
  rcases phase' with same | done
  · rw [same]
    exact phase
  · exact .inr done

/-- The commands of a queue, each kept. -/
abbrev KeptAll (l m : List Cmd) : Prop := List.Forall₂ Cmd.Kept l m

theorem KeptAll.refl (l : List Cmd) : KeptAll l l := List.forall₂_same.2 (fun x _ => .refl x)

theorem KeptAll.trans {l m n : List Cmd} (h : KeptAll l m) (g : KeptAll m n) : KeptAll l n := by
  induction h generalizing n with
  | nil => exact g
  | cons hx _ ih =>
    cases g with
    | cons gx g => exact .cons (hx.trans gx) (ih g)

/-- Where each command is kept, the one at a place is. -/
theorem KeptAll.getElem? {l m : List Cmd} (h : KeptAll l m) {n : Nat} {x : Cmd} (hx : l[n]? = some x) :
    ∃ y, m[n]? = some y ∧ x.Kept y := by
  induction h generalizing n with
  | nil => simp at hx
  | cons hr _ ih =>
    cases n with
    | zero =>
      obtain rfl := Option.some.inj hx
      exact ⟨_, rfl, hr⟩
    | succ n => exact ih hx

theorem KeptAll.mem {l m : List Cmd} (h : KeptAll l m) {y : Cmd} (hy : y ∈ m) : ∃ x ∈ l, x.Kept y := by
  induction h with
  | nil => simp at hy
  | cons hr _ ih =>
    rcases List.mem_cons.1 hy with rfl | hy
    · exact ⟨_, List.mem_cons_self, hr⟩
    · obtain ⟨x, hx, hxy⟩ := ih hy
      exact ⟨x, List.mem_cons_of_mem _ hx, hxy⟩

/-- No begun read-out, spill or fill waits in the matrix queue. -/
def Core.Quiet (c : Core) : Prop := ∀ x ∈ c.queue 0, isAccAccess x.desc = true → x.phase ≠ .begun

theorem Core.Quiet.of_kept {c d : Core} (h : c.Quiet) (hk : KeptAll (c.queue 0) (d.queue 0)) : d.Quiet := by
  intro y hy acc begun
  obtain ⟨x, hx, desc, phase⟩ := hk.mem hy
  rcases phase with same | done
  · exact h x hx (desc ▸ acc) (same ▸ begun)
  · rw [done] at begun
    cases begun

/-! ## The command whose turn it is -/

/-- The command that is ready stands at its place of the queue, has begun and is accepted. -/
theorem firstReady_spec {s : State} {k : CoreId} {p : Desc → Bool} {n : Nat} {cmd : Cmd} (h : firstReady s k p = some (n, cmd)) :
    ((s.core k).queue 0)[n]? = some cmd ∧ p cmd.desc = true ∧ cmd.phase = .begun := by
  obtain ⟨⟨x, m⟩, hx, e⟩ := Option.map_eq_some_iff.1 h
  obtain ⟨rfl, rfl⟩ : m = n ∧ x = cmd := by simpa using e
  have accepted := List.find?_some hx
  simp only [mxReady, Bool.and_eq_true, beq_iff_eq] at accepted
  exact ⟨List.mem_zipIdx_iff_getElem?.1 (List.mem_of_find?_eq_some hx), accepted.1, accepted.2.1.1.1⟩

theorem firstReady_of_quiet {s : State} {k : CoreId} (h : (s.core k).Quiet) : firstReady s k isAccAccess = none := by
  rcases e : firstReady s k isAccAccess with _ | ⟨n, cmd⟩
  · rfl
  · obtain ⟨at_n, acc, begun⟩ := firstReady_spec e
    exact absurd begun (h cmd (List.mem_of_getElem? at_n) acc)

/-- Where nothing waits, nothing is drained. -/
theorem State.drain_of_quiet {s : State} {k : CoreId} (h : (s.core k).Quiet) (t : Tile) : s.drain k t = s := by
  unfold State.drain
  generalize ((s.core k).queue 0).length = fuel
  cases fuel with
  | zero => rfl
  | succ fuel => rw [drainAcc, firstReady_of_quiet h]

end Sys2Proof.Machine

namespace Sys2Proof

open Machine

/-- The registers that a read-out, spill or fill may move. -/
def accRegs (k : CoreId) : List Nat := Reg.mxeWrapCount k :: Reg.mxeAccStatus k :: convRegs k

theorem Acted.mono {k : CoreId} {offs more : List Nat} {s u : State} (h : Acted k offs s u) (hs : offs ⊆ more) :
    Acted k more s u := ⟨h.rest, h.cores, fun o ho => h.regs o (fun x => ho (hs x))⟩

theorem Acted.mem {k : CoreId} {offs : List Nat} {s u : State} (h : Acted k offs s u) : u.mem = s.mem := by rw [h.rest]
theorem Acted.models {k : CoreId} {offs : List Nat} {s u : State} (h : Acted k offs s u) : u.models = s.models := by
  rw [h.rest]

theorem Acted.runAccAccess (s : State) (k : CoreId) (t : Tile) (cmd : Cmd) :
    Acted k (accRegs k) s (runAccAccess s k t cmd) := by
  unfold Machine.runAccAccess
  dsimp only
  split
  · exact .runMread s k t cmd
  · split
    · exact (Acted.runMspill s k t cmd).mono (List.nil_subset _)
    · exact .setCore k _ s _

/-- A read-out, spill or fill changes the tile's totals and the accumulators alone of its core. -/
theorem runAccAccess_core (s : State) (k : CoreId) (t : Tile) (cmd : Cmd) : (runAccAccess s k t cmd).core k =
    { s.core k with tile := ((runAccAccess s k t cmd).core k).tile, acc := ((runAccAccess s k t cmd).core k).acc } := by
  unfold Machine.runAccAccess
  dsimp only
  split
  · rw [runMread_core]
  · split
    · rw [runMspill_core]
    · rw [runMfill_core]

/-- Every command of the matrix queue that is no read-out, spill or fill stands where it stood, as it was. -/
def OthersStay (c e : Core) : Prop :=
  ∀ (n : Nat) (x : Cmd), (c.queue 0)[n]? = some x → isAccAccess x.desc = false → (e.queue 0)[n]? = some x

theorem OthersStay.trans {c e f : Core} (h : OthersStay c e) (g : OthersStay e f) : OthersStay c f :=
  fun n x hx acc => g n x (h n x hx acc) acc

/-- Read-outs, spills and fills have had their effect: of their core they change the tile's totals, the accumulators and their own
marks. -/
structure Drained (k : CoreId) (s u : State) : Prop where
  acted : Acted k (accRegs k) s u
  core : u.core k = { s.core k with tile := (u.core k).tile, queues := (u.core k).queues, acc := (u.core k).acc }
  queue : KeptAll ((s.core k).queue 0) ((u.core k).queue 0)
  others : OthersStay (s.core k) (u.core k)

theorem Drained.refl (k : CoreId) (s : State) : Drained k s s := ⟨.refl k _ s, rfl, .refl _, fun _ _ h _ => h⟩

theorem Drained.trans {k : CoreId} {s t u : State} (h : Drained k s t) (g : Drained k t u) : Drained k s u where
  acted := h.acted.trans g.acted
  core := g.core.trans (by rw [h.core])
  queue := h.queue.trans g.queue
  others := h.others.trans g.others

theorem Drained.chain {k : CoreId} {s u : State} (h : Drained k s u) : (u.core k).chain = (s.core k).chain := by rw [h.core]
theorem Drained.port {k : CoreId} {s u : State} (h : Drained k s u) : (u.core k).port = (s.core k).port := by rw [h.core]

/-- The command whose turn it is has its effect. -/
theorem Drained.accAccess {s : State} {k : CoreId} {n : Nat} {cmd : Cmd} (h : firstReady s k isAccAccess = some (n, cmd))
    (t : Tile) : Drained k s ((runAccAccess s k t cmd).markExecuted k 0 n) := by
  obtain ⟨at_n, acc, -⟩ := firstReady_spec h
  have core := runAccAccess_core s k t cmd
  have queue : (((runAccAccess s k t cmd).markExecuted k 0 n).core k).queue 0 =
      modifyNth (fun c => { c with phase := .executed }) n ((s.core k).queue 0) := by
    rw [State.core_markExecuted, Core.queue_setQueue, if_pos rfl, core]
    rfl
  refine ⟨(Acted.runAccAccess s k t cmd).trans (.markExecuted k _ _ 0 n), ?_, ?_, fun m x hx hacc => ?_⟩
  · rw [State.core_markExecuted, core]
    rfl
  · rw [queue]
    refine forall₂_modifyNth _ .refl (fun x hx => ?_)
    rw [at_n] at hx
    cases hx
    exact ⟨rfl, .inr rfl⟩
  · rw [queue, getElem?_modifyNth, if_neg ?_, hx]
    rintro rfl
    rw [at_n] at hx
    cases hx
    simp [hacc] at acc

theorem Drained.drainAcc (k : CoreId) (t : Tile) (fuel : Nat) (s : State) : Drained k s (drainAcc k t fuel s) := by
  induction fuel generalizing s with
  | zero => exact .refl k s
  | succ fuel ih =>
    unfold Machine.drainAcc
    split
    · next n cmd h => exact (Drained.accAccess h t).trans (ih _)
    · exact .refl k s

theorem Drained.drain (s : State) (k : CoreId) (t : Tile) : Drained k s (s.drain k t) := .drainAcc k t _ s

end Sys2Proof

/-! PROOF. A slice that enters the array, and the vector that lands with it (R50, R52, R54, R56, R60). -/

namespace Sys2Proof.Machine

/-! ## Contributions by type (R54, R56, R60) -/

theorem contribute_int (low : BitVec 40) (w : BitVec 4) (clear : Bool) (p : Int) (f : W32) (finite : Bool) :
    (contribute (.int low w) clear true p f finite).1 =
      if clear then .int (accAdd 0 0 p).1 (accAdd 0 0 p).2 else .int (accAdd low w p).1 (accAdd low w p).2 := by
  cases clear <;> rfl

theorem contribute_int_fp (b : W32) (clear : Bool) (p : Int) (f : W32) (finite : Bool) :
    (contribute (.fp b) clear true p f finite).1 = .int (accAdd 0 0 p).1 (accAdd 0 0 p).2 := rfl

theorem contribute_fp (b : W32) (clear : Bool) (p : Int) (f : W32) (finite : Bool) :
    (contribute (.fp b) clear false p f finite).1 = .fp (round32 ((val32 (if clear then 0 else b)).add (val32 f))) := by
  cases clear <;> rfl

theorem contribute_fp_int (low : BitVec 40) (w : BitVec 4) (clear : Bool) (p : Int) (f : W32) (finite : Bool) :
    (contribute (.int low w) clear false p f finite).1 = .fp (round32 ((val32 (0 : W32)).add (val32 f))) := by
  cases clear <;> rfl

/-- An accumulator is of the other type than a contribution. -/
def Acc.Mismatch (a : Acc) (isInt : Bool) : Prop :=
  match a with
  | .int _ _ => isInt = false
  | .fp _ => isInt = true

theorem testBit_three_flags (m x y : Bool) :
    ((if m then 8 else 0) + (if x then 2 else 0) + if y then 4 else 0 : Nat).testBit 3 = m := by
  revert m x y; decide

/-- TYPE is set by a contribution to an accumulator of the other type, without the clear flag (R60). -/
theorem contribute_type (a : Acc) (clear isInt : Bool) (p : Int) (f : W32) (finite : Bool) :
    (contribute a clear isInt p f finite).2.testBit 3 = true ↔ clear = false ∧ a.Mismatch isInt := by
  cases isInt
  · cases a with
    | int low w =>
      have bit : (contribute (.int low w) clear false p f finite).2.testBit 3 = !clear := testBit_three_flags (!clear) _ _
      simp [bit, Acc.Mismatch]
    | fp b =>
      have bit : (contribute (.fp b) clear false p f finite).2.testBit 3 = false := testBit_three_flags false _ _
      simp [bit, Acc.Mismatch]
  · cases a <;> cases clear <;> simp [contribute, Acc.Mismatch]
    decide

/-! ## What a vector contributes -/

section Columns

variable (o : OwedVector) (vec : List Nat) (c : Core)

/-- The elements of column j of a vector's set (R47). -/
def OwedVector.column (j : Nat) : List Nat :=
  let depth := mxDepth (Desc.shape o.desc) (Desc.cls o.desc)
  (o.set.elems.drop (j * depth)).take depth

/-- The scales of column j of a vector's set (R47). -/
def OwedVector.columnScales (j : Nat) : List Nat :=
  let groups := mxDepth (Desc.shape o.desc) (Desc.cls o.desc) / groupSize (field o.desc 75 74)
  (o.set.scales.drop (j * groups)).take groups

/-- The columns of a vector's entry. -/
abbrev OwedVector.cols : Nat := mxCols (Desc.shape o.desc) (Desc.cls o.desc)

/-- What a vector does to the accumulator of column j of its entry: the new value, and the flags it sets (R52, R54, R56). -/
def columnResult (j : Nat) : Acc × Nat :=
  let isInt := intPair o.desc o.set
  let terms := if isInt then [] else groupTerms o.desc o.set (o.column j) vec (o.columnScales j) o.scales
  contribute (c.accAt (o.entry * o.cols + j)) o.clear isInt (if isInt then passInt o.desc o.set (o.column j) vec else 0)
    (passFloat terms) (!terms.any (fun x => x.isNan || x.isInf))

/-- A plain integer pair contributes its pass sum (R54). -/
theorem columnResult_of_int (h : intPair o.desc o.set = true) (j : Nat) : ∃ f finite, columnResult o vec c j =
    contribute (c.accAt (o.entry * o.cols + j)) o.clear true (passInt o.desc o.set (o.column j) vec) f finite := by
  simp only [columnResult, h, if_true]
  exact ⟨_, _, rfl⟩

/-- Another pair contributes its group terms, added with one rounding each (R56). -/
theorem columnResult_of_fp (h : intPair o.desc o.set = false) (j : Nat) : ∃ p finite, columnResult o vec c j =
    contribute (c.accAt (o.entry * o.cols + j)) o.clear false p
      (passFloat (groupTerms o.desc o.set (o.column j) vec (o.columnScales j) o.scales)) finite := by
  simp only [columnResult, h, Bool.false_eq_true, if_false]
  exact ⟨_, _, rfl⟩

/-- TYPE is set in a column whose accumulator is of the other type (R60). -/
theorem columnResult_type (j : Nat) : (columnResult o vec c j).2.testBit 3 = true ↔
    o.clear = false ∧ (c.accAt (o.entry * o.cols + j)).Mismatch (intPair o.desc o.set) := contribute_type _ _ _ _ _ _

theorem applyVector_eq : applyVector o vec c =
    ({ c with acc := writeRun (.int 0 0) c.acc (o.entry * o.cols) (((List.range o.cols).map (columnResult o vec c)).map (·.1)) },
      ((List.range o.cols).map (columnResult o vec c)).foldl (fun m r => m ||| r.2) 0) := rfl

theorem applyVector_core : (applyVector o vec c).1 = { c with acc := (applyVector o vec c).1.acc } := rfl

/-- An accumulator after a vector has landed: the columns of its entry take their results, the others stay. -/
theorem applyVector_accAt (x : Nat) : (applyVector o vec c).1.accAt x =
    if o.entry * o.cols ≤ x ∧ x < o.entry * o.cols + o.cols then (columnResult o vec c (x - o.entry * o.cols)).1
    else c.accAt x := by
  rw [applyVector_eq, Core.accAt, lookupD_writeRun]
  simp only [List.length_map, List.length_range]
  split
  · next h =>
    have inside : x - o.entry * o.cols < o.cols := by omega
    simp [List.getD, inside]
  · rfl

theorem applyVector_accAt_column {j : Nat} (hj : j < o.cols) :
    (applyVector o vec c).1.accAt (o.entry * o.cols + j) = (columnResult o vec c j).1 := by
  rw [applyVector_accAt, if_pos (by omega), Nat.add_sub_cancel_left]

/-- Only the accumulators of a core count for what a vector does. -/
theorem applyVector_congr {c e : Core} (h : e.acc = c.acc) :
    (applyVector o vec e).1.acc = (applyVector o vec c).1.acc ∧ (applyVector o vec e).2 = (applyVector o vec c).2 := by
  have column : columnResult o vec e = columnResult o vec c := by
    funext j
    simp only [columnResult, Core.accAt, h]
  simp only [applyVector_eq, column, h, and_self]

end Columns

/-- A flag of several contributions is one of some of them. -/
theorem testBit_foldl_or {α : Type} (f : α → Nat) (i : Nat) (l : List α) (m : Nat) :
    (l.foldl (fun m r => m ||| f r) m).testBit i = true ↔ m.testBit i = true ∨ ∃ r ∈ l, (f r).testBit i = true := by
  induction l generalizing m with
  | nil => simp
  | cons a r ih => simp [ih, or_assoc]

/-! ## One slice (R50) -/

/-- Vectors land in the accumulators alone. -/
theorem landAll_core (l : List (OwedVector × List Nat)) (c : Core) :
    (landAll l c).1 = { c with acc := (landAll l c).1.acc } := by
  induction l using List.reverseRecOn with
  | nil => rfl
  | append_singleton l p ih =>
    rw [landAll] at ih ⊢
    rw [List.foldl_append, List.foldl_cons, List.foldl_nil, applyVector_core, ih]

theorem landAll_append_one (l : List (OwedVector × List Nat)) (o : OwedVector) (vec : List Nat) (c : Core) :
    landAll (l ++ [(o, vec)]) c =
      ((applyVector o vec (landAll l c).1).1, (landAll l c).2 ||| (applyVector o vec (landAll l c).1).2) := by
  rw [landAll, List.foldl_append]
  rfl

theorem landAll_singleton (o : OwedVector) (vec : List Nat) (c : Core) : landAll [(o, vec)] c = applyVector o vec c :=
  Prod.ext rfl (Nat.zero_or _)

theorem zipIdx_map_getD (sls : List (List Nat)) :
    sls.zipIdx.map (fun p => p.1.getD p.2 0) = (List.range sls.length).map (fun i => (sls.getD i []).getD i 0) := by
  apply List.ext_getElem
  · simp
  · intro i h1 h2
    simp at h1
    simp [h1]

theorem State.stick_zero (s : State) (o : Nat) : s.stick o 0 = s := if_pos rfl

/-- The open chain with the slices and the vectors owed of a `Sliding`. -/
def Chain.slid (h : Chain) (a : Sliding) : Chain := { h with slices := a.slices, owed := a.owed }

/-- What the chain holds and owes, before anything has landed. -/
def Chain.sliding (h : Chain) : Sliding := ⟨h.slices, h.owed, []⟩

/-- Core k with its chain after slices have entered, its accumulators with what has landed, and the flags set. -/
def State.entered (s : State) (k : CoreId) (h : Chain) (a : Sliding) : State :=
  (s.setCore k { (landAll a.landed (s.core k)).1 with chain := some (h.slid a) }).stick (Reg.mxeAccStatus k)
    (landAll a.landed (s.core k)).2

theorem State.core_entered (s : State) (k : CoreId) (h : Chain) (a : Sliding) : (s.entered k h a).core k =
    { s.core k with chain := some (h.slid a), acc := (landAll a.landed (s.core k)).1.acc } := by
  rw [State.entered, State.core_stick, State.core_setCore_same, landAll_core]

theorem State.reg_entered (s : State) (k : CoreId) (h : Chain) (a : Sliding) : (s.entered k h a).reg (Reg.mxeAccStatus k) =
    s.reg (Reg.mxeAccStatus k) ||| BitVec.ofNat 64 (landAll a.landed (s.core k)).2 := by
  rw [State.entered, State.reg_stick_same, State.reg_setCore]

/-- Slices with which no vector lands change the chain alone. -/
theorem State.entered_of_none (s : State) (k : CoreId) (h : Chain) (l : List (List Nat)) (ow : List OwedVector) :
    s.entered k h ⟨l, ow, []⟩ = s.setCore k { s.core k with chain := some { h with slices := l, owed := ow } } :=
  State.stick_zero _ _

theorem State.entered_of_one (s : State) (k : CoreId) (h : Chain) (l : List (List Nat)) (ow : List OwedVector) (o : OwedVector)
    (vec : List Nat) :
    let r := applyVector o vec { s.core k with chain := some { h with slices := l, owed := ow } }
    s.entered k h ⟨l, ow, [(o, vec)]⟩ = (s.setCore k r.1).stick (Reg.mxeAccStatus k) r.2 := by
  rw [State.entered, landAll_singleton]
  rfl

/-- A slice enters, and where a vector lands with it, what waited for the vector takes its turn. -/
theorem feedSlice_cases {s : State} {k : CoreId} {h : Chain} (hc : (s.core k).chain = some h) (t : Tile) (sl : List Nat) :
    let a := slide (mxDepth h.shape h.cls) h.sliding (sl, none)
    feedSlice k t sl s = s.entered k h a ∨ feedSlice k t sl s = (s.entered k h a).drain k t := by
  unfold feedSlice slide Chain.sliding
  simp only [hc, Option.toList_none, List.append_nil]
  split
  · exact .inl (State.entered_of_none ..).symm
  · rcases owed : h.owed with _ | ⟨o, rest⟩
    · left
      dsimp only
      rw [State.entered_of_none]
    · right
      dsimp only
      rw [zipIdx_map_getD, List.nil_append, State.entered_of_one]

/-- Where nothing waits for vectors, a slice enters and no more happens. -/
theorem feedSlice_of_quiet {s : State} {k : CoreId} {h : Chain} (hc : (s.core k).chain = some h) (hq : (s.core k).Quiet)
    (t : Tile) (sl : List Nat) :
    feedSlice k t sl s = s.entered k h (slide (mxDepth h.shape h.cls) h.sliding (sl, none)) := by
  rcases feedSlice_cases hc t sl with e | e
  · exact e
  · rw [e, State.drain_of_quiet]
    rw [State.core_entered]
    exact hq

end Sys2Proof.Machine

namespace Sys2Proof

open Machine

theorem OnlyCore.setCore (k : CoreId) (offs : List Nat) (s : State) (c : Core) : OnlyCore k offs s (s.setCore k c) :=
  ⟨rfl, fun _ hj => State.core_setCore_ne _ _ _ _ hj, fun _ _ => rfl⟩

theorem OnlyCore.trans {k : CoreId} {offs : List Nat} {s t u : State} (h : OnlyCore k offs s t) (g : OnlyCore k offs t u) :
    OnlyCore k offs s u where
  rest := g.rest.trans (by rw [h.rest])
  cores j hj := (g.cores j hj).trans (h.cores j hj)
  regs o ho := (g.regs o ho).trans (h.regs o ho)

theorem OnlyCore.stick (k : CoreId) (s : State) (o m : Nat) : OnlyCore k [o] s (s.stick o m) where
  rest := by rw [State.stick_frame]
  cores _ _ := State.core_stick _ _ _ _
  regs _ hp := State.reg_stick_ne _ _ _ _ (by simpa using hp)

theorem OnlyCore.entered (s : State) (k : CoreId) (h : Chain) (a : Sliding) :
    OnlyCore k [Reg.mxeAccStatus k] s (s.entered k h a) := (OnlyCore.setCore k _ s _).trans (.stick k _ _ _)

/-- Settles O22: the slice by what entering it does, with one vector landing; the vector column by column, by the type of its pair
and of the accumulator. -/
theorem vectorLandsInItsEntry : Obligations.VectorLandsInItsEntry := by
  refine ⟨fun s k t sl h o rest => ?_, fun o vec c => ?_⟩
  · intro c sls hc owed full quiet vec r
    have one : slide (mxDepth h.shape h.cls) h.sliding (sl, none) = ⟨sls.drop 1, rest, [(o, vec)]⟩ := by
      simp only [slide, Chain.sliding, owed, Option.toList_none, List.append_nil, List.nil_append]
      exact if_neg (Nat.not_lt.2 full.ge)
    have fed : feedSlice k t sl s = (s.setCore k r.1).stick (Reg.mxeAccStatus k) r.2 := by
      rw [feedSlice_of_quiet hc quiet, one, State.entered_of_one]
    rw [fed]
    exact ⟨by rw [State.core_stick, State.core_setCore_same], (OnlyCore.setCore k _ s _).trans (.stick k _ _ _),
      by rw [State.reg_stick_same, State.reg_setCore]⟩
  · intro d cols depth u column
    have at_column : ∀ j, j < cols → u.accAt (o.entry * cols + j) = (columnResult o vec c j).1 := fun j hj =>
      applyVector_accAt_column o vec c hj
    refine ⟨rfl, fun x hx => ?_, fun isInt j hj => ?_, fun isFp j hj => ?_, fun isInt j hj b hb => ?_,
      fun isFp j hj low w hw => ?_, ?_⟩
    · rw [applyVector_accAt, if_neg]
      rintro ⟨h1, h2⟩
      exact hx.elim (fun h => absurd h1 (Nat.not_le.2 h)) (fun h => absurd h2 (Nat.not_lt.2 h))
    · obtain ⟨f, finite, result⟩ := columnResult_of_int o vec c isInt j
      intro p low w hacc
      rw [at_column j hj, result]
      rcases hacc with hacc | ⟨clear, rfl, rfl⟩
      · rw [hacc, contribute_int]
        rfl
      · rw [clear]
        cases c.accAt (o.entry * o.cols + j) <;> rfl
    · obtain ⟨q, finite, result⟩ := columnResult_of_fp o vec c isFp j
      intro groups p b hacc
      rw [at_column j hj, result]
      rcases hacc with hacc | ⟨clear, rfl⟩
      · rw [hacc, contribute_fp]
        rfl
      · rw [clear]
        cases c.accAt (o.entry * o.cols + j) <;> rfl
    · obtain ⟨f, finite, result⟩ := columnResult_of_int o vec c isInt j
      intro p
      rw [at_column j hj, result, hb, contribute_int_fp]
      rfl
    · obtain ⟨q, finite, result⟩ := columnResult_of_fp o vec c isFp j
      intro groups p
      rw [at_column j hj, result, hw, contribute_fp_int]
      rfl
    · rw [applyVector_eq, testBit_foldl_or]
      simp only [Nat.zero_testBit, Bool.false_eq_true, false_or, List.mem_map, List.mem_range, exists_exists_and_eq_and,
        columnResult_type]
      exact ⟨fun ⟨j, hj, clear, other⟩ => ⟨clear, j, hj, other⟩, fun ⟨clear, j, hj, other⟩ => ⟨j, hj, clear, other⟩⟩

end Sys2Proof

/-! PROOF. What ends a chain, and the turn of a matrix command (R50, R53, R138, R164). -/

namespace Sys2Proof.Machine

theorem exec_mstream (k : CoreId) (s : State) : exec (.mstream k) s = ok (s.engineEvent k (matrixStep k 1)) := rfl
theorem exec_mload (k : CoreId) (s : State) : exec (.mload k) s = ok (s.engineEvent k (matrixStep k 2)) := rfl
theorem exec_mswap (k : CoreId) (s : State) : exec (.mswap k) s = ok (matrixStep k 3 s) := rfl
theorem exec_mtwid (k : CoreId) (s : State) : exec (.mtwid k) s = ok (s.engineEvent k (matrixStep k 4)) := rfl
theorem exec_mspin (k : CoreId) (s : State) : exec (.mspin k) s = ok (matrixStep k 8 s) := rfl
theorem exec_mparam (k : CoreId) (s : State) : exec (.mparam k) s = ok (matrixStep k 9 s) := rfl

/-- An engine's event on a core that has not halted is its effect. -/
theorem State.engineEvent_of_live {s : State} {k : CoreId} (h : (s.core k).phase ≠ .halted) (f : State → State) :
    s.engineEvent k f = f s := if_neg h

/-! ## The end of a chain (R50, R164) -/

/-- Slices enter one after another. -/
def feedAll (k : CoreId) (t : Tile) (sls : List (List Nat)) (s : State) : State := sls.foldl (fun s sl => feedSlice k t sl s) s

/-- The chain of core k is closed. -/
def State.closeChain (s : State) (k : CoreId) : State := s.setCore k { s.core k with chain := none }

/-- Core k with another direct port. -/
def State.setPort (s : State) (k : CoreId) (p : List PortEntry) : State := s.setCore k { s.core k with port := p }

/-- A tail whose slices are all there enters, and the chain is closed. -/
theorem tailEnters_of_le {left : Nat} {sls : List (List Nat)} (h : left ≤ sls.length) (k : CoreId) (t : Tile) (s : State) :
    tailEnters k t left sls s = .done ((feedAll k t sls s).closeChain k) := if_pos h

theorem tailEnters_done {k : CoreId} {t : Tile} {left : Nat} {sls : List (List Nat)} {s u : State}
    (h : tailEnters k t left sls s = .done u) : u = (feedAll k t sls s).closeChain k := by
  unfold tailEnters at h
  dsimp only at h
  split at h
  · exact (ChainEnd.done.inj h).symm
  · split at h <;> cases h

/-- Where no chain is open, none is to end. -/
theorem endChain_of_none {s : State} {k : CoreId} (h : (s.core k).chain = none) (t : Tile) (before : List Cmd) :
    endChain s k t before = .done s := by
  unfold endChain
  simp only [h]

/-- The rows of a chain's tail that is read from the local store, or the lowest of them that has no translation (R50). -/
def badTailRow (s : State) (k : CoreId) (t : Tile) (h : Chain) : Option Nat :=
  let d : Desc := h.last.desc
  let b := streamBits d.cls d.streamFmt
  let m := field d 14 0
  let first := m * mxDepth h.shape h.cls / perRow b
  badRow s t.ctx k.val [(field d 55 41 + first, cdiv ((m + (mxDepth h.shape h.cls - 1)) * mxDepth h.shape h.cls) (perRow b) - first)]

/-- A load that takes rows of the direct port is still to have its effect (R164). -/
def loadsFromPort (x : Cmd) : Bool := x.open && Desc.cmd x.desc == 2 && usesPort x.desc

/-- A tail in the direct port ends its chain where all its slices are there, behind no load's rows (R164). -/
theorem endChain_of_port {s : State} {k : CoreId} {h : Chain} {sls : List (List Nat)} {before : List Cmd}
    (hc : (s.core k).chain = some h) (hp : bit h.last.desc 78 = true) (hl : before.any loadsFromPort = false)
    (hs : portSlices (s.core k).port (mxDepth h.shape h.cls - 1 - h.tailIn) true = .ok sls)
    (hn : sls.length = mxDepth h.shape h.cls - 1 - h.tailIn) (t : Tile) : endChain s k t before =
      .done ((feedAll k t sls (s.setPort k ((s.core k).port.drop sls.length))).closeChain k) := by
  unfold loadsFromPort at hl
  unfold endChain
  dsimp only
  split
  · next e => rw [hc] at e; cases e
  · next x e =>
    obtain rfl : h = x := Option.some.inj (hc.symm.trans e)
    rw [if_pos hp, hl, hs]
    exact tailEnters_of_le hn.ge k t _

/-- A tail in the local store ends its chain where its rows translate (R50). -/
theorem endChain_of_rows {s : State} {k : CoreId} {h : Chain} (hc : (s.core k).chain = some h)
    (hp : bit h.last.desc 78 = false) {t : Tile} (hb : badTailRow s k t h = none)
    (hn : mxDepth h.shape h.cls - 1 ≤
      (localSlices s k h.last.desc (field h.last.desc 14 0) (mxDepth h.shape h.cls - 1)).length) (before : List Cmd) :
    endChain s k t before = .done ((feedAll k t
      (localSlices s k h.last.desc (field h.last.desc 14 0) (mxDepth h.shape h.cls - 1)) s).closeChain k) := by
  unfold badTailRow at hb
  unfold endChain
  dsimp only at hb ⊢
  split
  · next e => rw [hc] at e; cases e
  · next x e =>
    obtain rfl : h = x := Option.some.inj (hc.symm.trans e)
    rw [if_neg (by simp [hp]), hb]
    exact tailEnters_of_le hn k t _

end Sys2Proof.Machine

namespace Sys2Proof

open Machine

/-! ## What chains and drains may touch -/

/-- Slices may have entered and commands of the matrix queue have had their effect: of core k the tile's totals, the queues' marks,
the accumulators, the chain and the direct port may differ. -/
structure Touched (k : CoreId) (s u : State) : Prop where
  acted : Acted k (accRegs k) s u
  core : u.core k = { s.core k with
    tile := (u.core k).tile, queues := (u.core k).queues, acc := (u.core k).acc, chain := (u.core k).chain,
    port := (u.core k).port }
  queue : KeptAll ((s.core k).queue 0) ((u.core k).queue 0)

theorem Touched.refl (k : CoreId) (s : State) : Touched k s s := ⟨.refl k _ s, rfl, .refl _⟩

theorem Touched.trans {k : CoreId} {s t u : State} (h : Touched k s t) (g : Touched k t u) : Touched k s u where
  acted := h.acted.trans g.acted
  core := g.core.trans (by rw [h.core])
  queue := h.queue.trans g.queue

/-- Slices may have entered and chains ended: of the matrix queue only read-outs, spills and fills may have been marked. -/
structure Carried (k : CoreId) (s u : State) : Prop extends Touched k s u where
  others : OthersStay (s.core k) (u.core k)

theorem Carried.refl (k : CoreId) (s : State) : Carried k s s := ⟨.refl k s, fun _ _ h _ => h⟩

theorem Carried.trans {k : CoreId} {s t u : State} (h : Carried k s t) (g : Carried k t u) : Carried k s u :=
  ⟨h.toTouched.trans g.toTouched, h.others.trans g.others⟩

theorem Drained.carried {k : CoreId} {s u : State} (h : Drained k s u) : Carried k s u where
  acted := h.acted
  core := h.core.trans (by rw [h.core])
  queue := h.queue
  others := h.others

theorem Carried.setCore (k : CoreId) (s : State) (acc : List (Nat × Acc)) (chain : Option Chain) (port : List PortEntry) :
    Carried k s (s.setCore k { s.core k with acc := acc, chain := chain, port := port }) where
  acted := .setCore k _ s _
  core := by rw [State.core_setCore_same]
  queue := by rw [State.core_setCore_same]; exact .refl _
  others := by rw [State.core_setCore_same]; exact fun _ _ h _ => h

theorem Carried.stick (k : CoreId) (s : State) (m : Nat) : Carried k s (s.stick (Reg.mxeAccStatus k) m) where
  acted := .stick k _ _ (by simp [accRegs])
  core := by rw [State.core_stick]
  queue := by rw [State.core_stick]; exact .refl _
  others := by rw [State.core_stick]; exact fun _ _ h _ => h

theorem Carried.entered (k : CoreId) (s : State) (h : Chain) (a : Sliding) : Carried k s (s.entered k h a) := by
  unfold State.entered
  rw [landAll_core]
  exact (Carried.setCore k s _ _ _).trans (.stick k _ _)

theorem Carried.feedSlice (k : CoreId) (t : Tile) (sl : List Nat) (s : State) : Carried k s (feedSlice k t sl s) := by
  rcases hc : (s.core k).chain with _ | h
  · have same : Machine.feedSlice k t sl s = s := by simp only [Machine.feedSlice, hc]
    rw [same]
    exact .refl k s
  · rcases feedSlice_cases hc t sl with e | e <;> rw [e]
    · exact .entered k s h _
    · exact (Carried.entered k s h _).trans (Drained.drain _ k t).carried

theorem Carried.feedAll (k : CoreId) (t : Tile) (sls : List (List Nat)) (s : State) : Carried k s (feedAll k t sls s) := by
  induction sls generalizing s with
  | nil => exact .refl k s
  | cons sl r ih => exact (Carried.feedSlice k t sl s).trans (ih _)

theorem Carried.closed (k : CoreId) (t : Tile) (sls : List (List Nat)) (s : State) :
    Carried k s ((Machine.feedAll k t sls s).closeChain k) := (Carried.feedAll k t sls s).trans (.setCore k _ _ _ _)

/-- A chain that has ended is closed, and its tail may have touched what slices may. -/
theorem Carried.endChain {s u : State} {k : CoreId} {t : Tile} {before : List Cmd} (h : endChain s k t before = .done u) :
    Carried k s u ∧ (u.core k).chain = none := by
  have closed : ∀ v : State, ((v.closeChain k).core k).chain = none := fun v => by
    rw [State.closeChain, State.core_setCore_same]
  rcases hc : (s.core k).chain with _ | x
  · rw [endChain_of_none hc] at h
    cases h
    exact ⟨.refl k s, hc⟩
  · unfold Machine.endChain at h
    simp only [hc] at h
    split at h
    · split at h
      · cases h
      · split at h
        · cases h
        · rw [tailEnters_done h]
          exact ⟨(Carried.setCore k s _ _ _).trans (.closed k t _ _), closed _⟩
    · split at h
      · cases h
      · rw [tailEnters_done h]
        exact ⟨.closed k t _ _, closed _⟩

/-! ## Turns -/

/-- The command of a matrix event stands at its place of the queue, and has begun. -/
theorem MatrixTurn.at_place {s : State} {k : CoreId} {t : Tile} {code n : Nat} {cmd : Cmd} (h : MatrixTurn s k t code n cmd) :
    ((s.core k).queue 0)[n]? = some cmd := (firstReady_spec h.next).1

theorem MatrixTurn.begun {s : State} {k : CoreId} {t : Tile} {code n : Nat} {cmd : Cmd} (h : MatrixTurn s k t code n cmd) :
    cmd.phase = .begun := (firstReady_spec h.next).2.2

theorem MatrixTurn.code {s : State} {k : CoreId} {t : Tile} {code n : Nat} {cmd : Cmd} (h : MatrixTurn s k t code n cmd) :
    Desc.cmd cmd.desc = code := cmd_of_nextMatrix h.next

/-- A matrix command before which no chain is to end acts in its turn, where what it needs is there. -/
theorem MatrixTurn.gives {s u : State} {k : CoreId} {t : Tile} {code n : Nat} {cmd : Cmd} (h : MatrixTurn s k t code n cmd)
    (hc : ¬ (5 ≤ code ∧ code ≤ 7)) {i : Instr} (hi : exec i s = ok (matrixStep k code s)) (hr : runMatrix s k t n cmd = some u)
    {P : State → Prop} (hP : P u) : Gives i s P := by
  refine ⟨u, ?_, hP⟩
  simp only [hi, matrixStep, if_neg hc, h.tile, h.next, hr, Option.getD_some]
  rfl

/-- The same of a command that may halt its core. -/
theorem MatrixTurn.gives_event {s u : State} {k : CoreId} {t : Tile} {code n : Nat} {cmd : Cmd}
    (h : MatrixTurn s k t code n cmd) (hc : ¬ (5 ≤ code ∧ code ≤ 7)) {i : Instr}
    (hi : exec i s = ok (s.engineEvent k (matrixStep k code))) (hr : runMatrix s k t n cmd = some u) {P : State → Prop}
    (hP : P u) : Gives i s P :=
  h.gives hc (hi.trans (by rw [State.engineEvent_of_live h.live])) hr hP

end Sys2Proof

/-! PROOF. Commands of the stationary and the shadow set (R47, R48, R63, R66, R129). -/

namespace Sys2Proof.Machine

/-! ## Loads (R47, R164) -/

/-- The set that a load makes of its data and scale rows (R47). -/
def loadedSet (d : Desc) (data scales : List Byte) : MatrixSet :=
  let f := field d 71 68
  let sc := field d 73 72
  let grp := field d 75 74
  let count := mxCols d.shape d.cls * mxDepth d.shape d.cls
  ⟨d.shape, d.cls, bit d 79, f, sc, grp, (unpackRows (streamBits d.cls f) data).take count,
    if sc = 0 then [] else (unpackRows (8 * scaleBytes sc) scales).take (count / groupSize grp)⟩

/-- The rows of data and of scales that a load takes (R47). -/
def loadRows (d : Desc) : Nat × Nat := mloadRows d.shape d.cls (field d 71 68) (field d 75 74) (field d 73 72)

/-- The shadow set of core k is replaced, and with it its direct port. -/
def State.setShadow (s : State) (k : CoreId) (set : MatrixSet) (port : List PortEntry) : State :=
  s.setCore k { s.core k with shadow := some set, port := port }

/-- A load from the local store has its effect at once. -/
theorem runMload_of_rows {cmd : Cmd} (h : bit cmd.desc 78 = false) (s : State) (k : CoreId) (n : Nat) : runMload s k n cmd =
    some ((s.setShadow k (loadedSet cmd.desc (s.rowsFrom k.val (field cmd.desc 55 41) (loadRows cmd.desc).1)
      (s.rowsFrom k.val (field cmd.desc 40 26) (loadRows cmd.desc).2)) (s.core k).port).markExecuted k 0 n) :=
  if_neg (by simp [h])

/-- The entries at the front of the direct port. -/
theorem map_data_take {port : List PortEntry} {front back : List PortData} (h : port.map (·.data) = front ++ back) :
    (port.take front.length).map (·.data) = front := by
  rw [List.map_take, h, List.take_left' rfl]

/-- The entries behind the front of the direct port. -/
theorem map_data_drop {port : List PortEntry} {front back : List PortData} (h : port.map (·.data) = front ++ back) :
    (port.drop front.length).map (·.data) = back := by
  rw [List.map_drop, h, List.drop_left' rfl]

/-- An entry of the direct port is a slice. -/
def PortEntry.isSlice (e : PortEntry) : Bool :=
  match e.data with
  | .slice _ _ => true
  | .row _ => false

/-- The bytes of a row of the direct port. -/
def PortEntry.rowBytes (e : PortEntry) : List Byte :=
  match e.data with
  | .row b => b
  | .slice _ _ => []

theorem any_isSlice_of_rows {l : List PortEntry} {took : List (List Byte)} (h : l.map (·.data) = took.map .row) :
    l.any PortEntry.isSlice = false := by
  rw [List.any_eq_false]
  intro e he
  have row : e.data ∈ took.map PortData.row := h ▸ List.mem_map_of_mem he
  obtain ⟨b, -, hb⟩ := List.mem_map.1 row
  simp [PortEntry.isSlice, ← hb]

theorem flatMap_rowBytes_of_rows {l : List PortEntry} {took : List (List Byte)} (h : l.map (·.data) = took.map .row) :
    l.flatMap PortEntry.rowBytes = took.flatten := by
  have bytes : l.map PortEntry.rowBytes = took := by
    calc l.map PortEntry.rowBytes
        = (l.map (·.data)).map (fun x => PortEntry.rowBytes ⟨x, 0, 0⟩) := by rw [List.map_map]; rfl
      _ = took := by rw [h, List.map_map]; exact List.map_id _
  rw [List.flatMap_def, bytes]

theorem length_flatten_rows {l : List (List Byte)} (h : ∀ r ∈ l, r.length = 512) : l.flatten.length = 512 * l.length := by
  rw [List.length_flatten, List.map_congr_left h, List.map_const', List.sum_replicate, smul_eq_mul, Nat.mul_comm]

/-- A load from the direct port takes the rows that have come, and with the last of them has its effect (R47, R164). -/
theorem runMload_of_port {s : State} {k : CoreId} {cmd : Cmd} {took : List (List Byte)} {had : Nat}
    (hb : bit cmd.desc 78 = true) (hg : cmd.got.length = 512 * had) (ht : took ≠ []) (hr : ∀ r ∈ took, r.length = 512)
    (hp : ((s.core k).port.take took.length).map (·.data) = took.map .row)
    (hl : (s.core k).port.take ((loadRows cmd.desc).1 + (loadRows cmd.desc).2 - had) = (s.core k).port.take took.length)
    (n : Nat) :
    let rows := loadRows cmd.desc
    let got := cmd.got ++ took.flatten
    let port := (s.core k).port.drop took.length
    runMload s k n cmd = some (
      if had + took.length < rows.1 + rows.2 then (s.setPort k port).setCmd k 0 n (fun x => { x with got := got })
      else (s.setShadow k (loadedSet cmd.desc (got.take (512 * rows.1)) (got.drop (512 * rows.1))) port).markExecuted k 0 n) := by
  intro rows got port
  have hadRows : cmd.got.length / 512 = had := by omega
  have length : ((s.core k).port.take took.length).length = took.length := by simpa using congrArg List.length hp
  have some_there : ((s.core k).port.take took.length).isEmpty = false := by
    rw [List.isEmpty_eq_false_iff, ← List.length_pos_iff, length]
    exact List.length_pos_iff.2 ht
  have gotLength : got.length = 512 * (had + took.length) := by
    rw [List.length_append, hg, length_flatten_rows hr, Nat.mul_add]
  have run : runMload s k n cmd =
      let l := (s.core k).port.take (rows.1 + rows.2 - cmd.got.length / 512)
      if l.isEmpty then none
      else if l.any PortEntry.isSlice then some (s.haltFor k 0 cmd 0x0B 0)
      else
        let got := cmd.got ++ l.flatMap PortEntry.rowBytes
        let port := (s.core k).port.drop l.length
        if got.length < 512 * (rows.1 + rows.2) then
          some ((s.setPort k port).setCmd k 0 n (fun x => { x with got := got }))
        else some ((s.setShadow k (loadedSet cmd.desc (got.take (512 * rows.1)) (got.drop (512 * rows.1)))
          port).markExecuted k 0 n) := if_pos hb
  rw [run, hadRows, hl]
  simp only [some_there, any_isSlice_of_rows hp, flatMap_rowBytes_of_rows hp, length, Bool.false_eq_true, if_false]
  change (if got.length < _ then _ else _) = _
  rw [gotLength]
  by_cases h : had + took.length < rows.1 + rows.2
  · rw [if_pos h, if_pos (by omega)]
  · rw [if_neg h, if_neg (by omega)]

/-! ## What each code runs -/

section Codes

variable {cmd : Cmd} (s : State) (k : CoreId) (t : Tile) (n : Nat)

theorem runMatrix_stream (h : Desc.cmd cmd.desc = 1) : runMatrix s k t n cmd = runMstream s k t n cmd := by
  simp only [runMatrix, h]
theorem runMatrix_load (h : Desc.cmd cmd.desc = 2) : runMatrix s k t n cmd = runMload s k n cmd := by simp only [runMatrix, h]
theorem runMatrix_swap (h : Desc.cmd cmd.desc = 3) : runMatrix s k t n cmd = some (runMswap s k n) := by
  simp only [runMatrix, h]
theorem runMatrix_twiddle (h : Desc.cmd cmd.desc = 4) : runMatrix s k t n cmd = runMtwid s k t n cmd := by
  simp only [runMatrix, h]
theorem runMatrix_spin (h : Desc.cmd cmd.desc = 8) : runMatrix s k t n cmd = some (runMspin s k n cmd) := by
  simp only [runMatrix, h]
theorem runMatrix_param (h : Desc.cmd cmd.desc = 9) : runMatrix s k t n cmd = some (s.markExecuted k 0 n) := by
  simp only [runMatrix, h]

end Codes

/-! ## The twiddle ROM (R63) -/

/-- The code of an element of a twiddle block (R63). -/
def twiddleCode (d : Desc) (row col : Nat) : Nat :=
  (convertFloat (field d 71 68) false none (twiddleElem (bit d 62) (if bit d 63 then 128 else 64)
    (field d 61 60 / 2 * 128 + row) (field d 61 60 % 2 * 128 + col))).1

/-- The set that the twiddle ROM gives (R63). -/
def twiddleSet (d : Desc) : MatrixSet :=
  ⟨0, 2, false, field d 71 68, 0, 0,
    (List.range 128).flatMap (fun col => (List.range 128).map (fun row => twiddleCode d row col)), []⟩

theorem twiddleSet_elems (d : Desc) :
    (twiddleSet d).elems = (List.range (128 * 128)).map (fun e => twiddleCode d (e % 128) (e / 128)) :=
  flatMap_range_map_range (fun col row => twiddleCode d row col) 128 128

theorem getElem?_twiddleSet (d : Desc) {row col : Nat} (hr : row < 128) (hc : col < 128) :
    (twiddleSet d).elems[col * 128 + row]? = some (twiddleCode d row col) := by
  have inside : col * 128 + row < 128 * 128 := by omega
  have place : (col * 128 + row) % 128 = row ∧ (col * 128 + row) / 128 = col := by omega
  rw [twiddleSet_elems, List.getElem?_map, List.getElem?_range inside, Option.map_some, place.1, place.2]

/-- A twiddle load ends the open chain, lets what waited for it act, and fills the shadow set. -/
theorem runMtwid_of_tail {s s0 : State} {k : CoreId} {t : Tile} {n : Nat} (cmd : Cmd)
    (h : endChain s k t (((s.core k).queue 0).take n) = .done s0) : runMtwid s k t n cmd =
      some (((s0.drain k t).setShadow k (twiddleSet cmd.desc) ((s0.drain k t).core k).port).markExecuted k 0 n) := by
  unfold runMtwid
  rw [h]
  rfl

end Sys2Proof.Machine

namespace Sys2Proof

open Machine

/-! ## What the commands leave -/

/-- A command that changes only its core and leaves its queues. -/
theorem OnlyCore.markExecuted (s : State) (k : CoreId) (c : Core) (n : Nat) :
    OnlyCore k [] s ((s.setCore k c).markExecuted k 0 n) := (OnlyCore.setCore k _ s _).trans (.setCore k _ _ _)

/-- A command that replaces its core, with the queues as they were, and is marked. -/
theorem executed_setCore {s : State} {k : CoreId} {c : Core} (h : c.queues = (s.core k).queues) (n : Nat) :
    OnlyCore k [] s ((s.setCore k c).markExecuted k 0 n) ∧ Executed k 0 n s ((s.setCore k c).markExecuted k 0 n) :=
  ⟨.markExecuted s k c n, .of_markExecuted 0 n (by rw [State.core_setCore_same, h])⟩

/-- The core after that: as it was replaced, but for its queues. -/
theorem core_setCore_markExecuted (s : State) (k : CoreId) (c : Core) (n : Nat) : ((s.setCore k c).markExecuted k 0 n).core k =
    { c with queues := (((s.setCore k c).markExecuted k 0 n).core k).queues } := by
  rw [State.core_markExecuted, State.core_setCore_same]
  rfl

theorem loadCompleted {s : State} {k : CoreId} (set : MatrixSet) (port : List PortEntry) (n : Nat) :
    let u := (s.setShadow k set port).markExecuted k 0 n
    (u.core k).shadow = some set ∧ (u.core k).port = port ∧
      u.core k = { s.core k with queues := (u.core k).queues, shadow := (u.core k).shadow, port := (u.core k).port } := by
  intro u
  have core : u.core k = _ := core_setCore_markExecuted s k _ n
  refine ⟨by rw [core], by rw [core], ?_⟩
  rw [core]

/-- Rows of the port that do not yet complete a load are kept with it. -/
theorem loadWaits {s : State} {k : CoreId} (port : List PortEntry) (f : Cmd → Cmd) (n : Nat) :
    let u := (s.setPort k port).setCmd k 0 n f
    OnlyCore k [] s u ∧ (u.core k).queue 0 = modifyNth f n ((s.core k).queue 0) ∧
      u.core k = { s.core k with queues := (u.core k).queues, port := port } := by
  intro u
  have core : u.core k = { s.core k with port := port }.setQueue 0 (modifyNth f n ((s.core k).queue 0)) := by
    unfold u State.setCmd State.setPort
    rw [State.core_setCore_same, State.core_setCore_same]
    rfl
  refine ⟨(OnlyCore.setCore k _ s _).trans (.setCore k _ _ _), ?_, ?_⟩
  · rw [core, Core.queue_setQueue, if_pos rfl]
  · rw [core]
    rfl

/-- A marked command has had its effect. -/
theorem marked {s : State} {k : CoreId} {n : Nat} {x : Cmd} (h : ((s.core k).queue 0)[n]? = some x) :
    (((s.markExecuted k 0 n).core k).queue 0)[n]? = some { x with phase := .executed } := by
  rw [State.core_markExecuted, Core.queue_setQueue, if_pos rfl, getElem?_modifyNth, if_pos rfl, h]
  rfl

/-- Settles O20: each command by what it does in its turn. -/
theorem matrixSetCommands : Obligations.MatrixSetCommands := by
  intro s k t n cmd d c f sc grp rows count loaded only
  refine ⟨fun h hd => ?_, fun h hd took rest had hg ht hr hp => ?_, fun h => ?_, fun h ready => ?_, fun h => ?_, fun h => ?_⟩
  · have run := (runMatrix_load s k t n h.code).trans (runMload_of_rows hd s k n)
    obtain ⟨shadow, port, core⟩ := loadCompleted (s := s) (k := k) (loadedSet d (s.rowsFrom k.val (field d 55 41) rows.1)
      (s.rowsFrom k.val (field d 40 26) rows.2)) c.port n
    rw [port] at core
    exact h.gives_event (by omega) (exec_mload k s) run ⟨executed_setCore (by rfl) n, shadow, core⟩
  · have front := List.length_map (as := took) PortData.row ▸ map_data_take hp
    have back := List.length_map (as := took) PortData.row ▸ map_data_drop hp
    have load := fun hl => (runMatrix_load s k t n h.code).trans (runMload_of_port hd hg ht hr front hl n)
    intro got
    refine ⟨fun more none => ?_, fun all => ?_⟩
    · have length : c.port.length = took.length := by simpa [none] using congrArg List.length hp
      have few : c.port.length ≤ rows.1 + rows.2 - had := by omega
      have run := load ((List.take_of_length_le few).trans (List.take_of_length_le length.le).symm)
      rw [if_pos (show had + took.length < (loadRows cmd.desc).1 + (loadRows cmd.desc).2 from more),
        List.drop_of_length_le (show (s.core k).port.length ≤ took.length from length.le)] at run
      exact h.gives_event (by omega) (exec_mload k s) run (loadWaits [] _ n)
    · have needed : rows.1 + rows.2 - had = took.length := by omega
      have complete : ¬ had + took.length < rows.1 + rows.2 := by omega
      have run := load (congrArg (fun i => c.port.take i) needed)
      rw [if_neg (show ¬ had + took.length < (loadRows cmd.desc).1 + (loadRows cmd.desc).2 from complete)] at run
      obtain ⟨shadow, port, core⟩ := loadCompleted (s := s) (k := k)
        (loadedSet d (got.take (512 * rows.1)) (got.drop (512 * rows.1))) (c.port.drop took.length) n
      exact h.gives_event (by omega) (exec_mload k s) run
        ⟨executed_setCore (by rfl) n, (congrArg (List.map (·.data)) port).trans back, shadow, core⟩
  · exact h.gives (by omega) (exec_mswap k s) (runMatrix_swap s k t n h.code)
      ⟨executed_setCore (by rfl) n, core_setCore_markExecuted s k _ n⟩
  · obtain ⟨s0, tail⟩ := ready
    have run := (runMatrix_twiddle s k t n h.code).trans (runMtwid_of_tail cmd tail)
    intro twiddled
    refine h.gives_event (by omega) (exec_mtwid k s) run ?_
    obtain ⟨ended, closed⟩ := Carried.endChain tail
    have drained := Drained.drain s0 k t
    have carried := ended.trans drained.carried
    obtain ⟨shadow, port, core⟩ := loadCompleted (s := s0.drain k t) (k := k) (twiddleSet d) ((s0.drain k t).core k).port n
    rw [port] at core
    refine ⟨⟨?_, twiddleSet d, shadow, rfl, rfl, rfl, rfl, ?_, fun row col hr hc => getElem?_twiddleSet d hr hc⟩, ?_,
      carried.acted.mem, ?_, ?_, fun j hj => ?_, fun none quiet => ?_⟩
    · rw [core, carried.core]
    · rw [twiddleSet_elems, List.length_map, List.length_range]
    · rw [core]
      exact drained.chain.trans closed
    · rw [core, carried.core]
    · obtain ⟨x, hx, kept⟩ := carried.queue.getElem? h.at_place
      refine ⟨_, marked (x := x) ?_, rfl, kept.1⟩
      rw [State.setShadow, State.core_setCore_same]
      exact hx
    · exact (State.core_setCore_ne _ _ _ _ hj).trans ((State.core_setCore_ne _ _ _ _ hj).trans (carried.acted.cores j hj))
    · rw [endChain_of_none none] at tail
      cases tail
      rw [State.drain_of_quiet (s := s) (k := k) quiet] at core ⊢
      exact ⟨executed_setCore (by rfl) n, core⟩
  · exact h.gives (by omega) (exec_mspin k s) (runMatrix_spin s k t n h.code)
      ⟨executed_setCore (by rfl) n, core_setCore_markExecuted s k _ n⟩
  · refine h.gives (by omega) (exec_mparam k s) (runMatrix_param s k t n h.code)
      ⟨⟨.setCore k _ s _, .of_markExecuted 0 n rfl⟩, ?_⟩
    rw [State.core_markExecuted]
    rfl

end Sys2Proof

/-! PROOF. A stream in the local store has as many slices as are asked of it (R20, R50). -/

namespace Sys2Proof.Machine

theorem length_elems16 : ∀ bs : List Byte, (elems16 bs).length = bs.length / 2
  | [] => rfl
  | [_] => by simp [elems16]
  | _ :: _ :: r => by simp only [elems16, List.length_cons, length_elems16 r]; omega

theorem length_elems32 : ∀ bs : List Byte, (elems32 bs).length = bs.length / 4
  | [] => rfl
  | [_] | [_, _] | [_, _, _] => by simp [elems32]
  | _ :: _ :: _ :: _ :: r => by simp only [elems32, List.length_cons, length_elems32 r]; omega

theorem length_elems6 : ∀ bs : List Byte, (elems6 bs).length = 4 * (bs.length / 3)
  | [] => rfl
  | [_] | [_, _] => by simp [elems6]
  | _ :: _ :: _ :: r => by simp only [elems6, List.length_cons, length_elems6 r]; omega

/-- The widths of elements (R17). -/
def widths : List Nat := [0, 4, 6, 8, 16, 32]

theorem fmtBits_mem (f : Nat) : fmtBits f ∈ widths := by
  unfold fmtBits widths
  split <;> decide

theorem streamBits_mem (cl f : Nat) : streamBits cl f ∈ widths := by
  unfold streamBits
  split
  · decide
  · exact fmtBits_mem f

theorem perRow_pos_of_width {b : Nat} (h : b ∈ widths) : 0 < perRow b :=
  (by decide : ∀ b ∈ widths, 0 < perRow b) b h

/-- The elements of a row, by their width (R20). -/
def rowCount (b : Nat) : Nat := if b = 4 then 1024 else if b = 6 then 640 else if b = 8 then 512 else if b = 16 then 256 else 128

theorem length_rowElems (b : Nat) {row : List Byte} (h : row.length = 512) : (rowElems b row).length = rowCount b := by
  unfold rowElems rowCount
  split_ifs
  · rw [List.length_flatMap, show (fun x : Byte => [x.toNat % 16, x.toNat / 16].length) = fun _ => 2 from rfl, List.map_const',
      List.sum_replicate, h]
    rfl
  · simp [length_elems6, h]
  · rw [List.length_map, h]
  · rw [length_elems16, h]
  · rw [length_elems32, h]

/-- A row holds no fewer elements than it is counted for (R20). -/
theorem perRow_le_rowElems {b : Nat} (h : b ∈ widths) {row : List Byte} (hr : row.length = 512) :
    perRow b ≤ (rowElems b row).length := by
  rw [length_rowElems b hr]
  exact (by decide : ∀ b ∈ widths, perRow b ≤ rowCount b) b h

theorem length_unpackRows_ge {b : Nat} (h : b ∈ widths) (bs : List Byte) :
    cdiv bs.length 512 * perRow b ≤ (unpackRows b bs).length := by
  rw [unpackRows, List.length_flatMap, ← rowsOf_length, ← List.length_map (fun r => (rowElems b r).length) (as := rowsOf bs)]
  refine List.card_nsmul_le_sum _ _ (fun n hn => ?_)
  obtain ⟨row, hrow, rfl⟩ := List.mem_map.1 hn
  exact perRow_le_rowElems h (length_of_mem_rowsOf hrow)

theorem length_chunks {α : Type} {d : Nat} (hd : 0 < d) {n : Nat} {l : List α} (h : n * d ≤ l.length) :
    (chunks d n l).length = n := by
  induction n generalizing l with
  | zero => rfl
  | succ n ih =>
    rw [Nat.succ_mul] at h
    have some_left : ¬ l.isEmpty = true := by
      rw [List.isEmpty_iff_length_eq_zero]
      omega
    rw [chunks, if_neg some_left, List.length_cons, ih (by rw [List.length_drop]; omega)]

theorem le_cdiv_mul (n : Nat) {d : Nat} (hd : 0 < d) : n ≤ cdiv n d * d := by
  have := Nat.lt_mul_div_succ (n + d - 1) hd
  rw [Nat.mul_succ, Nat.mul_comm] at this
  unfold cdiv
  omega

theorem mxDepth_pos (sh cl : Nat) : 0 < mxDepth sh cl := by
  have := Nat.two_pow_pos sh
  unfold mxDepth
  split
  · omega
  · split <;> omega

theorem length_localSlices (s : State) (k : CoreId) (d : Desc) (p n : Nat) : (localSlices s k d p n).length = n := by
  have width := streamBits_mem d.cls d.streamFmt
  have rows := le_cdiv_mul ((p + n) * mxDepth d.shape d.cls) (perRow_pos_of_width width)
  have elems := length_unpackRows_ge width (s.rowsFrom k.val (field d 55 41)
    (cdiv ((p + n) * mxDepth d.shape d.cls) (perRow (streamBits d.cls d.streamFmt))))
  rw [State.rowsFrom, State.rd, readRun_length, cdiv_mul_left _ (by decide)] at elems
  refine length_chunks (mxDepth_pos _ _) ?_
  rw [List.length_take, List.length_drop]
  exact Nat.le_min.2 ⟨le_rfl, Nat.le_sub_of_add_le (by rw [← Nat.add_mul, Nat.add_comm]; exact rows.trans elems)⟩

theorem localSlices_congr {s u : State} (h : u.mem = s.mem) (k : CoreId) (d : Desc) (p n : Nat) :
    localSlices u k d p n = localSlices s k d p n := by
  simp only [localSlices, State.rowsFrom, State.rd_congr h]

end Sys2Proof.Machine

/-! PROOF. Streams (R46, R50, R129, R164): what the chain holds and owes, and what has landed, slice by slice. -/

namespace Sys2Proof.Machine

/-! ## Slices and the vectors they begin -/

/-- A slice that begins a vector enters a chain that owes it. -/
theorem slide_begins (depth : Nat) (a : Sliding) (sl : List Nat) (o : Option OwedVector) :
    slide depth a (sl, o) = slide depth ⟨a.slices, a.owed ++ o.toList, a.landed⟩ (sl, none) := by
  simp only [slide, Option.toList_none, List.append_nil]

/-- What has landed before does not bear on what a slice does. -/
theorem slide_landed (depth : Nat) (a : Sliding) (p : List Nat × Option OwedVector) : slide depth a p =
    let b := slide depth ⟨a.slices, a.owed, []⟩ p
    ⟨b.slices, b.owed, a.landed ++ b.landed⟩ := by
  simp only [slide]
  split
  · simp
  · split <;> simp

/-- The slices of a stream, each with the vector that it begins (R50). -/
def beginning (sls : List (List Nat)) (os : List OwedVector) : List (List Nat × Option OwedVector) :=
  sls.zipIdx.map (fun p => (p.1, os[p.2]?))

theorem beginning_cons (sl : List Nat) (r : List (List Nat)) (os : List OwedVector) :
    beginning (sl :: r) os = (sl, os.head?) :: beginning r (os.drop 1) := by
  simp only [beginning, List.zipIdx_cons, List.map_cons, List.head?_eq_getElem?, List.cons.injEq, true_and, Nat.zero_add]
  rw [List.zipIdx_succ, List.map_map]
  refine List.map_congr_left (fun p _ => ?_)
  simp

/-- Vectors land upon what those before them have left. -/
theorem landAll_append (l m : List (OwedVector × List Nat)) {c e : Core} (h : e.acc = (landAll l c).1.acc) :
    (landAll (l ++ m) c).1.acc = (landAll m e).1.acc ∧ (landAll (l ++ m) c).2 = (landAll l c).2 ||| (landAll m e).2 := by
  induction m using List.reverseRecOn with
  | nil => exact ⟨by rw [List.append_nil]; exact h.symm, by rw [List.append_nil]; exact (Nat.or_zero _).symm⟩
  | append_singleton m p ih =>
    obtain ⟨o, vec⟩ := p
    obtain ⟨acc, flags⟩ := ih
    obtain ⟨acc', flags'⟩ := applyVector_congr (o := o) (vec := vec) acc
    rw [← List.append_assoc, landAll_append_one, landAll_append_one]
    exact ⟨acc', by rw [flags, flags', Nat.or_assoc]⟩

/-! ## What ends and loads read -/

theorem badRow_congr {s u : State} (h : u.models = s.models) (c : CtxId) (st : Nat) (l : List (Nat × Nat)) :
    badRow u c st l = badRow s c st l := by
  simp only [badRow, State.reserved, h]

theorem any_loadsFromPort_of_kept {l m : List Cmd} (h : KeptAll l m) (hl : l.any loadsFromPort = false) :
    m.any loadsFromPort = false := by
  rw [List.any_eq_false] at hl ⊢
  intro y hy loads
  obtain ⟨x, hx, desc, phase⟩ := h.mem hy
  simp only [loadsFromPort, desc, Bool.and_eq_true] at loads
  obtain ⟨⟨isOpen, load⟩, port⟩ := loads
  have same : y.phase = x.phase := by
    refine phase.resolve_right (fun done => ?_)
    simp [Cmd.open, done] at isOpen
  refine hl x hx ?_
  simp only [loadsFromPort, Bool.and_eq_true]
  exact ⟨⟨by rw [Cmd.open, ← same]; exact isOpen, load⟩, port⟩

/-! ## One slice of a stream -/

/-- The open chain owes one more vector. -/
def State.owes (s : State) (k : CoreId) : Option OwedVector → State
  | none => s
  | some o => s.setCore k { s.core k with chain := (s.core k).chain.map (fun h => { h with owed := h.owed ++ [o] }) }

theorem streamIn_cons (k : CoreId) (t : Tile) (n : Nat) (sl : List Nat) (r : List (List Nat)) (os : List OwedVector) (s : State) :
    streamIn k t n (sl :: r) os s = streamIn k t n r (os.drop 1)
      (feedSlice k t sl ((s.owes k os.head?).setCmd k 0 n (fun x => { x with resumeAt := x.resumeAt + 1 }))) := by
  cases os <;> rfl

end Sys2Proof.Machine

namespace Sys2Proof

open Machine

/-! ## What has landed -/

/-- The vectors of a list have landed and nothing else has come of it, but for the chain, the port and the queues' marks. -/
structure VectorsLanded (k : CoreId) (l : List (OwedVector × List Nat)) (s u : State) : Prop where
  only : OnlyCore k [Reg.mxeAccStatus k] s u
  core : u.core k = { s.core k with
    queues := (u.core k).queues, chain := (u.core k).chain, acc := (u.core k).acc, port := (u.core k).port }
  acc : (u.core k).acc = (landAll l (s.core k)).1.acc
  reg : u.reg (Reg.mxeAccStatus k) = s.reg (Reg.mxeAccStatus k) ||| BitVec.ofNat 64 (landAll l (s.core k)).2

theorem VectorsLanded.refl (k : CoreId) (s : State) : VectorsLanded k [] s s where
  only := ⟨rfl, fun _ _ => rfl, fun _ _ => rfl⟩
  core := rfl
  acc := rfl
  reg := (BitVec.or_zero).symm

section

variable {k : CoreId} {s u : State}

theorem VectorsLanded.setCore {l : List (OwedVector × List Nat)} (h : VectorsLanded k l s u) {c : Core}
    (hc : c = { u.core k with queues := c.queues, chain := c.chain, port := c.port }) : VectorsLanded k l s (u.setCore k c) where
  only := h.only.trans (.setCore k _ _ _)
  core := by rw [State.core_setCore_same, hc, h.core]
  acc := by rw [State.core_setCore_same, hc]; exact h.acc
  reg := by rw [State.reg_setCore]; exact h.reg

theorem VectorsLanded.entered {l : List (OwedVector × List Nat)} (h : VectorsLanded k l s u) (x : Chain) (a : Sliding) :
    VectorsLanded k (l ++ a.landed) s (u.entered k x a) := by
  obtain ⟨acc, flags⟩ := landAll_append l a.landed h.acc
  refine ⟨h.only.trans (.entered u k x a), ?_, ?_, ?_⟩
  · rw [State.core_entered, h.core]
  · rw [State.core_entered, acc]
  · rw [State.reg_entered, h.reg, flags, BitVec.ofNat_or, BitVec.or_assoc]

/-! ## Streaming -/

/-- A stream has taken p entries of the direct port, and a list of vectors has landed. -/
structure Streamed (k : CoreId) (p : Nat) (l : List (OwedVector × List Nat)) (s u : State) : Prop extends Touched k s u where
  port : (u.core k).port = (s.core k).port.drop p
  quiet : (s.core k).Quiet → VectorsLanded k l s u

theorem Touched.setCore (k : CoreId) (s : State) {c : Core}
    (hc : c = { s.core k with queues := c.queues, chain := c.chain, port := c.port })
    (hq : KeptAll ((s.core k).queue 0) (c.queue 0)) : Touched k s (s.setCore k c) where
  acted := .setCore k _ s c
  core := by rw [State.core_setCore_same, hc]
  queue := by rw [State.core_setCore_same]; exact hq

theorem Streamed.setCore {p q : Nat} {l : List (OwedVector × List Nat)} (h : Streamed k p l s u) {c : Core}
    (hc : c = { u.core k with queues := c.queues, chain := c.chain, port := c.port })
    (hq : KeptAll ((u.core k).queue 0) (c.queue 0)) (hp : c.port = (u.core k).port.drop q) :
    Streamed k (p + q) l s (u.setCore k c) where
  toTouched := h.toTouched.trans (.setCore k u hc hq)
  port := by rw [State.core_setCore_same, hp, h.port, List.drop_drop]
  quiet still := (h.quiet still).setCore hc

theorem Streamed.setCmd {p : Nat} {l : List (OwedVector × List Nat)} (h : Streamed k p l s u) (n : Nat) {f : Cmd → Cmd}
    (hf : ∀ x : Cmd, x.Kept (f x)) : Streamed k p l s (u.setCmd k 0 n f) := by
  refine h.setCore (q := 0) rfl ?_ rfl
  rw [Core.queue_setQueue, if_pos rfl]
  exact forall₂_modifyNth f .refl (fun x _ => hf x)

theorem Streamed.still {p : Nat} {l : List (OwedVector × List Nat)} (h : Streamed k p l s u) (hq : (s.core k).Quiet) :
    (u.core k).Quiet := hq.of_kept h.queue

theorem Streamed.drain {p : Nat} {l : List (OwedVector × List Nat)} (h : Streamed k p l s u) (t : Tile) :
    Streamed k p l s (u.drain k t) where
  toTouched := h.toTouched.trans (Drained.drain u k t).carried.toTouched
  port := (Drained.drain u k t).port.trans h.port
  quiet hq := by rw [State.drain_of_quiet (h.still hq)]; exact h.quiet hq

/-- The n-th command streams: so many of its slices have entered, its chain holds and owes what it does, and what has landed has. -/
structure Entering (k : CoreId) (n : Nat) (cmd : Cmd) (h : Chain) (r p : Nat) (a : Sliding) (s u : State) : Prop
    extends Streamed k p a.landed s u where
  chain : (u.core k).chain = some (h.slid a)
  nth : ((u.core k).queue 0)[n]? = some { cmd with resumeAt := r }

section Entering

variable {n : Nat} {cmd : Cmd} {h : Chain} {r p : Nat} {a : Sliding}

/-- Entries of the direct port are taken. -/
theorem Entering.setPort (e : Entering k n cmd h r p a s u) (q : Nat) :
    Entering k n cmd h r (p + q) a s (u.setPort k ((u.core k).port.drop q)) where
  toStreamed := e.toStreamed.setCore rfl (.refl _) rfl
  chain := by rw [State.setPort, State.core_setCore_same]; exact e.chain
  nth := by rw [State.setPort, State.core_setCore_same]; exact e.nth

/-- A vector begins. -/
theorem Entering.owes (e : Entering k n cmd h r p a s u) (o : Option OwedVector) :
    Entering k n cmd h r p ⟨a.slices, a.owed ++ o.toList, a.landed⟩ s (u.owes k o) := by
  cases o with
  | none =>
    rw [Option.toList_none, List.append_nil]
    exact e
  | some o =>
    refine ⟨e.toStreamed.setCore (q := 0) rfl (.refl _) rfl, ?_, ?_⟩
    · rw [State.owes, State.core_setCore_same, e.chain]
      rfl
    · rw [State.owes, State.core_setCore_same]
      exact e.nth

/-- One more of the command's slices is taken. -/
theorem Entering.resumed (e : Entering k n cmd h r p a s u) :
    Entering k n cmd h (r + 1) p a s (u.setCmd k 0 n (fun x => { x with resumeAt := x.resumeAt + 1 })) where
  toStreamed := e.toStreamed.setCmd n (fun _ => ⟨rfl, .inl rfl⟩)
  chain := by rw [State.setCmd, State.core_setCore_same]; exact e.chain
  nth := by
    rw [State.setCmd, State.core_setCore_same, Core.queue_setQueue, if_pos rfl, getElem?_modifyNth, if_pos rfl, e.nth]
    rfl

/-- A slice enters. -/
theorem Entering.feedSlice (e : Entering k n cmd h r p a s u) (hc : isAccAccess cmd.desc = false) (t : Tile) (sl : List Nat) :
    Entering k n cmd h r p (slide (mxDepth h.shape h.cls) a (sl, none)) s (feedSlice k t sl u) := by
  have carried := Carried.feedSlice k t sl u
  rw [slide_landed]
  refine ⟨⟨e.toTouched.trans carried.toTouched, ?_, fun hq => ?_⟩, ?_, carried.others n _ e.nth hc⟩
  · rw [← e.port]
    rcases feedSlice_cases e.chain t sl with same | drained
    · rw [same, State.core_entered]
    · rw [drained, (Drained.drain _ k t).port, State.core_entered]
  · rw [feedSlice_of_quiet e.chain (e.still hq)]
    exact (e.quiet hq).entered _ _
  · rcases feedSlice_cases e.chain t sl with same | drained
    · rw [same, State.core_entered]
      rfl
    · rw [drained, (Drained.drain _ k t).chain, State.core_entered]
      rfl

/-- The slices of a tail enter. -/
theorem Entering.feedAll (hc : isAccAccess cmd.desc = false) (t : Tile) (sls : List (List Nat)) {u : State} {a : Sliding}
    (e : Entering k n cmd h r p a s u) : Entering k n cmd h r p
      ((sls.map (fun sl => (sl, none))).foldl (slide (mxDepth h.shape h.cls)) a) s (feedAll k t sls u) := by
  induction sls generalizing u a with
  | nil => exact e
  | cons sl r ih => exact ih (e.feedSlice hc t sl)

/-- The command's slices enter, each with the vector that it begins. -/
theorem Entering.streamIn (hc : isAccAccess cmd.desc = false) (t : Tile) (sls : List (List Nat)) {os : List OwedVector} {u : State}
    {a : Sliding} {r : Nat} (e : Entering k n cmd h r p a s u) : Entering k n cmd h (r + sls.length) p
      ((beginning sls os).foldl (slide (mxDepth h.shape h.cls)) a) s (streamIn k t n sls os u) := by
  induction sls generalizing os u a r with
  | nil => exact e
  | cons sl l ih =>
    rw [streamIn_cons, beginning_cons, List.foldl_cons, slide_begins, List.length_cons, Nat.add_comm l.length, ← Nat.add_assoc]
    exact ih ((e.owes os.head?).resumed.feedSlice hc t sl)

end Entering

end

end Sys2Proof

/-! PROOF. MSTREAM (R46, R50, R129, R164): what it opens or continues, its slices, and the close. -/

namespace Sys2Proof.Machine

/-! ## The chain of a stream -/

/-- The chain that a stream joins or opens (R50). -/
def joinedChain (c : Core) (cmd : Cmd) : Chain :=
  match c.chain with
  | some h => { h with last := cmd }
  | none => ⟨Desc.shape cmd.desc, Desc.cls cmd.desc, cmd, [], [], 0⟩

/-- Core k with the chain that a stream joins or opens. -/
def State.joinChain (s : State) (k : CoreId) (cmd : Cmd) : State :=
  s.setCore k { s.core k with chain := some (joinedChain (s.core k) cmd) }

/-- A stream continues the open chain: it carries the chain flag, and its shape and class are the chain's (R129). -/
def continues (c : Core) (d : Desc) : Prop := bit d 76 = true ∧ ∃ h, c.chain = some h ∧ h.shape = d.shape ∧ h.cls = d.cls

theorem continuesChain_iff (c : Core) (d : Desc) :
    continuesChain (c.chain.map (fun h => (h.shape, h.cls))) d = true ↔ continues c d := by
  rcases hc : c.chain with _ | h <;> simp [continuesChain, continues, hc]

section Run

variable {s s0 s1 u : State} {k : CoreId} {t : Tile} {n : Nat} {cmd : Cmd}

theorem runMstream_of_going (h : (s.core k).chain.map (fun x => x.last.seq) = some cmd.seq) :
    runMstream s k t n cmd = streamOn s k t n cmd := if_pos h

theorem runMstream_of_joined (h : ¬ (s.core k).chain.map (fun x => x.last.seq) = some cmd.seq)
    (hc : continues (s.core k) cmd.desc → s0 = s)
    (hn : ¬ continues (s.core k) cmd.desc → Machine.endChain s k t (((s.core k).queue 0).take n) = .done s0)
    (hs : s1 = (s0.drain k t).joinChain k cmd) (hv : streamOn s1 k t n cmd = some u) : runMstream s k t n cmd = some u := by
  have ends : (if continuesChain ((s.core k).chain.map (fun h => (h.shape, h.cls))) cmd.desc then ChainEnd.done s
      else endChain s k t (((s.core k).queue 0).take n)) = .done s0 := by
    by_cases same : continues (s.core k) cmd.desc
    · rw [if_pos ((continuesChain_iff _ _).2 same), hc same]
    · rw [if_neg (mt (continuesChain_iff _ _).1 same), hn same]
  unfold runMstream
  dsimp only
  rw [if_neg h, ends]
  subst hs
  exact congrArg (fun r : Option State => some (r.getD ((s0.drain k t).joinChain k cmd))) hv

/-! ## Its slices -/

/-- The state in which a stream's slices enter: those that come by the direct port have been taken from it. -/
def State.tookSlices (s : State) (k : CoreId) (cmd : Cmd) (sls : List (List Nat)) : State :=
  if bit cmd.desc 78 then s.setPort k ((s.core k).port.drop sls.length) else s

/-- The slices of a stream have entered. -/
def State.streamed (s : State) (k : CoreId) (t : Tile) (n : Nat) (cmd : Cmd) (set : MatrixSet) (sls : List (List Nat)) : State :=
  streamIn k t n sls ((owedVectors s k cmd set).drop cmd.resumeAt) (s.tookSlices k cmd sls)

/-- The slices that a stream finds (R46, R164). -/
def foundSlices (s : State) (k : CoreId) (cmd : Cmd) : Except Unit (List (List Nat)) :=
  if bit cmd.desc 78 then portSlices (s.core k).port (field cmd.desc 14 0 - cmd.resumeAt) false
  else .ok (localSlices s k cmd.desc cmd.resumeAt (field cmd.desc 14 0 - cmd.resumeAt))

variable {set : MatrixSet} {sls : List (List Nat)}

theorem streamOn_eq (hset : (s.core k).stationary = some set) (hs : foundSlices s k cmd = .ok sls) :
    streamOn s k t n cmd =
      if field cmd.desc 14 0 - cmd.resumeAt = 0 then closeStream s k t n cmd
      else if sls.isEmpty then none
      else if sls.length < field cmd.desc 14 0 - cmd.resumeAt then some (s.streamed k t n cmd set sls)
      else some ((closeStream (s.streamed k t n cmd set sls) k t n cmd).getD (s.streamed k t n cmd set sls)) := by
  unfold foundSlices at hs
  unfold streamOn
  dsimp only
  split
  · next x y hx hy =>
    obtain rfl : set = x := Option.some.inj (hset.symm.trans hx)
    obtain rfl : sls = y := Except.ok.inj (hs.symm.trans hy)
    rfl
  · next no => exact (no _ _ hset hs).elim

theorem streamOn_waits (hset : (s.core k).stationary = some set) (hs : foundSlices s k cmd = .ok sls) (some_there : sls ≠ [])
    (more : sls.length < field cmd.desc 14 0 - cmd.resumeAt) :
    streamOn s k t n cmd = some (s.streamed k t n cmd set sls) := by
  rw [streamOn_eq hset hs, if_neg (by omega), if_neg (by simpa using some_there), if_pos more]

theorem State.setCore_self (s : State) (k : CoreId) : s.setCore k (s.core k) = s := by
  simp [State.setCore, State.core]

theorem State.setPort_self (s : State) (k : CoreId) : s.setPort k (s.core k).port = s := s.setCore_self k

theorem streamOn_closes (hset : (s.core k).stationary = some set) (hs : foundSlices s k cmd = .ok sls)
    (all : sls.length = field cmd.desc 14 0 - cmd.resumeAt) (closed : closeStream (s.streamed k t n cmd set sls) k t n cmd = some u) :
    streamOn s k t n cmd = some u := by
  rw [streamOn_eq hset hs]
  by_cases none_left : field cmd.desc 14 0 - cmd.resumeAt = 0
  · obtain rfl := List.eq_nil_of_length_eq_zero (all.trans none_left)
    have same : s.streamed k t n cmd set [] = s := by
      rw [State.streamed, streamIn, State.tookSlices, List.length_nil, List.drop_zero, State.setPort_self, ite_self]
    rw [if_pos none_left, ← same]
    exact closed
  · have some_there : ¬ sls.isEmpty = true := by
      rw [List.isEmpty_iff_length_eq_zero]
      omega
    rw [if_neg none_left, if_neg some_there, if_neg (by omega), closed]
    rfl

/-! ## The close -/

theorem closeStream_of_chain (h : bit cmd.desc 76 = true) : closeStream s k t n cmd = some ((s.markExecuted k 0 n).drain k t) :=
  if_pos h

theorem closeStream_of_tail (h : bit cmd.desc 76 = false) (ends : endChain s k t (((s.core k).queue 0).take n) = .done u) :
    closeStream s k t n cmd = some ((u.markExecuted k 0 n).drain k t) := by
  unfold closeStream
  rw [if_neg (by simp [h]), ends]

end Run

end Sys2Proof.Machine

namespace Sys2Proof

open Machine

section Close

variable {s u : State} {k : CoreId} {n : Nat} {cmd : Cmd} {h : Chain} {r p : Nat} {a : Sliding} {l : List (OwedVector × List Nat)}

/-- A command that has streamed, marked, with the read-outs after it: what has landed stays. -/
theorem Streamed.executed (e : Streamed k p l s u) (t : Tile) (n : Nat) : Streamed k p l s ((u.markExecuted k 0 n).drain k t) :=
  (e.setCmd n (f := fun c => { c with phase := .executed }) (fun _ => ⟨rfl, .inr rfl⟩)).drain t

theorem chain_executed (u : State) (k : CoreId) (t : Tile) (n : Nat) :
    (((u.markExecuted k 0 n).drain k t).core k).chain = (u.core k).chain := by
  rw [(Drained.drain _ k t).chain, State.core_markExecuted, Core.setQueue_chain]

theorem nth_executed {x : Cmd} (hx : ((u.core k).queue 0)[n]? = some x) (hc : isAccAccess x.desc = false) (t : Tile) :
    ((((u.markExecuted k 0 n).drain k t).core k).queue 0)[n]? = some { x with phase := .executed } :=
  (Drained.drain _ k t).others n _ (marked hx) hc

/-- The n-th command has streamed its last slice, and its chain is closed. -/
structure Ended (k : CoreId) (n : Nat) (cmd : Cmd) (r p : Nat) (l : List (OwedVector × List Nat)) (s u : State) : Prop
    extends Streamed k p l s u where
  chain : (u.core k).chain = none
  nth : ((u.core k).queue 0)[n]? = some { cmd with resumeAt := r }

theorem Entering.closed (e : Entering k n cmd h r p a s u) : Ended k n cmd r p a.landed s (u.closeChain k) where
  toStreamed := e.toStreamed.setCore (q := 0) rfl (.refl _) rfl
  chain := by rw [State.closeChain, State.core_setCore_same]
  nth := by
    rw [State.closeChain, State.core_setCore_same]
    exact e.nth

/-- The slices of a stream have entered. -/
theorem Entering.streamed (hchain : (s.core k).chain = some h) (hn : ((s.core k).queue 0)[n]? = some cmd)
    (hc : isAccAccess cmd.desc = false) (t : Tile) (set : MatrixSet) (sls : List (List Nat)) :
    Entering k n cmd h (cmd.resumeAt + sls.length) (if bit cmd.desc 78 then sls.length else 0)
      ((beginning sls ((owedVectors s k cmd set).drop cmd.resumeAt)).foldl (slide (mxDepth h.shape h.cls)) h.sliding) s
      (s.streamed k t n cmd set sls) := by
  have start : Entering k n cmd h cmd.resumeAt 0 h.sliding s s := ⟨⟨.refl k s, rfl, fun _ => .refl k s⟩, hchain, hn⟩
  unfold State.streamed State.tookSlices
  refine Entering.streamIn hc t sls ?_
  split
  · have taken := start.setPort sls.length
    rw [Nat.zero_add] at taken
    exact taken
  · exact start

/-- The tail of a stream comes by the direct port. -/
theorem Entering.endChain_of_port (e : Entering k n cmd h r p a s u) (hc : isAccAccess cmd.desc = false) {t : Tile}
    (hp : bit h.last.desc 78 = true) {before : List Cmd} (hl : before.any loadsFromPort = false) {tail : List (List Nat)}
    (hs : portSlices (u.core k).port (mxDepth h.shape h.cls - 1 - h.tailIn) true = .ok tail)
    (hn : tail.length = mxDepth h.shape h.cls - 1 - h.tailIn) : ∃ v, endChain u k t before = .done v ∧
      Ended k n cmd r (p + tail.length) ((tail.map (fun sl => (sl, none))).foldl (slide (mxDepth h.shape h.cls)) a).landed s v :=
  ⟨_, Machine.endChain_of_port e.chain hp hl hs hn t, (Entering.feedAll hc t tail (e.setPort tail.length)).closed⟩

/-- The tail of a stream comes from the local store. -/
theorem Entering.endChain_of_rows (e : Entering k n cmd h r p a s u) (hc : isAccAccess cmd.desc = false) {t : Tile}
    (hp : bit h.last.desc 78 = false) (before : List Cmd) (hb : badTailRow s k t h = none) :
    let tail := localSlices s k h.last.desc (field h.last.desc 14 0) (mxDepth h.shape h.cls - 1)
    ∃ v, endChain u k t before = .done v ∧
      Ended k n cmd r p ((tail.map (fun sl => (sl, none))).foldl (slide (mxDepth h.shape h.cls)) a).landed s v := by
  have translates : badTailRow u k t (h.slid a) = none := (badRow_congr e.acted.models _ _ _).trans hb
  intro tail
  refine ⟨_, Machine.endChain_of_rows e.chain hp translates (length_localSlices u k _ _ _).ge before, ?_⟩
  have same : localSlices u k h.last.desc (field h.last.desc 14 0) (mxDepth h.shape h.cls - 1) = tail :=
    localSlices_congr e.acted.mem k _ _ _
  rw [← same]
  exact (Entering.feedAll hc t _ e).closed

/-- The tail of a stream enters from where its slices came, and the chain ends. -/
theorem Entering.tail {q : Nat} (e : Entering k n cmd h r (if bit cmd.desc 78 then q else 0) a s u)
    (hc : isAccAccess cmd.desc = false) (hd : h.last.desc = cmd.desc) {t : Tile} {before : List Cmd} {tail : List (List Nat)}
    (hport : bit cmd.desc 78 = true →
      portSlices ((s.core k).port.drop q) (mxDepth h.shape h.cls - 1 - h.tailIn) true = .ok tail ∧
        tail.length = mxDepth h.shape h.cls - 1 - h.tailIn ∧ before.any loadsFromPort = false)
    (hrows : bit cmd.desc 78 = false →
      tail = localSlices s k cmd.desc (field cmd.desc 14 0) (mxDepth h.shape h.cls - 1) ∧ badTailRow s k t h = none) :
    ∃ v, endChain u k t before = .done v ∧ Ended k n cmd r (if bit cmd.desc 78 then q + tail.length else 0)
      ((tail.map (fun sl => (sl, none))).foldl (slide (mxDepth h.shape h.cls)) a).landed s v := by
  have port := e.port
  rcases hp : bit cmd.desc 78 with _ | _ <;> simp only [hp, if_true, if_false, Bool.false_eq_true] at e port ⊢
  · obtain ⟨rfl, translates⟩ := hrows hp
    rw [← hd] at hp ⊢
    exact e.endChain_of_rows hc hp before translates
  · obtain ⟨slices, length, noLoads⟩ := hport hp
    rw [← hd] at hp
    exact e.endChain_of_port hc hp noLoads (port ▸ slices) length

end Close

/-! ## Turns of a stream -/

/-- What a stream leaves as it was, and what it has let land. -/
theorem Streamed.leaves {k : CoreId} {p : Nat} {l : List (OwedVector × List Nat)} {s s1 u : State} (before : Carried k s s1)
    (e : Streamed k p l s1 u) : (u.core k).stationary = (s1.core k).stationary ∧ (u.core k).g = (s.core k).g ∧ u.mem = s.mem ∧
      (∀ j, j ≠ k → u.core j = s.core j) ∧ (u.core k).port = (s1.core k).port.drop p ∧
      ((s.core k).Quiet → OnlyCore k [Reg.mxeAccStatus k] s1 u ∧
        u.core k = { s1.core k with queues := (u.core k).queues, chain := (u.core k).chain, acc := (u.core k).acc,
                                    port := (u.core k).port } ∧
        (u.core k).acc = (landAll l (s1.core k)).1.acc ∧
        u.reg (Reg.mxeAccStatus k) = s1.reg (Reg.mxeAccStatus k) ||| BitVec.ofNat 64 (landAll l (s1.core k)).2) := by
  have whole := before.toTouched.trans e.toTouched
  refine ⟨by rw [e.core], by rw [whole.core], whole.acted.mem, whole.acted.cores, e.port, fun quiet => ?_⟩
  obtain ⟨only, core, acc, reg⟩ := e.quiet (quiet.of_kept before.queue)
  exact ⟨only, core, acc, reg⟩

/-- Where a stream joins a chain or opens one, what came before it is carried on. -/
theorem Carried.joinChain {s s0 s1 : State} {k : CoreId} {t : Tile} {n : Nat} {cmd : Cmd}
    (hc : continues (s.core k) cmd.desc → s0 = s)
    (hn : ¬ continues (s.core k) cmd.desc → Machine.endChain s k t (((s.core k).queue 0).take n) = .done s0)
    (hs : s1 = (s0.drain k t).joinChain k cmd) : Carried k s s1 := by
  have first : Carried k s s0 := by
    by_cases same : continues (s.core k) cmd.desc
    · rw [hc same]
      exact .refl k s
    · exact (Carried.endChain (hn same)).1
  rw [hs]
  exact (first.trans (Drained.drain s0 k t).carried).trans (.setCore k _ _ _ _)

theorem loads_iff (l : List Cmd) : l.any loadsFromPort = false ↔
    ¬ ∃ x ∈ l, x.open = true ∧ Desc.cmd x.desc = 2 ∧ usesPort x.desc = true := by
  rw [← Bool.not_eq_true, not_iff_not, List.any_eq_true]
  refine exists_congr (fun x => and_congr_right (fun _ => ?_))
  simp only [loadsFromPort, Bool.and_eq_true, beq_iff_eq, and_assoc]

/-- A command that streams acts in its turn. -/
theorem MatrixTurn.streams {s s1 u : State} {k : CoreId} {t : Tile} {n : Nat} {cmd : Cmd} (h : MatrixTurn s k t 1 n cmd)
    (hs : ∀ {v}, streamOn s1 k t n cmd = some v → runMstream s k t n cmd = some v) (hv : streamOn s1 k t n cmd = some u)
    {P : State → Prop} (hP : P u) : Gives (.mstream k) s P :=
  h.gives_event (by omega) (exec_mstream k s) ((runMatrix_stream s k t n h.code).trans (hs hv)) hP

/-- Settles O21: the first slices by `Entering.streamed`, the tail's by `Entering.tail`. -/
theorem matrixStreams : Obligations.MatrixStreams := by
  intro s k t n cmd set d c m quiet loads going tailRows
  refine ⟨fun h hc => ⟨fun rows translate => ?_, fun port ⟨sls, hs, hn⟩ none => ?_⟩,
    fun turn hset s0 s1 h sls hgo hjoin hc hsh hcl hd hq => ?_⟩
  · exact ⟨_, endChain_of_rows hc rows translate (length_localSlices s k _ _ _).ge _⟩
  · exact ⟨_, endChain_of_port hc port ((loads_iff _).2 none) hs hn t⟩
  intro depth left port hsls begun after entered stays ends
  have notAcc : isAccAccess cmd.desc = false := by simp [isAccAccess, turn.code]
  obtain ⟨before, acts⟩ : Carried k s s1 ∧ ∀ {v}, streamOn s1 k t n cmd = some v → runMstream s k t n cmd = some v := by
    by_cases go : going
    · obtain rfl := hgo go
      exact ⟨.refl k s1, (runMstream_of_going go).trans⟩
    · obtain ⟨hs0, hs1⟩ := hjoin go
      have same : continues c d → s0 = s := fun hc => (if_pos hc).mp hs0
      have ended : ¬ continues c d → endChain s k t ((c.queue 0).take n) = .done s0 := fun hc => (if_neg hc).mp hs0
      exact ⟨.joinChain same ended hs1, runMstream_of_joined go same ended hs1⟩
  have setting : (s1.core k).stationary = some set := by
    rw [before.core]
    exact hset
  have found : foundSlices s1 k cmd = .ok sls := by
    unfold foundSlices
    split
    · next port => exact (if_pos port).mp hsls
    · next rows => rw [(if_neg rows).mp hsls]
  have deep : mxDepth h.shape h.cls = depth := by rw [hsh, hcl]
  have streamed := Entering.streamed hc (before.others n cmd turn.at_place notAcc) notAcc t set sls
  rw [deep] at streamed
  have after_nil : after [] = (beginning sls ((owedVectors s1 k cmd set).drop cmd.resumeAt)).foldl (slide depth) h.sliding :=
    congrArg (List.foldl (slide depth) h.sliding) (List.append_nil _)
  have after_tail : ∀ tail, after tail = (tail.map (fun sl => (sl, none))).foldl (slide depth) (after []) := fun tail => by
    rw [after_nil]
    exact List.foldl_append
  rw [← after_nil] at streamed
  have leaves : ∀ tail u, Streamed k (if bit cmd.desc 78 then sls.length + tail.length else 0) (after tail).landed s1 u →
      entered tail u := by
    intro tail u e
    obtain ⟨stationary, g, mem, cores, took, quiet⟩ := e.leaves before
    exact ⟨stationary.trans setting, g, mem, cores, took.trans (apply_ite (fun i => port.drop i) _ _ _), quiet⟩
  refine ⟨fun some_there more => ?_, fun all chains => ?_, fun all single tail htail => ?_⟩
  · exact turn.streams acts (streamOn_waits setting found some_there more) ⟨leaves [] _ streamed.toStreamed,
      ⟨_, streamed.chain, hsh, hcl, rfl, rfl, rfl⟩, ⟨_, streamed.nth, turn.begun, rfl, rfl⟩⟩
  · exact turn.streams acts (streamOn_closes setting found all (closeStream_of_chain chains))
      ⟨leaves [] _ (streamed.toStreamed.executed t n),
        ⟨_, (chain_executed _ k t n).trans streamed.chain, hsh, hcl, rfl, rfl, rfl⟩,
        ⟨_, nth_executed streamed.nth notAcc t, rfl, rfl⟩⟩
  · have kept := any_loadsFromPort_of_kept (List.forall₂_take n (before.queue.trans streamed.queue))
    obtain ⟨v, tailEnds, ended⟩ := streamed.tail (t := t) (tail := tail) notAcc hd
      (fun hp => by
        obtain ⟨hs, hn, none⟩ := (if_pos hp).mp htail
        rw [deep, all]
        exact ⟨hs, hn, kept ((loads_iff _).2 none)⟩)
      (fun hp => by
        obtain ⟨slices, translate⟩ := (if_neg (by rw [← Bool.not_eq_true] at hp; exact hp)).mp htail
        refine ⟨by rw [deep]; exact slices, ?_⟩
        unfold badTailRow
        dsimp only
        rw [hd, hsh, hcl, badRow_congr before.acted.models]
        exact translate)
    rw [deep, ← after_tail] at ended
    exact turn.streams acts (streamOn_closes setting found all (closeStream_of_tail single tailEnds))
      ⟨leaves tail _ (ended.toStreamed.executed t n), (chain_executed _ k t n).trans ended.chain,
        ⟨_, nth_executed ended.nth notAcc t, rfl, rfl⟩⟩

end Sys2Proof

/-! PROOF. A halt that an engine raises for a command (R115, R118). -/

namespace Sys2Proof.Machine

section Halts

variable (s : State) (k : CoreId)

/-- Undefined rows are memory alone. -/
theorem foldl_undefine_frame (ws : List RowWrite) : let u := ws.foldl (fun s w => s.undefine w.row 512) s
    u.cores = s.cores ∧ u.regs = s.regs := by
  induction ws generalizing s with
  | nil => exact ⟨rfl, rfl⟩
  | cons w r ih =>
    obtain ⟨cores, regs⟩ := ih (s.undefine w.row 512)
    exact ⟨cores, regs⟩

theorem State.abandonWrites_frame : (s.abandonWrites k).cores = s.cores ∧ (s.abandonWrites k).regs = s.regs :=
  foldl_undefine_frame _ _

theorem State.core_congr {s u : State} (h : u.cores = s.cores) (j : CoreId) : u.core j = s.core j := by
  rw [State.core, h]
  rfl

theorem State.core_abandonEngines_same :
    (s.abandonEngines k).core k = { s.core k with queues := Vector.replicate 4 [] } := by
  have core := State.core_congr (s.abandonWrites_frame k).1 k
  exact (State.core_setCore_same _ _ _).trans (by rw [core])

theorem State.core_abandonEngines_ne {j : CoreId} (h : j ≠ k) : (s.abandonEngines k).core j = s.core j :=
  (State.core_setCore_ne _ _ _ _ h).trans (State.core_congr (s.abandonWrites_frame k).1 j)

/-- A notification leaves the cores. -/
theorem State.notify_cores (c : ClusterId) (n : Note) : (s.notify c n).1.cores = s.cores := by
  unfold State.notify
  dsimp only
  split <;> rfl

/-- A notification leaves the registers but for the event queue's own. -/
theorem State.reg_notify (c : ClusterId) (n : Note) {o : Nat} (hs : o ≠ Reg.ldgEvqStatus) (hc : o ≠ Reg.ldgEvqOverrunCount) :
    (s.notify c n).1.reg o = s.reg o := by
  unfold State.notify
  dsimp only
  split
  · rfl
  · exact (State.reg_setReg_ne _ _ _ _ hc).trans (State.reg_setReg_ne _ _ _ _ hs)

/-- The halt registers of a core, which lie apart (R118, R399). -/
theorem State.reg_writeHaltRegs (src : HaltSource) (reason detail pc addr : Nat) :
    let u := s.writeHaltRegs k src reason detail pc addr
    u.reg (Reg.ccHaltStatus k) = BitVec.ofNat 64 (src.code * 2 ^ 12 + reason % 256) ∧
      u.reg (Reg.ccHaltDetail k) = BitVec.ofNat 64 (detail % 256) ∧
      u.reg (Reg.ccHaltPc k) = BitVec.ofNat 64 (pc % 2 ^ 18) ∧ u.reg (Reg.ccHaltAddr k) = BitVec.ofNat 64 addr := by
  simp [State.writeHaltRegs, State.reg_setReg, Reg.ccHaltStatus, Reg.ccHaltDetail, Reg.ccHaltPc, Reg.ccHaltAddr]

theorem State.core_writeHaltRegs (src : HaltSource) (reason detail pc addr : Nat) (j : CoreId) :
    (s.writeHaltRegs k src reason detail pc addr).core j = s.core j := rfl

theorem queueSource_code (q : QueueId) : (queueSource q).code = q.val + 1 := by revert q; decide

/-- The halt registers of a core are none of the event queues'. -/
theorem haltRegs_ne (k : CoreId) : ∀ o ∈ [Reg.ccHaltStatus k, Reg.ccHaltDetail k, Reg.ccHaltPc k, Reg.ccHaltAddr k],
    o ≠ Reg.ldgEvqStatus ∧ o ≠ Reg.ldgEvqOverrunCount := by
  intro o ho
  simp only [List.mem_cons, List.not_mem_nil, or_false, Reg.ccHaltStatus, Reg.ccHaltDetail, Reg.ccHaltPc, Reg.ccHaltAddr,
    coreBase, clusterBase] at ho
  simp only [Reg.ldgEvqStatus, Reg.ldgEvqOverrunCount]
  omega

/-- Core k has halted for a command, and no one has been told. -/
def State.haltedFor (q : QueueId) (c : Cmd) (reason addr : Nat) : State :=
  let s1 := (s.abandonEngines k).writeHaltRegs k (queueSource q) reason c.pos c.pc.toNat addr
  s1.setCore k { s1.core k with phase := .halted, haltGate := s.gate, haltKey := c.seq, halting := (s.core k).queues }

theorem State.haltFor_of_active {s : State} {k : CoreId} (h : (s.core k).phase.active = true) (q : QueueId) (c : Cmd)
    (reason addr : Nat) : s.haltFor k q c reason addr = ((s.haltedFor k q c reason addr).notify (clusterFin k) (.halt k)).1 :=
  if_pos h

theorem State.core_haltedFor_same (q : QueueId) (c : Cmd) (reason addr : Nat) : (s.haltedFor k q c reason addr).core k =
    { s.core k with
      queues := Vector.replicate 4 [], phase := .halted, haltGate := s.gate, haltKey := c.seq, halting := (s.core k).queues } := by
  rw [State.haltedFor, State.core_setCore_same, State.core_writeHaltRegs, State.core_abandonEngines_same]

theorem State.core_haltedFor_ne (q : QueueId) (c : Cmd) (reason addr : Nat) {j : CoreId} (h : j ≠ k) :
    (s.haltedFor k q c reason addr).core j = s.core j := by
  rw [State.haltedFor, State.core_setCore_ne _ _ _ _ h, State.core_writeHaltRegs, State.core_abandonEngines_ne _ _ h]

end Halts

end Sys2Proof.Machine

namespace Sys2Proof

open Machine

/-- A core with work halts for a command, with the reason and the address that its engine gives. -/
theorem Halted.haltFor {s v : State} {k : CoreId} (hv : v.cores = s.cores) (active : (s.core k).phase.active = true) (q : QueueId)
    {cmd : Cmd} {reason : Nat} (hpos : cmd.pos < 256) (hreason : reason < 256) (addr : Nat) :
    Halted k (q.val + 1) reason cmd.pos cmd.pc.toNat addr s (v.haltFor k q cmd reason addr) := by
  have run := State.haltFor_of_active (by rw [State.core_congr hv]; exact active) q cmd reason addr
  have core : ∀ j, (v.haltFor k q cmd reason addr).core j = (v.haltedFor k q cmd reason addr).core j := fun j => by
    rw [run]
    exact State.core_congr (State.notify_cores _ _ _) j
  have regs : ∀ o ∈ [Reg.ccHaltStatus k, Reg.ccHaltDetail k, Reg.ccHaltPc k, Reg.ccHaltAddr k],
      (v.haltFor k q cmd reason addr).reg o = (v.haltedFor k q cmd reason addr).reg o := fun o ho => by
    obtain ⟨status, overruns⟩ := haltRegs_ne k o ho
    rw [run, State.reg_notify _ _ _ status overruns]
  obtain ⟨status, detail, pc, address⟩ := (v.abandonEngines k).reg_writeHaltRegs k (queueSource q) reason cmd.pos cmd.pc.toNat addr
  refine ⟨?_, ?_, ?_, ?_, ?_, fun r => ?_, ?_, ?_, ?_, fun j hj => ?_⟩
  · rw [core, State.core_haltedFor_same]
  · rw [regs _ (by simp), State.haltedFor, State.reg_setCore, status, queueSource_code, Nat.mod_eq_of_lt hreason]
  · rw [regs _ (by simp), State.haltedFor, State.reg_setCore, detail, Nat.mod_eq_of_lt hpos]
  · rw [regs _ (by simp), State.haltedFor, State.reg_setCore, pc, Nat.mod_eq_of_lt cmd.pc.isLt]
  · rw [regs _ (by simp), State.haltedFor, State.reg_setCore, address]
  · rw [core, State.core_haltedFor_same]
    exact Vector.getElem_replicate _
  · rw [core, State.core_haltedFor_same, State.core_congr hv]
  · rw [core, State.core_haltedFor_same, State.core_congr hv]
  · rw [core, State.core_haltedFor_same, State.core_congr hv]
  · rw [core, State.core_haltedFor_ne _ _ _ _ _ _ hj, State.core_congr hv]

end Sys2Proof

/-! PROOF. Engine commands begin and complete (R50, R89, R125, R133–R136, R156, R158). -/

namespace Sys2Proof.Machine

/-- The count of images is no count of conversions. -/
theorem convCore_dppImageCount (k : CoreId) : convCore (Reg.dppImageCount (clusterFin k)) = none := by revert k; decide

theorem exec_commandBegin (k : CoreId) (q : QueueId) (s : State) :
    exec (.commandBegin k q) s = ok (s.engineEvent k (beginNext k q)) := rfl
theorem exec_commandComplete (k : CoreId) (q : QueueId) (n : Nat) (s : State) :
    exec (.commandComplete k q n) s = ok (s.engineEvent k (completeNth k q n)) := rfl

/-! ## Chains that are due to end (R50) -/

theorem chainEndIfDue_of_not_due {s : State} {k : CoreId} (h : chainDue (s.core k) = false) : chainEndIfDue s k = s := by
  unfold chainEndIfDue
  dsimp only
  split
  · rfl
  · rw [if_neg (by simp [h])]

theorem chainEndIfDue_of_done {s s1 : State} {k : CoreId} {t : Tile} (ht : (s.core k).tile = some t)
    (h : chainDue (s.core k) = true) (he : endChain s k t (beforeChainEnd (s.core k)) = .done s1) :
    chainEndIfDue s k = s1.drain k t := by
  unfold chainEndIfDue
  simp only [ht, h, he, if_true]

theorem chainDue_of_none {c : Core} (h : c.chain = none) : chainDue c = false := by
  unfold chainDue
  rw [h]

/-! ## Tokens (R135, R136) -/

/-- A core with the tokens of a command's wait consumed. -/
def Core.spend (c : Core) (d : Desc) : Core :=
  if d.wcnt = 0 then c else c.setToken d.wctr (BitVec.ofNat 16 ((c.token d.wctr).toNat - d.wcnt))

theorem takeTokens_eq {c : Core} {q : QueueId} {d : Desc} (h : d.wcnt = 0 ∨ d.wcnt ≤ c.tokensFor q d.wctr) :
    takeTokens c q d = some (c.spend d) := by
  unfold takeTokens Core.spend
  split
  · rfl
  · next some_wait => rw [if_pos (h.resolve_left some_wait)]

theorem Core.spend_core (c : Core) (d : Desc) : c.spend d = { c with tokens := (c.spend d).tokens } := by
  unfold Core.spend
  split <;> rfl

theorem Core.toNat_token_spend (c : Core) (d : Desc) (h : d.wcnt ≠ 0) :
    ((c.spend d).token d.wctr).toNat = (c.token d.wctr).toNat - d.wcnt := by
  rw [Core.spend, if_neg h, Core.token_setToken, if_pos rfl, BitVec.toNat_ofNat]
  exact Nat.mod_eq_of_lt (by omega)

theorem Core.token_spend_ne (c : Core) (d : Desc) {i : Fin 32} (h : i ≠ d.wctr ∨ d.wcnt = 0) :
    (c.spend d).token i = c.token i := by
  unfold Core.spend
  split
  · rfl
  · next some_wait => rw [Core.token_setToken, if_neg (h.resolve_right some_wait)]

/-! ## Turns (R89, R156) -/

theorem State.lodgeTakes_frame (s : State) (c : ClusterId) :
    s.lodgeTakes c = { s with models := (s.lodgeTakes c).models, liftTurn := (s.lodgeTakes c).liftTurn } := by
  unfold State.lodgeTakes
  split <;> rfl

theorem passTurn_frame (s : State) (k : CoreId) (q : QueueId) (d : Desc) : passTurn s k q d =
    { s with dppTurn := (passTurn s k q d).dppTurn, liftTurn := (passTurn s k q d).liftTurn } := by
  unfold passTurn
  split
  · rfl
  · split <;> rfl

theorem Vector.getElem_set_fin {α : Type} {m : Nat} (l : Vector α m) (i j : Fin m) (a : α) :
    (l.set i a)[j] = if j = i then a else l[j] := by
  simp only [Fin.getElem_fin, Vector.getElem_set, Fin.ext_iff, eq_comm]

theorem dppTurn_passTurn (s : State) (k : CoreId) (q : QueueId) (d : Desc) (x : ClusterId) :
    (passTurn s k q d).dppTurn[x] = if q = 3 ∧ x = clusterFin k then k.val % 2 == 0 else s.dppTurn[x] := by
  by_cases hq : q = 3
  · simp only [passTurn, hq, if_true, true_and]
    exact Vector.getElem_set_fin _ _ _ _
  · rw [if_neg (fun h => hq h.1), passTurn, if_neg hq]
    split <;> rfl

theorem liftTurn_passTurn (s : State) (k : CoreId) (q : QueueId) (d : Desc) (x : ClusterId) :
    (passTurn s k q d).liftTurn[x] =
      if q = 2 ∧ d.cmd ≠ 4 ∧ d.unit = true ∧ x = clusterFin k then liftSourceNo k + 1 else s.liftTurn[x] := by
  unfold passTurn
  by_cases hq : q = 3
  · rw [if_pos hq, if_neg (by simp [hq])]
  · rw [if_neg hq]
    by_cases lift : q = 2 ∧ d.cmd ≠ 4 ∧ d.unit = true
    · obtain ⟨two, code, unit⟩ := lift
      simp only [two, code, unit, ne_eq, not_false_eq_true, and_self, if_true, true_and, Vector.getElem_set_fin]
    · rw [if_neg lift, if_neg (fun h => lift ⟨h.1, h.2.1, h.2.2.1⟩)]

/-! ## What begins -/

/-- What a queue's next command finds once a load of the Lodge that goes first has entered (R156). -/
def State.afterLodge (s : State) (k : CoreId) (q : QueueId) : State := if q = 2 then s.lodgeTakes (clusterFin k) else s

theorem State.afterLodge_frame (s : State) (k : CoreId) (q : QueueId) :
    s.afterLodge k q = { s with models := (s.afterLodge k q).models, liftTurn := (s.afterLodge k q).liftTurn } := by
  unfold State.afterLodge
  split
  · exact s.lodgeTakes_frame _
  · rfl

/-- The command that begins, with the parameter row that a DETECT reads. -/
def Cmd.begins (s : State) (k : CoreId) (q : QueueId) (d : Desc) (x : Cmd) : Cmd :=
  { x with phase := .begun, row := if q = 3 then s.detectRowOf k d else [] }

section Begin

variable {s v : State} {k : CoreId} {q : QueueId} {t : Tile} {n : Nat} {cmd : Cmd}

/-- What `beginNext` does for the first waiting command, where its engine can take it and its tokens are there. -/
theorem beginNext_eq (hv : (if q = 0 then chainEndIfDue s k else s.afterLodge k q) = v) (ht : (v.core k).tile = some t)
    (hf : firstIdx (fun x => x.phase == .waiting) ((v.core k).queue q) = some n) (hn : ((v.core k).queue q)[n]? = some cmd)
    (hm : mayBegin v k q n cmd = true)
    (hw : Desc.wcnt cmd.desc = 0 ∨ Desc.wcnt cmd.desc ≤ (v.core k).tokensFor q (Desc.wctr cmd.desc)) :
    beginNext k q s = (beginCheck v k t q cmd.desc).elim
      (passTurn ((v.setCore k ((v.core k).spend cmd.desc)).setCmd k q n (Cmd.begins v k q cmd.desc)) k q cmd.desc)
      (fun e => v.haltFor k q cmd e.1 e.2) := by
  unfold State.afterLodge at hv
  unfold beginNext
  simp only [hv, ht, hf, hn, hm, takeTokens_eq hw, if_true]
  cases beginCheck v k t q cmd.desc <;> rfl

/-- A load of the Lodge that goes first bears on no row that a DETECT reads. -/
theorem Cmd.begins_afterLodge (s : State) (k : CoreId) (q : QueueId) (d : Desc) :
    Cmd.begins (s.afterLodge k q) k q d = Cmd.begins s k q d := by
  unfold State.afterLodge
  split
  · next lift =>
    have other : q ≠ 3 := by simp [lift]
    unfold Cmd.begins
    simp only [if_neg other]
  · rfl

theorem beginNext_start (h : q = 0 → chainDue (s.core k) = false) :
    (if q = 0 then chainEndIfDue s k else s.afterLodge k q) = s.afterLodge k q := by
  split
  · next matrix =>
    rw [chainEndIfDue_of_not_due (h matrix), State.afterLodge, if_neg (by simp [matrix])]
  · rfl

/-! ## What completes -/

/-- A command that completes leaves its queue with the core its post makes, or halts for the reason its post gives. -/
def State.completes (s : State) (k : CoreId) (q : QueueId) (n : Nat) (cmd : Cmd) : Except Nat Core → State
  | .error r => s.haltFor k q cmd r 0
  | .ok c =>
    let u := s.setCore k (c.setQueue q (removeNth n (c.queue q)))
    if q = 3 then u.bump (Reg.dppImageCount (clusterFin k)) 1 else u

/-- A command that has had its effect, with nothing of it under way, completes as its post goes. -/
theorem completeNth_eq (hd : q = 0 → chainDue (s.core k) = false) (hn : ((s.core k).queue q)[n]? = some cmd)
    (hx : cmd.phase = .executed) (hw : s.writesPending k q cmd.seq = false) (ho : owes (s.core k) q cmd = false) :
    completeNth k q n s = s.completes k q n cmd (postTokens (s.core k) cmd.desc) := by
  have start : (if q = 0 then chainEndIfDue s k else s) = s := by
    split
    · next matrix => exact chainEndIfDue_of_not_due (hd matrix)
    · rfl
  unfold completeNth
  simp only [start, hn, hx, hw, ho, beq_self_eq_true, Bool.not_false, Bool.and_self, if_true]
  cases postTokens (s.core k) cmd.desc <;> rfl

end Begin

section Post

variable {c : Core} {d : Desc}

theorem postTokens_add (h : d.pkind = 0) (room : (c.token d.pctr).toNat + d.pcnt ≤ 65535) :
    postTokens c d = .ok (c.setToken d.pctr (BitVec.ofNat 16 ((c.token d.pctr).toNat + d.pcnt))) := by
  unfold postTokens
  dsimp only
  rw [if_pos h, if_neg (by omega)]

theorem postTokens_overflow (h : d.pkind = 0) (beyond : 65535 < (c.token d.pctr).toNat + d.pcnt) :
    postTokens c d = .error 0x05 := by
  unfold postTokens
  dsimp only
  rw [if_pos h, if_pos beyond]

theorem postTokens_sub (h : d.pkind ≠ 0) (enough : d.pcnt ≤ (c.token d.pctr).toNat) :
    postTokens c d = .ok (c.setToken d.pctr (BitVec.ofNat 16 ((c.token d.pctr).toNat - d.pcnt))) := by
  unfold postTokens
  dsimp only
  rw [if_neg h, if_neg (by omega)]

theorem postTokens_underflow (h : d.pkind ≠ 0) (under : (c.token d.pctr).toNat < d.pcnt) : postTokens c d = .error 0x04 := by
  unfold postTokens
  dsimp only
  rw [if_neg h, if_pos under]

end Post

end Sys2Proof.Machine

namespace Sys2Proof

open Machine Laws

/-- An engine's event on a core that has not halted. -/
theorem gives_engineEvent {s u : State} {k : CoreId} (h : (s.core k).phase ≠ .halted) {i : Instr} {f : State → State}
    (hi : exec i s = ok (s.engineEvent k f)) (hf : f s = u) {P : State → Prop} (hP : P u) : Gives i s P :=
  ⟨u, by rw [hi, State.engineEvent_of_live h, hf]; rfl, hP⟩

/-- A chain that is due to end ends before the matrix queue's next command begins. -/
theorem exec_commandBegin_of_due {s s1 : State} {k : CoreId} {t : Tile} (ht : (s.core k).tile = some t)
    (live : (s.core k).phase ≠ .halted) (due : chainDue (s.core k) = true)
    (he : endChain s k t (beforeChainEnd (s.core k)) = .done s1) :
    exec (.commandBegin k 0) s = exec (.commandBegin k 0) (s1.drain k t) := by
  obtain ⟨carried, closed⟩ := Carried.endChain he
  have drained := Drained.drain s1 k t
  have phase : ((s1.drain k t).core k).phase = (s.core k).phase := by rw [(carried.trans drained.carried).core]
  have ended : chainEndIfDue (s1.drain k t) k = s1.drain k t :=
    chainEndIfDue_of_not_due (chainDue_of_none (drained.chain.trans closed))
  have same : beginNext k 0 s = beginNext k 0 (s1.drain k t) := by
    unfold beginNext
    simp only [if_true, chainEndIfDue_of_done ht due he, ended]
  rw [exec_commandBegin, exec_commandBegin, State.engineEvent_of_live live,
    State.engineEvent_of_live (by rw [phase]; exact live), same]

/-- A command has left its queue and posted its tokens. -/
theorem posted_of_setToken {s : State} {k : CoreId} {q : QueueId} (n : Nat) {i : Fin 32} {m : Nat} (hm : m < 65536) :
    let c := (s.core k).setToken i (BitVec.ofNat 16 m)
    let w := s.setCore k (c.setQueue q (removeNth n (c.queue q)))
    let u := if q = 3 then w.bump (Reg.dppImageCount (clusterFin k)) 1 else w
    (u.core k).queue q = removeNth n ((s.core k).queue q) ∧ (∀ r, r ≠ q → (u.core k).queue r = (s.core k).queue r) ∧
      ((u.core k).token i).toNat = m ∧ (∀ j, j ≠ i → (u.core k).token j = (s.core k).token j) ∧
      u.core k = { s.core k with tokens := (u.core k).tokens, queues := (u.core k).queues } ∧
      (∀ j, j ≠ k → u.core j = s.core j) ∧ u = { s with cores := u.cores, deltas := u.deltas, regs := u.regs } ∧
      Counted (if q = 3 then [(Reg.dppImageCount (clusterFin k), 1)] else []) [] s u := by
  intro c w u
  have cores : ∀ j, u.core j = w.core j := fun j => by
    unfold u
    split
    · exact State.core_bump _ _ _ _
    · rfl
  have core : u.core k = c.setQueue q (removeNth n (c.queue q)) := (cores k).trans (State.core_setCore_same _ _ _)
  refine ⟨?_, fun r hr => ?_, ?_, fun j hj => ?_, ?_, fun j hj => ?_, ?_, ?_⟩
  · rw [core, Core.queue_setQueue, if_pos rfl]
    rfl
  · rw [core, Core.queue_setQueue, if_neg hr]
    rfl
  · rw [core]
    exact (congrArg BitVec.toNat ((Core.token_setToken _ i i _).trans (if_pos rfl))).trans (by
      rw [BitVec.toNat_ofNat]
      exact Nat.mod_eq_of_lt hm)
  · rw [core]
    exact (Core.token_setToken _ i j _).trans (if_neg hj)
  · rw [core]
    rfl
  · exact (cores j).trans (State.core_setCore_ne _ _ _ _ hj)
  · unfold u
    split
    · rw [bump_frame]
      rfl
    · rfl
  · have start : Counted [] [] s w := (Counted.refl [] s).of_sameRegs rfl (fun _ _ => rfl) (fun _ h => absurd h List.not_mem_nil)
    unfold u
    split
    · exact start.bump_of_no_conv 1 (convCore_dppImageCount k) List.not_mem_nil List.not_mem_nil
    · exact start

section Begins

variable (s : State) (k : CoreId) (q : QueueId) (n : Nat) (d : Desc) (f : Cmd → Cmd)

/-- A command has begun: its tokens are consumed, and the turn has passed on. -/
def begunState : State :=
  passTurn (((s.afterLodge k q).setCore k ((s.core k).spend d)).setCmd k q n f) k q d

theorem core_afterLodge (j : CoreId) : (s.afterLodge k q).core j = s.core j := by
  rw [State.afterLodge_frame]
  rfl

theorem core_begunState : (begunState s k q n d f).core k =
    ((s.core k).spend d).setQueue q (modifyNth f n ((s.core k).queue q)) := by
  have spent : ((s.core k).spend d).queue q = (s.core k).queue q := by
    rw [Core.spend_core]
    rfl
  rw [begunState, passTurn_frame]
  refine (State.core_setCore_same _ _ _).trans ?_
  rw [State.core_setCore_same, spent]

theorem core_begunState_ne {j : CoreId} (h : j ≠ k) : (begunState s k q n d f).core j = s.core j := by
  rw [begunState, passTurn_frame]
  exact (State.core_setCore_ne _ _ _ _ h).trans ((State.core_setCore_ne _ _ _ _ h).trans (core_afterLodge s k q j))

theorem begunState_frame : begunState s k q n d f = { s.afterLodge k q with
    cores := (begunState s k q n d f).cores, dppTurn := (begunState s k q n d f).dppTurn,
    liftTurn := (begunState s k q n d f).liftTurn } := by
  rw [begunState, passTurn_frame]
  rfl

theorem dppTurn_begunState (x : ClusterId) : (begunState s k q n d f).dppTurn[x] =
    if q = 3 ∧ x = clusterFin k then k.val % 2 == 0 else s.dppTurn[x] := by
  rw [begunState, dppTurn_passTurn, State.afterLodge_frame]
  rfl

theorem liftTurn_begunState (x : ClusterId) : (begunState s k q n d f).liftTurn[x] =
    if q = 2 ∧ d.cmd ≠ 4 ∧ d.unit = true ∧ x = clusterFin k then liftSourceNo k + 1 else (s.afterLodge k q).liftTurn[x] :=
  liftTurn_passTurn _ k q d x

end Begins

/-- Settles O26: what begins by `beginNext_eq`, what completes by `completeNth_eq`, and the halts by `Halted.haltFor`. -/
theorem commandsBeginAndComplete : Obligations.CommandsBeginAndComplete := by
  refine ⟨fun s k q t n cmd => ?_, fun s k q n cmd => ?_⟩
  · intro c d v ht live
    refine ⟨fun s1 due ended => exec_commandBegin_of_due ht live due ended, fun notDue hf hn hm hw => ?_⟩
    have same := core_afterLodge s k q
    have runs := beginNext_eq (t := t) (beginNext_start notDue) (by rw [same]; exact ht) (by rw [same]; exact hf)
      (by rw [same]; exact hn) hm (by rw [same]; exact hw)
    rw [same, Cmd.begins_afterLodge] at runs
    refine ⟨fun passes => ?_, fun e refuses active hpos hreason => ?_⟩
    · have begins : beginNext k q s = begunState s k q n d (Cmd.begins s k q d) := by
        rw [runs]
        exact congrArg (fun r : Option (Nat × Nat) => r.elim _ _) passes
      refine gives_engineEvent live (exec_commandBegin k q s) begins ⟨?_, fun r hr => ?_, fun hw0 => ?_, fun i hi => ?_, ?_,
        fun j hj => core_begunState_ne s k q n d _ hj, begunState_frame s k q n d _, dppTurn_begunState s k q n d _,
        liftTurn_begunState s k q n d _⟩
      · rw [core_begunState, Core.queue_setQueue, if_pos rfl]
        rfl
      · rw [core_begunState, Core.queue_setQueue, if_neg hr, Core.spend_core]
        rfl
      · rw [core_begunState]
        exact Core.toNat_token_spend c d hw0
      · rw [core_begunState]
        exact Core.token_spend_ne c d hi
      · rw [core_begunState, Core.spend_core]
        rfl
    · have halts : beginNext k q s = (s.afterLodge k q).haltFor k q cmd e.1 e.2 := by
        rw [runs]
        exact congrArg (fun r : Option (Nat × Nat) => r.elim _ _) refuses
      refine gives_engineEvent live (exec_commandBegin k q s) halts (.haltFor ?_ active q hpos hreason e.2)
      rw [State.afterLodge_frame]
  · intro c d v live notDue hn hx hw ho posted
    have posts := fun {m : Nat} (hm : m < 65536) (h : postTokens c d = .ok (c.setToken d.pctr (BitVec.ofNat 16 m))) =>
      gives_engineEvent (P := posted m) live (exec_commandComplete k q n s)
        ((completeNth_eq notDue hn hx hw ho).trans (congrArg _ h)) (posted_of_setToken n hm)
    have halts := fun {r : Nat} (h : postTokens c d = .error r) (hr : r < 256) (active : c.phase.active = true)
        (hpos : cmd.pos < 256) =>
      gives_engineEvent (P := Halted k (q.val + 1) r cmd.pos cmd.pc.toNat 0 s) live (exec_commandComplete k q n s)
        ((completeNth_eq notDue hn hx hw ho).trans (congrArg _ h)) (.haltFor rfl active q hpos hr 0)
    have below := (c.token d.pctr).isLt
    exact ⟨fun add room => posts (by omega) (postTokens_add add room),
      fun sub enough => posts (by omega) (postTokens_sub sub enough),
      fun add beyond => halts (postTokens_overflow add beyond) (by decide),
      fun sub under => halts (postTokens_underflow sub under) (by decide)⟩

end Sys2Proof

/-! PROOF. Register operations lane by lane (R67, R71–R81, R96, R130). -/

namespace Sys2Proof.Machine

/-! ## Lanes of a register -/

/-- Lane i of vector register r of a core. -/
def Core.lane (c : Core) (r i : Nat) : W32 := (c.vreg r).getD i 0

/-- The lanes of a register as a list. -/
def lanes (α : Nat → W32) : List W32 := (List.range 256).map α

@[simp] theorem lanes_length (α : Nat → W32) : (lanes α).length = 256 := by simp [lanes]

theorem lanes_congr {α β : Nat → W32} (h : ∀ i, i < 256 → α i = β i) : lanes α = lanes β :=
  List.map_congr_left (fun i hi => h i (List.mem_range.1 hi))

theorem getD_map_range {α : Type} (f : Nat → α) (a : α) {n i : Nat} (h : i < n) : ((List.range n).map f).getD i a = f i := by
  simp [List.getD, h]

theorem getD_lanes (α : Nat → W32) {i : Nat} (h : i < 256) : (lanes α).getD i 0 = α i := getD_map_range α 0 h

theorem lanes_const (v : W32) : lanes (fun _ => v) = List.replicate 256 v := by simp [lanes]

/-- Lane 0 apart from the others. -/
theorem lanes_cons (α : Nat → W32) : lanes α = α 0 :: (List.range 255).map (fun i => α (i + 1)) := by
  simp only [lanes, List.range_succ_eq_map (n := 255), List.map_cons, List.map_map]
  rfl

/-- A lane in the map of a core's lanes; a register has no lane beyond 255. -/
theorem Core.lane_eq (c : Core) (r i : Nat) : c.lane r i = if i < 256 then lookupD 0 c.vregs (256 * r + i) else 0 := by
  unfold Core.lane Core.vreg
  split
  · next h => exact readRun_getD _ _ _ _ _ _ h
  · next h => simp [List.getD, Nat.le_of_not_lt h]

theorem Core.vreg_eq_lanes (c : Core) (r : Nat) : c.vreg r = lanes (c.lane r) := by
  unfold Core.vreg
  rw [readRun_eq]
  exact lanes_congr (fun i hi => by rw [Core.lane_eq, if_pos hi])

/-- The lanes of a core after a list of them is written to a register from lane 0. -/
theorem Core.lane_setLanes (c : Core) {l : List W32} (hl : l.length ≤ 256) (r x i : Nat) :
    (c.setLanes r 0 l).lane x i = if x = r ∧ i < l.length then l.getD i 0 else c.lane x i := by
  rw [Core.lane_eq, Core.lane_eq, Core.setLanes, lookupD_writeRun]
  by_cases inside : x = r ∧ i < l.length
  · obtain ⟨rfl, hi⟩ := inside
    rw [if_pos (by omega), if_pos (by omega), if_pos ⟨rfl, hi⟩]
    congr 1
    omega
  · rw [if_neg inside]
    split
    · rw [if_neg (by omega)]
    · rfl

theorem Core.lane_setVreg (c : Core) (r : Nat) (α : Nat → W32) :
    (c.setVreg r (lanes α)).lane = fun x i => if x = r ∧ i < 256 then α i else c.lane x i := by
  funext x i
  have h := c.lane_setLanes (l := lanes α) (by simp) r x i
  rw [lanes_length] at h
  refine Eq.trans h ?_
  split
  · next inside => exact getD_lanes α inside.2
  · rfl

/-! ## Flags -/

theorem ArithFlags.or_none (a : ArithFlags) : a.or .none = a := by simp [ArithFlags.or, ArithFlags.none]
theorem ArithFlags.none_or (a : ArithFlags) : ArithFlags.none.or a = a := by simp [ArithFlags.or, ArithFlags.none]
theorem ArithFlags.or_assoc (a b c : ArithFlags) : (a.or b).or c = a.or (b.or c) := by simp [ArithFlags.or, Bool.or_assoc]

/-- The scalar of a command in every lane (R130). -/
theorem replicate_scalar (d : Desc) :
    List.replicate 256 (BitVec.ofNat 32 (field d 31 0)) = lanes (fun _ => d.extractLsb' 0 32) := by
  have scalar : BitVec.ofNat 32 (field d 31 0) = d.extractLsb' 0 32 := by
    apply BitVec.eq_of_toNat_eq
    simp [field]
  rw [lanes_const, scalar]

end Sys2Proof.Machine

namespace Sys2Proof

open Machine

/-! ## Operations on registers -/

theorem laneOf_eq (s : State) (k : CoreId) : laneOf s k = (s.core k).lane := rfl

/-- An operation on lists of lanes is a register operation. -/
def Realizes (f : List W32 → List W32 → List W32 → List W32 × ArithFlags) (op : RegOp) : Prop :=
  ∀ α β γ, f (lanes α) (lanes β) (lanes γ) = (lanes (op α β γ).1, (op α β γ).2)

theorem gather_lanes (g : Nat → W32 × ArithFlags) :
    gather ((List.range 256).map g) = (lanes (fun i => (g i).1), allFlags (fun i => (g i).2)) := by
  simp only [gather, lanes, allFlags, List.map_map, List.foldl_map, Function.comp_def]

theorem realizes_lane1 (f : W32 → W32 × ArithFlags) : Realizes (lane1 f) (laneWise (fun x _ _ => f x)) := fun α β γ => by
  have results : (lanes α).map f = (List.range 256).map (fun i => f (α i)) := List.map_map
  rw [lane1, results, gather_lanes, laneWise]

theorem realizes_lane2 (f : W32 → W32 → W32 × ArithFlags) : Realizes (lane2 f) (laneWise (fun x y _ => f x y)) :=
  fun α β γ => by
    have results : List.zipWith f (lanes α) (lanes β) = (List.range 256).map (fun i => f (α i) (β i)) := by
      rw [lanes, lanes, List.zipWith_map, List.zipWith_self]
    rw [lane2, results, gather_lanes, laneWise]

theorem realizes_lane3 (f : W32 → W32 → W32 → W32 × ArithFlags) : Realizes (lane3 f) (laneWise f) := fun α β γ => by
  have results : List.zipWith (fun x (yz : W32 × W32) => f x yz.1 yz.2) (lanes α) (List.zip (lanes β) (lanes γ)) =
      (List.range 256).map (fun i => f (α i) (β i) (γ i)) := by
    rw [lanes, lanes, lanes, List.zip_map', List.zipWith_map, List.zipWith_self]
  rw [lane3, results, gather_lanes, laneWise]

/-- The second source of a run as the lanes of a list. -/
theorem secondSource_lanes (d : Desc) (j : Nat) (c : Core) :
    (if bit d 54 then List.replicate 256 (BitVec.ofNat 32 (field d 31 0)) else c.vreg (d.vb + j)) =
      lanes (secondSource d j c.lane) := by
  unfold secondSource bit
  split
  · exact replicate_scalar d
  · exact c.vreg_eq_lanes _

/-- A run of a register operation, register by register (R67). -/
theorem overRun_lanes {f : List W32 → List W32 → List W32 → List W32 × ArithFlags} {op : RegOp} (h : Realizes f op) (d : Desc)
    (m j : Nat) (c : Core) (fl : ArithFlags) :
    (overRun d f m j c fl).1.lane = (runFile d op m j c.lane).1 ∧
      (overRun d f m j c fl).2 = fl.or (runFile d op m j c.lane).2 := by
  induction m generalizing j c fl with
  | zero => exact ⟨rfl, fl.or_none.symm⟩
  | succ m ih =>
    simp only [overRun, runFile]
    rw [secondSource_lanes, c.vreg_eq_lanes, c.vreg_eq_lanes, h, ← Core.lane_setVreg, ← ArithFlags.or_assoc]
    exact ih _ _ _

/-- A run changes the vector registers alone of its core. -/
theorem overRun_core (d : Desc) (f : List W32 → List W32 → List W32 → List W32 × ArithFlags) (m j : Nat) (c : Core)
    (fl : ArithFlags) : (overRun d f m j c fl).1 = { c with vregs := (overRun d f m j c fl).1.vregs } := by
  induction m generalizing j c fl with
  | zero => rfl
  | succ m ih => exact ih _ _ _

section Run

variable (s : State) (k : CoreId) (cmd : Cmd) (f : List W32 → List W32 → List W32 → List W32 × ArithFlags)

theorem runRegs_core : (runRegs s k cmd f).core k = (overRun cmd.desc f (Desc.run cmd.desc) 0 (s.core k) .none).1 := by
  rw [runRegs, State.stickArith, State.core_stick, State.core_setCore_same]

theorem runRegs_frame : runRegs s k cmd f = { s with cores := (runRegs s k cmd f).cores, regs := (runRegs s k cmd f).regs } := by
  rw [runRegs, State.stickArith, State.stick_frame]
  rfl

theorem Acted.runRegs : Acted k [Reg.vxeArithStatus k] s (runRegs s k cmd f) :=
  (Acted.setCore k _ s _).trans (.stick k _ _ (List.mem_singleton_self _))

variable {f}

theorem laneOf_runRegs {op : RegOp} (h : Realizes f op) :
    laneOf (runRegs s k cmd f) k = (runFile cmd.desc op (Desc.run cmd.desc) 0 (laneOf s k)).1 := by
  rw [laneOf_eq, runRegs_core]
  exact (overRun_lanes h _ _ _ _ _).1

theorem runRegs_status {op : RegOp} (h : Realizes f op) : (runRegs s k cmd f).reg (Reg.vxeArithStatus k) =
    s.reg (Reg.vxeArithStatus k) |||
      BitVec.ofNat 64 (runFile cmd.desc op (Desc.run cmd.desc) 0 (laneOf s k)).2.mask := by
  rw [runRegs, State.stickArith, State.reg_stick_same, State.reg_setCore, (overRun_lanes h _ _ _ _ _).2,
    ArithFlags.none_or]
  rfl

/-- The mark of a command leaves the lanes. -/
theorem laneOf_markExecuted (q : QueueId) (n : Nat) : laneOf (s.markExecuted k q n) k = laneOf s k := by
  rw [laneOf_eq, State.core_markExecuted]
  rfl

theorem RegRun.of_runRegs {op : RegOp} (h : Realizes f op) (n : Nat) :
    RegRun k n cmd op s ((Machine.runRegs s k cmd f).markExecuted k 1 n) := by
  have core := (runRegs_core s k cmd f).trans (overRun_core _ _ _ _ _ _)
  refine ⟨fun r i _ => ?_, ?_, .of_markExecuted 1 n (by rw [core]), ?_,
    ((Acted.runRegs s k cmd f).trans (.markExecuted k _ _ 1 n)).onlyCore ?_⟩
  · rw [laneOf_markExecuted, laneOf_runRegs s k cmd h]
  · rw [State.reg_markExecuted, runRegs_status s k cmd h]
  · rw [OnlyLanes, State.core_markExecuted, core]
    rfl
  · rw [State.markExecuted_deltas, State.markExecuted_writes, runRegs_frame]
    rfl

end Run

section Turn

variable {s : State} {k : CoreId} {t : Tile} {code n : Nat} {cmd : Cmd} (turn : VectorTurn s k t code n cmd) {i : Instr}

include turn

/-- A command of the common layout runs its operation in its turn. -/
theorem VectorTurn.regRun {f : Cmd → List W32 → List W32 → List W32 → List W32 × ArithFlags} {op : RegOp}
    (hi : exec i s = ok (vectorStep k code (fun s _ cmd => runRegs s k cmd (f cmd)) s)) (h : Realizes (f cmd) op) :
    Gives i s (RegRun k n cmd op s) :=
  turn.gives hi (RegRun.of_runRegs s k cmd h n)

theorem VectorTurn.unary {f : Cmd → List W32 → List W32 → List W32 → List W32 × ArithFlags} {g : W32 → W32 × ArithFlags}
    (hi : exec i s = ok (vectorStep k code (fun s _ cmd => runRegs s k cmd (f cmd)) s)) (hf : f cmd = lane1 g) :
    Gives i s (RegRun k n cmd (laneWise (fun x _ _ => g x)) s) :=
  turn.regRun hi (hf ▸ realizes_lane1 g)

theorem VectorTurn.binary {f : Cmd → List W32 → List W32 → List W32 → List W32 × ArithFlags}
    {g : W32 → W32 → W32 × ArithFlags}
    (hi : exec i s = ok (vectorStep k code (fun s _ cmd => runRegs s k cmd (f cmd)) s)) (hf : f cmd = lane2 g) :
    Gives i s (RegRun k n cmd (laneWise (fun x y _ => g x y)) s) :=
  turn.regRun hi (hf ▸ realizes_lane2 g)

theorem VectorTurn.ternary {f : Cmd → List W32 → List W32 → List W32 → List W32 × ArithFlags}
    {g : W32 → W32 → W32 → W32 × ArithFlags}
    (hi : exec i s = ok (vectorStep k code (fun s _ cmd => runRegs s k cmd (f cmd)) s)) (hf : f cmd = lane3 g) :
    Gives i s (RegRun k n cmd (laneWise g) s) :=
  turn.regRun hi (hf ▸ realizes_lane3 g)

end Turn

/-- Settles O15: each operation by the number of its sources, row by row of the table. -/
theorem laneOperations : Obligations.LaneOperations := by
  intro s k t n cmd d F val none' rows
  simp only [rows, List.forall_mem_cons, List.not_mem_nil, false_imp_iff, implies_true, and_true]
  refine ⟨fun h => h.binary rfl rfl, fun h => h.binary rfl rfl, fun h => h.binary rfl rfl, fun h => h.binary rfl rfl,
    fun h => h.binary rfl rfl, fun h => h.binary rfl rfl, fun h => h.unary rfl rfl, fun h => h.unary rfl rfl,
    fun h => h.binary rfl rfl, fun h => h.binary rfl rfl, fun h => h.binary rfl rfl, fun h => h.unary rfl rfl,
    fun h => h.binary rfl rfl, fun h => h.binary rfl rfl, fun h => h.binary rfl rfl, fun h => h.binary rfl rfl,
    fun h => h.unary rfl rfl, fun h => h.binary rfl rfl, fun h => h.ternary rfl rfl, fun h => h.binary rfl rfl,
    fun h => h.binary rfl rfl, fun h => h.binary rfl rfl, fun h => h.binary rfl rfl, fun h => h.binary rfl rfl,
    fun h => h.ternary rfl rfl, fun h => h.binary rfl rfl, fun h => h.binary rfl rfl, fun h => h.unary rfl rfl,
    fun h => h.unary rfl rfl, fun h => h.binary rfl rfl, fun h => h.unary rfl rfl, fun h => h.binary rfl rfl,
    fun h => h.unary rfl rfl, fun h => h.unary rfl rfl, fun h => h.unary rfl rfl, fun h => h.unary rfl rfl,
    fun h => h.unary rfl rfl, fun h => h.unary rfl rfl, fun h => h.unary rfl rfl, fun h => h.unary rfl rfl,
    fun h => h.unary rfl rfl, fun h => h.unary rfl rfl, fun h => h.unary rfl rfl, fun h => h.unary rfl rfl⟩

end Sys2Proof

/-! PROOF. Operations that move lanes or gather them, and CVTI (R67, R71, R78, R80, R96, R130). -/

namespace Sys2Proof.Machine

theorem exec_vBcast (k : CoreId) (s : State) : exec (.vBcast k) s = ok (vectorStep k 0x04 (fun s _ cmd => runRegs s k cmd
    (fun a _ _ => (List.replicate 256 (a.getD (field cmd.desc 7 0) 0), .none))) s) := rfl
theorem exec_vShuf (k : CoreId) (s : State) : exec (.vShuf k) s = ok (vectorStep k 0x05 (fun s _ cmd => runRegs s k cmd
    (fun a b _ => (b.map (fun i => a.getD (i.toNat % 256) 0), .none))) s) := rfl
theorem exec_vRsum (k : CoreId) (s : State) : exec (.vRsum k) s = ok (vectorStep k 0x50 (fun s _ cmd => runRegs s k cmd
    (crossLane cmd.desc fadd (fun l => l.foldl (· + ·) 0))) s) := rfl
theorem exec_vRmax (k : CoreId) (s : State) : exec (.vRmax k) s = ok (vectorStep k 0x51 (fun s _ cmd => runRegs s k cmd
    (crossLane cmd.desc (fun x y => plain (fmax x y)) maxInt)) s) := rfl
theorem exec_vRmin (k : CoreId) (s : State) : exec (.vRmin k) s = ok (vectorStep k 0x52 (fun s _ cmd => runRegs s k cmd
    (crossLane cmd.desc (fun x y => plain (fmin x y)) minInt)) s) := rfl

/-! ## Reductions (R80) -/

/-- A result in lane 0, the other lanes 0 (R80). -/
theorem lane0_cons_zeros (v : W32) : v :: List.replicate 255 0 = lanes (fun i => if i = 0 then v else 0) := by
  have zeros : (List.range 255).map (fun i => if i + 1 = 0 then v else 0) = List.replicate 255 0 := by
    rw [List.map_congr_left (fun i _ => if_neg (Nat.succ_ne_zero i)), List.map_const', List.length_range]
  rw [lanes_cons, if_pos rfl, zeros]

theorem maxInt_lanes (f : W32 → Int) (α : Nat → W32) :
    maxInt ((lanes α).map f) = ((lanes α).map f).foldl max (f (α 0)) := by
  rw [lanes_cons, List.map_cons, maxInt, List.foldl_cons, max_self]

theorem minInt_lanes (f : W32 → Int) (α : Nat → W32) :
    minInt ((lanes α).map f) = ((lanes α).map f).foldl min (f (α 0)) := by
  rw [lanes_cons, List.map_cons, minInt, List.foldl_cons, min_self]

theorem State.countConv_draws (s : State) (k : CoreId) (t : ConvTally) : (s.countConv k t).draws = s.draws := by
  have bump : ∀ (u : State) o n, (u.bump o n).draws = u.draws := fun u o n => by rw [Laws.bump_frame]
  have stick : ∀ (u : State) o m, (u.stick o m).draws = u.draws := fun u o m => by rw [State.stick_frame]
  unfold State.countConv
  dsimp only
  rw [State.setCore_draws, stick, bump, bump, bump]

theorem State.markExecuted_draws (s : State) (k : CoreId) (q : QueueId) (n : Nat) : (s.markExecuted k q n).draws = s.draws := rfl

end Sys2Proof.Machine

namespace Sys2Proof

open Machine

/-- The result of a tree over lanes without flags (R80). -/
def treeResult (f : W32 → W32 → W32 × ArithFlags) (a : List W32) : W32 × ArithFlags :=
  (treeLevels (carrying f) 8 (a.map plain)).headD (0, .none)

/-- The tree of a reduction, written out (R80). -/
theorem headD_treeLevels (f : W32 → W32 → W32 × ArithFlags) (a : List W32) :
    (treeLevels (fun (x y : W32 × ArithFlags) => ((f x.1 y.1).1, (x.2.or y.2).or (f x.1 y.1).2)) 8
      (a.map (fun v => (v, ArithFlags.none)))).headD (0, .none) = treeResult f a := rfl

theorem reduce_eq (f : W32 → W32 → W32 × ArithFlags) (a : List W32) : reduce (carrying f) a =
    (lanes (fun i => if i = 0 then (treeResult f a).1 else 0), (treeResult f a).2) := by
  unfold reduce treeResult
  rcases treeLevels (carrying f) 8 (a.map plain) with _ | ⟨r, rest⟩
  · simp only [List.headD_nil, ite_self, lanes_const]
  · simp only [List.headD_cons, lane0_cons_zeros]

/-- A reduction as a register operation, as the free value of its lanes' type chooses (R80; log 22). -/
theorem realizes_crossLane (d : Desc) (ff : W32 → W32 → W32 × ArithFlags) (fi : List Int → Int) (gi : (Nat → W32) → Int)
    (hi : ∀ α, fi ((lanes α).map d.form.read) = gi α) :
    Realizes (crossLane d ff fi) (fun α _ _ =>
      let r := if Config.crossLaneFloat d = true then treeResult ff (lanes α) else d.form.finish (gi α)
      (fun i => if i = 0 then r.1 else 0, r.2)) := fun α β γ => by
  unfold crossLane
  dsimp only
  split
  · exact reduce_eq ff (lanes α)
  · rw [hi, lane0_cons_zeros]

/-! ## Moves (R71) -/

theorem realizes_broadcast {x : Nat} (hx : x < 256) :
    Realizes (fun a _ _ => (List.replicate 256 (a.getD x 0), .none)) (fun a _ _ => (fun _ => a x, .none)) := fun α _ _ => by
  dsimp only
  rw [getD_lanes α hx, lanes_const]

theorem realizes_shuffle : Realizes (fun a b _ => (b.map (fun i => a.getD (i.toNat % 256) 0), .none))
    (fun a b _ => (fun i => a ((b i).toNat % 256), .none)) := fun α β _ => by
  have taken : (lanes β).map (fun i => (lanes α).getD (i.toNat % 256) 0) = lanes (fun i => α ((β i).toNat % 256)) := by
    rw [lanes.eq_def β, List.map_map]
    exact lanes_congr (fun i _ => getD_lanes α (Nat.mod_lt _ (by decide)))
  simp only [taken]

/-! ## CVTI (R78) -/

theorem exec_vCvti (k : CoreId) (s : State) : exec (.vCvti k) s = ok (vectorStep k 0x3A (fun s _ cmd =>
    (runRegs s k cmd (cvtiLanes cmd.desc)).countConv k ⟨0, 0, cvtiNans cmd.desc (Desc.run cmd.desc) 0 (s.core k), 0⟩) s) := rfl

/-- CVTI as a register operation: a clamp sets ISAT, a NaN gives 0 (R78). -/
def cvtiOp (d : Desc) : RegOp := laneWise (fun x _ _ => ((cvti (d.getLsbD 51) x).1, { isat := (cvti (d.getLsbD 51) x).2.1 }))

theorem realizes_cvtiLanes (d : Desc) : Realizes (cvtiLanes d) (cvtiOp d) := realizes_lane1 _

/-- The NaN lanes of a run of CVTI, each register as it then is. -/
theorem cvtiNans_eq (d : Desc) (m j : Nat) (c : Core) :
    cvtiNans d m j c = runCount d (cvtiOp d) (fun x => (val32 x).isNan) m j c.lane := by
  induction m generalizing j c with
  | zero => rfl
  | succ m ih =>
    have converted := realizes_cvtiLanes d (c.lane (d.va + j)) (secondSource d j c.lane) (c.lane (d.vc + j))
    have written : (cvtiLanes d (lanes (c.lane (d.va + j))) [] []).1 = lanes
        (cvtiOp d (c.lane (d.va + j)) (secondSource d j c.lane) (c.lane (d.vc + j))).1 := congrArg Prod.fst converted
    simp only [cvtiNans, runCount, c.vreg_eq_lanes, written, ih, Core.lane_setVreg]
    rw [lanes, List.filter_map, List.length_map]
    rfl

theorem vxeArithStatus_not_mem_convRegs (k : CoreId) : Reg.vxeArithStatus k ∉ convRegs k := by revert k; decide

/-- A conversion that is counted after registers beside its counts and flags have changed. -/
theorem Converted.after {k : CoreId} {t : ConvTally} {more : List (Nat × Nat)} {offs : List Nat} {s v u : State}
    (h : Converted k t more offs v u) (hr : SameRegs offs s v) (hd : v.deltas = s.deltas)
    (hn : ∀ o ∈ offs, o ∉ (convCounts k t ++ more).map (·.1)) (hs : Reg.vxeConvStatus k ∉ offs)
    (ht : (v.core k).tile = (s.core k).tile) : Converted k t more offs s u := by
  have sent : ∀ l o, sentBy l v o = sentBy l s o := fun l o => by simp only [sentBy, hd]
  have same : ∀ l o, saturates l v u o = saturates l s u o := fun l o => by simp only [saturates, sent]
  obtain ⟨⟨waits, counts, regs⟩, flags, tile⟩ := h
  refine ⟨⟨fun o => by rw [waits, hd], fun e he => ?_, fun o ho => ?_⟩, ?_, ht ▸ tile⟩
  · rw [counts e he, sent, hr e.1 (fun x => hn _ x (List.mem_map_of_mem he))]
  · rw [regs o ho, hr o (fun x => ho (List.mem_append_right _ (List.mem_cons_of_mem _ x)))]
  · rw [flags, hr _ hs, any_congr_of_mem (fun e _ => same _ e.1)]

section Conversion

variable (s : State) (k : CoreId) (cmd : Cmd) (t : ConvTally)
  (f : List W32 → List W32 → List W32 → List W32 × ArithFlags)

theorem Acted.runRegs_countConv :
    Acted k (Reg.vxeArithStatus k :: convRegs k) s ((Machine.runRegs s k cmd f).countConv k t) :=
  ((Acted.runRegs s k cmd f).mono (by simp)).trans (.countConv k _ t (List.subset_cons_self _ _))

theorem runRegs_countConv_core : ((runRegs s k cmd f).countConv k t).core k =
    { s.core k with
      vregs := ((runRegs s k cmd f).core k).vregs
      tile := (s.core k).tile.map (fun x =>
        { x with conv := x.conv + t.conv, clip := x.clip + t.clip, nan := x.nan + t.nan }) } := by
  have core := (runRegs_core s k cmd f).trans (overRun_core _ _ _ _ _ _)
  rw [State.core_countConv, core]

theorem runRegs_countConv_writes : ((runRegs s k cmd f).countConv k t).writes = s.writes := by
  rw [State.countConv_writes, runRegs_frame]

theorem runRegs_countConv_draws : ((runRegs s k cmd f).countConv k t).draws = s.draws := by
  rw [State.countConv_draws, runRegs_frame]

/-- A conversion is counted as the run of its operation leaves the counts (R36, R37). -/
theorem Converted.of_runRegs :
    Converted k t [] [Reg.vxeArithStatus k] s ((Machine.runRegs s k cmd f).countConv k t) := by
  have apart := vxeArithStatus_not_mem_convRegs k
  have core := (runRegs_core s k cmd f).trans (overRun_core _ _ _ _ _ _)
  refine ((Converted.of_countConv k (Machine.runRegs s k cmd f) t).mono (List.nil_subset _)).after
    (Acted.runRegs s k cmd f).regs ?_ ?_ ?_ (by rw [core])
  · rw [runRegs_frame]
  · rw [List.forall_mem_singleton, List.append_nil]
    exact List.not_mem_of_not_mem_cons apart
  · simpa using (List.ne_of_not_mem_cons apart).symm

end Conversion

/-- What a CVTI leaves (R78). -/
theorem VectorTurn.cvti {s : State} {k : CoreId} {t : Tile} {n : Nat} {cmd : Cmd} (h : VectorTurn s k t 0x3A n cmd) :
    let run := runFile cmd.desc (cvtiOp cmd.desc) (Desc.run cmd.desc) 0 (laneOf s k)
    let nans := runCount cmd.desc (cvtiOp cmd.desc) (fun x => (val32 x).isNan) (Desc.run cmd.desc) 0 (laneOf s k)
    Gives (.vCvti k) s (fun u => Executed k 1 n s u ∧ (∀ r i, i < 256 → laneOf u k r i = run.1 r i) ∧
      u.reg (Reg.vxeArithStatus k) = s.reg (Reg.vxeArithStatus k) ||| BitVec.ofNat 64 run.2.mask ∧
      Converted k ⟨0, 0, nans, 0⟩ [] [Reg.vxeArithStatus k] s u ∧
      u.core k = { s.core k with vregs := (u.core k).vregs, queues := (u.core k).queues, tile := (u.core k).tile } ∧
      OnlyCore k (Reg.vxeArithStatus k :: convRegs k) { s with deltas := u.deltas } u) := by
  refine h.gives (exec_vCvti k s) ?_
  rw [cvtiNans_eq, ← laneOf_eq]
  generalize runCount cmd.desc (cvtiOp cmd.desc) _ _ _ _ = nans
  have core := runRegs_countConv_core s k cmd ⟨0, 0, nans, 0⟩ (cvtiLanes cmd.desc)
  refine ⟨.of_markExecuted 1 n (by rw [core]), fun r i _ => ?_, ?_, (Converted.of_runRegs s k cmd _ _).markExecuted 1 n, ?_,
    ((Acted.runRegs_countConv s k cmd _ _).trans (.markExecuted k _ _ 1 n)).onlyCore ?_⟩
  · rw [laneOf_markExecuted, ← laneOf_runRegs s k cmd (realizes_cvtiLanes cmd.desc), laneOf_eq, core]
    rfl
  · rw [State.reg_markExecuted, (Acted.countConv k _ _ (List.Subset.refl _)).regs _ (vxeArithStatus_not_mem_convRegs k),
      runRegs_status s k cmd (realizes_cvtiLanes cmd.desc)]
  · rw [State.core_markExecuted, core]
    rfl
  · rw [State.markExecuted_writes, State.markExecuted_draws, runRegs_countConv_writes, runRegs_countConv_draws]

end Sys2Proof

/-! PROOF. The order of FP32 values, and the extremes of a list of them (R77, R87). -/

namespace Sys2Proof.Machine

/-! ## Values as extended reals -/

/-- The value of a number; NaN stands at 0, and no lemma reads it there. -/
noncomputable def XR.value : XR → EReal
  | .nan => 0
  | .inf s => if s then ⊥ else ⊤
  | .fin s n d => (((signed s n : ℝ) / d : ℝ) : EReal)

/-- A number with a denominator that divides. -/
def XR.Proper : XR → Prop
  | .nan => False
  | .inf _ => True
  | .fin _ _ d => 0 < d

theorem XR.lt_iff {x y : XR} (hx : x.Proper) (hy : y.Proper) : XR.lt x y = true ↔ x.value < y.value := by
  match x, y, hx, hy with
  | .inf a, .inf b, _, _ => cases a <;> cases b <;> simp [XR.lt, XR.value]
  | .inf a, .fin b m e, _, _ => cases a <;> simp [XR.lt, XR.value]
  | .fin a n d, .inf b, _, _ => cases b <;> simp [XR.lt, XR.value]
  | .fin a n d, .fin b m e, hd, he =>
    have hd : (0 : ℝ) < d := Nat.cast_pos.2 hd
    have he : (0 : ℝ) < e := Nat.cast_pos.2 he
    simp only [XR.lt, XR.value, decide_eq_true_eq, EReal.coe_lt_coe_iff, div_lt_div_iff₀ hd he]
    exact_mod_cast Iff.rfl

theorem XR.eqv_iff {x y : XR} (hx : x.Proper) (hy : y.Proper) : XR.eqv x y = true ↔ x.value = y.value := by
  match x, y, hx, hy with
  | .inf a, .inf b, _, _ => cases a <;> cases b <;> simp [XR.eqv, XR.value]
  | .inf a, .fin b m e, _, _ => cases a <;> simp [XR.eqv, XR.value]
  | .fin a n d, .inf b, _, _ => cases b <;> simp [XR.eqv, XR.value]
  | .fin a n d, .fin b m e, hd, he =>
    have hd : (d : ℝ) ≠ 0 := Nat.cast_ne_zero.2 (Nat.ne_of_gt hd)
    have he : (e : ℝ) ≠ 0 := Nat.cast_ne_zero.2 (Nat.ne_of_gt he)
    simp only [XR.eqv, XR.value, decide_eq_true_eq, EReal.coe_eq_coe_iff, div_eq_div_iff hd he]
    exact_mod_cast Iff.rfl

theorem XR.value_of_isZero {x : XR} (h : x.isZero = true) : x.value = 0 := by
  match x, h with
  | .fin s 0 d, _ => cases s <;> simp [XR.value, signed]

theorem XR.isZero_of_value {x : XR} (hx : x.Proper) (h : x.value = 0) : x.isZero = true := by
  match x, hx with
  | .inf s, _ => cases s <;> simp [XR.value] at h
  | .fin s n d, hd =>
    have hd : (d : ℝ) ≠ 0 := Nat.cast_ne_zero.2 (Nat.ne_of_gt hd)
    have num : signed s n = 0 := by simpa [XR.value, hd] using h
    obtain rfl : n = 0 := by
      unfold signed at num
      split at num <;> omega
    rfl

/-- Where a value stands in the order of FMIN and FMAX: by value, −0 below +0 (R77). -/
noncomputable def XR.rank (x : XR) : EReal ×ₗ Bool := toLex (x.value, x.isZero && !x.isNeg)

theorem below_iff {x y : XR} (hx : x.Proper) (hy : y.Proper) : below x y = true ↔ x.rank < y.rank := by
  rw [below, Bool.or_eq_true, XR.lt_iff hx hy, XR.rank, XR.rank, Prod.Lex.toLex_lt_toLex]
  refine or_congr Iff.rfl ⟨fun h => ?_, fun ⟨same, sign⟩ => ?_⟩
  · simp only [Bool.and_eq_true, Bool.not_eq_true'] at h
    obtain ⟨⟨⟨zx, zy⟩, nx⟩, ny⟩ := h
    refine ⟨(XR.value_of_isZero zx).trans (XR.value_of_isZero zy).symm, ?_⟩
    simp [zx, zy, nx, ny]
  · obtain ⟨low, high⟩ := Bool.lt_iff.1 sign
    simp only [Bool.and_eq_true, Bool.not_eq_true'] at high
    obtain ⟨zy, ny⟩ := high
    have zx := XR.isZero_of_value hx (same.trans (XR.value_of_isZero zy))
    simpa [zx, zy, ny] using low

/-! ## The values of FP32 bits -/

theorem XR.proper_dyadic (s : Bool) (n : Nat) (e : Int) : (XR.dyadic s n e).Proper := by
  unfold XR.dyadic
  split
  · exact Nat.one_pos
  · exact Nat.two_pow_pos _

/-- The three kinds of FP32 bits by their magnitude (R18, R19). -/
theorem val32_eq (b : W32) : let s := b.toNat / 2 ^ 31 % 2 == 1
    let mag := b.toNat % 2 ^ 31
    val32 b = if mag = 0x7F800000 then .inf s else if 0x7F800000 < mag then .nan
      else if mag / 2 ^ 23 = 0 then .dyadic s mag (-149)
      else .dyadic s (2 ^ 23 + mag % 2 ^ 23) (-149 + (mag / 2 ^ 23 : Nat) - 1) := rfl

theorem proper_val32 {b : W32} (h : (val32 b).isNan = false) : (val32 b).Proper := by
  have kinds := val32_eq b
  dsimp only at kinds
  rw [kinds] at h ⊢
  split
  · trivial
  · next notInf =>
    rw [if_neg notInf] at h
    split
    · next isNan =>
      rw [if_pos isNan] at h
      cases h
    · split <;> exact XR.proper_dyadic _ _ _

theorem nan32_isNan : (val32 nan32).isNan = true := rfl

theorem XR.isNan_iff {x : XR} : x.isNan = true ↔ x = .nan := by cases x <;> simp [XR.isNan]

/-- Bits without a sign up to those of the infinity are no NaN. -/
theorem isNan_of_le {b : W32} (h : b.toNat ≤ 0x7F800000) : (val32 b).isNan = false := by
  have mag : b.toNat % 2 ^ 31 = b.toNat := Nat.mod_eq_of_lt (by omega)
  have kinds := val32_eq b
  dsimp only at kinds
  rw [kinds, mag]
  split
  · rfl
  · rw [if_neg (by omega)]
    split <;>
    · unfold XR.dyadic
      split <;> rfl

/-- Of the bits without a sign only those of +0 have a value that is not above 0. -/
theorem eq_zero_of_value_nonpos {b : W32} (h : b.toNat ≤ 0x7F800000) (hv : (val32 b).value ≤ 0) : b = 0 := by
  have mag : b.toNat % 2 ^ 31 = b.toNat := Nat.mod_eq_of_lt (by omega)
  have sign : (b.toNat / 2 ^ 31 % 2 == 1) = false := by
    rw [Nat.div_eq_of_lt (by omega)]
    rfl
  have positive : ∀ {n : Nat} {e : Int}, 0 < n → ¬ (XR.dyadic false n e).value ≤ 0 := fun {n e} hn => by
    have hn : (0 : ℝ) < n := Nat.cast_pos.2 hn
    unfold XR.dyadic
    split
    all_goals
      simp only [XR.value, signed, not_le, EReal.coe_pos, Bool.false_eq_true, if_false]
      push_cast
      positivity
  have kinds := val32_eq b
  dsimp only at kinds
  rw [kinds, mag, sign] at hv
  split at hv
  · simp [XR.value] at hv
  · rw [if_neg (by omega)] at hv
    split at hv
    · have zero : b.toNat = 0 := by
        by_contra nonzero
        exact positive (Nat.pos_of_ne_zero nonzero) hv
      exact BitVec.eq_of_toNat_eq zero
    · exact absurd hv (positive (by omega))

/-- The bits of an absolute value have no sign, and stop at those of the infinity (R76). -/
theorem toNat_fabs_le {x : W32} (h : (val32 x).isNan = false) : (fabs x).1.toNat ≤ 0x7F800000 := by
  unfold fabs flagged
  dsimp only
  generalize val32 x = v at h ⊢
  rcases v with _ | s | ⟨s, n, d⟩
  · cases h
  · exact Nat.le_refl _
  · simp only [round32, FloatFmt.withSign, Bool.false_eq_true, if_false, BitVec.toNat_ofNat]
    exact (Nat.mod_le _ _).trans (by omega)

theorem fabs_of_nan {x : W32} (h : (val32 x).isNan = true) : (fabs x).1 = nan32 := by
  simp only [fabs, XR.isNan_iff.1 h]
  rfl

/-! ## Choosing from a list -/

section Choice

variable {α β : Type} [LinearOrder β] {key : α → β} {op : α → α → α} {p : α → Prop}

/-- An operation that keeps the first of two unless the second stands higher finds, of a list, an element that none stands above. -/
theorem foldl_choose (hop : ∀ m x, p m → p x → op m x = if key m < key x then x else m) (l : List α) {m : α} (hm : p m)
    (hl : ∀ x ∈ l, p x) : l.foldl op m ∈ m :: l ∧ ∀ x ∈ m :: l, key x ≤ key (l.foldl op m) := by
  induction l generalizing m with
  | nil => simp
  | cons a l ih =>
    have ha := hl a List.mem_cons_self
    have chosen := hop m a hm ha
    rw [List.foldl_cons]
    have step : p (op m a) ∧ op m a ∈ [m, a] ∧ key m ≤ key (op m a) ∧ key a ≤ key (op m a) := by
      rw [chosen]
      split
      · next lt => exact ⟨ha, by simp, lt.le, le_rfl⟩
      · next ge => exact ⟨hm, by simp, le_rfl, not_lt.1 ge⟩
    obtain ⟨proper, which, first, second⟩ := step
    obtain ⟨found, highest⟩ := ih proper (fun x hx => hl x (List.mem_cons_of_mem _ hx))
    have top := highest _ List.mem_cons_self
    refine ⟨?_, fun x hx => ?_⟩
    · simp only [List.mem_cons, List.not_mem_nil, or_false] at which found ⊢
      rcases found with eq | inside
      · rw [eq]
        exact which.imp_right .inl
      · exact .inr (.inr inside)
    · simp only [List.mem_cons] at hx
      rcases hx with rfl | rfl | inside
      · exact first.trans top
      · exact second.trans top
      · exact highest x (List.mem_cons_of_mem _ inside)

end Choice

/-- An operation that answers NaN for a NaN operand answers it for a list with one. -/
theorem foldl_nan {op : W32 → W32 → W32} (hop : ∀ m x, (val32 m).isNan = true ∨ (val32 x).isNan = true → op m x = nan32)
    (l : List W32) {m : W32} (h : m = nan32 ∨ ∃ x ∈ l, (val32 x).isNan = true) : l.foldl op m = nan32 := by
  induction l generalizing m with
  | nil => simpa using h
  | cons a l ih =>
    refine ih ?_
    rcases h with rfl | ⟨x, hx, isNan⟩
    · exact .inl (hop _ _ (.inl nan32_isNan))
    · rcases List.mem_cons.1 hx with rfl | inside
      · exact .inl (hop _ _ (.inr isNan))
      · exact .inr ⟨x, inside, isNan⟩

/-! ## FMIN, FMAX and FCMP on numbers -/

theorem fmax_of_nan (a b : W32) (h : (val32 a).isNan = true ∨ (val32 b).isNan = true) : fmax a b = nan32 :=
  if_pos (Bool.or_eq_true_iff.2 h)

theorem fmin_of_nan (a b : W32) (h : (val32 a).isNan = true ∨ (val32 b).isNan = true) : fmin a b = nan32 :=
  if_pos (Bool.or_eq_true_iff.2 h)

theorem fmax_eq (a b : W32) (ha : (val32 a).isNan = false) (hb : (val32 b).isNan = false) :
    fmax a b = if (val32 a).rank < (val32 b).rank then b else a := by
  simp only [fmax, ha, hb, Bool.or_self, Bool.false_eq_true, if_false, below_iff (proper_val32 ha) (proper_val32 hb)]

theorem fmin_eq (a b : W32) (ha : (val32 a).isNan = false) (hb : (val32 b).isNan = false) :
    fmin a b = if OrderDual.toDual (val32 a).rank < OrderDual.toDual (val32 b).rank then b else a := by
  simp only [fmin, ha, hb, Bool.or_self, Bool.false_eq_true, if_false, below_iff (proper_val32 hb) (proper_val32 ha),
    OrderDual.toDual_lt_toDual]

theorem fmin_self {a : W32} (h : (val32 a).isNan = false) : fmin a a = a := by
  rw [fmin_eq a a h h, ite_self]

/-- What does not stand above another in the order of FMAX is at most it. -/
theorem fcmp_le_of_rank {a b : W32} (ha : (val32 a).isNan = false) (hb : (val32 b).isNan = false)
    (h : (val32 a).rank ≤ (val32 b).rank) : fcmp 3 a b = true := by
  have le : (val32 a).value ≤ (val32 b).value := by
    rcases Prod.Lex.toLex_le_toLex.1 h with lt | ⟨eq, -⟩
    · exact lt.le
    · exact eq.le
  simp only [fcmp, Bool.or_eq_true, XR.lt_iff (proper_val32 ha) (proper_val32 hb),
    XR.eqv_iff (proper_val32 ha) (proper_val32 hb)]
  exact le.lt_or_eq

theorem rank_negative_zero_lt : (val32 0x80000000).rank < (val32 0).rank :=
  (below_iff (proper_val32 rfl) (proper_val32 rfl)).1 rfl

/-! ## Extremes (R87) -/

theorem extremes_of_nan {l : List W32} (h : ∃ x ∈ l, (val32 x).isNan = true) : extremes l = (nan32, nan32, nan32) := by
  rcases l with _ | ⟨a, r⟩
  · simp at h
  · obtain ⟨x, hx, isNan⟩ := h
    have start : fmin a a = nan32 ∨ ∃ x ∈ r, (val32 x).isNan = true := by
      rcases List.mem_cons.1 hx with rfl | inside
      · exact .inl (fmin_of_nan _ _ (.inl isNan))
      · exact .inr ⟨x, inside, isNan⟩
    have absolute : ((a :: r).map (fun x => (fabs x).1)).foldl fmax 0 = nan32 :=
      foldl_nan fmax_of_nan _ (.inr ⟨_, List.mem_map_of_mem hx, by rw [fabs_of_nan isNan, nan32_isNan]⟩)
    rw [List.foldl_map] at absolute
    simp only [extremes, foldl_nan fmax_of_nan r start, foldl_nan fmin_of_nan r start, absolute]

section Numbers

variable {a : W32} {r : List W32} (numbers : ∀ x ∈ a :: r, (val32 x).isNan = false)

include numbers

/-- The largest of a list: an element that none stands above. -/
theorem extremes_largest : (extremes (a :: r)).1 ∈ a :: r ∧
    ∀ x ∈ a :: r, (val32 x).rank ≤ (val32 (extremes (a :: r)).1).rank := by
  have first := numbers a List.mem_cons_self
  simp only [extremes, fmin_self first]
  exact foldl_choose (key := fun x => (val32 x).rank) fmax_eq r first (fun x hx => numbers x (List.mem_cons_of_mem _ hx))

theorem extremes_smallest : (extremes (a :: r)).2.1 ∈ a :: r ∧
    ∀ x ∈ a :: r, (val32 (extremes (a :: r)).2.1).rank ≤ (val32 x).rank := by
  have first := numbers a List.mem_cons_self
  simp only [extremes, fmin_self first]
  exact foldl_choose (key := fun x => OrderDual.toDual (val32 x).rank) fmin_eq r first
    (fun x hx => numbers x (List.mem_cons_of_mem _ hx))

/-- The absolute maximum of a list is that of an element, and none of them stands above it. -/
theorem extremes_absolute : (∃ x ∈ a :: r, (extremes (a :: r)).2.2 = (fabs x).1) ∧
    ∀ x ∈ a :: r, (val32 (fabs x).1).rank ≤ (val32 (extremes (a :: r)).2.2).rank := by
  have result : (extremes (a :: r)).2.2 = ((a :: r).map (fun x => (fabs x).1)).foldl fmax 0 := by
    rw [List.foldl_map]
    rfl
  have small : ∀ x ∈ a :: r, (fabs x).1.toNat ≤ 0x7F800000 := fun x hx => toNat_fabs_le (numbers x hx)
  have proper : ∀ y ∈ (a :: r).map (fun x => (fabs x).1), (val32 y).isNan = false := by
    rw [List.forall_mem_map]
    exact fun x hx => isNan_of_le (small x hx)
  obtain ⟨found, highest⟩ := foldl_choose (key := fun x => (val32 x).rank) fmax_eq ((a :: r).map (fun x => (fabs x).1))
    (m := 0) rfl proper
  rw [← result] at found highest
  have above : ∀ x ∈ a :: r, (val32 (fabs x).1).rank ≤ (val32 (extremes (a :: r)).2.2).rank := fun x hx =>
    highest _ (List.mem_cons_of_mem _ (List.mem_map_of_mem hx))
  refine ⟨?_, above⟩
  rcases List.mem_cons.1 found with zero | inside
  · refine ⟨a, List.mem_cons_self, ?_⟩
    have low := above a List.mem_cons_self
    rw [zero] at low ⊢
    have nonpos : (val32 (fabs a).1).value ≤ 0 := by
      have origin : (val32 0).value = 0 := XR.value_of_isZero rfl
      rcases Prod.Lex.toLex_le_toLex.1 low with lt | ⟨eq, -⟩
      · exact (origin ▸ lt).le
      · exact (eq.trans origin).le
    exact (eq_zero_of_value_nonpos (small a List.mem_cons_self) nonpos).symm
  · obtain ⟨x, hx, eq⟩ := List.mem_map.1 inside
    exact ⟨x, hx, eq.symm⟩

end Numbers

/-- What holds of the extremes of a list of numbers (R77, R87). -/
theorem extremes_of_numbers {l : List W32} (hl : l ≠ []) (numbers : ∀ x ∈ l, (val32 x).isNan = false) :
    let e := extremes l
    e.1 ∈ l ∧ e.2.1 ∈ l ∧ (∃ x ∈ l, e.2.2 = (fabs x).1) ∧
      (e.1 = 0x80000000 → (0 : W32) ∉ l) ∧ (e.2.1 = 0 → (0x80000000 : W32) ∉ l) ∧
      ∀ x ∈ l, fcmp 3 x e.1 = true ∧ fcmp 3 e.2.1 x = true ∧ fcmp 3 (fabs x).1 e.2.2 = true := by
  obtain ⟨a, r, rfl⟩ := List.exists_cons_of_ne_nil hl
  obtain ⟨large, highest⟩ := extremes_largest numbers
  obtain ⟨small, lowest⟩ := extremes_smallest numbers
  obtain ⟨⟨m, hm, absolute⟩, widest⟩ := extremes_absolute numbers
  have positive : ∀ x ∈ a :: r, (val32 (fabs x).1).isNan = false := fun x hx => isNan_of_le (toNat_fabs_le (numbers x hx))
  refine ⟨large, small, ⟨m, hm, absolute⟩, fun e hz => ?_, fun e hz => ?_, fun x hx => ⟨?_, ?_, ?_⟩⟩
  · exact rank_negative_zero_lt.not_ge (e ▸ highest 0 hz)
  · exact rank_negative_zero_lt.not_ge (e ▸ lowest _ hz)
  · exact fcmp_le_of_rank (numbers x hx) (numbers _ large) (highest x hx)
  · exact fcmp_le_of_rank (numbers _ small) (numbers x hx) (lowest x hx)
  · exact fcmp_le_of_rank (positive x hx) (absolute ▸ positive m hm) (widest x hx)

end Sys2Proof.Machine

/-! PROOF. AMAX and DERIVE, and the settlement of the cross-lane operations (R87, R88, R132). -/

namespace Sys2Proof.Machine

/-! ## Consecutive groups -/

theorem cdiv_of_pos {a b : Nat} (ha : 0 < a) (hb : 0 < b) : cdiv a b = cdiv (a - b) b + 1 := by
  rcases Nat.le_total a b with le | ge
  · rw [Nat.sub_eq_zero_of_le le, cdiv_zero, cdiv_eq_one ha le]
  · rw [← cdiv_add_self hb, Nat.sub_add_cancel ge]

/-- The groups of a list, in their order. -/
theorem chunks256_eq {g : Nat} (hg : 0 < g) (fuel : Nat) {l : List W32} (h : l.length ≤ fuel) :
    runAmax.chunks256 g fuel l = (List.range (cdiv l.length g)).map (fun i => (l.drop (i * g)).take g) := by
  induction fuel generalizing l with
  | zero =>
    rw [List.length_eq_zero_iff.1 (Nat.le_zero.1 h)]
    simp [runAmax.chunks256, cdiv_zero]
  | succ fuel ih =>
    rcases l with _ | ⟨a, r⟩
    · simp [runAmax.chunks256, cdiv_zero]
    · have shorter : ((a :: r).drop g).length ≤ fuel := by
        rw [List.length_drop]
        simp only [List.length_cons] at h ⊢
        omega
      rw [cdiv_of_pos (by simp) hg, List.range_succ_eq_map, List.map_cons, List.map_map, ← List.length_drop]
      simp only [runAmax.chunks256, List.isEmpty_cons, Bool.false_eq_true, if_false, ih shorter, List.drop_drop,
        Nat.zero_mul, List.drop_zero, Function.comp_def, Nat.succ_mul, Nat.add_comm]

theorem groupSize_pos (g : Nat) : 0 < groupSize g := Nat.mul_pos (by decide) (Nat.two_pow_pos g)

/-! ## AMAX (R87) -/

section Amax

variable (s : State) (k : CoreId) (cmd : Cmd)

theorem exec_vAmax (k : CoreId) (s : State) : exec (.vAmax k) s = ok (vectorStep k 0x58 (fun s _ cmd => runAmax s k cmd) s) := rfl

/-- The elements of an AMAX as FP32 lanes, with the flags they raise. -/
def amaxElems : List (W32 × ArithFlags) :=
  let d : Desc := cmd.desc
  let f := field d 37 34
  let sc := field d 33 32
  (unpackRows (fmtBits f) (s.rowsFrom k.val (field d 29 15) (field d 14 0))).zipIdx.map (fun p =>
    amaxLane f sc (field d 45 38) p.1
      (if sc = 0 then 0 else scaleLane s (s.core k) d.va (field d 53 46) (p.2 / groupSize (field d 31 30))))

/-- The extremes of the whole tensor, with those of the registers taken in when the command continues. -/
def amaxTensor : W32 × W32 × W32 :=
  let d : Desc := cmd.desc
  let e := extremes ((amaxElems s k cmd).map (·.1))
  let lane0 := fun r => ((s.core k).vreg r).getD 0 0
  if bit d 54 then (fmax e.1 (lane0 d.vd), fmin e.2.1 (lane0 (d.vd + 1)), fmax e.2.2 (lane0 (d.vd + 2))) else e

/-- The results of an AMAX: of the tensor, or of each group. -/
def amaxOuts : List (W32 × W32 × W32) :=
  let vals := (amaxElems s k cmd).map (·.1)
  if bit cmd.desc 55 then [amaxTensor s k cmd]
  else (runAmax.chunks256 (groupSize (field cmd.desc 31 30)) vals.length vals).map extremes

/-- The results of an AMAX group by group (R87). -/
theorem amaxOuts_groups (h : bit cmd.desc 55 = false) :
    let vals := (amaxElems s k cmd).map (·.1)
    let g := groupSize (field cmd.desc 31 30)
    amaxOuts s k cmd = (List.range (cdiv vals.length g)).map (fun i => extremes ((vals.drop (i * g)).take g)) := by
  unfold amaxOuts
  simp only [h, Bool.false_eq_true, if_false, chunks256_eq (groupSize_pos _) _ (Nat.le_refl _), List.map_map, Function.comp_def]

/-- Three registers take the parts of a list of triples from lane 0. -/
def Core.setTriples (c : Core) (r : Nat) (l : List (W32 × W32 × W32)) : Core :=
  ((c.setLanes r 0 (l.map (·.1))).setLanes (r + 1) 0 (l.map (·.2.1))).setLanes (r + 2) 0 (l.map (·.2.2))

/-- Only vector registers change. -/
theorem Core.setTriples_core (c : Core) (r : Nat) (l : List (W32 × W32 × W32)) :
    c.setTriples r l = { c with vregs := (c.setTriples r l).vregs } := rfl

theorem Core.lane_setTriples (c : Core) (r : Nat) {l : List (W32 × W32 × W32)} (hl : l.length ≤ 256) (x i : Nat) :
    (c.setTriples r l).lane x i =
      if i < l.length ∧ x = r then (l.getD i (0, 0, 0)).1 else if i < l.length ∧ x = r + 1 then (l.getD i (0, 0, 0)).2.1
      else if i < l.length ∧ x = r + 2 then (l.getD i (0, 0, 0)).2.2 else c.lane x i := by
  have short : ∀ p : W32 × W32 × W32 → W32, (l.map p).length ≤ 256 := fun p => by rwa [List.length_map]
  have part : ∀ (p : W32 × W32 × W32 → W32), p (0, 0, 0) = 0 → (l.map p).getD i 0 = p (l.getD i (0, 0, 0)) := fun p hp => by
    conv_lhs => rw [← hp]
    exact List.getD_map l (0, 0, 0) p
  unfold Core.setTriples
  simp only [Core.lane_setLanes _ (short _), List.length_map, part (·.1) rfl, part (·.2.1) rfl, part (·.2.2) rfl]
  by_cases inside : i < l.length
  · simp only [inside, and_true, true_and]
    by_cases first : x = r
    · simp [first]
    · by_cases second : x = r + 1 <;> simp [first, second]
  · simp [inside]

theorem runAmax_eq : runAmax s k cmd =
    ((s.setCore k ((s.core k).setTriples (Desc.vd cmd.desc) (amaxOuts s k cmd))).stickArith k
      ((amaxElems s k cmd).foldl (fun a r => a.or r.2) .none)).spendScales := rfl

theorem runAmax_core : (runAmax s k cmd).core k =
    (s.core k).setTriples (Desc.vd cmd.desc) (amaxOuts s k cmd) := by
  rw [runAmax_eq, State.core_spendScales, State.stickArith, State.core_stick, State.core_setCore_same]

theorem runAmax_status : (runAmax s k cmd).reg (Reg.vxeArithStatus k) = s.reg (Reg.vxeArithStatus k) |||
    BitVec.ofNat 64 ((amaxElems s k cmd).foldl (fun a r => a.or r.2) ArithFlags.none).mask := by
  rw [runAmax_eq, State.reg_spendScales, State.stickArith, State.reg_stick_same, State.reg_setCore]

theorem runAmax_deltas : (runAmax s k cmd).deltas = s.deltas := by
  rw [runAmax_eq, State.spendScales_deltas, State.stickArith, State.stick_deltas, State.setCore_deltas]

theorem runAmax_writes : (runAmax s k cmd).writes = s.writes := by
  rw [runAmax_eq, State.spendScales_writes, State.stickArith, State.stick_writes, State.setCore_writes]

end Amax

/-! ## DERIVE (R88) -/

section Derive

variable (s : State) (k : CoreId) (cmd : Cmd)

theorem exec_vDerive (k : CoreId) (s : State) : exec (.vDerive k) s = ok (vectorStep k 0x59 (fun s _ cmd => runDerive s k cmd) s) := rfl

/-- Two registers take a list each from lane 0. -/
def Core.setPair (c : Core) (r : Nat) (l m : List W32) : Core := (c.setLanes r 0 l).setLanes (r + 1) 0 m

/-- Only vector registers change. -/
theorem Core.setPair_core (c : Core) (r : Nat) (l m : List W32) :
    c.setPair r l m = { c with vregs := (c.setPair r l m).vregs } := rfl

theorem Core.lane_setPair (c : Core) (r : Nat) {l m : List W32} (hl : l.length ≤ 256) (hm : m.length = l.length) (x i : Nat) :
    (c.setPair r l m).lane x i = if i < l.length ∧ x = r then l.getD i 0
      else if i < l.length ∧ x = r + 1 then m.getD i 0 else c.lane x i := by
  unfold Core.setPair
  rw [Core.lane_setLanes _ (hm ▸ hl), Core.lane_setLanes _ hl, hm]
  by_cases inside : i < l.length
  · simp only [inside, and_true, true_and]
    by_cases first : x = r <;> simp [first]
  · simp [inside]

/-- A DERIVE writes its scale codes to one register and their values to the next. -/
def State.setScales (codes values : List W32) : State :=
  s.setCore k ((s.core k).setPair (Desc.vd cmd.desc) codes values)

theorem map_lanes (α : Nat → W32) (g : W32 → W32) : (lanes α).map g = lanes (fun i => g (α i)) := List.map_map

theorem runDerive_e8m0 (h : field cmd.desc 63 62 = 0) :
    let code := fun i => BitVec.ofNat 32 (deriveE8M0 (field cmd.desc 60 57) (bit cmd.desc 61)
      (val32 ((s.core k).lane (Desc.va cmd.desc + 2) i)))
    runDerive s k cmd = s.setScales k cmd (lanes code) (lanes (fun i => round32 (decodeScale 1 (code i).toNat))) := by
  unfold runDerive State.setScales Core.setPair
  simp only [if_pos h, Core.vreg_eq_lanes, map_lanes]

theorem runDerive_bf16 (h : field cmd.desc 63 62 = 1) : runDerive s k cmd = s.setScales k cmd (lanes (fun _ => 0))
    (lanes (fun i => round32 (decodeScale 2 (deriveBF16 (field cmd.desc 60 57)
      (val32 ((s.core k).lane (Desc.va cmd.desc + 2) i)))))) := by
  have other : field cmd.desc 63 62 ≠ 0 := by omega
  unfold runDerive State.setScales Core.setPair
  simp only [if_neg other, if_pos h, Core.vreg_eq_lanes, map_lanes, lanes_const]

theorem runDerive_u8 (h0 : field cmd.desc 63 62 ≠ 0) (h1 : field cmd.desc 63 62 ≠ 1) :
    let zs := deriveU8 (val32 (((s.core k).vreg (Desc.va cmd.desc)).getD 0 0))
      (val32 (((s.core k).vreg (Desc.va cmd.desc + 1)).getD 0 0))
    runDerive s k cmd = s.setScales k cmd [BitVec.ofNat 32 zs.2] [round32 (decodeScale 2 zs.1)] := by
  unfold runDerive State.setScales Core.setPair
  simp only [if_neg h0, if_neg h1]

end Derive

end Sys2Proof.Machine

namespace Sys2Proof

open Machine

theorem Acted.runAmax (s : State) (k : CoreId) (cmd : Cmd) : Acted k [Reg.vxeArithStatus k] s (runAmax s k cmd) := by
  rw [runAmax_eq]
  exact ((Acted.setCore k _ s _).trans (.stick k _ _ (List.mem_singleton_self _))).trans (.spendScales k _ _)

/-- What an AMAX leaves that writes so many triples (R87). -/
theorem VectorTurn.amax {s : State} {k : CoreId} {t : Tile} {n : Nat} {cmd : Cmd} (h : VectorTurn s k t 0x58 n cmd)
    {count : Nat} {out : Nat → W32 × W32 × W32} (hl : (amaxOuts s k cmd).length = count) (hc : count ≤ 256)
    (ho : ∀ i, i < count → (amaxOuts s k cmd).getD i (0, 0, 0) = out i) : Gives (.vAmax k) s (fun u =>
      Executed k 1 n s u ∧ OnlyLanes k s u ∧ OnlyCore k [Reg.vxeArithStatus k] { s with draws := u.draws } u ∧
      u.reg (Reg.vxeArithStatus k) = s.reg (Reg.vxeArithStatus k) |||
        BitVec.ofNat 64 ((amaxElems s k cmd).foldl (fun a r => a.or r.2) ArithFlags.none).mask ∧
      ∀ r i, i < 256 → laneOf u k r i =
        if i < count ∧ r = Desc.vd cmd.desc then (out i).1 else if i < count ∧ r = Desc.vd cmd.desc + 1 then (out i).2.1
        else if i < count ∧ r = Desc.vd cmd.desc + 2 then (out i).2.2 else laneOf s k r i) := by
  subst hl
  have core := (runAmax_core s k cmd).trans (Core.setTriples_core _ _ _)
  refine h.gives (exec_vAmax k s) ⟨.of_markExecuted 1 n (by rw [core]), ?_,
    ((Acted.runAmax s k cmd).trans (.markExecuted k _ _ 1 n)).onlyCore ?_, ?_, fun r i _ => ?_⟩
  · rw [OnlyLanes, State.core_markExecuted, core]
    rfl
  · rw [State.markExecuted_deltas, State.markExecuted_writes, runAmax_deltas, runAmax_writes]
  · rw [State.reg_markExecuted, runAmax_status]
  · rw [laneOf_markExecuted, laneOf_eq, runAmax_core, Core.lane_setTriples _ _ hc]
    by_cases inside : i < (amaxOuts s k cmd).length
    · rw [ho i inside]
      rfl
    · simp only [inside, false_and, if_false]
      rfl

/-- What a DERIVE leaves that writes so many codes and values (R88). -/
theorem VectorTurn.derive {s : State} {k : CoreId} {t : Tile} {n : Nat} {cmd : Cmd} (h : VectorTurn s k t 0x59 n cmd)
    {codes values : List W32} (run : runDerive s k cmd = s.setScales k cmd codes values) (hl : codes.length ≤ 256)
    (hm : values.length = codes.length) : Gives (.vDerive k) s (fun u =>
      (Executed k 1 n s u ∧ OnlyLanes k s u ∧ OnlyCore k [] s u) ∧ ∀ r i, laneOf u k r i =
        if i < codes.length ∧ r = Desc.vd cmd.desc then codes.getD i 0
        else if i < codes.length ∧ r = Desc.vd cmd.desc + 1 then values.getD i 0 else laneOf s k r i) := by
  have written : (runDerive s k cmd).core k = (s.core k).setPair (Desc.vd cmd.desc) codes values := by
    rw [run, State.setScales, State.core_setCore_same]
  have core := written.trans (Core.setPair_core _ _ _ _)
  refine h.gives (exec_vDerive k s) ⟨⟨.of_markExecuted 1 n (by rw [core]), ?_, ?_⟩, fun r i => ?_⟩
  · rw [OnlyLanes, State.core_markExecuted, core]
    rfl
  · rw [run]
    exact ((Acted.setCore k _ s _).trans (.markExecuted k _ _ 1 n)).onlyCore rfl
  · rw [laneOf_markExecuted, laneOf_eq, written, Core.lane_setPair _ _ hl hm]
    rfl

/-- Settles O17: moves, reductions and CVTI as register operations; extremes by the order of FMIN and FMAX; AMAX by the groups of its
elements, DERIVE mode by mode. -/
theorem crossLaneOperations : Obligations.CrossLaneOperations := by
  have lists : ∀ α : Nat → W32, (List.range 256).map α = lanes α := fun _ => rfl
  refine ⟨fun s k t n cmd => ?_, ⟨fun l hl => ⟨extremes_of_nan, extremes_of_numbers hl⟩, fun s k t n cmd => ?_⟩⟩
  · simp only [lists, headD_treeLevels]
    refine ⟨fun h => ?_, fun h => ?_, fun h => ?_, fun h => ?_, fun h => ?_, fun h => h.cvti⟩
    · exact h.regRun (exec_vBcast k s) (realizes_broadcast (Nat.mod_lt _ (by decide)))
    · exact h.regRun (exec_vShuf k s) realizes_shuffle
    · refine h.regRun (exec_vRsum k s) (realizes_crossLane _ _ _ _ (fun α => ?_))
      rw [List.sum_eq_foldl]
    · exact h.regRun (exec_vRmax k s) (realizes_crossLane _ _ _ _ (maxInt_lanes _))
    · exact h.regRun (exec_vRmin k s) (realizes_crossLane _ _ _ _ (minInt_lanes _))
  · intro d c f sc group lane0 codes vals e kept ef wrote derived
    have count : vals.length = ((amaxElems s k cmd).map (·.1)).length := List.length_map _ |>.symm
    refine ⟨fun h whole => ?_, fun h grouped short => ?_, fun h => ⟨fun mode => ?_, fun mode => ?_, fun mode => ?_⟩⟩
    · have outs : amaxOuts s k cmd = [amaxTensor s k cmd] := if_pos whole
      refine h.amax (by rw [outs]; rfl) (by decide) (fun i hi => ?_)
      obtain rfl : i = 0 := by omega
      rw [outs]
      rfl
    · have outs := amaxOuts_groups s k cmd grouped
      refine h.amax (by rw [outs, List.length_map, List.length_range, ← count]) short (fun i hi => ?_)
      rw [outs, ← count, getD_map_range _ _ hi]
      rfl
    · obtain ⟨u, run, same, written⟩ := h.derive (runDerive_e8m0 s k cmd mode) (by simp) (by simp)
      refine ⟨u, run, same, fun r i hi => ?_⟩
      rw [written, lanes_length, getD_lanes _ hi, getD_lanes _ hi]
      simp only [hi, true_and]
      rfl
    · obtain ⟨u, run, same, written⟩ := h.derive (runDerive_bf16 s k cmd mode) (by simp) (by simp)
      refine ⟨u, run, same, fun r i hi => ?_⟩
      rw [written, lanes_length, getD_lanes _ hi, getD_lanes _ hi]
      simp only [hi, true_and]
      rfl
    · have other : field cmd.desc 63 62 = 2 := mode
      obtain ⟨u, run, same, written⟩ :=
        h.derive (runDerive_u8 s k cmd (by omega) (by omega)) (by simp) (by simp)
      refine ⟨u, run, same, fun r i _ => ?_⟩
      rw [written, List.length_singleton]
      simp only [Nat.lt_one_iff]
      by_cases first : i = 0
      · subst first
        rfl
      · simp only [first, false_and, if_false]

end Sys2Proof

/-! PROOF. The window path (R83–R86, R132). -/

namespace Sys2Proof.Machine

/-! ## Sums of integer products (R85) -/

theorem signed_natAbs (v : Int) : signed (decide (v < 0)) v.natAbs = v := by
  unfold signed
  by_cases h : v < 0 <;> simp only [h, decide_true, decide_false, if_true, if_false, Bool.false_eq_true] <;> omega

theorem signed_mul (a b : Bool) (n m : Nat) : signed (a != b) (n * m) = signed a n * signed b m := by
  cases a <;> cases b <;> simp [signed]

/-- The exact product of two integers. -/
theorem ofInt_mul_ofInt (a b : Int) :
    ∃ s n, (XR.ofInt a).mul (XR.ofInt b) = .fin s n 1 ∧ signed s n = a * b :=
  ⟨_, _, rfl, by rw [signed_mul, signed_natAbs, signed_natAbs]⟩

theorem foldl_max_ones (n : Nat) : (List.replicate n 1).foldl max 1 = 1 := by
  induction n with
  | zero => rfl
  | succ n ih => exact ih

/-- The exact sum of integers. -/
theorem sum_of_integers (l : List (Bool × Nat)) : let v := (l.map (fun p => signed p.1 p.2)).sum
    XR.sum (l.map (fun p => .fin p.1 p.2 1)) = .fin (decide (v < 0)) v.natAbs 1 := by
  intro v
  have noNan : (l.map (fun p => XR.fin p.1 p.2 1)).any XR.isNan = false := by simp [List.any_map, XR.isNan]
  have noInf : ∀ q : XR → Bool, (l.map (fun p => XR.fin p.1 p.2 1)).any (fun x => x.isInf && q x) = false := fun q => by
    simp [List.any_map, XR.isInf]
  have value : v = (l.map (fun p => signed p.1 p.2)).foldl (· + ·) 0 := List.sum_eq_foldl
  unfold XR.sum
  simp only [noNan, noInf, Bool.false_eq_true, Bool.and_self, if_false, List.map_map, Function.comp_def, List.map_const',
    foldl_max_ones, Nat.div_self Nat.one_pos, Nat.cast_one, mul_one, value]

/-- With integers a sum of products is exact (R85). -/
theorem windowSum_of_integers {f : Nat} (hf : fmtInt f = true) (xs : List (Int × Int)) :
    windowSum f (xs.map (fun p => (XR.ofInt p.1, XR.ofInt p.2))) =
      plain (BitVec.ofInt 32 ((xs.map (fun p => p.1 * p.2)).sum)) := by
  obtain ⟨l, products, values⟩ : ∃ l : List (Bool × Nat),
      xs.map (fun p => (XR.ofInt p.1).mul (XR.ofInt p.2)) = l.map (fun p => .fin p.1 p.2 1) ∧
      xs.map (fun p => p.1 * p.2) = l.map (fun p => signed p.1 p.2) := by
    induction xs with
    | nil => exact ⟨[], rfl, rfl⟩
    | cons p r ih =>
      obtain ⟨l, products, values⟩ := ih
      obtain ⟨s, m, product, value⟩ := ofInt_mul_ofInt p.1 p.2
      exact ⟨(s, m) :: l, by rw [List.map_cons, product, products, List.map_cons],
        by rw [List.map_cons, ← value, values, List.map_cons]⟩
  unfold windowSum
  simp only [hf, if_true, List.map_map, Function.comp_def, products, sum_of_integers, values, signed_natAbs]

/-! ## Geometry and weights (R84) -/

theorem exec_vWgeom (k : CoreId) (s : State) : exec (.vWgeom k) s = ok (vectorStep k 0x60 (fun s _ cmd =>
    s.setCore k { s.core k with wgeom := some (cmd.desc.extractLsb' 0 64) }) s) := rfl

/-- The core after a WLOAD: rows of the weight buffer and their marks. -/
def loadedWeights (s : State) (k : CoreId) (d : Desc) : Core :=
  let c := s.core k
  let n := field d 63 57 + 1
  let b := field d 56 50
  { c with
    wbuf := writeRun 0 c.wbuf (512 * b) (s.rowsFrom k.val (field d 29 15) n)
    wrows := c.wrows ++ ((List.range n).map (b + ·)).filter (fun r => !c.wrows.contains r) }

theorem exec_vWload (k : CoreId) (s : State) : exec (.vWload k) s = ok (vectorStep k 0x61 (fun s _ cmd =>
    s.setCore k (loadedWeights s k cmd.desc)) s) := rfl

section Weights

variable (s : State) (k : CoreId) (d : Desc)

theorem loadedWeights_wbuf (x : Nat) : lookupD 0 (loadedWeights s k d).wbuf x =
    if 512 * field d 56 50 ≤ x ∧ x < 512 * (field d 56 50 + (field d 63 57 + 1))
    then s.byteAt (rowAddr k (field d 29 15) + (x - 512 * field d 56 50)) else lookupD 0 (s.core k).wbuf x := by
  have written := lookupD_writeRun 0 (s.core k).wbuf (512 * field d 56 50) x
    (s.rowsFrom k (field d 29 15) (field d 63 57 + 1))
  simp only [State.rowsFrom, State.rd, readRun_length, ← Nat.mul_add] at written
  refine written.trans ?_
  split
  · exact readRun_getD _ _ _ _ _ _ (by omega)
  · rfl

theorem mem_loadedWeights_wrows (r : Nat) : r ∈ (loadedWeights s k d).wrows ↔
    r ∈ (s.core k).wrows ∨ (field d 56 50 ≤ r ∧ r < field d 56 50 + (field d 63 57 + 1)) := by
  have fresh : r ∈ (List.range (field d 63 57 + 1)).map (field d 56 50 + ·) ↔
      field d 56 50 ≤ r ∧ r < field d 56 50 + (field d 63 57 + 1) := by
    rw [List.mem_map]
    constructor
    · rintro ⟨i, hi, rfl⟩
      rw [List.mem_range] at hi
      omega
    · exact fun h => ⟨r - field d 56 50, List.mem_range.2 (by omega), by omega⟩
  simp only [loadedWeights, List.mem_append, List.mem_filter, fresh, Bool.not_eq_true', List.contains_eq_mem,
    decide_eq_false_iff_not]
  tauto

end Weights

/-! ## Windows (R83, R85) -/

/-- The lanes that a window command writes, and their flags. -/
def windowResult (d : Desc) (lanes : Nat → List (W32 × ArithFlags)) : List W32 × ArithFlags :=
  gather ((List.range (windowPositions d)).flatMap lanes)

section Window

variable {s : State} {k : CoreId} {g : W64} (hg : (s.core k).wgeom = some g) (cmd : Cmd)
  (lanes : W64 → Nat → List (W32 × ArithFlags))

include hg

theorem runWindow_eq : runWindow s k cmd lanes =
    (s.setCore k ((s.core k).setLanes (Desc.vd cmd.desc) 0 (windowResult cmd.desc (lanes g)).1)).stickArith k
      (windowResult cmd.desc (lanes g)).2 := by
  unfold runWindow
  simp only [hg]
  rfl

theorem runWindow_core : (runWindow s k cmd lanes).core k =
    { s.core k with vregs := writeRun 0 (s.core k).vregs (256 * Desc.vd cmd.desc) (windowResult cmd.desc (lanes g)).1 } := by
  rw [runWindow_eq hg, State.stickArith, State.core_stick, State.core_setCore_same]
  rfl

theorem runWindow_status : (runWindow s k cmd lanes).reg (Reg.vxeArithStatus k) =
    s.reg (Reg.vxeArithStatus k) ||| BitVec.ofNat 64 (windowResult cmd.desc (lanes g)).2.mask := by
  rw [runWindow_eq hg, State.stickArith, State.reg_stick_same, State.reg_setCore]

theorem runWindow_frame :
    runWindow s k cmd lanes = { s with cores := (runWindow s k cmd lanes).cores, regs := (runWindow s k cmd lanes).regs } := by
  rw [runWindow_eq hg, State.stickArith, State.stick_frame]
  rfl

end Window

end Sys2Proof.Machine

namespace Sys2Proof

open Machine

section Turn

variable {s : State} {k : CoreId} {t : Tile} {code n : Nat} {cmd : Cmd} (turn : VectorTurn s k t code n cmd) {i : Instr}

include turn

/-- A command of the vector queue that sets its core. -/
theorem VectorTurn.setsCore {f : State → Cmd → Core}
    (hi : exec i s = ok (vectorStep k code (fun s _ cmd => s.setCore k (f s cmd)) s))
    (hq : (f s cmd).queues = (s.core k).queues) : Gives i s (fun u => (OnlyCore k [] s u ∧ Executed k 1 n s u) ∧
      u.core k = { f s cmd with queues := (u.core k).queues }) := by
  have core : (s.setCore k (f s cmd)).core k = f s cmd := State.core_setCore_same _ _ _
  refine turn.gives hi ⟨⟨((Acted.setCore k _ s _).trans (.markExecuted k _ _ 1 n)).onlyCore rfl,
    .of_markExecuted 1 n (by rw [core, hq])⟩, ?_⟩
  rw [State.core_markExecuted, core]
  rfl

/-- What a window command leaves, with the geometry g (R83, R96). -/
theorem VectorTurn.window {g : W64} (hg : (s.core k).wgeom = some g) {lanes : State → Cmd → W64 → Nat → List (W32 × ArithFlags)}
    (hi : exec i s = ok (vectorStep k code (fun s _ cmd => runWindow s k cmd (lanes s cmd)) s)) :
    let res := windowResult cmd.desc (lanes s cmd g)
    Gives i s (fun u => OnlyCore k [Reg.vxeArithStatus k] s u ∧ Executed k 1 n s u ∧ OnlyLanes k s u ∧
      u.reg (Reg.vxeArithStatus k) = s.reg (Reg.vxeArithStatus k) ||| BitVec.ofNat 64 res.2.mask ∧
      ∀ x, lookupD 0 (u.core k).vregs x =
        if 256 * Desc.vd cmd.desc ≤ x ∧ x < 256 * Desc.vd cmd.desc + res.1.length
        then res.1.getD (x - 256 * Desc.vd cmd.desc) 0 else lookupD 0 (s.core k).vregs x) := by
  have core := runWindow_core hg cmd (lanes s cmd)
  have acted : Acted k [Reg.vxeArithStatus k] s (runWindow s k cmd (lanes s cmd)) := by
    rw [runWindow_eq hg]
    exact (Acted.setCore k _ s _).trans (.stick k _ _ (List.mem_singleton_self _))
  refine turn.gives hi ⟨(acted.trans (.markExecuted k _ _ 1 n)).onlyCore ?_, .of_markExecuted 1 n (by rw [core]), ?_, ?_,
    fun x => ?_⟩
  · rw [State.markExecuted_deltas, State.markExecuted_writes, State.markExecuted_draws, runWindow_frame hg]
  · rw [OnlyLanes, State.core_markExecuted, core]
    rfl
  · rw [State.reg_markExecuted, runWindow_status hg]
  · rw [State.core_markExecuted, core]
    exact lookupD_writeRun _ _ _ _ _

end Turn

/-- Settles O19: the geometry and the weights as the core they leave, the windows by the lanes of their positions, and an integer sum
of products as the exact sum of exact products. -/
theorem windowCommands : Obligations.WindowCommands := by
  intro s k t n cmd g d c only wrote
  refine ⟨fun h => ?_, fun h => ?_, fun hg => ⟨fun h => ?_, fun h => ?_, fun h => ?_, fun h => ?_, fun h => ?_⟩,
    fun f xs hf => windowSum_of_integers hf xs⟩
  · obtain ⟨u, run, ⟨same, executed⟩, core⟩ :=
      h.setsCore (f := fun s cmd => { s.core k with wgeom := some (cmd.desc.extractLsb' 0 64) }) (exec_vWgeom k s) rfl
    refine ⟨u, run, ⟨same, executed, ?_⟩, ?_, ?_, ?_⟩ <;> rw [core]
  · obtain ⟨u, run, ⟨same, executed⟩, core⟩ :=
      h.setsCore (f := fun s cmd => loadedWeights s k cmd.desc) (exec_vWload k s) rfl
    refine ⟨u, run, ⟨same, executed, ?_⟩, ?_, fun x => ?_, fun r => ?_⟩ <;> rw [core]
    · rfl
    · rfl
    · exact loadedWeights_wbuf s k d x
    · exact mem_loadedWeights_wrows s k d r
  · exact h.window hg (lanes := fun s cmd g j => convLanes s k g cmd.desc j) rfl
  · exact h.window hg (lanes := fun s cmd g j => convLanes s k g cmd.desc j) rfl
  · exact h.window hg (lanes := fun s cmd g j => poolLanes 0x64 s k g cmd.desc j) rfl
  · exact h.window hg (lanes := fun s cmd g j => poolLanes 0x65 s k g cmd.desc j) rfl
  · exact h.window hg (lanes := fun s cmd g j => poolLanes 0x66 s k g cmd.desc j) rfl

end Sys2Proof

/-! PROOF. DETECT's output and greedy suppression (R89, R93, R94, R96, R133). -/

namespace Sys2Proof.Machine

/-! ## Suppression (R93) -/

/-- A pair overlaps one of the kept pairs of its class by more than the threshold, where suppression is on. -/
def suppressed (thr : W32) (kept : List Pair) (x : Pair) : Bool :=
  !fcmp 3 0x3F800000 thr && kept.any (fun y => y.cls == x.cls && fcmp 2 thr (iouOf y.box x.box))

/-- The pairs kept after one more is visited. -/
def keptAfter (thr : W32) (kept : List Pair) (x : Pair) : List Pair := if suppressed thr kept x then kept else kept ++ [x]

section Suppression

variable (thr : W32) (maxDet : Nat)

theorem suppress_cons_full {kept : List Pair} (full : maxDet ≤ kept.length) (x : Pair) (r : List Pair) :
    suppress thr maxDet (x :: r) kept = (kept, true) := if_pos full

theorem suppress_cons_room {kept : List Pair} (room : ¬ maxDet ≤ kept.length) (x : Pair) (r : List Pair) :
    suppress thr maxDet (x :: r) kept = suppress thr maxDet r (keptAfter thr kept x) := if_neg room

theorem keptAfter_cases (kept : List Pair) (x : Pair) :
    keptAfter thr kept x = kept ∨ keptAfter thr kept x = kept ++ [x] ∧ suppressed thr kept x = false := by
  unfold keptAfter
  split
  · exact .inl rfl
  · next h => exact .inr ⟨rfl, by simpa using h⟩

theorem suppress_length (l : List Pair) {kept : List Pair} (h : kept.length ≤ maxDet) :
    (suppress thr maxDet l kept).1.length ≤ maxDet := by
  induction l generalizing kept with
  | nil => exact h
  | cons x r ih =>
    by_cases full : maxDet ≤ kept.length
    · rw [suppress_cons_full _ _ full]
      exact h
    · rw [suppress_cons_room _ _ full]
      refine ih ?_
      rcases keptAfter_cases thr kept x with same | ⟨more, -⟩
      · rw [same]
        exact h
      · rw [more, List.length_append, List.length_singleton]
        omega

/-- What is kept are the pairs kept before, and then pairs of the list in their order. -/
theorem suppress_sublist (l kept : List Pair) : (suppress thr maxDet l kept).1.Sublist (kept ++ l) := by
  induction l generalizing kept with
  | nil => simp [suppress]
  | cons x r ih =>
    by_cases full : maxDet ≤ kept.length
    · rw [suppress_cons_full _ _ full]
      exact List.sublist_append_left _ _
    · rw [suppress_cons_room _ _ full]
      refine (ih _).trans ?_
      rcases keptAfter_cases thr kept x with same | ⟨more, -⟩
      · rw [same]
        exact (List.sublist_cons_self x r).append_left kept
      · rw [more, List.append_assoc]
        exact List.Sublist.refl _

/-- Two pairs may both be kept: they are of different classes, or overlap by no more than the threshold. -/
def Apart (a b : Pair) : Prop := a.cls = b.cls → fcmp 2 thr (iouOf a.box b.box) = false

variable {thr}

/-- A pair that is not suppressed is apart from each pair kept before it. -/
theorem apart_of_not_suppressed {kept : List Pair} {x : Pair} (on : fcmp 3 0x3F800000 thr = false)
    (h : suppressed thr kept x = false) : ∀ y ∈ kept, Apart thr y x := fun y hy same => by
  simp only [suppressed, on, Bool.not_false, Bool.true_and, List.any_eq_false, Bool.and_eq_true, beq_iff_eq, not_and] at h
  exact Bool.eq_false_iff.2 (h y hy same)

theorem suppress_pairwise (on : fcmp 3 0x3F800000 thr = false) (l : List Pair) {kept : List Pair}
    (h : kept.Pairwise (Apart thr)) : (suppress thr maxDet l kept).1.Pairwise (Apart thr) := by
  induction l generalizing kept with
  | nil => exact h
  | cons x r ih =>
    by_cases full : maxDet ≤ kept.length
    · rw [suppress_cons_full _ _ full]
      exact h
    · rw [suppress_cons_room _ _ full]
      refine ih ?_
      rcases keptAfter_cases thr kept x with same | ⟨more, free⟩
      · rw [same]
        exact h
      · rw [more, List.pairwise_append]
        exact ⟨h, List.pairwise_singleton _ _, fun y hy z hz => by
          rw [List.mem_singleton.1 hz]
          exact apart_of_not_suppressed on free y hy⟩

/-- With a threshold of 1 or more every pair visited is kept. -/
theorem suppress_off (off : fcmp 3 0x3F800000 thr = true) (l kept : List Pair)
    (all : (suppress thr maxDet l kept).2 = false) : (suppress thr maxDet l kept).1 = kept ++ l := by
  induction l generalizing kept with
  | nil => simp [suppress]
  | cons x r ih =>
    by_cases full : maxDet ≤ kept.length
    · rw [suppress_cons_full _ _ full] at all
      cases all
    · have free : suppressed thr kept x = false := by rw [suppressed, off, Bool.not_true, Bool.false_and]
      have more : keptAfter thr kept x = kept ++ [x] := by simp [keptAfter, free]
      rw [suppress_cons_room _ _ full, more] at all ⊢
      rw [ih _ all, List.append_assoc]
      rfl

end Suppression

/-! ## DETECT (R89, R94, R96) -/

theorem convCore_dppTruncCount (cl : ClusterId) : convCore (Reg.dppTruncCount cl) = none := by revert cl; decide

theorem dppTruncCount_ne_dppStatus (cl : ClusterId) : Reg.dppTruncCount cl ≠ Reg.dppStatus cl := by
  simp [Reg.dppTruncCount, Reg.dppStatus]

theorem length_of_mem_runDetect {s : State} {p : DetectParams} {r : List Byte} (h : r ∈ (runDetect s p).1) : r.length = 512 :=
  length_of_mem_rowsOf h

/-- The flags of a DETECT are set, and a truncated image is counted (R96). -/
def State.detectCounted (s : State) (cl : ClusterId) (flags truncated : Nat) : State :=
  (s.stick (Reg.dppStatus cl) flags).bump (Reg.dppTruncCount cl) truncated

/-- The flags PAIROVF, TRUNC and NONFIN of a DETECT as bits of its status. -/
def detectFlags (s : State) (p : DetectParams) : Nat :=
  2 * (runDetect s p).2.1.toNat + 4 * (runDetect s p).2.2.1.toNat + 8 * (runDetect s p).2.2.2.toNat

section Detected

variable (s : State) (cl : ClusterId) (k : CoreId) (t : Tile) (n : Nat) (cmd : Cmd)

/-- The flags of the DETECT are set and its truncation counted, before its rows go on their way. -/
def State.detectBase : State :=
  s.detectCounted cl (detectFlags s (detectParams cl cmd.row)) (runDetect s (detectParams cl cmd.row)).2.2.1.toNat

/-- The output rows of the DETECT are on their way. -/
def State.detectSent : State :=
  (s.detectBase cl cmd).sendRows k 3 cmd t (detectParams cl cmd.row).out.st (detectParams cl cmd.row).out.row
    (runDetect s (detectParams cl cmd.row)).1

/-- The state that a DETECT leaves. -/
def State.detected : State := (s.detectSent cl k t cmd).markExecuted k 3 n

end Detected

theorem State.sendRows_draws (s : State) (k : CoreId) (q : QueueId) (cmd : Cmd) (t : Tile) (st r : Nat)
    (rows : List (List Byte)) : (s.sendRows k q cmd t st r rows).draws = s.draws := rfl

/-- DETECT of a cluster takes the begun command of its even core, or else that of its odd core. -/
theorem exec_detect {s : State} {cl : ClusterId} {k : CoreId} {t : Tile} {n : Nat} {cmd : Cmd}
    (h : begunDetect s (evenCore cl) = some (k, n, cmd) ∨
      (begunDetect s (evenCore cl) = none ∧ begunDetect s (oddCore cl) = some (k, n, cmd)))
    (ht : (s.core k).tile = some t) : exec (.detect cl) s = .next (s.detected cl k t n cmd) := by
  change execDetect cl s = _
  unfold execDetect
  rcases h with even | ⟨none, odd⟩
  · simp only [even, ht]
    rfl
  · simp only [none, odd, ht]
    rfl

section Counts

variable (s : State) (cl : ClusterId) (flags truncated : Nat)

theorem State.core_detectCounted (k : CoreId) : (s.detectCounted cl flags truncated).core k = s.core k := by
  rw [State.detectCounted, State.core_bump, State.core_stick]

theorem State.reg_detectCounted : (s.detectCounted cl flags truncated).reg (Reg.dppStatus cl) =
    s.reg (Reg.dppStatus cl) ||| BitVec.ofNat 64 flags := by
  rw [State.detectCounted, Laws.bump_reg_ne _ _ _ _ (dppTruncCount_ne_dppStatus cl).symm
    (fun j hj => by rw [convCore_dppTruncCount] at hj; cases hj), State.reg_stick_same]

theorem State.detectCounted_frame : s.detectCounted cl flags truncated = { s with
    regs := (s.detectCounted cl flags truncated).regs
    deltas := (s.detectCounted cl flags truncated).deltas } := by
  rw [State.detectCounted, Laws.bump_frame, State.stick_frame]

theorem State.detectCounted_writes : (s.detectCounted cl flags truncated).writes = s.writes := by
  rw [State.detectCounted_frame]

theorem State.detectCounted_draws : (s.detectCounted cl flags truncated).draws = s.draws := by
  rw [State.detectCounted_frame]

end Counts

section Detected

variable (s : State) (cl : ClusterId) (k : CoreId) (t : Tile) (n : Nat) (cmd : Cmd)

theorem State.core_detectSent : (s.detectSent cl k t cmd).core k = s.core k := by
  rw [State.detectSent, State.core_sendRows, State.detectBase, State.core_detectCounted]

theorem State.detected_writes : (s.detected cl k t n cmd).writes = s.writes ++
    rowWrites k 3 cmd t (detectParams cl cmd.row).out.st (detectParams cl cmd.row).out.row
      (runDetect s (detectParams cl cmd.row)).1 := by
  rw [State.detected, State.markExecuted_writes, State.detectSent, State.sendRows_writes, State.detectBase,
    State.detectCounted_writes]

theorem State.detected_draws : (s.detected cl k t n cmd).draws = s.draws := by
  rw [State.detected, State.markExecuted_draws, State.detectSent, State.sendRows_draws, State.detectBase,
    State.detectCounted_draws]

theorem State.detected_deltas : (s.detected cl k t n cmd).deltas = (s.detectBase cl cmd).deltas := by
  rw [State.detected, State.markExecuted_deltas, State.detectSent, State.sendRows_deltas]

theorem State.reg_detected (o : Nat) : (s.detected cl k t n cmd).reg o = (s.detectBase cl cmd).reg o := by
  rw [State.detected, State.reg_markExecuted, State.detectSent, State.reg_sendRows]

end Detected

end Sys2Proof.Machine

namespace Sys2Proof

open Machine Laws

theorem Acted.detected (s : State) (cl : ClusterId) (k : CoreId) (t : Tile) (n : Nat) (cmd : Cmd) :
    Acted k [Reg.dppStatus cl, Reg.dppTruncCount cl] s (s.detected cl k t n cmd) := by
  have counted : Acted k [Reg.dppStatus cl, Reg.dppTruncCount cl] s (s.detectBase cl cmd) :=
    (Acted.stick k s _ (by simp)).trans
      (.bump k _ _ (by simp) (fun j hj => by rw [convCore_dppTruncCount] at hj; cases hj))
  rw [State.detected, State.detectSent]
  exact (counted.trans (.sendRows k _ _ 3 cmd t _ _ _)).trans (.markExecuted k _ _ 3 n)

theorem counted_detectCounted (s : State) (cl : ClusterId) (flags truncated : Nat) :
    Counted [(Reg.dppTruncCount cl, truncated)] [Reg.dppStatus cl] s (s.detectCounted cl flags truncated) := by
  have flagged : Counted [] [Reg.dppStatus cl] s (s.stick (Reg.dppStatus cl) flags) :=
    (Counted.refl _ s).of_sameRegs (State.stick_deltas _ _ _)
      (fun o ho => State.reg_stick_ne _ _ _ _ (by simpa using ho)) (by simp)
  exact flagged.bump_of_no_conv truncated (convCore_dppTruncCount cl) List.not_mem_nil
    (by simpa using dppTruncCount_ne_dppStatus cl)

/-- Settles O25: the state after a DETECT by the operations that make it; suppression pair by pair. -/
theorem detectAndSuppression : Obligations.DetectAndSuppression := by
  refine ⟨fun s cl k t n cmd h ht => ?_, fun thr maxDet l => ⟨suppress_length thr maxDet l (Nat.zero_le _),
    suppress_sublist thr maxDet l [], fun on => suppress_pairwise maxDet on l .nil,
    fun all off => suppress_off maxDet off l [] all⟩⟩
  have core := s.core_detectSent cl k t cmd
  refine ⟨_, exec_detect h ht, .of_markExecuted 3 n (by rw [core]), ?_, (Acted.detected s cl k t n cmd).onlyCore ?_,
    .of_rowWrites (s.detected_writes cl k t n cmd) (fun x hx => length_of_mem_runDetect hx) (List.prefix_refl _), ?_,
    (counted_detectCounted s cl _ _).of_sameRegs (s.detected_deltas cl k t n cmd)
      (fun o _ => s.reg_detected cl k t n cmd o) ?_⟩
  · rw [State.detected, State.core_markExecuted, core]
    rfl
  · rw [State.detected_draws]
  · rw [State.reg_detected]
    exact s.reg_detectCounted cl _ _
  · simpa using (dppTruncCount_ne_dppStatus cl).symm

end Sys2Proof

/-! PROOF. Issuing an instruction of a control core: the control goes on or elsewhere, the charge rises, or the core halts
(R100, R103, R106, R107, R115, R140). -/

namespace Sys2Proof.Machine

/-- The control charge of core k has risen by n steps (R140). -/
def State.charging (s : State) (k : CoreId) (n : Nat) : State :=
  s.setFld (Reg.ccTileCharge k) 15 0 (s.charge k .ctl + n)

/-- The control of core k has gone on (R107). -/
def State.following (s : State) (k : CoreId) : State :=
  s.setCore k { s.core k with
    loops := (sequel (s.core k).loops (s.core k).pc).1
    pc := BitVec.ofNat 18 (sequel (s.core k).loops (s.core k).pc).2 }

/-- The control of core k has gone to an address. -/
def State.goingTo (s : State) (k : CoreId) (target : Nat) : State :=
  s.setCore k { s.core k with pc := BitVec.ofNat 18 target }

@[simp] theorem State.core_charging (s : State) (k : CoreId) (n : Nat) (j : CoreId) : (s.charging k n).core j = s.core j := rfl

/-- A write of the charge touches registers alone. -/
theorem State.charging_frame (s : State) (k : CoreId) (n : Nat) : s.charging k n = { s with regs := (s.charging k n).regs } := rfl

theorem State.reg_charging_ne (s : State) (k : CoreId) (n : Nat) {o : Nat} (h : o ≠ Reg.ccTileCharge k) :
    (s.charging k n).reg o = s.reg o := State.reg_setReg_ne _ _ _ _ h

section Issue

variable {s s1 : State} {k : CoreId} {w : BitVec 56} {used steps : Nat} {badCode : Bool} {body : State → Core → Tile → Effect}
  {t : Tile}

/-- An instruction that may issue concludes with its effect. -/
theorem issue_eq (h : Ready s k w used t) (hb : badCode = false) :
    issue k w used badCode steps body s = conclude s k t steps (body s (s.core k) t) :=
  issueWith_runs _ _ _ _ _ _ _ _ t h.running h.tile h.fields hb h.guard

/-- A done instruction goes on, where it has kept its place, the loop levels and the charge. -/
theorem conclude_follows (hf : inPartition t (sequel (s.core k).loops (s.core k).pc).2 = true) (hr : Room s k steps)
    (hl : (s1.core k).loops = (s.core k).loops) (hp : (s1.core k).pc = (s.core k).pc)
    (hc : s1.charge k .ctl = s.charge k .ctl) :
    conclude s k t steps (.next s1) = (s1.following k).charging k steps := by
  rw [conclude_next s s1 k t steps (by rw [hl]; exact hf) (by rw [hc]; exact hr), ← hp]
  rfl

/-- A taken branch goes to its target. -/
theorem conclude_goes {target : Nat} {chk : Bool} (hf : inPartition t target = true)
    (hl : (chk && leavesLoop (s.core k).loops (s.core k).pc target) = false) (hr : Room s k steps)
    (hc : s1.charge k .ctl = s.charge k .ctl) :
    conclude s k t steps (.jump s1 target chk) = (s1.goingTo k target).charging k steps :=
  conclude_jump s s1 k t steps target chk hf hl (by rw [hc]; exact hr)

/-- An instruction that stalls after its checks is charged. -/
theorem conclude_stalls (hf : inPartition t (sequel (s.core k).loops (s.core k).pc).2 = true) (hr : Room s k steps)
    (hl : (s1.core k).loops = (s.core k).loops) (hc : s1.charge k .ctl = s.charge k .ctl) :
    conclude s k t steps (.wait s1) = s1.charging k steps :=
  conclude_wait s s1 k t steps (by rw [hl]; exact hf) (by rw [hc]; exact hr)

/-- The end of a tile is charged. -/
theorem conclude_ends (hr : Room s k steps) (hc : s1.charge k .ctl = s.charge k .ctl) :
    conclude s k t steps (.stop s1) = s1.charging k steps := by
  simp only [conclude, charged]
  rw [State.addCharge_fits _ _ _ _ (by rw [hc]; exact hr)]
  rfl

end Issue

end Sys2Proof.Machine

namespace Sys2Proof

open Machine

theorem OnlyCore.charging (s : State) (k : CoreId) (n : Nat) : OnlyCore k [Reg.ccTileCharge k] s (s.charging k n) where
  rest := rfl
  cores _ _ := rfl
  regs _ ho := State.reg_charging_ne _ _ _ (by simpa using ho)

theorem OnlyCore.mono {k : CoreId} {offs more : List Nat} {s u : State} (h : OnlyCore k offs s u) (hs : offs ⊆ more) :
    OnlyCore k more s u := ⟨h.rest, h.cores, fun o ho => h.regs o (fun m => ho (hs m))⟩

theorem OnlyCore.setCore_charging (s : State) (k : CoreId) (c : Core) (n : Nat) :
    OnlyCore k [Reg.ccTileCharge k] s ((s.setCore k c).charging k n) := (OnlyCore.setCore k _ s c).trans (.charging _ k n)

/-- A charge that fits counts the steps and leaves the engines' charges. -/
theorem Charged.charging {s s1 : State} {k : CoreId} {n : Nat} (h : ∀ u, s1.charge k u = s.charge k u) (hr : Room s k n) :
    Charged k n s (s1.charging k n) where
  ctl := (State.charge_setFld_same _ k .ctl _ (by rw [h]; exact hr)).trans (by rw [h])
  mtx := (State.charge_setFld_ne _ k .ctl .mtx _ (by decide)).trans (h _)
  vec := (State.charge_setFld_ne _ k .ctl .vec _ (by decide)).trans (h _)

/-- Core k has gone on by an instruction of n steps with the core c but for its place; nothing else of the machine changed but the
charge. -/
structure Stepped (k : CoreId) (c : Core) (n : Nat) (s u : State) : Prop where
  only : OnlyCore k [Reg.ccTileCharge k] s u
  core : u.core k = { c with pc := (u.core k).pc, loops := (u.core k).loops }
  went : WentOn k s u
  charged : Charged k n s u

section Issue

variable {s : State} {k : CoreId} {w : BitVec 56} {used steps : Nat} {badCode : Bool} {body : State → Core → Tile → Effect}
  {t : Tile} {i : Instr} {c : Core}

/-- The core after an instruction that went on from the state of its effect. -/
theorem core_followed (s1 : State) (k : CoreId) (n : Nat) : ((s1.following k).charging k n).core k = { s1.core k with
    loops := (sequel (s1.core k).loops (s1.core k).pc).1
    pc := BitVec.ofNat 18 (sequel (s1.core k).loops (s1.core k).pc).2 } := State.core_setCore_same _ _ _

theorem OnlyCore.followed (s1 : State) (k : CoreId) (n : Nat) :
    OnlyCore k [Reg.ccTileCharge k] s1 ((s1.following k).charging k n) := .setCore_charging s1 k _ n

theorem WentOn.followed {s1 : State} (hl : (s1.core k).loops = (s.core k).loops) (hp : (s1.core k).pc = (s.core k).pc) (n : Nat) :
    WentOn k s ((s1.following k).charging k n) where
  pc := by rw [core_followed, hl, hp]
  loops := by rw [core_followed, hl, hp]

theorem Stepped.followed (hr : Room s k steps) (hl : c.loops = (s.core k).loops) (hp : c.pc = (s.core k).pc) :
    Stepped k c steps s (((s.setCore k c).following k).charging k steps) where
  only := (OnlyCore.setCore k _ s c).trans (.followed _ k steps)
  core := by rw [core_followed, State.core_setCore_same]
  went := .followed (by simpa using hl) (by simpa using hp) steps
  charged := .charging (fun _ => rfl) hr

/-- An instruction whose effect is on its core alone, and that then goes on. -/
theorem gives_next (hi : exec i s = ok (issue k w used badCode steps body s)) (h : Issues s k w used steps t)
    (hb : badCode = false) (effect : body s (s.core k) t = .next (s.setCore k c)) (hl : c.loops = (s.core k).loops)
    (hp : c.pc = (s.core k).pc) {P : State → Prop} (hP : ∀ u, Stepped k c steps s u → P u) : Gives i s P :=
  ⟨((s.setCore k c).following k).charging k steps,
    by rw [hi, issue_eq h.ready hb, effect, conclude_follows (s1 := s.setCore k c) h.follow h.room (by simpa using hl) (by simpa using hp) rfl]; rfl,
    hP _ (.followed h.room hl hp)⟩

/-- An instruction with no effect but that it goes on. -/
theorem gives_skip (hi : exec i s = ok (issue k w used badCode steps body s)) (h : Issues s k w used steps t)
    (hb : badCode = false) (effect : body s (s.core k) t = .next s) {P : State → Prop}
    (hP : ∀ u, Stepped k (s.core k) steps s u → P u) : Gives i s P :=
  gives_next hi h hb (effect.trans (by rw [State.setCore_self])) rfl rfl hP

/-- An instruction that writes gD alone. -/
theorem gives_writesG {f : Core → Tile → W64} {v : W64} (hi : exec i s = ok (writesG k w used steps f s))
    (h : Issues s k w used steps t) (hv : f (s.core k) t = v) : Gives i s (WroteG k w steps v s) :=
  ⟨_, hi, hv ▸ writesG_wrote s k w used steps f t h⟩

end Issue

end Sys2Proof

/-! PROOF. The arithmetic instructions (R104, R105). -/

namespace Sys2Proof.Machine

/-! ## The values, as operations on words -/

theorem shl64_eq (a : W64) (n : Nat) : shl64 a n = a <<< n := by
  unfold shl64
  split
  · next large => exact (BitVec.shiftLeft_eq_zero large).symm
  · rfl

theorem shr64_eq (a : W64) (n : Nat) : shr64 a n = a >>> n := by
  unfold shr64
  split
  · next large => exact (BitVec.ushiftRight_eq_zero large).symm
  · rfl

/-- From a count of 64 on every bit is the sign. -/
theorem sra64_eq (a : W64) (n : Nat) : sra64 a n = a.sshiftRight n := by
  ext i hi
  simp only [sra64, BitVec.getElem_sshiftRight]
  by_cases large : n ≤ 64
  · simp only [Nat.min_eq_left large]
  · rw [dif_neg (by omega), dif_neg (by omega)]

/-- The upper half of a 128-bit word is its signed value over 2^64. -/
theorem extract_upper (x : BitVec 128) : x.extractLsb' 64 64 = BitVec.ofInt 64 (x.toInt / 2 ^ 64) := by
  apply BitVec.eq_of_toNat_eq
  rw [BitVec.extractLsb'_toNat, BitVec.toNat_ofInt, Nat.shiftRight_eq_div_pow]
  have below := x.isLt
  have value := BitVec.toInt_eq_toNat_cond x
  omega

/-- The product of two words fits in 128 bits. -/
theorem toInt_mul_signExtend (a b : W64) : (a.signExtend 128 * b.signExtend 128).toInt = a.toInt * b.toInt := by
  rw [BitVec.toInt_mul, BitVec.toInt_signExtend_of_le (by decide), BitVec.toInt_signExtend_of_le (by decide)]
  have bound : ∀ x : W64, |x.toInt| ≤ 2 ^ 63 := fun x => by
    have low := BitVec.le_toInt x
    have high := BitVec.toInt_lt (x := x)
    exact abs_le.2 ⟨low, by omega⟩
  have product : |a.toInt * b.toInt| ≤ 2 ^ 63 * 2 ^ 63 := by
    rw [abs_mul]
    exact mul_le_mul (bound a) (bound b) (abs_nonneg _) (by decide)
  obtain ⟨low, high⟩ := abs_le.1 product
  exact Int.bmod_eq_of_le (by omega) (by omega)

theorem mulhs_eq (a b : W64) :
    BitVec.ofInt 64 (a.toInt * b.toInt / 2 ^ 64) = (a.signExtend 128 * b.signExtend 128).extractLsb' 64 64 := by
  rw [extract_upper, toInt_mul_signExtend]

theorem mulhu_eq (a b : W64) :
    BitVec.ofNat 64 (a.toNat * b.toNat / 2 ^ 64) = (a.zeroExtend 128 * b.zeroExtend 128).extractLsb' 64 64 := by
  apply BitVec.eq_of_toNat_eq
  have fits : a.toNat * b.toNat < 2 ^ 128 := Nat.pow_add 2 64 64 ▸ Nat.mul_lt_mul'' a.isLt b.isLt
  have whole : (a.zeroExtend 128 * b.zeroExtend 128).toNat = a.toNat * b.toNat := by
    rw [BitVec.toNat_mul, BitVec.toNat_setWidth, BitVec.toNat_setWidth, Nat.mod_eq_of_lt (a := a.toNat) (by omega),
      Nat.mod_eq_of_lt (a := b.toNat) (by omega), Nat.mod_eq_of_lt fits]
  rw [BitVec.extractLsb'_toNat, whole, BitVec.toNat_ofNat, Nat.shiftRight_eq_div_pow]

theorem quotS_eq (a b : W64) : quotS a b =
    if b = 0 then (if a.slt 0 then BitVec.intMin 64 else BitVec.intMax 64) else a.sdiv b := by
  unfold quotS
  split
  · simp only [BitVec.slt_iff_toInt_lt]
    rfl
  · apply BitVec.eq_of_toInt_eq
    rw [BitVec.toInt_sdiv, BitVec.toInt_ofInt]

theorem remS_eq (a b : W64) : remS a b = if b = 0 then a else a.srem b := by
  unfold remS
  split
  · rfl
  · rw [← BitVec.toInt_srem, BitVec.ofInt_toInt]

/-- The signed order, by the strict test. -/
theorem min_toInt_eq (a b : W64) : (if a.toInt ≤ b.toInt then a else b) = if b.slt a then b else a := by
  simp only [BitVec.slt_iff_toInt_lt, ← not_le, ite_not]

theorem max_toInt_eq (a b : W64) : (if a.toInt ≤ b.toInt then b else a) = if a.slt b then b else a := by
  simp only [BitVec.slt_iff_toInt_lt]
  rcases lt_trichotomy a.toInt b.toInt with less | same | more
  · rw [if_pos less.le, if_pos less]
  · rw [BitVec.eq_of_toInt_eq same, ite_self, ite_self]
  · rw [if_neg more.not_ge, if_neg more.not_gt]

/-- The unsigned order, by the strict test. -/
theorem min_toNat_eq (a b : W64) : (if a.toNat ≤ b.toNat then a else b) = if b.ult a then b else a := by
  simp only [BitVec.ult_iff_lt, BitVec.lt_def, ← not_le, ite_not]

theorem max_toNat_eq (a b : W64) : (if a.toNat ≤ b.toNat then b else a) = if a.ult b then b else a := by
  simp only [BitVec.ult_iff_lt, BitVec.lt_def]
  rcases lt_trichotomy a.toNat b.toNat with less | same | more
  · rw [if_pos less.le, if_pos less]
  · rw [BitVec.eq_of_toNat_eq same, ite_self, ite_self]
  · rw [if_neg more.not_ge, if_neg more.not_gt]

/-! ## DIVZ (R105) -/

/-- A write of a register of a core keeps everything else of it. -/
theorem Core.setG_core (c : Core) (i : BitVec 5) (v : W64) : c.setG i v = { c with g := (c.setG i v).g } := by
  unfold Core.setG
  split <;> rfl

/-- CC_STATUS after a division by b: DIVZ is set where b is 0. -/
def State.dividedBy (s : State) (k : CoreId) (b : W64) : State := if b = 0 then s.setDivz k else s

theorem State.core_dividedBy (s : State) (k : CoreId) (b : W64) (j : CoreId) : (s.dividedBy k b).core j = s.core j := by
  unfold State.dividedBy
  split
  · exact State.core_stick _ _ _ _
  · rfl

theorem State.reg_dividedBy (s : State) (k : CoreId) (b : W64) : (s.dividedBy k b).reg (Reg.ccStatus k) =
    if b = 0 then s.reg (Reg.ccStatus k) ||| 4 else s.reg (Reg.ccStatus k) := by
  unfold State.dividedBy
  split
  · exact State.reg_stick_same _ _ _
  · rfl

theorem ccStatus_ne_ccTileCharge (k : CoreId) : Reg.ccStatus k ≠ Reg.ccTileCharge k := by
  simp [Reg.ccStatus, Reg.ccTileCharge]

theorem State.charge_dividedBy (s : State) (k : CoreId) (b : W64) (u : ChargeUnit) :
    (s.dividedBy k b).charge k u = s.charge k u := by
  unfold State.dividedBy
  split
  · exact congrArg (field · _ _) (State.reg_stick_ne _ _ _ _ (ccStatus_ne_ccTileCharge k).symm)
  · rfl

end Sys2Proof.Machine

namespace Sys2Proof

open Machine

theorem OnlyCore.dividedBy (s : State) (k : CoreId) (b : W64) : OnlyCore k [Reg.ccStatus k] s (s.dividedBy k b) := by
  unfold State.dividedBy
  split
  · exact .stick k s _ 4
  · exact ⟨rfl, fun _ _ => rfl, fun _ _ => rfl⟩

/-- A division: its result in gD, and DIVZ. -/
theorem gives_divide {i : Instr} {f : W64 → W64 → W64} {s : State} {k : CoreId} {w : BitVec 56} {t : Tile} {b v : W64}
    (hi : exec i s = ok (divide k w f s)) (h : Issues s k w (mD + mA + mB) 34 t) (hb : (s.core k).gr (fB w) = b)
    (hv : f ((s.core k).gr (fA w)) b = v) :
    Gives i s (fun u => OnlyCore k [Reg.ccTileCharge k, Reg.ccStatus k] s u ∧
      u.core k = { s.core k with g := (u.core k).g, pc := (u.core k).pc, loops := (u.core k).loops } ∧
      (u.core k).gr (fD w) = (if fD w = 0 then 0 else v) ∧ (∀ r, r ≠ fD w → (u.core k).gr r = (s.core k).gr r) ∧
      u.reg (Reg.ccStatus k) = (if b = 0 then s.reg (Reg.ccStatus k) ||| 4 else s.reg (Reg.ccStatus k)) ∧
      WentOn k s u ∧ Charged k 34 s u) := by
  subst hb hv
  let c := (s.core k).setG (fD w) (f ((s.core k).gr (fA w)) ((s.core k).gr (fB w)))
  let s1 := (s.setCore k c).dividedBy k ((s.core k).gr (fB w))
  have core1 : s1.core k = c := (State.core_dividedBy _ _ _ _).trans (State.core_setCore_same _ _ _)
  have loops : (s1.core k).loops = (s.core k).loops := by rw [core1]; exact Core.setG_loops _ _ _
  have pc : (s1.core k).pc = (s.core k).pc := by rw [core1]; exact Core.setG_pc _ _ _
  have runs : divide k w f s = (s1.following k).charging k 34 := by
    unfold divide
    rw [issue_eq h.ready rfl]
    exact conclude_follows h.follow h.room loops pc (State.charge_dividedBy _ _ _ _)
  have core : ((s1.following k).charging k 34).core k = { c with
      loops := (sequel c.loops c.pc).1, pc := BitVec.ofNat 18 (sequel c.loops c.pc).2 } := by rw [core_followed, core1]
  have g : ∀ r, (((s1.following k).charging k 34).core k).gr r = c.gr r := fun r => by rw [core]; rfl
  refine ⟨_, by rw [hi, runs]; rfl, ?_, ?_, ?_, fun r hr => ?_, ?_, .followed loops pc 34,
    .charging (fun u => State.charge_dividedBy _ _ _ u) h.room⟩
  · exact ((OnlyCore.setCore k [] s c).mono (List.nil_subset _)).trans
      (((OnlyCore.dividedBy _ k _).mono (by simp)).trans ((OnlyCore.followed s1 k 34).mono (by simp)))
  · rw [core, show c = { s.core k with g := c.g } from Core.setG_core _ _ _]
  · rw [g, Core.gr_setG]
    by_cases zero : fD w = 0
    · rw [if_neg (fun e => e.2 zero), if_pos zero, zero]
      rfl
    · rw [if_pos ⟨rfl, zero⟩, if_neg zero]
  · rw [g, Core.gr_setG, if_neg (fun e => hr e.1)]
  · rw [State.reg_charging_ne _ _ _ (ccStatus_ne_ccTileCharge k)]
    exact State.reg_dividedBy _ _ _

/-- Settles O6: each value by the fact about words that it is, the divisions by `gives_divide`. -/
theorem arithmeticResults : Obligations.ArithmeticResults := by
  refine ⟨fun s k w t a b c imm ha hb hc himm => ?_, fun s k w t a b ha hb h => ?_⟩
  · subst ha hb hc himm
    refine ⟨fun h => ⟨?_, ?_, ?_, ?_, ?_, ?_, ?_, ?_, ?_, ?_, ?_, ?_⟩, fun h => ⟨?_, ?_, ?_⟩, fun h => ?_,
      fun h => ⟨?_, ?_, ?_, ?_, ?_, ?_, ?_⟩, fun h => ⟨?_, ?_⟩, fun h => ?_⟩
    · exact gives_writesG rfl h rfl
    · exact gives_writesG rfl h rfl
    · exact gives_writesG rfl h rfl
    · exact gives_writesG rfl h rfl
    · exact gives_writesG rfl h rfl
    · exact gives_writesG rfl h (shl64_eq _ _)
    · exact gives_writesG rfl h (shr64_eq _ _)
    · exact gives_writesG rfl h (sra64_eq _ _)
    · exact gives_writesG rfl h (min_toInt_eq _ _)
    · exact gives_writesG rfl h (max_toInt_eq _ _)
    · exact gives_writesG rfl h (min_toNat_eq _ _)
    · exact gives_writesG rfl h (max_toNat_eq _ _)
    · exact gives_writesG rfl h rfl
    · exact gives_writesG rfl h (mulhs_eq _ _)
    · exact gives_writesG rfl h (mulhu_eq _ _)
    · exact gives_writesG rfl h rfl
    · exact gives_writesG rfl h rfl
    · exact gives_writesG rfl h rfl
    · exact gives_writesG rfl h rfl
    · exact gives_writesG rfl h rfl
    · exact gives_writesG rfl h (shl64_eq _ _)
    · exact gives_writesG rfl h (shr64_eq _ _)
    · exact gives_writesG rfl h (sra64_eq _ _)
    · exact gives_writesG rfl h rfl
    · exact gives_writesG rfl h rfl
    · exact gives_writesG rfl h rfl
  · subst ha
    exact ⟨gives_divide rfl h hb (quotS_eq _ _), gives_divide rfl h hb rfl, gives_divide rfl h hb (remS_eq _ _),
      gives_divide rfl h hb rfl⟩

end Sys2Proof

/-! PROOF. Compares, predicate logic, RDS and LIDX (R101, R104, R107). -/

namespace Sys2Proof.Machine

theorem field_self {n : Nat} (w : BitVec n) (i : Nat) : field w i i = (bit w i).toNat := by
  rw [bit, BitVec.getLsbD, Nat.toNat_testBit, field, Nat.shiftRight_eq_div_pow, Nat.add_sub_cancel_left, pow_one]

theorem bit_eq_of_field {m n : Nat} {v : BitVec m} {w : BitVec n} {i j : Nat} (h : field v i i = field w j j) : bit v i = bit w j := by
  rw [field_self, field_self] at h
  cases hv : bit v i <;> cases hw : bit w j <;> simp [hv, hw] at h ⊢

theorem bit_setBit_same {n : Nat} (w : BitVec n) (i : Nat) (b : Bool) (hi : i < n) : bit (setBit w i b) i = b := by
  have written : field (setBit w i b) i i = b.toNat := by
    rw [setBit, field_setField w i i _ (by omega) hi, Nat.add_sub_cancel_left]
    cases b <;> rfl
  rw [field_self] at written
  cases b <;> simpa using written

theorem bit_setBit_ne {n : Nat} (w : BitVec n) (i j : Nat) (b : Bool) (hi : i < n) (hj : j ≠ i) :
    bit (setBit w i b) j = bit w j := by
  refine bit_eq_of_field ?_
  rcases Nat.lt_or_gt_of_ne hj with below | above
  · exact field_setField_below w i i _ j j (by omega) hi (by omega) below
  · exact field_setField_above w i i _ j j (by omega) hi above

theorem Core.pr_setP_same (c : Core) {i : Nat} (b : Bool) (hi : i < 8) : (c.setP i b).pr i = if i = 0 then true else b := by
  unfold Core.setP Core.pr
  rw [Nat.mod_eq_of_lt hi]
  by_cases zero : i = 0
  · rw [if_pos zero, if_pos zero, zero]
    rfl
  · rw [if_neg zero, if_neg zero, bit_setBit_same _ _ _ hi, beq_false_of_ne zero, Bool.false_or]

theorem Core.pr_setP_ne (c : Core) {i j : Nat} (b : Bool) (hi : i < 8) (hj : j < 8) (hne : j ≠ i) :
    (c.setP i b).pr j = c.pr j := by
  unfold Core.setP Core.pr
  rw [Nat.mod_eq_of_lt hi, Nat.mod_eq_of_lt hj]
  split
  · rfl
  · rw [bit_setBit_ne _ _ _ _ hi hne]

/-- A write of a predicate of a core keeps everything else of it. -/
theorem Core.setP_core (c : Core) (i : Nat) (b : Bool) : c.setP i b = { c with p := (c.setP i b).p } := by
  unfold Core.setP
  split <;> rfl

theorem field_lt {n : Nat} (w : BitVec n) (hi lo : Nat) : field w hi lo < 2 ^ (hi + 1 - lo) := Nat.mod_lt _ (by positivity)

/-- The relation of a condition code is the entry of the list of the six. -/
theorem relation_eq (x y : W64) {code : Nat} (h : code < 6) :
    relation code x y = ([x == y, x != y, x.slt y, !x.slt y, x.ult y, !x.ult y]).getD code false := by
  interval_cases code
  · rfl
  · rfl
  · rfl
  · exact (decide_eq_decide.2 not_lt.symm).trans (decide_not ..)
  · rfl
  · exact (decide_eq_decide.2 not_lt.symm).trans (decide_not ..)

/-- The table of selectors of R101. -/
def State.selectors (s : State) (k : CoreId) (c : Core) (t : Tile) : List (Nat × W64) :=
  [(0x000, c.pc.zeroExtend 64), (0x001, t.index), (0x002, t.epoch.zeroExtend 64), (0x003, BitVec.ofNat 64 t.ctx),
    (0x004, BitVec.ofNat 64 k), (0x005, BitVec.ofNat 64 (k / 2)), (0x006, if t.strict then 1 else 0),
    (0x100, s.board.features.getD 0 0), (0x101, s.board.features.getD 1 0), (0x102, s.board.features.getD 2 0),
    (0x103, s.board.features.getD 3 0), (0x104, s.board.features.getD 4 0), (0x105, s.board.features.getD 5 0),
    (0x106, s.board.features.getD 6 0), (0x107, s.board.features.getD 7 0),
    (0x108, BitVec.ofNat 64 (t.ipart * 65536 + t.dpart))]

/-- RDS reads the table; a selector not listed reads 0. -/
theorem rdsValue_eq (s : State) (k : CoreId) (c : Core) (t : Tile) (sel : Nat) :
    s.rdsValue k c t sel = ((s.selectors k c t).lookup sel).getD 0 := by
  unfold State.rdsValue
  split
  · exact BitVec.ofNat_toNat 64 c.pc
  · rfl
  · rfl
  · rfl
  · rfl
  · rfl
  · show _ = if t.strict then (1 : W64) else 0
    cases t.strict <;> rfl
  · rfl
  · split
    · next feature =>
      obtain ⟨low, high⟩ := feature
      interval_cases sel <;> rfl
    · next other =>
      rw [List.lookup_eq_none_iff.2 ?_]
      · rfl
      · simp only [State.selectors, List.forall_mem_cons]
        grind

/-- The entry of PLOG's truth table, as a bit of the word. -/
theorem plog_entry (w : BitVec 56) (x y : Bool) :
    bit (fC w) (2 * x.toNat + y.toNat) = w.getLsbD (32 + 2 * x.toNat + y.toNat) := by
  have hx := x.toNat_le
  have hy := y.toNat_le
  rw [bit, fC, BitVec.getLsbD_extractLsb', decide_eq_true (by omega), Bool.true_and, Nat.add_assoc]

end Sys2Proof.Machine

namespace Sys2Proof

open Machine

/-- An instruction whose one effect is a value in gD. -/
theorem gives_setG {i : Instr} {s : State} {k : CoreId} {w : BitVec 56} {used steps : Nat} {v : W64}
    {body : State → Core → Tile → Effect} {t : Tile} (hi : exec i s = ok (issue k w used false steps body s))
    (h : Issues s k w used steps t) (effect : body s (s.core k) t = .next (s.setCore k ((s.core k).setG (fD w) v))) :
    Gives i s (WroteG k w steps v s) := by
  have keeps : (s.core k).setG (fD w) v = { s.core k with g := ((s.core k).setG (fD w) v).g } := Core.setG_core _ _ _
  refine gives_next hi h rfl effect (by rw [keeps]) (by rw [keeps]) fun u hu => ?_
  obtain ⟨only, core, went, charged⟩ := hu
  have gr : ∀ r, (u.core k).gr r = ((s.core k).setG (fD w) v).gr r := fun r => by rw [core]; rfl
  refine ⟨only, ?_, ?_, fun r hr => ?_, went, charged⟩
  · rw [core, keeps]
  · rw [gr, Core.gr_setG]
    by_cases zero : fD w = 0
    · rw [if_neg (fun e => e.2 zero), if_pos zero, zero]
      rfl
    · rw [if_pos ⟨rfl, zero⟩, if_neg zero]
  · rw [gr, Core.gr_setG, if_neg (fun e => hr e.1)]

/-- An instruction that writes a predicate alone. -/
theorem gives_writesP {i : Instr} {s : State} {k : CoreId} {w : BitVec 56} {used : Nat} {badCode b : Bool} {f : Core → Bool}
    {t : Tile} (hi : exec i s = ok (writesP k w used badCode f s)) (h : Issues s k w used 1 t) (hb : badCode = false)
    (hv : f (s.core k) = b) : Gives i s (WroteP k w b s) := by
  have below : field w 49 47 < 8 := field_lt w 49 47
  have keeps : (s.core k).setP (field w 49 47) b = { s.core k with p := ((s.core k).setP (field w 49 47) b).p } :=
    Core.setP_core _ _ _
  refine gives_next (c := (s.core k).setP (field w 49 47) b) hi h hb (by rw [hv]) (by rw [keeps]) (by rw [keeps])
    fun u hu => ?_
  obtain ⟨only, core, went, charged⟩ := hu
  have pr : ∀ j, (u.core k).pr j = ((s.core k).setP (field w 49 47) b).pr j := fun j => by rw [core]; rfl
  refine ⟨only, ?_, ?_, fun j hj hne => ?_, went, charged⟩
  · rw [core, keeps]
  · rw [pr, Core.pr_setP_same _ _ below]
  · rw [pr, Core.pr_setP_ne _ _ below hj hne]

/-- Settles O7: each value by the fact about the machine's own table. -/
theorem predicatesAndTileState : Obligations.PredicatesAndTileState := by
  refine ⟨fun s k w t a b imm ha hb himm => ?_, fun s k w t => ⟨fun h small => ?_, fun h l level => ?_⟩⟩
  · subst ha hb himm
    refine ⟨fun h code => ?_, fun h code => ?_, fun h => ?_⟩
    · exact gives_writesP rfl h (decide_eq_false code.not_ge) (relation_eq _ _ code)
    · exact gives_writesP rfl h (decide_eq_false code.not_ge) (relation_eq _ _ code)
    · exact gives_writesP rfl h rfl (plog_entry w _ _)
  · have read := gives_setG (i := .ccRds k w) rfl h (if_neg small.not_gt)
    rw [rdsValue_eq] at read
    exact read
  · exact gives_setG rfl h (by rw [level])

end Sys2Proof

/-! PROOF. Branches, calls, loops and BREAK (R104, R106, R107). -/

namespace Sys2Proof.Machine

/-- LOOP sees the guard itself (R103). -/
theorem issueWith_always (k : CoreId) (w : BitVec 56) (used : Nat) (steps : Nat) (body : State → Core → Tile → Effect)
    {s : State} {t : Tile} (hp : (s.core k).phase = .running) (ht : (s.core k).tile = some t) (hr : reservedSet w used = false) :
    issueWith true k w used false steps body s = conclude s k t steps (body s (s.core k) t) := by
  simp only [issueWith, hp, ht, hr, Bool.or_false, Bool.false_eq_true, if_false, if_true]

end Sys2Proof.Machine

namespace Sys2Proof

open Machine

/-- A taken branch, with the core c at the target. -/
theorem gives_jump {i : Instr} {s : State} {k : CoreId} {t : Tile} {c : Core} {target : Nat} {chk : Bool} {loops : List LoopLevel}
    (hi : exec i s = ok (conclude s k t 1 (.jump (s.setCore k c) target chk))) (hr : Room s k 1)
    (hf : inPartition t target = true) (hl : (chk && leavesLoop (s.core k).loops (s.core k).pc target) = false)
    (hc : c = { s.core k with g := c.g, loops := loops }) {P : State → Prop}
    (hP : ∀ u, Jumped k target loops s u → (u.core k).g = c.g → P u) : Gives i s P := by
  have core : (((s.setCore k c).goingTo k target).charging k 1).core k = { c with pc := BitVec.ofNat 18 target } := by
    rw [State.core_charging, State.goingTo, State.core_setCore_same, State.core_setCore_same]
  refine ⟨((s.setCore k c).goingTo k target).charging k 1, ?_, hP _ ⟨?_, ?_, .charging (fun _ => rfl) hr⟩ ?_⟩
  · rw [hi, conclude_goes (s1 := s.setCore k c) hf hl hr rfl]
    rfl
  · exact ((OnlyCore.setCore k _ s c).trans (.setCore k _ _ _)).trans (.charging _ k 1)
  · rw [core, hc]
  · rw [core]

/-- A branch that leaves the registers and the loop levels. -/
theorem gives_branch {i : Instr} {s : State} {k : CoreId} {w : BitVec 56} {used : Nat} {t : Tile} {target : Nat}
    {f : Core → Nat} (hi : exec i s = ok (issue k w used false 1 (fun s c _ => .jump s (f c) true) s)) (h : Ready s k w used t)
    (hr : Room s k 1) (hf : inPartition t target = true) (stays : leavesLoop (s.core k).loops (s.core k).pc target = false)
    (ht : target = f (s.core k)) :
    Gives i s (fun u => Jumped k target (s.core k).loops s u ∧ (u.core k).g = (s.core k).g) := by
  refine gives_jump (c := s.core k) (chk := true) ?_ hr hf (by rw [stays]; rfl) rfl fun u jumped g => ⟨jumped, g⟩
  rw [hi, issue_eq h rfl, State.setCore_self, ht]

/-- Settles O8: a branch by its target, LOOP and BREAK by their levels. -/
theorem branchesAndLoops : Obligations.BranchesAndLoops := by
  refine ⟨fun s k w t target => ?_, fun s k w t n running tile room => ⟨fun fields len first last count => ⟨fun nonzero guard few => ?_,
    fun passes beyond => ?_⟩, fun fields guard l r level beyond => ?_⟩⟩
  · intro stays rel below aligned room
    have inside : inPartition t target = true := by simp [inPartition, below, aligned]
    refine ⟨fun h hs ht => gives_branch rfl h room inside hs ht, fun h hs ht => gives_branch rfl h room inside hs ht,
      fun h ht => ?_, fun h hs ht => gives_branch rfl h room inside hs ht⟩
    refine gives_jump (c := (s.core k).setG 31 (BitVec.ofNat 64 ((s.core k).pc.toNat + 8))) (chk := false)
      (by rw [ht]; exact congrArg ok (issue_eq h rfl)) room inside rfl (Core.setG_core _ _ _) fun u jumped g => ⟨jumped, ?_, fun r hr => ?_⟩
    · rw [Core.gr, g]
      exact (Core.gr_setG _ 31 31 _).trans (if_pos ⟨rfl, by decide⟩)
    · rw [Core.gr, g]
      exact (Core.gr_setG _ 31 r _).trans (if_neg fun e => hr e.1)
  · subst count
    refine gives_jump (chk := false) (c := { s.core k with loops := ⟨BitVec.ofNat 18 ((s.core k).pc.toNat + 8),
      BitVec.ofNat 18 ((s.core k).pc.toNat + 8 * field w 15 0), _, 0⟩ :: (s.core k).loops }) ?_ room first rfl rfl
      fun u jumped g => ⟨g, jumped⟩
    refine congrArg ok ((issueWith_always k w _ 1 _ running tile fields).trans (congrArg (conclude s k t 1) ?_))
    dsimp only
    rw [if_neg len, last, guard, decide_eq_false nonzero, if_neg few.not_ge]
    rfl
  · subst count
    refine gives_jump (chk := false) (c := s.core k) ?_ room beyond rfl rfl fun u jumped g => ⟨g, jumped⟩
    refine congrArg ok ((issueWith_always k w _ 1 _ running tile fields).trans (congrArg (conclude s k t 1) ?_))
    dsimp only
    rw [if_neg len, last, State.setCore_self]
    rcases passes with zero | unguarded
    · rw [decide_eq_true zero]
      rfl
    · rw [unguarded, Bool.not_false, Bool.or_true]
      rfl
  · refine gives_jump (chk := false) (c := { s.core k with loops := r }) ?_ room beyond rfl rfl fun u jumped g => ⟨g, jumped⟩
    refine congrArg ok ((issue_eq ⟨running, tile, fields, guard⟩ rfl).trans ?_)
    rw [level]

end Sys2Proof

/-! PROOF. NOP, TRACE, FENCE and END (R104, R108, R121, R351). -/

namespace Sys2Proof.Machine

/-- A notification that finds room in the event queue of its cluster. -/
theorem State.notify_queued (s : State) (c : ClusterId) (n : Note) (h : (s.lodge.events[c]).length < 256) :
    s.notify c n = ({ s with lodge := { s.lodge with events := s.lodge.events.set c (s.lodge.events[c] ++ [n]) } }, true) :=
  if_pos h

/-- A trace point of core k is posted: the notification to its cluster and the entry. -/
def State.traced (s : State) (k : CoreId) (p : TracePoint) : State :=
  { s with lodge := { s.lodge with events := s.lodge.events.set (clusterFin k) (s.lodge.events[clusterFin k] ++ [.trace])
                                   traces := s.lodge.traces ++ [p] } }

end Sys2Proof.Machine

namespace Sys2Proof

open Machine

/-- The core has gone on, and nothing of the machine has changed but its place and its charge. -/
theorem Stepped.passed {k : CoreId} {s u : State} (h : Stepped k (s.core k) 1 s u) :
    OnlyCore k [Reg.ccTileCharge k] s u ∧ WentOn k s u ∧ Charged k 1 s u ∧
      u.core k = { s.core k with pc := (u.core k).pc, loops := (u.core k).loops } :=
  ⟨h.only, h.went, h.charged, h.core⟩

/-- END waits for the work of its tile, where no LADDR is pending. -/
theorem gives_end {s : State} {k : CoreId} {w : BitVec 56} {t : Tile} (h : Ready s k w (bits 0 0) t) (hr : Room s k 1)
    (hd : ∀ d, (s.core k).lastAppended[(2 : Fin 4)] = some d → Desc.cmd d ≠ 4) :
    Gives (.ccEnd k w) s (fun u => OnlyCore k [Reg.ccTileCharge k] s u ∧ Charged k 1 s u ∧
      u.core k = { s.core k with phase := .ending (w.getLsbD 0) }) := by
  let c : Core := { s.core k with phase := .ending (w.getLsbD 0) }
  refine ⟨(s.setCore k c).charging k 1, ?_, .setCore_charging s k c 1, .charging (fun _ => rfl) hr,
    State.core_setCore_same s k c⟩
  refine congrArg ok ((issue_eq h rfl).trans (Eq.trans ?_ (conclude_ends (s1 := s.setCore k c) (t := t) hr rfl)))
  refine congrArg (conclude s k t 1) ?_
  cases last : (s.core k).lastAppended[(2 : Fin 4)] with
  | none => rfl
  | some d => exact if_neg (hd d last)

/-- Settles O9: each by its effect on the core, TRACE by the notification that finds room. -/
theorem smallInstructions : Obligations.SmallInstructions := by
  intro s k w t only traced
  refine ⟨fun h => gives_skip rfl h rfl rfl fun u hu => hu.passed, fun h untraced => ?_, fun h tracing room => ?_, fun h none => ?_,
    fun h mask some => ?_, fun h hr hd => gives_end h hr hd⟩
  · refine gives_skip rfl h rfl (if_neg fun e => untraced ?_) fun u hu => hu.passed
    simpa only [Bool.and_eq_true, beq_iff_eq] using e
  · let s1 := s.traced k ⟨s.gate, k, t.index, (s.core k).pc, BitVec.ofNat 16 (field w 15 0), t.ctx⟩
    refine ⟨(s1.following k).charging k 1, congrArg ok ((issue_eq h.ready rfl).trans (Eq.trans ?_
      (conclude_follows (s1 := s1) h.follow h.room rfl rfl rfl))), 
      .followed (s := s) (s1 := s1) rfl rfl 1, .charging (fun _ => rfl) h.room, rfl, ?_, rfl, ?_⟩
    · obtain ⟨flag, ctx⟩ := tracing
      refine congrArg (conclude s k t 1) ?_
      simp only [flag, ctx, beq_self_eq_true, Bool.and_self, if_true, State.notify_queued s _ _ room]
      rfl
    · exact Vector.getElem_set_self ..
    · rw [core_followed]
      rfl
  · exact gives_skip rfl h rfl (if_pos none) fun u hu => hu.passed
  · refine gives_next (c := (s.core k).issueAccess 0 (.fence (BitVec.ofNat 5 (field w 4 0))) (t.tag k)) rfl h rfl
      (if_neg (not_or.2 ⟨mask, some⟩)) rfl rfl fun u hu => ⟨hu.only, hu.went, hu.charged, ?_, ?_⟩
    · rw [hu.core]
      exact List.map_append
    · rw [hu.core]
      rfl

end Sys2Proof

/-! PROOF. Halts of the control core and the step monitor; guards, reserved fields and codes, illegal opcodes and HALT
(R102–R104, R115–R118). -/

namespace Sys2Proof.Machine

/-! ## A core halts -/

section Halts

variable (s : State) (k : CoreId)

/-- Core k has halted with this report, and no one has been told (R115, R118). -/
def State.haltedAt (key : Nat) (src : HaltSource) (reason detail pc addr : Nat) : State :=
  let s1 := (s.abandonEngines k).writeHaltRegs k src reason detail pc addr
  s1.setCore k { s1.core k with phase := .halted, haltGate := s.gate, haltKey := key, halting := (s.core k).queues }

/-- A core that has halted: its queues are empty and what they held is kept apart (R115). -/
def Core.afterHalt (c : Core) (gate : W64) (key : Nat) : Core :=
  { c with queues := Vector.replicate 4 [], phase := .halted, haltGate := gate, haltKey := key, halting := c.queues }

theorem State.haltAt_of_active {s : State} {k : CoreId} (h : (s.core k).phase.active = true) (key : Nat) (src : HaltSource)
    (reason detail pc addr : Nat) : s.haltAt k key src reason detail pc addr =
      ((s.haltedAt k key src reason detail pc addr).notify (clusterFin k) (.halt k)).1 := if_pos h

theorem State.core_haltedAt_same (key : Nat) (src : HaltSource) (reason detail pc addr : Nat) :
    (s.haltedAt k key src reason detail pc addr).core k = (s.core k).afterHalt s.gate key := by
  rw [State.haltedAt, State.core_setCore_same, State.core_writeHaltRegs, State.core_abandonEngines_same]
  rfl

theorem State.core_haltedAt_ne (key : Nat) (src : HaltSource) (reason detail pc addr : Nat) {j : CoreId} (h : j ≠ k) :
    (s.haltedAt k key src reason detail pc addr).core j = s.core j := by
  rw [State.haltedAt, State.core_setCore_ne _ _ _ _ h, State.core_writeHaltRegs, State.core_abandonEngines_ne _ _ h]

theorem State.core_haltAt {s : State} {k : CoreId} (active : (s.core k).phase.active = true) (key : Nat) (src : HaltSource)
    (reason detail pc addr : Nat) (j : CoreId) :
    (s.haltAt k key src reason detail pc addr).core j = if j = k then (s.core k).afterHalt s.gate key else s.core j := by
  rw [State.haltAt_of_active active, State.core_congr (State.notify_cores _ _ _)]
  split
  · next same => rw [same, State.core_haltedAt_same]
  · next other => rw [State.core_haltedAt_ne _ _ _ _ _ _ _ _ other]

end Halts

/-! ## What the instructions share -/

/-- The decoder reads the opcode map (R102, R104). -/
theorem milacInstr_eq (k : CoreId) (w : BitVec 56) (op : Nat) : milacInstr k w op = (milacOpcodes k w).lookup op := by
  unfold milacInstr
  split
  case h_62 =>
    refine (List.lookup_eq_none_iff.2 ?_).symm
    simp only [milacOpcodes, List.forall_mem_append, List.forall_mem_cons]
    grind
  all_goals rfl

/-- Whether a map holds a key depends on its keys. -/
theorem isSome_lookup_congr {α : Type} {l m : List (Nat × α)} (h : l.map Prod.fst = m.map Prod.fst) (a : Nat) :
    (l.lookup a).isSome = (m.lookup a).isSome := by
  induction l generalizing m with
  | nil => rw [List.map_eq_nil_iff.1 h.symm]
  | cons x l ih =>
    obtain ⟨y, r, rfl⟩ : ∃ y r, m = y :: r := List.exists_cons_of_ne_nil fun e => by simp [e] at h
    obtain ⟨key, keys⟩ := List.cons.inj h
    rw [List.lookup_cons, List.lookup_cons, ← key]
    split
    · rfl
    · exact ih keys

/-- An opcode is known where the decoder gives an instruction. -/
theorem opcodeKnown_eq (k : CoreId) (word : BitVec 64) : opcodeKnown (field word 63 56) = (decodeMilac k word).isSome := by
  have op : field word 63 56 = (word.extractLsb' 56 8).toNat := (BitVec.extractLsb'_toNat ..).symm
  rw [opcodeKnown, decodeMilac, op, milacInstr_eq, milacInstr_eq]
  exact isSome_lookup_congr (by rfl) _

/-- The guard is p[PP], negated by PN. -/
theorem guardTrue_eq (c : Core) (w : BitVec 56) :
    guardTrue c w = if w.getLsbD 55 then !c.pr (field w 54 52) else c.pr (field w 54 52) := by
  unfold guardTrue bit
  cases w.getLsbD 55 <;> cases c.pr (field w 54 52) <;> rfl

end Sys2Proof.Machine

namespace Sys2Proof

open Machine

/-- An active core halts with the report it is given. -/
theorem Halted.haltAt {s : State} {k : CoreId} (active : (s.core k).phase.active = true) (key : Nat) (src : HaltSource)
    {reason detail pc : Nat} (hreason : reason < 256) (hdetail : detail < 256) (hpc : pc < 2 ^ 18) (addr : Nat) :
    Halted k src.code reason detail pc addr s (s.haltAt k key src reason detail pc addr) := by
  have core := State.core_haltAt active key src reason detail pc addr
  have regs : ∀ o ∈ [Reg.ccHaltStatus k, Reg.ccHaltDetail k, Reg.ccHaltPc k, Reg.ccHaltAddr k],
      (s.haltAt k key src reason detail pc addr).reg o = (s.haltedAt k key src reason detail pc addr).reg o := fun o ho => by
    obtain ⟨status, overruns⟩ := haltRegs_ne k o ho
    rw [State.haltAt_of_active active, State.reg_notify _ _ _ status overruns]
  obtain ⟨wstatus, wdetail, wpc, waddr⟩ := (s.abandonEngines k).reg_writeHaltRegs k src reason detail pc addr
  refine ⟨?_, ?_, ?_, ?_, ?_, fun r => ?_, ?_, ?_, ?_, fun j hj => ?_⟩
  · rw [core, if_pos rfl]
    rfl
  · rw [regs _ (by simp), State.haltedAt, State.reg_setCore, wstatus, Nat.mod_eq_of_lt hreason]
  · rw [regs _ (by simp), State.haltedAt, State.reg_setCore, wdetail, Nat.mod_eq_of_lt hdetail]
  · rw [regs _ (by simp), State.haltedAt, State.reg_setCore, wpc, Nat.mod_eq_of_lt hpc]
  · rw [regs _ (by simp), State.haltedAt, State.reg_setCore, waddr]
  · rw [core, if_pos rfl]
    exact Vector.getElem_replicate _
  · rw [core, if_pos rfl]
    rfl
  · rw [core, if_pos rfl]
    rfl
  · rw [core, if_pos rfl]
    rfl
  · rw [core, if_neg hj]

/-- A running core halts at its own instruction. -/
theorem Halted.ofControl {s : State} {k : CoreId} (running : (s.core k).phase = .running) {reason detail : Nat}
    (hreason : reason < 256) (hdetail : detail < 256) (addr : Nat) :
    Halted k 0 reason detail (s.core k).pc.toNat addr s (s.halt k .control reason detail (s.core k).pc.toNat addr) :=
  .haltAt (by rw [running]; rfl) _ .control hreason hdetail (s.core k).pc.isLt addr

section Halts

variable {i : Instr} {s : State} {k : CoreId} {w : BitVec 56} {used steps : Nat} {badCode : Bool}
  {body : State → Core → Tile → Effect} {t : Tile} {reason detail addr : Nat}

/-- An instruction whose effect is a halt: the report, and the core. -/
theorem gives_halt_core (hi : exec i s = ok (issue k w used badCode steps body s)) (h : Ready s k w used t) (hb : badCode = false)
    (effect : body s (s.core k) t = .halt reason detail addr) (hreason : reason < 256) (hdetail : detail < 256) :
    Gives i s (fun u => Halted k 0 reason detail (s.core k).pc.toNat addr s u ∧
      u.core k = (s.core k).afterHalt s.gate (s.core k).reached) :=
  ⟨_, by rw [hi, issue_eq h hb, effect]; rfl, .ofControl h.running hreason hdetail addr,
    (State.core_haltAt (by rw [h.running]; rfl) _ .control reason detail (s.core k).pc.toNat addr k).trans (if_pos rfl)⟩

theorem gives_halt (hi : exec i s = ok (issue k w used badCode steps body s)) (h : Ready s k w used t) (hb : badCode = false)
    (effect : body s (s.core k) t = .halt reason detail addr) (hreason : reason < 256) (hdetail : detail < 256) :
    Gives i s (Halted k 0 reason detail (s.core k).pc.toNat addr s) := by
  obtain ⟨u, hu, halted, _⟩ := gives_halt_core hi h hb effect hreason hdetail
  exact ⟨u, hu, halted⟩

end Halts

/-- The instruction issues, with these bits of its word and its own reserved codes. -/
def IssuesWith (k : CoreId) (w : BitVec 56) (x : Instr × Nat) : Prop :=
  ∃ steps body, ∀ s, exec x.1 s = ok (issue k w x.2 (reservedCode x.1) steps body s)

theorem IssuesWith.direct {k : CoreId} {w : BitVec 56} {i : Instr} {used steps : Nat} {badCode : Bool}
    {body : State → Core → Tile → Effect} (hi : ∀ s, exec i s = ok (issue k w used badCode steps body s))
    (hc : reservedCode i = badCode) : IssuesWith k w (i, used) := ⟨steps, body, hc ▸ hi⟩

theorem IssuesWith.writesG {k : CoreId} {w : BitVec 56} {i : Instr} {used steps : Nat} {f : Core → Tile → W64}
    (hi : ∀ s, exec i s = ok (writesG k w used steps f s)) (hc : reservedCode i = false) : IssuesWith k w (i, used) :=
  .direct (steps := steps) (body := fun s c t => .next (s.setCore k (c.setG (fD w) (f c t)))) hi hc

/-- Every instruction of the list issues with its own bits and codes: those of a body of their own, and those that only write gD. -/
theorem milacFields_issue (k : CoreId) (w : BitVec 56) : ∀ x ∈ milacFields k w, IssuesWith k w x := by
  unfold milacFields
  simp only [List.forall_mem_append, List.forall_mem_map]
  simp only [List.mem_cons, List.not_mem_nil, or_false, forall_eq_or_imp, forall_eq]
  and_intros
  any_goals exact .direct (fun _ => rfl) rfl
  all_goals exact .writesG (fun _ => rfl) rfl

/-- An instruction whose guard is false goes on. -/
theorem gives_unguarded {i : Instr} {s : State} {k : CoreId} {w : BitVec 56} {used steps : Nat}
    {body : State → Core → Tile → Effect} {t : Tile} {P : State → Prop}
    (hi : exec i s = ok (issue k w used false steps body s)) (running : (s.core k).phase = .running)
    (tile : (s.core k).tile = some t) (fields : reservedSet w used = false) (guard : guardTrue (s.core k) w = false)
    (hf : inPartition t (sequel (s.core k).loops (s.core k).pc).2 = true) (hr : Room s k 1)
    (hP : ∀ u, Stepped k (s.core k) 1 s u → P u) : Gives i s P := by
  have skips : issue k w used false steps body s = conclude s k t 1 (.next s) := by
    simp only [issue, issueWith, running, tile, fields, guard, Bool.or_false, Bool.false_eq_true, if_false]
  have stepped : Stepped k (s.core k) 1 s ((s.following k).charging k 1) := by
    simpa only [State.setCore_self] using Stepped.followed (c := s.core k) hr rfl rfl
  exact ⟨_, by rw [hi, skips, conclude_follows hf hr rfl rfl rfl]; rfl, hP _ stepped⟩

/-- Settles O10: the checks of every instruction by `milacFields_issue`, the decoder by its map. -/
theorem guardsAndEncodingChecks : Obligations.GuardsAndEncodingChecks := by
  refine ⟨fun k word => ⟨milacInstr_eq _ _ _, opcodeKnown_eq k word⟩, fun s k w word t running tile => ?_⟩
  intro pc p only
  refine ⟨guardTrue_eq _ _, fun x hx bad => ?_, fun bad => ?_, fun unknown => ?_, fun guard room => ⟨fun follow x hx good => ?_,
    fun fields len last beyond => ?_⟩, fun fields guard => ?_⟩
  · obtain ⟨steps, body, hi⟩ := milacFields_issue k w x hx
    exact ⟨_, (hi s).trans (congrArg ok (issueWith_reserved _ _ _ _ _ _ _ _ t running tile bad)),
      .ofControl running (by decide) (by decide) 0⟩
  · exact ⟨_, congrArg ok (issueWith_reserved _ _ _ _ _ _ _ _ t running tile (by rw [bad]; rfl)),
      .ofControl running (by decide) (by decide) 0⟩
  · refine ⟨s.halt k .control 0x01 0 (s.core k).pc.toNat 0, ?_, .ofControl running (by decide) (by decide) 0⟩
    show execIllegalOpcode k word s = _
    simp only [execIllegalOpcode, running, unknown, Bool.false_eq_true, if_false]
    rfl
  · obtain ⟨steps, body, hi⟩ := milacFields_issue k w x hx
    obtain ⟨fields, code⟩ := Bool.or_eq_false_iff.1 good
    exact gives_unguarded (code ▸ hi s) running tile fields guard follow room fun u hu => hu.passed
  · refine gives_jump (chk := false) (c := s.core k) ?_ room beyond rfl rfl fun u jumped g => ⟨g, jumped⟩
    refine congrArg ok ((issueWith_always k w _ 1 _ running tile fields).trans (congrArg (conclude s k t 1) ?_))
    dsimp only
    rw [if_neg len, last, guard, Bool.not_false, Bool.or_true, State.setCore_self]
    rfl
  · exact gives_halt rfl ⟨running, tile, fields, guard⟩ rfl rfl (by decide) (field_lt w 7 0)

end Sys2Proof

/-! PROOF. Loads and stores of the data store, and their halts (R98, R104, R109). -/

namespace Sys2Proof.Machine

/-! ## Bytes and words (R4) -/

theorem toNat_append_add {m n : Nat} (x : BitVec m) (y : BitVec n) : (x ++ y).toNat = x.toNat * 2 ^ n + y.toNat := by
  rw [BitVec.toNat_append, ← Nat.shiftLeft_add_eq_or_of_lt y.isLt, Nat.shiftLeft_eq]

theorem ofNat_toNat_same {n : Nat} (x : BitVec n) : BitVec.ofNat n x.toNat = x := by
  rw [BitVec.ofNat_toNat, BitVec.setWidth_eq]

/-- Four bytes spell a word, the first lowest. -/
theorem ofLe_four (b0 b1 b2 b3 : Byte) : ofLe [b0, b1, b2, b3] = (b3 ++ b2 ++ b1 ++ b0).toNat := by
  simp only [ofLe, toNat_append_add]
  omega

/-- Eight bytes spell a word and, above it, another. -/
theorem ofLe_eight (b0 b1 b2 b3 b4 b5 b6 b7 : Byte) :
    ofLe [b0, b1, b2, b3, b4, b5, b6, b7] = ((b7 ++ b6 ++ b5 ++ b4) ++ (b3 ++ b2 ++ b1 ++ b0)).toNat := by
  simp only [ofLe, toNat_append_add]
  omega

/-- The bytes of a word are its slices. -/
theorem leBytes_getD {n m i : Nat} (x : BitVec m) (h : i < n) : (leBytes n x.toNat).getD i 0 = x.extractLsb' (8 * i) 8 := by
  have digits : ∀ (n i v : Nat), i < n → (leBytes n v).getD i 0 = BitVec.ofNat 8 (v / 256 ^ i) := by
    intro n
    induction n with
    | zero => exact fun i v h => absurd h (Nat.not_lt_zero i)
    | succ n ih =>
      intro i v h
      cases i with
      | zero => rw [pow_zero, Nat.div_one]; rfl
      | succ i =>
        rw [leBytes, List.getD_cons_succ, ih i _ (by omega), Nat.div_div_eq_div_mul, Nat.pow_succ']
  apply BitVec.eq_of_toNat_eq
  rw [digits n i _ h, BitVec.toNat_ofNat, BitVec.extractLsb'_toNat, Nat.shiftRight_eq_div_pow, Nat.pow_mul]

/-! ## The data partition -/

theorem readData_eq (s : State) (k : CoreId) (t : Tile) (a n : Nat) :
    readData (s.core k) t a n = (List.range n).map (fun i => dataByte s k (t.dbase * 4096 + a + i)) := readRun_eq _ _ _ _

theorem lookupD_writeData (c : Core) (t : Tile) (a x : Nat) (bs : List Byte) :
    lookupD 0 (writeData c t a bs).dstore x =
      if t.dbase * 4096 + a ≤ x ∧ x < t.dbase * 4096 + a + bs.length then bs.getD (x - (t.dbase * 4096 + a)) 0
      else lookupD 0 c.dstore x := lookupD_writeRun _ _ _ _ _

/-- An access of n bytes lies in the data partition, at a multiple of its size. -/
theorem dataOk_of {t : Tile} {a n len : Nat} (hi : a + len ≤ t.dpart * 4096) (ha : a % n = 0) : dataOk t a n len = true := by
  simp [dataOk, hi, ha]

theorem not_dataOk_of {t : Tile} {a n len : Nat} (h : t.dpart * 4096 < a + len ∨ a % n ≠ 0) : dataOk t a n len = false := by
  rw [dataOk, Bool.and_eq_false_iff, decide_eq_false_iff_not, not_le, beq_eq_false_iff_ne]
  exact h

end Sys2Proof.Machine

namespace Sys2Proof

open Machine

section Data

variable {s : State} {k : CoreId} {w : BitVec 56} {t : Tile} {i : Instr} {n : Nat}

/-- A load inside the partition gives gD the value of its bytes. -/
theorem gives_dataLoad {f : Nat → W64} {v : W64} (hi : exec i s = ok (dataLoad k w n f s))
    (h : Issues s k w (mD + mA + mImm) 2 t) (inside : dataAddr (s.core k) w + n ≤ t.dpart * 4096)
    (aligned : dataAddr (s.core k) w % n = 0) (free : slotPending (s.core k) (dataAddr (s.core k) w) n = false)
    (hv : f (ofLe (readData (s.core k) t (dataAddr (s.core k) w) n)) = v) : Gives i s (WroteG k w 2 v s) := by
  refine gives_setG hi h ?_
  dsimp only
  rw [dataOk_of inside aligned, free, hv]
  rfl

/-- A store inside the partition changes the bytes at its address. -/
theorem gives_dataStore (hi : exec i s = ok (dataStore k w n s)) (h : Issues s k w (mD + mA + mImm) 1 t) {a : Nat}
    (ha : a = dataAddr (s.core k) w) (inside : a + n ≤ t.dpart * 4096) (aligned : a % n = 0)
    (free : slotPending (s.core k) a n = false) :
    Gives i s (fun u => OnlyCore k [Reg.ccTileCharge k] s u ∧ WentOn k s u ∧ Charged k 1 s u ∧
      u.core k = { s.core k with dstore := (u.core k).dstore, pc := (u.core k).pc, loops := (u.core k).loops } ∧
      ∀ x, dataByte u k x = if t.dbase * 4096 + a ≤ x ∧ x < t.dbase * 4096 + a + n
        then ((s.core k).gr (fD w)).extractLsb' (8 * (x - (t.dbase * 4096 + a))) 8 else dataByte s k x) := by
  subst ha
  refine gives_next (c := writeData (s.core k) t (dataAddr (s.core k) w) (leBytes n ((s.core k).gr (fD w)).toNat)) hi h rfl ?_ rfl
    rfl fun u hu => ⟨hu.only, hu.went, hu.charged, ?_, fun x => ?_⟩
  · dsimp only
    rw [dataOk_of inside aligned, free]
    rfl
  · rw [hu.core]
    rfl
  · rw [dataByte, hu.core]
    refine (lookupD_writeData _ _ _ x _).trans ?_
    rw [leBytes_length]
    split
    · next within => exact leBytes_getD _ (by omega)
    · rfl

/-- An access outside the partition, or not aligned, halts with 0x0D. -/
theorem gives_dataFault {steps : Nat} {body : State → Core → Tile → Effect} {a : Nat}
    (hi : exec i s = ok (issue k w (mD + mA + mImm) false steps body s)) (h : Ready s k w (mD + mA + mImm) t)
    (ha : a = dataAddr (s.core k) w) (bad : t.dpart * 4096 < a + n ∨ a % n ≠ 0)
    (effect : dataOk t (dataAddr (s.core k) w) n n = false → body s (s.core k) t = .halt 0x0D 0 (dataAddr (s.core k) w)) :
    Gives i s (Halted k 0 0x0D 0 (s.core k).pc.toNat a s) := by
  subst ha
  exact gives_halt hi h rfl (effect (not_dataOk_of bad)) (by decide) (by decide)

end Data

/-- Settles O11: loads by the bytes they spell, stores by `lookupD_writeData`. -/
theorem dataStoreAccesses : Obligations.DataStoreAccesses := by
  intro s k w t a ha at_ word upper fits stored
  have bytes4 : ofLe (readData (s.core k) t a 4) = word.toNat := by
    rw [readData_eq]
    exact ofLe_four _ _ _ _
  have bytes8 : ofLe (readData (s.core k) t a 8) = (upper ++ word).toNat := by
    rw [readData_eq]
    exact ofLe_eight _ _ _ _ _ _ _ _
  refine ⟨fun h => ⟨?_, ?_, ?_⟩, fun h => ⟨?_, ?_⟩, fun h => ⟨fun bad => ?_, fun bad => ?_⟩⟩
  · rintro ⟨inside, aligned, free⟩
    subst ha
    exact gives_dataLoad rfl h inside aligned free ((congrArg (BitVec.ofNat 64) bytes8).trans (ofNat_toNat_same _))
  · rintro ⟨inside, aligned, free⟩
    subst ha
    exact gives_dataLoad rfl h inside aligned free ((congrArg (fun v => (BitVec.ofNat 32 v).signExtend 64) bytes4).trans
      (congrArg (BitVec.signExtend 64) (ofNat_toNat_same word)))
  · rintro ⟨inside, aligned, free⟩
    subst ha
    exact gives_dataLoad rfl h inside aligned free ((congrArg (BitVec.ofNat 64) bytes4).trans (BitVec.ofNat_toNat 64 word))
  · rintro ⟨inside, aligned, free⟩
    exact gives_dataStore rfl h ha inside aligned free
  · rintro ⟨inside, aligned, free⟩
    exact gives_dataStore rfl h ha inside aligned free
  · simp only [List.forall_mem_cons, List.mem_singleton, forall_eq]
    exact ⟨gives_dataFault rfl h ha bad fun no => by simp [no], gives_dataFault rfl h ha bad fun no => by simp [no]⟩
  · simp only [List.forall_mem_cons, List.mem_singleton, forall_eq]
    exact ⟨gives_dataFault rfl h ha bad fun no => by simp [no], gives_dataFault rfl h ha bad fun no => by simp [no],
      gives_dataFault rfl h ha bad fun no => by simp [no]⟩

end Sys2Proof

/-! PROOF. TWAIT, TSIG, TDEC and CLAIM (R113, R114, R136, R179). -/

namespace Sys2Proof.Machine

/-- The waits of the engine queues take no more tokens than there are. -/
theorem Core.tokensFor_le (c : Core) (unit : Nat) (j : Fin 32) : c.tokensFor unit j ≤ (c.token j).toNat := by
  refine List.foldlRecOn (motive := (· ≤ (c.token j).toNat)) _ _ le_rfl fun v hv q _ => ?_
  split
  · split
    · exact (Nat.sub_le _ _).trans hv
    · exact hv
  · exact hv

/-- Where no engine queue waits on the counter, all of its tokens are left. -/
theorem Core.tokensFor_of_none (c : Core) (unit : Nat) (j : Fin 32) (h : ∀ q w, c.headWait q = some w → w.1 ≠ j) :
    c.tokensFor unit j = (c.token j).toNat := by
  refine List.foldl_fixed' (fun q => ?_) _
  split
  · next w hw => exact if_neg fun e => h q w hw e.1
  · rfl

/-- Tokens taken leave the rest. -/
theorem Core.toNat_token_take {c : Core} {j : Fin 32} {n : Nat} (h : n ≤ (c.token j).toNat) :
    ((c.setToken j (c.token j - BitVec.ofNat 16 n)).token j).toNat = (c.token j).toNat - n := by
  have below := (c.token j).isLt
  rw [Core.token_setToken, if_pos rfl, BitVec.toNat_sub, BitVec.toNat_ofNat]
  omega

/-- The control of a core that was stalled goes on. -/
theorem State.core_resume (s : State) (k : CoreId) : (s.resume k).core k = { s.core k with
    loops := (sequel (s.core k).loops (s.core k).pc).1
    pc := BitVec.ofNat 18 (sequel (s.core k).loops (s.core k).pc).2
    phase := .running } := State.core_setCore_same _ _ _

end Sys2Proof.Machine

namespace Sys2Proof

open Machine

/-- A stalled core that takes the core c goes on. -/
theorem WentOn.resume {s s1 : State} {k : CoreId} (hl : (s1.core k).loops = (s.core k).loops)
    (hp : (s1.core k).pc = (s.core k).pc) : WentOn k s (s1.resume k) where
  pc := by rw [State.core_resume, hl, hp]
  loops := by rw [State.core_resume, hl, hp]

section Tokens

variable {i : Instr} {s : State} {k : CoreId} {w : BitVec 56} {t : Tile} {j : Fin 32} {v : BitVec 16} {m : Nat}
  {body : State → Core → Tile → Effect}

/-- An instruction that sets a token counter. -/
theorem gives_setToken (hi : exec i s = ok (issue k w (bits 20 0) false 1 body s)) (h : Issues s k w (bits 20 0) 1 t)
    (effect : body s (s.core k) t = .next (s.setCore k ((s.core k).setToken j v)))
    (hv : (((s.core k).setToken j v).token j).toNat = m) :
    Gives i s (fun u => OnlyCore k [Reg.ccTileCharge k] s u ∧ WentOn k s u ∧ Charged k 1 s u ∧
      u.core k = { s.core k with tokens := (u.core k).tokens, pc := (u.core k).pc, loops := (u.core k).loops } ∧
      ((u.core k).token j).toNat = m ∧ ∀ i, i ≠ j → (u.core k).token i = (s.core k).token i) := by
  refine gives_next (c := (s.core k).setToken j v) hi h rfl effect rfl rfl fun u hu => ?_
  have token : ∀ i, (u.core k).token i = ((s.core k).setToken j v).token i := fun i => by rw [hu.core]; rfl
  refine ⟨hu.only, hu.went, hu.charged, ?_, by rw [token, hv], fun i hne => ?_⟩
  · rw [hu.core]
    rfl
  · rw [token, Core.token_setToken, if_neg hne]

/-- A token halt leaves the counters. -/
theorem gives_tokenHalt {reason : Nat} (hi : exec i s = ok (issue k w (bits 20 0) false 1 body s))
    (h : Issues s k w (bits 20 0) 1 t) (effect : body s (s.core k) t = .halt reason 0 0) (hreason : reason < 256) :
    Gives i s (fun u => Halted k 0 reason 0 (s.core k).pc.toNat 0 s u ∧ (u.core k).tokens = (s.core k).tokens) := by
  obtain ⟨u, hu, halted, core⟩ := gives_halt_core hi h.ready rfl effect hreason (by decide)
  exact ⟨u, hu, halted, by rw [core]; rfl⟩

/-- An instruction that stalls with the core c. -/
theorem gives_stall {used steps : Nat} {c : Core} (hi : exec i s = ok (issue k w used false steps body s))
    (h : Issues s k w used steps t) (effect : body s (s.core k) t = .wait (s.setCore k c)) (hl : c.loops = (s.core k).loops) :
    Gives i s (fun u => OnlyCore k [Reg.ccTileCharge k] s u ∧ Charged k steps s u ∧ u.core k = c) := by
  refine ⟨(s.setCore k c).charging k steps, ?_, .setCore_charging s k c steps, .charging (fun _ => rfl) h.room,
    State.core_setCore_same s k c⟩
  rw [hi, issue_eq h.ready rfl, effect, conclude_stalls (s1 := s.setCore k c) h.follow h.room (by simpa using hl) rfl]
  rfl

end Tokens

/-- A stalled TWAIT takes its tokens and goes on. -/
theorem gives_tokenWait {s : State} {k : CoreId} {j : Fin 32} {n : Nat} (phase : (s.core k).phase = .waitToken j n)
    (enough : n ≤ (s.core k).tokensFor 4 j) :
    Gives (.tokenWaitSatisfied k) s (fun u => OnlyCore k [] s u ∧ WentOn k s u ∧ (u.core k).phase = .running ∧
      ((u.core k).token j).toNat = ((s.core k).token j).toNat - n ∧
      (∀ i, i ≠ j → (u.core k).token i = (s.core k).token i) ∧
      u.core k = { s.core k with
        tokens := (u.core k).tokens, pc := (u.core k).pc, loops := (u.core k).loops, phase := .running }) := by
  let c := (s.core k).setToken j ((s.core k).token j - BitVec.ofNat 16 n)
  have stalled : (s.setCore k c).core k = c := State.core_setCore_same _ _ _
  have core : ((s.setCore k c).resume k).core k = { c with
      loops := (sequel c.loops c.pc).1, pc := BitVec.ofNat 18 (sequel c.loops c.pc).2, phase := .running } := by
    rw [State.core_resume, stalled]
  have token : ∀ i, (((s.setCore k c).resume k).core k).token i = c.token i := fun i => by rw [core]; rfl
  refine ⟨(s.setCore k c).resume k, ?_, (OnlyCore.setCore k _ s c).trans (.setCore k _ _ _),
    .resume (by rw [stalled]; rfl) (by rw [stalled]; rfl), by rw [core], ?_, fun i hne => ?_, ?_⟩
  · show execTokenWaitSatisfied k s = _
    simp only [execTokenWaitSatisfied, phase, if_pos enough]
    rfl
  · rw [token]
    exact Core.toNat_token_take (enough.trans (Core.tokensFor_le _ _ _))
  · rw [token, Core.token_setToken, if_neg hne]
  · rw [core]
    rfl

/-- CLAIM joins the waiting claims of the counter bound and stalls. -/
theorem gives_claim {s : State} {k : CoreId} {w : BitVec 56} {t : Tile} {p : CounterId} {j : Job} {x : Counter}
    (h : Issues s k w (mD + bits 11 8 + bits 2 0) 1 t) (hj : s.job? t.job = some j) (hp : j.bound? (field w 11 8) = some p)
    (hx : s.counters[p] = some x) :
    Gives (.ccClaim k w) s (fun u => Charged k 1 s u ∧
      u.core k = { s.core k with phase := .waitClaim p (fD w) (BitVec.ofNat 3 (field w 2 0)) } ∧
      SameRegs [Reg.ccTileCharge k] s u ∧ u.counters[p] = some { x with waiting := x.waiting ++ [.control k] } ∧
      (∀ r, r ≠ p → u.counters[r] = s.counters[r]) ∧ (∀ i, i ≠ k → u.core i = s.core i) ∧ u.mem = s.mem) := by
  let c : Core := { s.core k with phase := .waitClaim p (fD w) (BitVec.ofNat 3 (field w 2 0)) }
  let s1 := (s.setCore k c).addClaim p (.control k)
  have core : ∀ i, s1.core i = (s.setCore k c).core i := fun _ => rfl
  refine ⟨s1.charging k 1, congrArg ok ((issue_eq h.ready rfl).trans (Eq.trans ?_ (conclude_stalls (s1 := s1) h.follow h.room ?_ rfl))),
    .charging (fun _ => rfl) h.room, ?_, fun o ho => ?_, ?_, fun r hr => ?_, fun i hne => ?_, rfl⟩
  · rw [hj, Option.bind_some, hp]
  · rw [core, State.core_setCore_same]
  · exact State.core_setCore_same s k c
  · exact State.reg_charging_ne _ _ _ (by simpa using ho)
  · exact (Vector.getElem_set_self ..).trans (by rw [State.setCore, hx]; rfl)
  · exact (Vector.getElem_set_fin _ _ _ _).trans (if_neg hr)
  · exact State.core_setCore_ne _ _ _ _ hne

/-- Settles O14: the counters by `gives_setToken`, what stalls by `gives_stall`, the claim by `gives_claim`. -/
theorem tokensAndClaims : Obligations.TokensAndClaims := by
  refine ⟨fun s k w t j n hj hn h => ?_, fun s k w t => ?_⟩
  · intro c v set
    have token : tokenOf w = j := Fin.ext (by rw [hj]; exact Nat.mod_eq_of_lt (field_lt w 20 16))
    have left : c.tokensFor 4 j ≤ v := c.tokensFor_le 4 j
    have below : v < 65536 := (c.token j).isLt
    subst token hn
    refine ⟨⟨left, c.tokensFor_of_none 4 _⟩, fun enough => ?_, fun few => ?_, fun enough => ?_, fun few => ?_, fun room => ?_,
      fun beyond => ?_⟩
    · exact gives_setToken rfl h (if_pos enough) (Core.toNat_token_take (enough.trans left))
    · exact gives_stall rfl h (if_neg few.not_ge) rfl
    · exact gives_setToken rfl h (if_neg enough.not_gt) (Core.toNat_token_take enough)
    · exact gives_tokenHalt rfl h (if_pos few) (by decide)
    · refine gives_setToken rfl h (if_neg room.not_gt) ?_
      rw [Core.token_setToken, if_pos rfl, BitVec.toNat_ofNat]
      exact Nat.mod_eq_of_lt (Nat.lt_succ_of_le room)
    · exact gives_tokenHalt rfl h (if_pos beyond) (by decide)
  · refine ⟨fun j n phase enough => ?_, fun p j x h hj hp hx => gives_claim h hj hp hx, fun h unbound => ?_⟩
    · exact gives_tokenWait phase enough
    · exact gives_halt rfl h rfl (by rw [unbound]) (by decide) (by decide)

end Sys2Proof

/-! PROOF. PUSH and PUSHD append or stall (R112, R121, R124, R140). -/

namespace Sys2Proof.Machine

/-! ## A batch joins its queue -/

/-- The descriptors ds from position pos on have joined a batch, each as a waiting command of a PUSH at pc. -/
structure Joined (pc : BitVec 18) (pos : Nat) (ds : List Desc) (a b : Append) : Prop where
  cmds : ∃ cs : List Cmd, b.cmds = a.cmds ++ cs ∧ cs.map (·.desc) = ds ∧ cs.map (·.pos) = List.range' pos ds.length ∧
    ∀ c ∈ cs, c.phase = .waiting ∧ c.pc = pc
  before : b.before = ds.getLast?.or a.before

section Append

variable {s : State} {k : CoreId} {t : Tile} {q : QueueId} {pc : BitVec 18} {pos : Nat} {a b : Append} {d : Desc} {ds : List Desc}

/-- A descriptor that passes its checks joins. -/
theorem Joined.one (h : appendOne s k t q pc pos a d = .ok b) : Joined pc pos [d] a b := by
  unfold appendOne at h
  dsimp only at h
  generalize (if unitAbsent s q d = true then _ else _ : Option (Nat × Nat)) = fail at h
  cases fail with
  | some e => cases h
  | none =>
    cases h
    exact ⟨⟨_, rfl, rfl, rfl, fun c hc => by rw [List.mem_singleton.1 hc]; exact ⟨rfl, rfl⟩⟩, rfl⟩

/-- One descriptor, and then the rest. -/
theorem Joined.cons {m : Append} (one : Joined pc pos [d] a m) (rest : Joined pc (pos + 1) ds m b) : Joined pc pos (d :: ds) a b := by
  obtain ⟨⟨c1, cmds1, desc1, pos1, all1⟩, before1⟩ := one
  obtain ⟨⟨c2, cmds2, desc2, pos2, all2⟩, before2⟩ := rest
  refine ⟨⟨c1 ++ c2, ?_, ?_, ?_, fun c hc => (List.mem_append.1 hc).elim (all1 c) (all2 c)⟩, ?_⟩
  · rw [cmds2, cmds1, List.append_assoc]
  · rw [List.map_append, desc1, desc2]
    rfl
  · rw [List.map_append, pos1, pos2]
    rfl
  · rw [before2, before1]
    cases last : ds.getLast? <;> simp [List.getLast?_cons, last]

/-- A batch that passes its checks joins in order. -/
theorem Joined.all (h : appendAll s k t q pc pos ds a = .ok b) : Joined pc pos ds a b := by
  induction ds generalizing pos a with
  | nil =>
    cases h
    exact ⟨⟨[], (List.append_nil _).symm, rfl, rfl, fun c hc => absurd hc List.not_mem_nil⟩, rfl⟩
  | cons d ds ih =>
    unfold appendAll at h
    cases first : appendOne s k t q pc pos a d with
    | error e => rw [first] at h; cases h
    | ok m => rw [first] at h; exact .cons (.one first) (ih h)

/-- The checks of a batch read nothing of the cores. -/
theorem appendAll_setCore (c : Core) : appendAll (s.setCore k c) k t q pc pos ds a = appendAll s k t q pc pos ds a := by
  induction ds generalizing pos a with
  | nil => rfl
  | cons d ds ih =>
    have one : appendOne (s.setCore k c) k t q pc pos a d = appendOne s k t q pc pos a d := rfl
    unfold appendAll
    rw [one]
    cases appendOne s k t q pc pos a d with
    | error e => rfl
    | ok m => exact ih

end Append

/-- The core of a batch that has joined its queue. -/
def Core.appended (c : Core) (q : QueueId) (n : Nat) (b : Append) : Core :=
  { c.setQueue q (c.queue q ++ b.cmds) with
    lastAppended := c.lastAppended.set q b.before, skew := b.skew, chainAppended := b.chain, geomAppended := b.geom
    tile := c.tile.map (fun x => { x with appended := x.appended + n }) }

/-- The engine whose charge counts the commands of a queue (R140). -/
def queueUnit (q : QueueId) : ChargeUnit := if q = 0 then .mtx else .vec

theorem queueUnit_ne (q : QueueId) : queueUnit q ≠ .ctl := by
  unfold queueUnit
  split <;> decide

/-- A charge that is made is counted. -/
theorem State.addCharge_some {s u : State} {k : CoreId} {x : ChargeUnit} {n : Nat} (h : s.addCharge k x n = some u) :
    u = s.setFld (Reg.ccTileCharge k) (x.lo + 15) x.lo (s.charge k x + n) := by
  unfold State.addCharge at h
  dsimp only at h
  split at h
  · exact absurd h (by simp)
  · exact (Option.some.inj h).symm

section Batch

variable {s s1 : State} {k : CoreId} {t : Tile} {q : QueueId} {ds : List Desc}

/-- What a batch joins to: the core's own last descriptor, skew sequences, chain and geometry. -/
def Core.appendStart (c : Core) (q : QueueId) : Append := ⟨c.lastAppended[q], c.skew, c.chainAppended, c.geomAppended, 0, []⟩

/-- The state of a batch that was appended. -/
theorem appendBatch_eq (h : appendBatch s k t q ds = .ok s1) : ∃ (b : Append) (v : Nat),
    Joined (s.core k).pc 0 ds ((s.core k).appendStart q) b ∧
    s1 = (s.setFld (Reg.ccTileCharge k) ((queueUnit q).lo + 15) (queueUnit q).lo v).setCore k ((s.core k).appended q ds.length b) := by
  unfold appendBatch at h
  dsimp only at h
  split at h
  · cases h
  · split at h
    · cases h
    · next b all =>
      split at h
      · cases h
      · next s2 charge =>
        have counted := State.addCharge_some charge
        subst counted
        cases h
        exact ⟨b, _, .all all, rfl⟩

/-- Where the queue lacks room, or a FENCE with SP holds it back, nothing is appended. -/
theorem appendBatch_full (h : queueDepth q < (s.core k).occupied q + ds.length ∨ spClear (s.core k) = false) :
    appendBatch s k t q ds = .noRoom := by
  refine if_pos ?_
  rcases h with full | held
  · rw [decide_eq_true full, Bool.true_or]
  · rw [held, Bool.not_false, Bool.or_true]

end Batch

end Sys2Proof.Machine

namespace Sys2Proof

open Machine

section Batch

variable {s s1 : State} {k : CoreId} {t : Tile} {q : QueueId} {ds : List Desc}

/-- A batch that was appended stands in its queue; the core has not gone on, and no step is charged. -/
theorem appendBatch_ok (h : appendBatch s k t q ds = .ok s1) : Appended k q ds s s1 ∧ (s1.core k).loops = (s.core k).loops ∧
    (s1.core k).pc = (s.core k).pc ∧ (s1.core k).phase = (s.core k).phase ∧ s1.charge k .ctl = s.charge k .ctl := by
  obtain ⟨b, v, ⟨⟨cs, cmds, desc, pos, all⟩, before⟩, rfl⟩ := appendBatch_eq h
  have core := State.core_setCore_same (s.setFld (Reg.ccTileCharge k) ((queueUnit q).lo + 15) (queueUnit q).lo v) k
    ((s.core k).appended q ds.length b)
  have queue : ∀ r, ((s.core k).appended q ds.length b).queue r = if r = q then (s.core k).queue q ++ b.cmds else (s.core k).queue r :=
    fun r => Core.queue_setQueue (s.core k) q r _
  refine ⟨⟨⟨cs, ?_, desc, ?_, all⟩, fun r hr => ?_, fun some => ?_, ?_, ?_⟩, ?_, ?_, ?_, ?_⟩
  · rw [core, queue, if_pos rfl, cmds]
    rfl
  · rw [pos, List.range_eq_range']
  · rw [core, queue, if_neg hr]
  · rw [core]
    refine (Vector.getElem_set_self ..).trans (before.trans ?_)
    rw [List.getLast?_eq_some_getLast some]
    rfl
  · rw [core]
    rfl
  · have charged : OnlyCore k [Reg.ccTileCharge k] s (s.setFld (Reg.ccTileCharge k) ((queueUnit q).lo + 15) (queueUnit q).lo v) :=
      ⟨rfl, fun _ _ => rfl, fun o ho => State.reg_setReg_ne _ _ _ _ (by simpa using ho)⟩
    exact charged.trans (.setCore k _ _ _)
  · rw [core]
    rfl
  · rw [core]
    rfl
  · rw [core]
    rfl
  · exact State.charge_setFld_ne _ _ _ _ _ (queueUnit_ne q).symm

/-- What a batch needs: room, the checks, and room in the charge. -/
theorem appends_iff : Appends s k t q ds ↔
    (queueDepth q < (s.core k).occupied q + ds.length || !spClear (s.core k)) = false ∧
    ∃ b, appendAll s k t q (s.core k).pc 0 ds ((s.core k).appendStart q) = .ok b ∧
      s.charge k (queueUnit q) + b.charge ≤ 20000 := by
  have charge : ∀ n, (∃ u, s.addCharge k (queueUnit q) n = some u) ↔ s.charge k (queueUnit q) + n ≤ 20000 := fun n => by
    unfold State.addCharge
    dsimp only
    split
    · next beyond => exact ⟨fun e => by simp at e, fun e => absurd e beyond.not_ge⟩
    · next fits => exact ⟨fun _ => not_lt.1 fits, fun _ => ⟨_, rfl⟩⟩
  unfold Appends appendBatch
  dsimp only
  split
  · next full => exact ⟨fun ⟨_, e⟩ => (by cases e), fun ⟨e, _⟩ => (by rw [e] at full; cases full)⟩
  · next room =>
    rw [Bool.not_eq_true] at room
    split
    · next e refused => exact ⟨fun ⟨_, e⟩ => (by cases e), fun ⟨_, b, e, _⟩ => (by cases refused.symm.trans e)⟩
    · next b joined =>
      have counted := charge b.charge
      refine Iff.trans ?_ (counted.trans ⟨fun fits => ⟨room, b, joined, fits⟩, fun ⟨_, b', e, fits⟩ => by
        cases joined.symm.trans e
        exact fits⟩)
      split
      · next beyond => exact ⟨fun ⟨_, e⟩ => (by cases e), fun ⟨u, e⟩ => (by cases beyond.symm.trans e)⟩
      · next u made => exact ⟨fun _ => ⟨u, made⟩, fun _ => ⟨_, rfl⟩⟩

/-- A core that had stalled appends the same batch. -/
theorem appends_running (h : Appends s k t q ds) : Appends (s.setCore k { s.core k with phase := .running }) k t q ds := by
  rw [appends_iff] at h ⊢
  rw [State.core_setCore_same, appendAll_setCore]
  exact h

/-- The core goes on after its batch was appended, and its steps are charged. -/
theorem Appended.followed {n : Nat} (h : appendBatch s k t q ds = .ok s1) (hr : Room s k n) :
    let u := (s1.following k).charging k n
    Appended k q ds s u ∧ WentOn k s u ∧ (u.core k).phase = (s.core k).phase ∧ u.charge k .ctl = s.charge k .ctl + n := by
  obtain ⟨⟨queue, others, last, core, only⟩, loops, pc, phase, charge⟩ := appendBatch_ok h
  have goes := core_followed s1 k n
  refine ⟨⟨?_, fun r hr => ?_, fun some => ?_, ?_, only.trans (.followed s1 k n)⟩, .followed loops pc n, ?_, ?_⟩
  · rw [goes]
    exact queue
  · rw [goes]
    exact others r hr
  · rw [goes]
    exact last some
  · rw [goes, core]
  · rw [goes]
    exact phase
  · have fits : s1.charge k .ctl + n ≤ 20000 := by rw [charge]; exact hr
    exact (State.charge_setFld_same _ k .ctl _ fits).trans (congrArg (· + n) charge)

/-- The effect of a batch that is appended. -/
theorem pushEffect_ok {w : BitVec 56} {batch : Bool} (hq : (fD w).toNat = q.val) (h : appendBatch s k t q ds = .ok s1) :
    pushEffect s k t w batch ds = .next s1 := by
  have number : Fin.ofNat 4 (fD w).toNat = q := Fin.ext (by rw [hq]; exact Nat.mod_eq_of_lt q.isLt)
  unfold pushEffect
  rw [number, h]

/-- What a PUSH or PUSHD whose batch is appended does. -/
theorem conclude_push {w : BitVec 56} {n : Nat} {batch : Bool} (hq : (fD w).toNat = q.val) (h : appendBatch s k t q ds = .ok s1)
    (hf : inPartition t (sequel (s.core k).loops (s.core k).pc).2 = true) (hr : Room s k n) :
    conclude s k t n (pushEffect s k t w batch ds) = (s1.following k).charging k n := by
  obtain ⟨_, loops, pc, _, charge⟩ := appendBatch_ok h
  rw [pushEffect_ok hq h]
  exact conclude_follows hf hr loops pc charge

/-- What it does where the queue is full or a FENCE holds it back. -/
theorem conclude_push_full {w : BitVec 56} {n : Nat} {batch : Bool} (hq : (fD w).toNat = q.val)
    (h : queueDepth q < (s.core k).occupied q + ds.length ∨ spClear (s.core k) = false) :
    conclude s k t n (pushEffect s k t w batch ds) = s.setCore k { s.core k with phase := .waitRoom batch w } := by
  have number : Fin.ofNat 4 (fD w).toNat = q := Fin.ext (by rw [hq]; exact Nat.mod_eq_of_lt q.isLt)
  unfold pushEffect
  rw [number, appendBatch_full h]
  rfl

end Batch

section Push

variable {i : Instr} {s : State} {k : CoreId} {w : BitVec 56} {used n : Nat} {batch : Bool} {body : State → Core → Tile → Effect}
  {t : Tile} {q : QueueId} {ds : List Desc}

/-- A PUSH or PUSHD that passes its checks and appends. -/
theorem gives_push (hi : exec i s = ok (issue k w used false n body s)) (h : Issues s k w used n t) (hq : (fD w).toNat = q.val)
    (effect : body s (s.core k) t = pushEffect s k t w batch ds) (appends : Appends s k t q ds) :
    Gives i s (fun u => Appended k q ds s u ∧ WentOn k s u ∧ (u.core k).phase = .running ∧
      u.charge k .ctl = s.charge k .ctl + n) := by
  obtain ⟨s1, h1⟩ := appends
  obtain ⟨appended, went, phase, charge⟩ := Appended.followed h1 h.room
  refine ⟨_, ?_, appended, went, phase.trans h.ready.running, charge⟩
  rw [hi, issue_eq h.ready rfl, effect, conclude_push hq h1 h.follow h.room]
  rfl

/-- One that passes its checks and stalls. -/
theorem gives_push_full (hi : exec i s = ok (issue k w used false n body s)) (h : Ready s k w used t) (hq : (fD w).toNat = q.val)
    (effect : body s (s.core k) t = pushEffect s k t w batch ds)
    (full : queueDepth q < (s.core k).occupied q + ds.length ∨ spClear (s.core k) = false) :
    Gives i s (fun u => OnlyCore k [] s u ∧ u.core k = { s.core k with phase := .waitRoom batch w }) := by
  refine ⟨_, ?_, OnlyCore.setCore k [] s _, State.core_setCore_same s k _⟩
  rw [hi, issue_eq h rfl, effect, conclude_push_full hq full]
  rfl

/-- The stalled PUSH or PUSHD appends once there is room. -/
theorem gives_roomFreed (hq : (fD w).toNat = q.val) (hp : (s.core k).phase = .waitRoom batch w) (ht : (s.core k).tile = some t)
    (hds : ds = if batch then batchDescs (s.core k) t (batchAddr (s.core k) w) (pushSize batch w) else [pushDesc (s.core k) w])
    (hn : n = pushSize batch w) (appends : Appends s k t q ds)
    (hf : inPartition t (sequel (s.core k).loops (s.core k).pc).2 = true) (hr : Room s k n) :
    Gives (.queueRoomFreed k) s (fun u => Appended k q ds s u ∧ WentOn k s u ∧ (u.core k).phase = .running ∧
      u.charge k .ctl = s.charge k .ctl + n) := by
  let v := s.setCore k { s.core k with phase := .running }
  have core : v.core k = { s.core k with phase := .running } := State.core_setCore_same s k _
  obtain ⟨s1, h1⟩ := appends_running appends
  have runs : execQueueRoomFreed k s = ok (conclude v k t n (.next s1)) := by
    have effect : pushEffect v k t w batch ds = .next s1 := pushEffect_ok hq h1
    unfold execQueueRoomFreed
    dsimp only
    split
    · next b' w' t' hp' ht' =>
      cases hp.symm.trans hp'
      cases ht.symm.trans ht'
      rw [← hds, effect, hn]
    · next other => exact absurd ht (other _ _ _ hp)
  have follow : inPartition t (sequel (v.core k).loops (v.core k).pc).2 = true := by rw [core]; exact hf
  obtain ⟨⟨queue, others, last, kept, only⟩, ⟨pc, loops⟩, phase, charge⟩ := Appended.followed (s := v) h1 hr
  refine ⟨_, runs.trans (congrArg ok ?_), ⟨?_, ?_, last, ?_, (OnlyCore.setCore k _ s _).trans only⟩, ⟨?_, ?_⟩, ?_, charge⟩
  · rw [← pushEffect_ok (w := w) (batch := batch) hq h1]
    exact conclude_push hq h1 follow hr
  · rw [core] at queue
    exact queue
  · rw [core] at others
    exact others
  · rw [core] at kept
    exact kept
  · rw [core] at pc
    exact pc
  · rw [core] at loops
    exact loops
  · rw [phase, core]

end Push

/-- Settles O13: what is appended by `gives_push`, what stalls by `gives_push_full`, and the stalled one by `gives_roomFreed`. -/
theorem queueAppends : Obligations.QueueAppends := by
  intro s k w t q hq present c push n a batch okBatch full
  have here : queueAbsent s (fD w).toNat = false := by rw [hq]; exact present
  have number : Fin.ofNat 4 (fD w).toNat = q := Fin.ext (by rw [hq]; exact Nat.mod_eq_of_lt q.isLt)
  have passes : okBatch → ∀ e : Effect, (if queueAbsent s (fD w).toNat then .halt 0x03 0 0
    else if !dataOk t a 16 (16 * n) then .halt 0x0D 0 a
    else if queueDepth (Fin.ofNat 4 (fD w).toNat) < n then .halt 0x0A 0 0
    else if slotPending c a (16 * n) then .retry
    else e) = e := by
    rintro ⟨inside, depth, free⟩ e
    rw [here, inside, number, if_neg depth.not_gt, free]
    rfl
  refine ⟨fun h appends => ?_, fun h held => ?_, fun h good appends => ?_, fun h good held => ?_, fun b hp ht appends hf hr => ?_⟩
  · exact gives_push (batch := false) rfl h hq (by rw [here]; rfl) appends
  · exact gives_push_full rfl h hq (by rw [here]; rfl) held
  · exact gives_push (batch := true) rfl h hq (passes good _) appends
  · exact gives_push_full rfl h hq (passes good _) held
  · exact gives_roomFreed hq hp ht (by cases b <;> rfl) (by cases b <;> rfl) appends hf hr

end Sys2Proof

/-! PROOF. Row loads, row stores and atomics, at issue and when performed (R104, R110, R111, R119, R185). -/

namespace Sys2Proof.Machine

open Laws

/-- The count of late writes of a store is no count of conversions. -/
theorem convCore_stoEpochDropCount (st : Nat) : convCore (Reg.stoEpochDropCount st) = none := by
  refine List.find?_eq_none.2 fun k _ => ?_
  simp only [Reg.stoEpochDropCount, Reg.vxeConvCount, Reg.vxeClipCount, Reg.vxeNanCount, storeBase, coreBase, clusterBase,
    Bool.or_eq_true, beq_iff_eq]
  split <;> omega

/-! ## The row of an atomic (R111) -/

/-- A row with the 8 bytes at an offset replaced. -/
def splicedRow (row : List Byte) (off : Nat) (v : W64) : List Byte := row.take off ++ leBytes 8 v.toNat ++ row.drop (off + 8)

theorem length_splicedRow {row : List Byte} {off : Nat} (v : W64) (h : off + 8 ≤ row.length) :
    (splicedRow row off v).length = row.length := by
  simp only [splicedRow, List.length_append, List.length_take, List.length_drop, leBytes_length]
  omega

theorem getD_splicedRow {row : List Byte} {off : Nat} (v : W64) (h : off + 8 ≤ row.length) (i : Nat) :
    (splicedRow row off v).getD i 0 = if off ≤ i ∧ i < off + 8 then v.extractLsb' (8 * (i - off)) 8 else row.getD i 0 := by
  have taken : (row.take off).length = off := by rw [List.length_take]; omega
  have first : (row.take off ++ leBytes 8 v.toNat).length = off + 8 := by rw [List.length_append, taken, leBytes_length]
  unfold splicedRow
  by_cases below : i < off + 8
  · rw [List.getD_append _ _ _ _ (by omega)]
    by_cases left : i < off
    · rw [List.getD_append _ _ _ _ (by omega), if_neg (by omega), List.getD_eq_getElem?_getD, List.getD_eq_getElem?_getD,
        List.getElem?_take_of_lt left]
    · rw [List.getD_append_right _ _ _ _ (by omega), taken, if_pos (by omega), leBytes_getD v (by omega)]
  · rw [List.getD_append_right _ _ _ _ (by omega), first, if_neg (by omega), List.getD_eq_getElem?_getD,
      List.getD_eq_getElem?_getD, List.getElem?_drop, Nat.add_sub_cancel' (by omega)]

theorem length_rd (s : State) (a n : Nat) : (s.rd a n).length = n := by
  rw [State.rd, readRun_eq, List.length_map, List.length_range]

theorem getD_rd (s : State) {a n i : Nat} (h : i < n) : (s.rd a n).getD i 0 = s.byteAt (a + i) := by
  rw [State.rd, readRun_eq, List.getD_eq_getElem _ _ (by simpa using h), List.getElem_map, List.getElem_range]
  rfl

/-- A row written back with its 8 bytes replaced changes those and no other. -/
theorem State.byteAt_wr_splicedRow (s u : State) (a : Nat) {off : Nat} (h : off + 8 ≤ 512) (v : W64)
    (hu : u.mem = s.mem) (y : Nat) : (u.wr a (splicedRow (s.rd a 512) off v)).byteAt y =
      if a + off ≤ y ∧ y < a + off + 8 then v.extractLsb' (8 * (y - (a + off))) 8 else s.byteAt y := by
  have long := length_rd s a 512
  rw [State.byteAt_wr, length_splicedRow v (by omega), long, State.byteAt_congr hu]
  by_cases inside : a ≤ y ∧ y < a + 512
  · rw [if_pos inside, getD_splicedRow v (by omega), getD_rd s (by omega), Nat.add_sub_cancel' inside.1]
    by_cases at_ : a + off ≤ y ∧ y < a + off + 8
    · rw [if_pos (by omega), if_pos at_, Nat.sub_sub]
    · rw [if_neg (by omega), if_neg at_]
  · rw [if_neg inside, if_neg (by omega)]

/-- A row written back as it was. -/
theorem State.byteAt_wr_rd (s u : State) (a : Nat) (hu : u.mem = s.mem) (y : Nat) :
    (u.wr a (s.rd a 512)).byteAt y = s.byteAt y := by
  rw [State.byteAt_wr, length_rd, State.byteAt_congr hu]
  split
  · next inside => rw [getD_rd s (by omega), Nat.add_sub_cancel' inside.1]
  · rfl

/-! ## An atomic is performed -/

section Atomic

variable {s : State} {k : CoreId} {n : Nat} {x : Access} {st r off : Nat} {d : BitVec 5} {v new : W64} {row : List Byte}
  {changes : Bool}

theorem State.performAtomic_eq (h : storeOf x.row = some (st, r)) (row : List Byte) :
    s.performAtomic x row = if s.late st (some x.tag) then s.bump (Reg.stoEpochDropCount st) 1 else s.wr x.row row := by
  unfold State.performAtomic
  rw [h]

/-- A performed atomic touches memory, or the count of late ones. -/
theorem State.performAtomic_frame (s : State) (x : Access) (row : List Byte) : s.performAtomic x row =
    { s with mem := (s.performAtomic x row).mem, deltas := (s.performAtomic x row).deltas, regs := (s.performAtomic x row).regs } := by
  unfold State.performAtomic
  split
  · split
    · rw [bump_frame]
    · rfl
  · rfl

/-- The state after an atomic, before its core goes on. -/
def State.returned (s : State) (k : CoreId) (n : Nat) (x : Access) (d : BitVec 5) (v : W64) (row : List Byte) : State :=
  (s.setCore k (((s.core k).done n).setG d v)).performAtomic x row

theorem State.core_returned (s : State) (k : CoreId) (n : Nat) (x : Access) (d : BitVec 5) (v : W64) (row : List Byte) (j : CoreId) :
    (s.returned k n x d v row).core j = if j = k then ((s.core k).done n).setG d v else s.core j := by
  rw [State.returned, State.performAtomic_frame]
  split
  · next same =>
    subst same
    exact State.core_setCore_same _ _ _
  · next other => exact State.core_setCore_ne _ _ _ _ other

/-- The atomic's core goes on where it stalled for it. -/
theorem exec_atomic (hr : (s.core k).ready? n = some x) (hx : atomicResult x.kind (s.rd x.row 512) = some (d, v, row)) :
    exec (.rowReadReturn k n) s = ok (if (s.core k).phase = .waitAtomic then (s.returned k n x d v row).resume k
      else s.returned k n x d v row) := by
  show execRowReadReturn k n s = _
  unfold execRowReadReturn
  dsimp only
  rw [hr]
  dsimp only
  split
  · next slot load => rw [load] at hx; cases hx
  · rw [hx]
    dsimp only
    split
    · next waits => rw [if_pos waits]; rfl
    · next other => rw [if_neg other]; rfl

end Atomic

end Sys2Proof.Machine

namespace Sys2Proof

open Machine Laws

/-- An atomic has been performed: the word as it was is in gd, the new one at its place of the row, unless it was late; a core
that stalled for it has gone on. -/
def AtomicDone (k : CoreId) (x : Access) (st : Nat) (d : BitVec 5) (old : W64) (changes : Bool) (off : Nat) (new : W64)
    (s u : State) : Prop :=
  (u.core k).gr d = (if d = 0 then 0 else old) ∧ (∀ e, e ≠ d → (u.core k).gr e = (s.core k).gr e) ∧
  ((s.core k).phase = .waitAtomic → (u.core k).phase = .running ∧ WentOn k s u) ∧
  u.core k = { s.core k with g := (u.core k).g, pc := (u.core k).pc, loops := (u.core k).loops, phase := (u.core k).phase,
                             accesses := (u.core k).accesses } ∧
  (∀ j, j ≠ k → u.core j = s.core j) ∧ u = { s with mem := u.mem, cores := u.cores, deltas := u.deltas, regs := u.regs } ∧
  Counted [(Reg.stoEpochDropCount st, if s.late st (some x.tag) then 1 else 0)] [] s u ∧
  ∀ y, u.byteAt y = if s.late st (some x.tag) = false ∧ changes = true ∧ x.row + off ≤ y ∧ y < x.row + off + 8
    then new.extractLsb' (8 * (y - (x.row + off))) 8 else s.byteAt y

section Atomic

variable {s u : State} {k : CoreId} {n : Nat} {x : Access} {st r off : Nat} {d : BitVec 5} {v new : W64} {row : List Byte}
  {changes : Bool}

/-- Late atomics are counted, and no other. -/
theorem Counted.performAtomic (h : storeOf x.row = some (st, r)) (row : List Byte) (hd : s.deltas = u.deltas) (hg : s.regs = u.regs) :
    Counted [(Reg.stoEpochDropCount st, if s.late st (some x.tag) then 1 else 0)] [] u (s.performAtomic x row) := by
  have start : Counted [] [] u s := (Counted.refl [] u).of_sameRegs hd (fun o _ => State.reg_congr hg o) (by simp)
  have counts := start.bump_of_no_conv (if s.late st (some x.tag) then 1 else 0) (convCore_stoEpochDropCount st)
    List.not_mem_nil List.not_mem_nil
  rw [State.performAtomic_eq h]
  split
  · next late => rw [if_pos late] at counts; exact counts
  · next prompt =>
    rw [if_neg prompt, bump_zero] at counts
    exact counts.of_sameRegs rfl (fun _ _ => rfl) (by simp)

/-- The bytes of memory after an atomic whose row is the one given. -/
theorem byteAt_performAtomic (h : storeOf x.row = some (st, r)) (hrow : ∀ y, (s.wr x.row row).byteAt y =
      if changes = true ∧ x.row + off ≤ y ∧ y < x.row + off + 8 then new.extractLsb' (8 * (y - (x.row + off))) 8 else s.byteAt y)
    (y : Nat) : (s.performAtomic x row).byteAt y =
      if s.late st (some x.tag) = false ∧ changes = true ∧ x.row + off ≤ y ∧ y < x.row + off + 8
        then new.extractLsb' (8 * (y - (x.row + off))) 8 else s.byteAt y := by
  rw [State.performAtomic_eq h]
  cases late : s.late st (some x.tag) with
  | true =>
    rw [if_pos rfl, if_neg (fun e => by cases e.1), bump_frame]
    rfl
  | false =>
    rw [if_neg Bool.false_ne_true, hrow]
    simp

/-- An atomic that is performed: what it leaves behind, its core going on where it had stalled. -/
theorem gives_atomic (hr : (s.core k).ready? n = some x) (hst : storeOf x.row = some (st, r))
    (hx : atomicResult x.kind (s.rd x.row 512) = some (d, v, row))
    (hrow : ∀ u : State, u.mem = s.mem → ∀ y, (u.wr x.row row).byteAt y =
      if changes = true ∧ x.row + off ≤ y ∧ y < x.row + off + 8 then new.extractLsb' (8 * (y - (x.row + off))) 8 else s.byteAt y) :
    Gives (.rowReadReturn k n) s (AtomicDone k x st d v changes off new s) := by
  have core := State.core_returned s k n x d v row
  have same : (s.returned k n x d v row).core k = ((s.core k).done n).setG d v := (core k).trans (if_pos rfl)
  have others : ∀ j, j ≠ k → (s.returned k n x d v row).core j = s.core j := fun j hj => (core j).trans (if_neg hj)
  have gr : ∀ e, (((s.core k).done n).setG d v).gr e = if e = d ∧ e ≠ 0 then v else (s.core k).gr e :=
    fun e => Core.gr_setG ((s.core k).done n) d e v
  have keeps : ((s.core k).done n).setG d v = { (s.core k).done n with g := (((s.core k).done n).setG d v).g } :=
    Core.setG_core _ _ _
  have dest : (((s.core k).done n).setG d v).gr d = if d = 0 then 0 else v := by
    rw [gr]
    by_cases zero : d = 0
    · rw [if_neg (fun e => e.2 zero), if_pos zero, zero]
      rfl
    · rw [if_pos ⟨rfl, zero⟩, if_neg zero]
  have counts := Counted.performAtomic (s := s.setCore k (((s.core k).done n).setG d v)) (u := s) hst row rfl rfl
  have bytes := byteAt_performAtomic (s := s.setCore k (((s.core k).done n).setG d v)) (changes := changes) (off := off)
    (new := new) hst (hrow _ rfl)
  have frame : s.returned k n x d v row = { s with
      mem := (s.returned k n x d v row).mem, cores := (s.returned k n x d v row).cores,
      deltas := (s.returned k n x d v row).deltas, regs := (s.returned k n x d v row).regs } := by
    rw [State.returned, State.performAtomic_frame]
    rfl
  refine ⟨_, exec_atomic hr hx, ?_⟩
  split
  · next waits =>
    have resumed := State.core_resume (s.returned k n x d v row) k
    rw [same] at resumed
    refine ⟨?_, fun e he => ?_, fun _ => ⟨?_, .resume ?_ ?_⟩, ?_, fun j hj => ?_, ?_, ?_, bytes⟩
    · rw [resumed]
      exact dest
    · rw [resumed]
      exact (gr e).trans (if_neg fun h => he h.1)
    · rw [resumed]
    · rw [same, keeps]
      rfl
    · rw [same, keeps]
      rfl
    · rw [resumed, keeps]
      rfl
    · exact (State.core_setCore_ne _ _ _ _ hj).trans (others j hj)
    · rw [State.resume, State.setCore, frame]
    · exact counts.of_sameRegs rfl (fun _ _ => rfl) (by simp)
  · next other =>
    refine ⟨?_, fun e he => ?_, fun waits => absurd waits other, ?_, others, frame, counts, bytes⟩
    · rw [same]
      exact dest
    · rw [same]
      exact (gr e).trans (if_neg fun h => he h.1)
    · rw [same, keeps]
      rfl

end Atomic

/-- A row load that is performed brings the row into its slot. -/
theorem gives_rowLoad {s : State} {k : CoreId} {n slot : Nat} {x : Access} {t : Tile} (hr : (s.core k).ready? n = some x)
    (ht : (s.core k).tile = some t) (hk : x.kind = .load slot) :
    Gives (.rowReadReturn k n) s (fun u => OnlyCore k [] s u ∧
      u.core k = { s.core k with dstore := (u.core k).dstore, accesses := (u.core k).accesses } ∧
      (∀ y, dataByte u k y = if t.dbase * 4096 + slot ≤ y ∧ y < t.dbase * 4096 + slot + 512
        then s.byteAt (x.row + (y - (t.dbase * 4096 + slot))) else dataByte s k y)) := by
  let c := writeData ((s.core k).done n) t slot (s.rd x.row 512)
  have core : (s.setCore k c).core k = c := State.core_setCore_same _ _ _
  refine ⟨s.setCore k c, ?_, .setCore k _ _ _, ?_, fun y => ?_⟩
  · show execRowReadReturn k n s = _
    unfold execRowReadReturn
    dsimp only
    rw [hr]
    dsimp only
    rw [hk]
    dsimp only
    rw [ht]
    rfl
  · rw [core]
    rfl
  · rw [dataByte, core]
    refine (lookupD_writeData _ _ _ y _).trans ?_
    rw [length_rd]
    split
    · next inside => exact getD_rd s (by omega)
    · rfl

/-- An atomic joins the core's accesses and the core stalls for it. -/
theorem gives_atomicIssue {i : Instr} {s : State} {k : CoreId} {w : BitVec 56} {used row off : Nat} {t : Tile}
    {kind : Core → Nat → AccessKind} (hi : exec i s = ok (atomic k w used kind s)) (h : Issues s k w used 2 t)
    (hrow : rowOf s t ((s.core k).gr (fA w)).toNat 8 true = .ok (row, off)) :
    Gives i s (fun u => (OnlyCore k [Reg.ccTileCharge k] s u ∧
      (u.core k).accesses = (s.core k).accesses ++ [⟨row, kind (s.core k) off, t.tag k⟩] ∧ (u.core k).g = (s.core k).g ∧
      (u.core k).dstore = (s.core k).dstore) ∧ Charged k 2 s u ∧ (u.core k).phase = .waitAtomic ∧ (u.core k).pc = (s.core k).pc) := by
  obtain ⟨u, hu, only, charged, core⟩ := gives_stall
    (c := { (s.core k).issueAccess row (kind (s.core k) off) (t.tag k) with phase := .waitAtomic }) hi h (by dsimp only; rw [hrow]) rfl
  exact ⟨u, hu, ⟨only, by rw [core]; rfl, by rw [core]; rfl, by rw [core]; rfl⟩, charged, by rw [core], by rw [core]; rfl⟩

/-- Settles O12: what is issued by the core it leaves, what is performed by `gives_rowLoad` and `gives_atomic`. -/
theorem rowAccesses : Obligations.RowAccesses := by
  refine ⟨fun s k w t row off => ?_, fun s k n x t st r hr ht hst => ?_⟩
  · intro c d a slot issued
    have free : slot → dataOk t d 512 512 = true ∧ slotPending c d 512 = false := fun ⟨inside, aligned, free⟩ =>
      ⟨dataOk_of inside aligned, free⟩
    refine ⟨fun h hs hrow => ?_, fun h hs hrow => ?_, fun h hrow => ?_, fun h hrow => ?_⟩
    · obtain ⟨inside, pending⟩ := free hs
      refine gives_next (c := c.issueAccess row (.load d) (t.tag k)) rfl h rfl ?_ rfl rfl fun u hu =>
        ⟨⟨hu.only, ?_, ?_, ?_⟩, hu.went, hu.charged, ?_⟩
      · dsimp only
        rw [inside, hrow]
        dsimp only
        rw [pending]
        rfl
      · rw [hu.core]; rfl
      · rw [hu.core]; rfl
      · rw [hu.core]; rfl
      · rw [hu.core]; exact h.ready.running
    · obtain ⟨inside, pending⟩ := free hs
      refine gives_next (c := c.issueAccess row (.store (readData c t d 512)) (t.tag k)) rfl h rfl ?_ rfl rfl fun u hu =>
        ⟨hu.went, hu.charged, ?_, hu.only, ?_, ?_, ?_⟩
      · dsimp only
        rw [inside, hrow]
        dsimp only
        rw [pending]
        rfl
      · rw [hu.core]; exact h.ready.running
      · rw [hu.core, ← readData_eq]; rfl
      · rw [hu.core]; rfl
      · rw [hu.core]; rfl
    · exact gives_atomicIssue (kind := fun c off => .add off (fD w) (c.gr (fB w))) rfl h hrow
    · exact gives_atomicIssue (kind := fun c off => .cas off (fD w) (c.gr (fB w)) (c.gr (fC w))) rfl h hrow
  · intro c late atomic
    refine ⟨fun slot hk => gives_rowLoad hr ht hk, fun off d b hk inside => ?_, fun off d b e hk inside => ?_⟩
    · intro old
      refine gives_atomic (row := splicedRow (s.rd x.row 512) off (old + b)) hr hst (by rw [hk]; rfl) fun u hu y => ?_
      rw [State.byteAt_wr_splicedRow s u x.row inside _ hu]
      simp
    · intro old
      refine gives_atomic (row := if old = e then splicedRow (s.rd x.row 512) off b else s.rd x.row 512) hr hst
        (by rw [hk]; rfl) fun u hu y => ?_
      split
      · next same =>
        rw [State.byteAt_wr_splicedRow s u x.row inside _ hu]
        simp [same]
      · next other =>
        rw [State.byteAt_wr_rd s u x.row hu, if_neg (fun h => other (beq_iff_eq.1 h.1))]

end Sys2Proof

/-! PROOF. Row writes reach their store; accesses keep their order (R119, R121, R147, R153, R154, R185, R188, R331). -/

namespace Sys2Proof.Machine

open Laws

/-! ## FP32 elements of bytes (R4) -/

/-- Element i of a byte list lies at byte 4 i. -/
theorem getElem?_elems32 : ∀ (l : List Byte) (i : Nat), 4 * i + 4 ≤ l.length → (elems32 l)[i]? = some (leAt l (4 * i) 4)
  | a :: b :: c :: d :: r, 0, _ => rfl
  | a :: b :: c :: d :: r, i + 1, h => by
    rw [elems32, List.getElem?_cons_succ, getElem?_elems32 r i (by simp at h; omega)]
    rfl
  | [], i, h | [_], i, h | [_, _], i, h | [_, _, _], i, h => by simp at h

/-- Words written one behind the other. -/
theorem leAt_flatMap_leBytes (l : List W32) {i : Nat} {v : W32} (h : l[i]? = some v) :
    leAt (l.flatMap (fun w => leBytes 4 w.toNat)) (4 * i) 4 = v.toNat := by
  induction l generalizing i with
  | nil => cases h
  | cons w l ih =>
    rw [List.flatMap_cons]
    cases i with
    | zero =>
      cases h
      exact (leAt_leBytes_append 4 v.toNat _).trans (Nat.mod_eq_of_lt v.isLt)
    | succ i =>
      rw [leAt_skip _ _ _ _ _ (by omega)]
      exact ih h

theorem length_sumBytes {old new : List Byte} (h : old.length = new.length) (h4 : new.length % 4 = 0) :
    (sumBytes old new).length = new.length := by
  simp only [sumBytes, List.length_flatMap, leBytes_length, List.map_const', List.sum_replicate, smul_eq_mul,
    List.length_zipWith, length_elems32, h, Nat.min_self]
  omega

/-- Each element of a sum is the sum of the elements. -/
theorem leAt_sumBytes {old new : List Byte} (h : old.length = new.length) (h4 : new.length % 4 = 0) {i : Nat}
    (hi : 4 * i < new.length) : BitVec.ofNat 32 (leAt (sumBytes old new) (4 * i) 4) =
      (fadd (BitVec.ofNat 32 (leAt old (4 * i) 4)) (BitVec.ofNat 32 (leAt new (4 * i) 4))).1 := by
  rw [sumBytes, leAt_flatMap_leBytes _ (by
    rw [List.getElem?_zipWith, getElem?_elems32 old i (by omega), getElem?_elems32 new i (by omega)]), ofNat_toNat_same]

/-! ## A write at its store -/

/-- The count of accumulations of a store is no count of conversions. -/
theorem convCore_stoAccumCount (st : Nat) : convCore (Reg.stoAccumCount st) = none := by
  refine List.find?_eq_none.2 fun k _ => ?_
  simp only [Reg.stoAccumCount, Reg.vxeConvCount, Reg.vxeClipCount, Reg.vxeNanCount, storeBase, coreBase, clusterBase,
    Bool.or_eq_true, beq_iff_eq]
  split <;> omega

/-- The bytes that a write leaves: its own, or the sums in an accumulate window. -/
def State.landedBytes (s : State) (w : RowWrite) (st r : Nat) : List Byte :=
  if entersWindow s w st r then sumBytes (s.rd (w.row + w.offset) w.data.length) w.data else w.data

/-- A write that is not late has been made, and counted where it was added. -/
def State.landed (s : State) (w : RowWrite) (st r : Nat) : State :=
  (if entersWindow s w st r then s.bump (Reg.stoAccumCount st) 1 else s).wr (w.row + w.offset) (s.landedBytes w st r)

/-- A write has entered the signature of its tile (R331). -/
def State.signedFor (s : State) (w : RowWrite) (st r : Nat) : State :=
  match w.tag with
  | some t => if st = t.core.val || !w.signs then s
      else s.sign t.core (s.rowSigAddr t st r) (if w.part then s.rd w.row 512 else w.data)
  | none => s

section Write

variable {s : State} {w : RowWrite} {st r : Nat}

theorem State.performWrite_eq (h : storeOf w.row = some (st, r)) : s.performWrite w =
    if s.late st w.tag then s.bump (Reg.stoEpochDropCount st) 1 else (s.landed w st r).signedFor w st r := by
  unfold State.performWrite
  rw [h]
  rfl

/-- A write touches memory and the count of accumulations. -/
theorem State.landed_frame (s : State) (w : RowWrite) (st r : Nat) : s.landed w st r =
    { s with mem := (s.landed w st r).mem, deltas := (s.landed w st r).deltas, regs := (s.landed w st r).regs } := by
  unfold State.landed
  split
  · rw [bump_frame]
    rfl
  · rfl

theorem State.mem_landed (s : State) (w : RowWrite) (st r : Nat) :
    (s.landed w st r).mem = (s.wr (w.row + w.offset) (s.landedBytes w st r)).mem := by
  unfold State.landed
  split
  · rw [bump_frame]
    rfl
  · rfl

/-- A signature touches one core. -/
theorem State.signedFor_frame (s : State) (w : RowWrite) (st r : Nat) :
    s.signedFor w st r = { s with cores := (s.signedFor w st r).cores } := by
  unfold State.signedFor
  split
  · split <;> rfl
  · rfl

/-- A core after the signature of a write: its tile alone has changed. -/
theorem State.core_signedFor (s : State) (w : RowWrite) (st r : Nat) (k : CoreId) :
    (s.signedFor w st r).core k = { s.core k with tile := ((s.signedFor w st r).core k).tile } := by
  unfold State.signedFor
  split
  · next t _ =>
    split
    · rfl
    · by_cases own : k = t.core
      · subst own
        rw [State.sign, State.core_setCore_same]
      · rw [State.sign, State.core_setCore_ne _ _ _ _ own]
  · rfl

theorem State.tile_signedFor (s : State) {w : RowWrite} {t : Tag} (h : w.tag = some t) (st r : Nat) (k : CoreId) :
    ((s.signedFor w st r).core k).tile =
      if k = t.core ∧ st ≠ k.val ∧ w.signs = true then (s.core k).tile.map (fun x => { x with
        sig := x.sig ^^^ sigWord (s.rowSigAddr t st r) (if w.part then s.rd w.row 512 else w.data) })
      else (s.core k).tile := by
  unfold State.signedFor
  rw [h]
  dsimp only
  by_cases own : k = t.core
  · subst own
    by_cases outside : st = t.core.val
    · simp [outside]
    · cases signs : w.signs <;> simp [outside, State.sign]
  · rw [if_neg (c := k = t.core ∧ _) (fun e => own e.1)]
    by_cases inside : (decide (st = t.core.val) || !w.signs) = true
    · rw [if_pos inside]
    · rw [if_neg inside, State.sign, State.core_setCore_ne _ _ _ _ own]

theorem State.tile_signedFor_none (s : State) {w : RowWrite} (h : w.tag = none) (st r : Nat) : s.signedFor w st r = s := by
  unfold State.signedFor
  rw [h]

/-- A write at its store changes memory, counts and a signature. -/
theorem State.performWrite_frame (h : storeOf w.row = some (st, r)) : s.performWrite w = { s with
    mem := (s.performWrite w).mem, cores := (s.performWrite w).cores,
    deltas := (s.performWrite w).deltas, regs := (s.performWrite w).regs } := by
  rw [State.performWrite_eq h]
  split
  · rw [bump_frame]
  · rw [State.signedFor_frame, State.landed_frame]

theorem State.core_performWrite (h : storeOf w.row = some (st, r)) (k : CoreId) :
    (s.performWrite w).core k = { s.core k with tile := ((s.performWrite w).core k).tile } := by
  rw [State.performWrite_eq h]
  split
  · rw [State.core_bump]
  · have core : (s.landed w st r).core k = s.core k := by rw [State.landed_frame]; rfl
    rw [State.core_signedFor, core]

end Write

end Sys2Proof.Machine

namespace Sys2Proof

open Machine Laws

section Write

variable {s : State} {w : RowWrite} {st r : Nat}

/-- A write counts where it was added. -/
theorem Counted.landed (s : State) (w : RowWrite) (st r : Nat) :
    Counted (if entersWindow s w st r = true then [(Reg.stoAccumCount st, 1)] else []) [] s (s.landed w st r) := by
  unfold State.landed
  split
  · exact ((Counted.refl [] s).bump_of_no_conv 1 (convCore_stoAccumCount st) List.not_mem_nil List.not_mem_nil).of_sameRegs rfl
      (fun _ _ => rfl) (by simp)
  · exact (Counted.refl [] s).of_sameRegs rfl (fun _ _ => rfl) (by simp)

/-- What a write does at its store: a late one is counted, any other leaves its bytes and enters the signature. -/
theorem Landed.performWrite (h : storeOf w.row = some (st, r)) : Landed w st r s (s.performWrite w) := by
  rw [State.performWrite_eq h]
  cases late : s.late st w.tag with
  | true =>
    rw [if_pos rfl]
    have frame := bump_frame s (Reg.stoEpochDropCount st) 1
    have core := State.core_bump s (Reg.stoEpochDropCount st) 1
    refine ⟨fun _ => ⟨by rw [frame], fun k => by rw [core]⟩, fun e => (by rw [late] at e; cases e),
      fun e => (by rw [late] at e; cases e), fun e => (by rw [late] at e; cases e), fun _ k => by rw [core], ?_, fun k => by rw [core],
      by rw [frame]⟩
    rw [late, if_pos rfl]
    exact (Counted.refl [] s).bump_of_no_conv 1 (convCore_stoEpochDropCount st) List.not_mem_nil List.not_mem_nil
  | false =>
    rw [if_neg Bool.false_ne_true]
    have mem : ((s.landed w st r).signedFor w st r).mem = (s.wr (w.row + w.offset) (s.landedBytes w st r)).mem := by
      rw [State.signedFor_frame, State.mem_landed]
    have core : ∀ k, (s.landed w st r).core k = s.core k := fun k => by rw [State.landed_frame]; rfl
    refine ⟨fun e => (by rw [late] at e; cases e), fun _ own x => ?_, fun _ adds words => ⟨fun x out => ?_, fun i hi => ?_⟩,
      fun _ t ht k => ?_, fun untagged k => ?_, ?_, fun k => ?_, ?_⟩
    · rw [State.byteAt_congr mem, State.byteAt_wr, State.landedBytes, own, if_neg Bool.false_ne_true]
    · rw [State.byteAt_congr mem, State.byteAt_wr, State.landedBytes, adds, if_pos rfl,
        length_sumBytes (length_rd _ _ _) words, if_neg (by omega)]
    · have bytes : (sumBytes (s.rd (w.row + w.offset) w.data.length) w.data).length = w.data.length :=
        length_sumBytes (length_rd _ _ _) words
      have back := State.rd_wr s (w.row + w.offset) (sumBytes (s.rd (w.row + w.offset) w.data.length) w.data)
      rw [bytes] at back
      rw [State.rd_congr mem, State.landedBytes, adds, if_pos rfl, back]
      exact leAt_sumBytes (length_rd _ _ _) words hi
    · have rd : ((s.landed w st r).signedFor w st r).rd w.row 512 = (s.landed w st r).rd w.row 512 :=
        State.rd_congr (by rw [State.signedFor_frame]) _ _
      have addr : (s.landed w st r).rowSigAddr t st r = s.rowSigAddr t st r := by rw [State.landed_frame]; rfl
      rw [State.tile_signedFor _ ht, core, rd, addr]
    · rw [State.tile_signedFor_none _ untagged, core]
    · rw [late, if_neg Bool.false_ne_true]
      refine (Counted.landed s w st r).of_sameRegs ?_ (fun o _ => ?_) (by simp)
      · rw [State.signedFor_frame]
      · rw [State.signedFor_frame]
        rfl
    · rw [State.core_signedFor, core]
    · rw [State.signedFor_frame, State.landed_frame]

/-- The store reads nothing of the writes on their way, nor of the accesses of the cores. -/
theorem Landed.of_start {v u : State} (h : Landed w st r v u) (hv : v = { s with writes := v.writes, cores := v.cores })
    (hc : ∀ k, v.core k = { s.core k with accesses := (v.core k).accesses }) : Landed w st r s u := by
  have late : v.late st w.tag = s.late st w.tag := by rw [hv]; rfl
  have enters : entersWindow v w st r = entersWindow s w st r := by rw [hv]; rfl
  have byte : ∀ x, v.byteAt x = s.byteAt x := fun x => by rw [hv]; rfl
  have rd : ∀ a n, v.rd a n = s.rd a n := fun a n => by rw [hv]; rfl
  have addr : ∀ t, v.rowSigAddr t st r = s.rowSigAddr t st r := fun t => by rw [hv]; rfl
  have tile : ∀ k, (v.core k).tile = (s.core k).tile := fun k => by rw [hc]
  obtain ⟨dropped, plain, window, signature, unsigned, counts, cores, rest⟩ := h
  simp only [late, enters, byte, rd, addr, tile] at dropped plain window signature unsigned counts
  refine ⟨fun e => ⟨(dropped e).1.trans (by rw [hv]), (dropped e).2⟩, plain, window, signature, unsigned,
    counts.of_start (by rw [hv]) (by rw [hv]), fun k => ?_, ?_⟩
  · rw [cores, hc]
  · rw [rest, hv]

/-- A write of an engine that may arrive has landed, and is on its way no more. -/
theorem gives_engineWrite {n : Nat} (hn : s.writes[n]? = some w) (hst : storeOf w.row = some (st, r))
    (first : s.mayArrive n w = true) : Gives (.rowWriteArrival (.engine n)) s (fun u =>
      Landed w st r s u ∧ u.writes = removeNth n s.writes ∧ ∀ k, (u.core k).accesses = (s.core k).accesses) := by
  let v : State := { s with writes := removeNth n s.writes }
  have landed := Landed.performWrite (s := v) hst
  refine ⟨v.performWrite w, ?_, landed.of_start rfl (fun _ => rfl), ?_, fun k => ?_⟩
  · show execRowWriteArrival (.engine n) s = _
    unfold execRowWriteArrival
    dsimp only
    rw [hn]
    dsimp only
    rw [if_pos first]
    rfl
  · rw [State.performWrite_frame hst]
  · rw [State.core_performWrite hst]
    rfl

/-- One that may not arrive yet waits. -/
theorem gives_heldWrite {n : Nat} (hn : s.writes[n]? = some w) (held : s.mayArrive n w = false) :
    Gives (.rowWriteArrival (.engine n)) s (fun u => u = s) := by
  refine ⟨s, ?_, rfl⟩
  show execRowWriteArrival (.engine n) s = _
  unfold execRowWriteArrival
  dsimp only
  rw [hn]
  dsimp only
  rw [held]
  rfl

/-- A store of a control core that may be performed has landed, and is among its accesses no more. -/
theorem gives_controlWrite {k : CoreId} {m : Nat} {x : Access} {data : List Byte} (hr : (s.core k).ready? m = some x)
    (hk : x.kind = .store data) (hst : storeOf x.row = some (st, r)) : Gives (.rowWriteArrival (.control k m)) s (fun u =>
      Landed ⟨x.row, false, 0, data, some x.tag, none, true⟩ st r s u ∧ u.writes = s.writes ∧
      (u.core k).accesses = dropFences (removeNth m (s.core k).accesses) ∧
      ∀ j, j ≠ k → (u.core j).accesses = (s.core j).accesses) := by
  let w : RowWrite := ⟨x.row, false, 0, data, some x.tag, none, true⟩
  let v := s.setCore k ((s.core k).done m)
  have landed := Landed.performWrite (s := v) (w := w) hst
  have own : v.core k = (s.core k).done m := State.core_setCore_same _ _ _
  have others : ∀ j, j ≠ k → v.core j = s.core j := fun j hj => State.core_setCore_ne _ _ _ _ hj
  refine ⟨v.performWrite w, ?_, landed.of_start rfl fun j => ?_, ?_, ?_, fun j hj => ?_⟩
  · show execRowWriteArrival (.control k m) s = _
    unfold execRowWriteArrival
    dsimp only
    rw [hr]
    dsimp only
    rw [hk]
    rfl
  · by_cases same : j = k
    · rw [same, own]
      rfl
    · rw [others j same]
  · rw [State.performWrite_frame (w := w) hst]
    rfl
  · rw [State.core_performWrite (w := w) hst, own]
    rfl
  · rw [State.core_performWrite (w := w) hst, others j hj]

end Write

/-! ## The order of a core's accesses (R119, R121) -/

theorem ready?_some {c : Core} {n : Nat} {x : Access} (h : c.ready? n = some x) :
    c.accesses[n]? = some x ∧ mayPerform x (c.accesses.take n) = true := by
  unfold Core.ready? at h
  split at h
  · next y hy =>
    split at h
    · cases h
    · split at h
      · next may =>
        cases h
        exact ⟨hy, may⟩
      · cases h
  · cases h

/-- What an access that may be performed has behind it. -/
theorem mayPerform_order {x y : Access} {l : List Access} {m : Nat} (h : mayPerform x l = true) (hm : l[m]? = some y)
    (hy : ∀ k, y.kind ≠ .fence k) : y.row / 512 ≠ x.row / 512 ∧ ∀ (f : Nat) (z : Access) (mask : BitVec 5), m < f → l[f]? = some z →
      z.kind = .fence mask → fenceOrders mask y.kind x.kind = false := by
  induction l generalizing m with
  | nil => cases hm
  | cons a l ih =>
    unfold mayPerform at h
    obtain ⟨here, rest⟩ := (Bool.and_eq_true _ _).mp h
    cases m with
    | succ m =>
      obtain ⟨row, orders⟩ := ih rest hm
      refine ⟨row, fun f z mask hf hz hk => ?_⟩
      cases f with
      | zero => cases hf
      | succ f => exact orders f z mask (by omega) hz hk
    | zero =>
      cases hm
      have same : (!(y.row / 512 == x.row / 512) && !(l.any fun f => match f.kind with
          | .fence m => fenceOrders m y.kind x.kind
          | _ => false)) = true := by
        split at here
        · next k fence => exact absurd fence (hy k)
        · exact here
      obtain ⟨row, free⟩ := (Bool.and_eq_true _ _).mp same
      refine ⟨by simpa using row, fun f z mask hf hz hk => ?_⟩
      obtain ⟨f, rfl⟩ : ∃ g, f = g + 1 := ⟨f - 1, by omega⟩
      rw [Bool.not_eq_true', List.any_eq_false] at free
      have ordered := free z (List.mem_of_getElem? hz)
      rw [hk] at ordered
      exact Bool.eq_false_iff.2 ordered

/-- What a FENCE that orders neither kind leaves unordered. -/
theorem fenceOrders_eq_false {m : BitVec 5} {a b : AccessKind} (h : fenceOrders m a b = false) :
    (m.getLsbD 0 = true → ¬ (a.isLoad = true ∧ b.isLoad = true)) ∧ (m.getLsbD 1 = true → ¬ (a.isLoad = true ∧ b.isStore = true)) ∧
    (m.getLsbD 2 = true → ¬ (a.isStore = true ∧ b.isLoad = true)) ∧
    (m.getLsbD 3 = true → ¬ (a.isStore = true ∧ b.isStore = true)) := by
  simp only [fenceOrders, Bool.or_eq_false_iff] at h
  obtain ⟨⟨⟨ll, ls⟩, sl⟩, ss⟩ := h
  have clause : ∀ p q r : Bool, (p && q && r) = false → p = true → ¬ (q = true ∧ r = true) := by decide
  exact ⟨clause _ _ _ ll, clause _ _ _ ls, clause _ _ _ sl, clause _ _ _ ss⟩

/-- Settles O32: a write at its store by `Landed.performWrite`, the order of a core's accesses by `mayPerform_order`. -/
theorem rowWritesArrive : Obligations.RowWritesArrive := by
  refine ⟨fun s => ⟨fun n w st r hn hst => ⟨fun first => ?_, fun held => ?_⟩, fun k m x data st r hr hk hst =>
    gives_controlWrite hr hk hst⟩, fun c n m f x y hr hm hy hk => ?_⟩
  · refine gives_engineWrite hn hst (List.all_eq_true.2 fun x hx => ?_)
    obtain ⟨row, route⟩ := first x hx
    rw [route, bne_iff_ne.2 row]
    rfl
  · obtain ⟨x, hx, blocks⟩ := held
    refine gives_heldWrite hn (List.all_eq_false.2 ⟨x, hx, ?_⟩)
    rcases blocks with row | route
    · simp [row]
    · simp [route]
  · obtain ⟨_, may⟩ := ready?_some hr
    obtain ⟨row, orders⟩ := mayPerform_order may ((List.getElem?_take_of_lt hm).trans hy) hk
    exact ⟨row, fun hf hn z mask hz hmask =>
      fenceOrders_eq_false (orders f z mask hf ((List.getElem?_take_of_lt hn).trans hz) hmask)⟩

end Sys2Proof

/-! PROOF. Claims are served in order; DONE_LOW rises over completed indices only (R114, R170, R178–R180). -/

namespace Sys2Proof.Machine

open Laws

/-! ## DONE_LOW (R178, R180) -/

/-- What a counter keeps while its DONE_LOW rises from there. -/
structure Counter.Settled (self : Nat) (c c' : Counter) : Prop where
  rises : c.doneLow ≤ c'.doneLow
  limited : c.doneLow ≤ c.limit → c'.doneLow ≤ c.limit
  passed : ∀ i, c.doneLow ≤ i → i < c'.doneLow → i ∈ c.done ∧ c.othersDone self i = true
  kept : ∀ i ∈ c.done, i ∈ c'.done ∨ (c.doneLow ≤ i ∧ i < c'.doneLow)
  outstanding : c'.outstanding = c.outstanding
  next : c'.next = c.next
  returns : c'.returns = c.returns

theorem Counter.Settled.refl (self : Nat) (c : Counter) : c.Settled self c :=
  ⟨le_rfl, id, fun i hi hl => absurd hl (by omega), fun i hi => .inl hi, rfl, rfl, rfl⟩

/-- The counter whose DONE_LOW has passed one index. -/
def Counter.passOne (c : Counter) : Counter :=
  { c with done := c.done.filter (fun i => i != c.doneLow), remote := c.remote.filter (fun r => r.2 != c.doneLow)
           doneLow := c.doneLow + 1 }

/-- What the others have completed stays known for the indices not passed, and no more is known. -/
theorem Counter.othersDone_of_passOne {c : Counter} {self i : Nat} (h : c.passOne.othersDone self i = true) :
    c.othersDone self i = true := by
  unfold Counter.othersDone at h ⊢
  refine List.all_eq_true.2 fun m hm => ?_
  have done := List.all_eq_true.1 h m hm
  rw [Bool.or_eq_true] at done ⊢
  refine done.imp_right fun known => ?_
  rw [List.contains_iff_mem] at known ⊢
  exact List.mem_of_mem_filter known

/-- One index passed, and then the rest. -/
theorem Counter.Settled.passOne {self : Nat} {c c' : Counter} (below : c.doneLow < c.limit) (mem : c.doneLow ∈ c.done)
    (others : c.othersDone self c.doneLow = true) (h : c.passOne.Settled self c') : c.Settled self c' := by
  obtain ⟨rises, limited, passed, kept, outstanding, next, returns⟩ := h
  refine ⟨(Nat.le_succ _).trans rises, fun _ => limited below, fun i hi hl => ?_, fun i hi => ?_, outstanding, next, returns⟩
  · rcases Nat.eq_or_lt_of_le hi with same | above
    · rw [← same]
      exact ⟨mem, others⟩
    · obtain ⟨done, all⟩ := passed i above hl
      exact ⟨List.mem_of_mem_filter done, Counter.othersDone_of_passOne all⟩
  · by_cases same : i = c.doneLow
    · exact .inr ⟨same.ge, same ▸ rises⟩
    · refine (kept i (List.mem_filter.2 ⟨hi, bne_iff_ne.2 same⟩)).imp_right fun ⟨low, high⟩ => ⟨?_, high⟩
      exact (Nat.le_succ _).trans low

theorem Counter.Settled.advance (self fuel : Nat) (c : Counter) : c.Settled self (c.advance self fuel) := by
  induction fuel generalizing c with
  | zero => exact .refl self c
  | succ fuel ih =>
    unfold Counter.advance
    split
    · next passes =>
      rw [Bool.and_eq_true, Bool.and_eq_true, decide_eq_true_eq, List.contains_iff_mem] at passes
      obtain ⟨⟨below, mem⟩, others⟩ := passes
      exact .passOne below mem others (ih c.passOne)
    · exact .refl self c

/-! ## What a counter answers a claim (R179) -/

section Serve

variable {s : State} {j : Job} {c : Counter}

/-- The lowest returned index. -/
theorem State.serve_returned (returned : c.returns ≠ []) (room : c.outstanding.length < 4096) :
    ∃ i ∈ c.returns, (∀ b ∈ c.returns, i ≤ b) ∧
      s.serve j c = .index i { c with returns := c.returns.erase i, outstanding := c.outstanding ++ [i] } := by
  obtain ⟨a, r, hr⟩ := List.exists_cons_of_ne_nil returned
  have least : c.returns.min? = some (r.foldl min a) := by rw [hr]; rfl
  obtain ⟨mem, le⟩ := List.min?_eq_some_iff.1 least
  refine ⟨_, mem, le, ?_⟩
  unfold State.serve
  dsimp only
  rw [hr]
  exact if_pos room

/-- NEXT, where it is released. -/
theorem State.serve_next (none : c.returns = []) (more : c.next < c.limit) (released : s.released j c c.next = true)
    (room : c.outstanding.length < 4096) :
    s.serve j c = .index c.next { c with next := c.next + 1, outstanding := c.outstanding ++ [c.next] } := by
  unfold State.serve
  dsimp only
  rw [none]
  dsimp only
  rw [if_pos more, if_pos released]
  exact if_pos room

/-- A claim that waits. -/
theorem State.serve_wait (h : (c.returns ≠ [] ∧ 4096 ≤ c.outstanding.length) ∨
    (c.returns = [] ∧ c.next < c.limit ∧ (s.released j c c.next = false ∨ 4096 ≤ c.outstanding.length))) : s.serve j c = .wait := by
  unfold State.serve
  dsimp only
  rcases h with ⟨returned, full⟩ | ⟨none, more, held⟩
  · obtain ⟨a, r, hr⟩ := List.exists_cons_of_ne_nil returned
    rw [hr]
    exact if_neg full.not_gt
  · rw [none]
    dsimp only
    rw [if_pos more]
    rcases held with unreleased | full
    · rw [unreleased]
      rfl
    · split
      · exact if_neg full.not_gt
      · rfl

theorem State.serve_exhausted (none : c.returns = []) (beyond : c.limit ≤ c.next) : s.serve j c = .exhausted := by
  unfold State.serve
  dsimp only
  rw [none]
  exact if_neg beyond.not_gt

end Serve

/-! ## Who receives the answer -/

theorem convCore_pstTcClaimCount : convCore Reg.pstTcClaimCount = none := by decide

/-- A stalled CLAIM receives its answer: the core it leaves. -/
def Core.told (c : Core) (d : BitVec 5) (pr : BitVec 3) (v : W64) (got : Bool) : Core :=
  { (c.setG d v).setP pr.toNat got with
    loops := (sequel c.loops c.pc).1, pc := BitVec.ofNat 18 (sequel c.loops c.pc).2, phase := .running }

theorem State.giveControl_eq (s : State) (k : CoreId) (d : BitVec 5) (pr : BitVec 3) (v : W64) (got : Bool) :
    (s.giveControl k d pr v got).core k = (s.core k).told d pr v got := by
  have g : (s.core k).setG d v = { s.core k with g := ((s.core k).setG d v).g } := Core.setG_core _ _ _
  have p : ((s.core k).setG d v).setP pr.toNat got = { (s.core k).setG d v with
    p := (((s.core k).setG d v).setP pr.toNat got).p } := Core.setP_core _ _ _
  rw [State.giveControl, State.core_resume, State.core_setCore_same, Core.told, p, g]

theorem State.giveControl_ne (s : State) {k j : CoreId} (h : j ≠ k) (d : BitVec 5) (pr : BitVec 3) (v : W64) (got : Bool) :
    (s.giveControl k d pr v got).core j = s.core j := by
  rw [State.giveControl, State.resume, State.core_setCore_ne _ _ _ _ h, State.core_setCore_ne _ _ _ _ h]

theorem State.giveControl_frame (s : State) (k : CoreId) (d : BitVec 5) (pr : BitVec 3) (v : W64) (got : Bool) :
    s.giveControl k d pr v got = { s with cores := (s.giveControl k d pr v got).cores } := rfl

/-- An answer touches the cores alone. -/
theorem State.giveIndex_frame (s : State) (j : Job) (p : CounterId) (who : Claimer) (i : Nat) :
    s.giveIndex j p who i = { s with cores := (s.giveIndex j p who i).cores } := by
  unfold State.giveIndex
  split
  · split <;> rfl
  · split <;> rfl

/-- The seat that holds a further index. -/
theorem Seat.keptOff_hold (x : Seat) (c : Core) (now : W64) (uid : W32) (p i : Nat) :
    let y := (x.hold uid p i).keptOff c now
    y.claims = x.claims + 1 ∧ y.epoch = x.epoch ∧ y.held = x.held ++ [⟨uid, p, i, x.epoch, x.claims % x.slots, [], []⟩] := by
  unfold Seat.keptOff
  dsimp only
  split <;> exact ⟨rfl, rfl, rfl⟩

end Sys2Proof.Machine

namespace Sys2Proof

open Machine Laws

/-- Control core k has received v and ok in gd and p[pr], and has gone on; its tile has claimed what is new. -/
structure Told (k : CoreId) (d : BitVec 5) (pr : BitVec 3) (v : W64) (ok : Bool) (new : List (Nat × Nat)) (s u : State) : Prop where
  dest : (u.core k).gr d = if d = 0 then 0 else v
  others : ∀ e, e ≠ d → (u.core k).gr e = (s.core k).gr e
  flag : (u.core k).pr pr.toNat = if pr = 0 then true else ok
  flags : ∀ i, i < 8 → i ≠ pr.toNat → (u.core k).pr i = (s.core k).pr i
  running : (u.core k).phase = .running
  went : WentOn k s u
  cores : ∀ i, i ≠ k → u.core i = s.core i
  core : u.core k = { s.core k with
    g := (u.core k).g, p := (u.core k).p, pc := (u.core k).pc, loops := (u.core k).loops, phase := .running
    tile := (s.core k).tile.map (fun t => { t with claimed := t.claimed ++ new }) }

/-- The answer of a core of which the tile alone has changed. -/
theorem Told.of_core {s u : State} {k : CoreId} {d : BitVec 5} {pr : BitVec 3} {v : W64} {ok : Bool} {new : List (Nat × Nat)}
    (hu : u.core k = ({ s.core k with
      tile := (s.core k).tile.map (fun t => { t with claimed := t.claimed ++ new }) } : Core).told d pr v ok)
    (others : ∀ i, i ≠ k → u.core i = s.core i) : Told k d pr v ok new s u := by
  have small := pr.isLt
  let c : Core := { s.core k with tile := (s.core k).tile.map (fun t => { t with claimed := t.claimed ++ new }) }
  have hu : u.core k = c.told d pr v ok := hu
  have gr : ∀ e, (c.told d pr v ok).gr e = (c.setG d v).gr e := fun e => by
    rw [Core.told, Core.setP_core]
    rfl
  have preds : ∀ i, (c.told d pr v ok).pr i = ((c.setG d v).setP pr.toNat ok).pr i := fun i => rfl
  refine ⟨?_, fun e he => ?_, ?_, fun i hi hne => ?_, ?_, ⟨?_, ?_⟩, others, ?_⟩
  · rw [hu, gr, Core.gr_setG]
    by_cases zero : d = 0
    · rw [if_neg (fun e => e.2 zero), if_pos zero, zero]
      rfl
    · rw [if_pos ⟨rfl, zero⟩, if_neg zero]
  · rw [hu, gr, Core.gr_setG, if_neg (fun h => he h.1)]
    rfl
  · rw [hu, preds, Core.pr_setP_same _ _ small]
    by_cases zero : pr = 0
    · rw [if_pos zero, zero]
      rfl
    · rw [if_neg zero, if_neg (c := pr.toNat = 0) (fun e => zero (BitVec.eq_of_toNat_eq e))]
  · rw [hu, preds, Core.pr_setP_ne _ _ small hi hne, Core.setG_core]
    rfl
  · rw [hu]
    rfl
  · rw [hu]
    rfl
  · rw [hu]
    rfl
  · rw [hu, Core.told, Core.setP_core, Core.setG_core]

/-- A control core that waits receives its index. -/
theorem Told.giveIndex {s : State} {k : CoreId} {p : CounterId} {d : BitVec 5} {pr : BitVec 3} (h : waitsOn (s.core k) p = some (d, pr))
    (j : Job) (i : Nat) : Told k d pr (BitVec.ofNat 64 i) true [(p.val, i)] s (s.giveIndex j p (.control k) i) := by
  have runs : s.giveIndex j p (.control k) i = (s.setCore k { s.core k with
      tile := (s.core k).tile.map (fun t => { t with claimed := t.claimed ++ [(p.val, i)] }) }).giveControl k d pr
        (BitVec.ofNat 64 i) true := by
    unfold State.giveIndex
    dsimp only
    rw [h]
  rw [runs]
  refine .of_core ?_ fun i hi => ?_
  · rw [State.giveControl_eq, State.core_setCore_same]
  · rw [State.giveControl_ne _ hi, State.core_setCore_ne _ _ _ _ hi]

/-- A control core that waits learns that the counter is exhausted. -/
theorem Told.exhausted {s v : State} (hv : v.cores = s.cores) (k : CoreId) (d : BitVec 5) (pr : BitVec 3) :
    Told k d pr (BitVec.allOnes 64) false [] s (v.giveControl k d pr (BitVec.allOnes 64) false) := by
  refine .of_core ?_ fun i hi => ?_
  · rw [State.giveControl_eq, State.core_congr hv]
    simp only [List.append_nil, Option.map_id']
  · rw [State.giveControl_ne _ hi, State.core_congr hv]

/-- The seat of a stage holds the index that its launcher or stream claimed. -/
theorem seat_giveIndex {s : State} {k : CoreId} {st : StageNo} {j : Job} {n : Nat} {x : Seat} (p : CounterId) (i : Nat)
    (hn : (s.core k).seatIdx j.ctx j.running st = some n) (hx : (s.core k).seats[n]? = some x) :
    let u := s.giveIndex j p (.launcher k st) i
    (∃ y, (u.core k).seats[n]? = some y ∧ y.claims = x.claims + 1 ∧ y.epoch = x.epoch ∧
      y.held = x.held ++ [⟨j.uid, p.val, i, x.epoch, x.claims % x.slots, [], []⟩]) ∧
    (∀ m, m ≠ n → (u.core k).seats[m]? = (s.core k).seats[m]?) ∧
    u.core k = { s.core k with seats := (u.core k).seats } ∧ ∀ i, i ≠ k → u.core i = s.core i := by
  have runs : s.giveIndex j p (.launcher k st) i =
      s.setSeat k n (fun x => (x.hold j.uid p.val i).keptOff (s.core k) s.gate) := by
    unfold State.giveIndex
    dsimp only
    rw [hn]
  rw [runs]
  dsimp only
  unfold State.setSeat
  rw [State.core_setCore_same]
  refine ⟨⟨_, ?_, x.keptOff_hold (s.core k) s.gate _ _ _⟩, fun m hm => ?_, rfl, fun i hi => State.core_setCore_ne _ _ _ _ hi⟩
  · exact (getElem?_modifyNth _ _ _ _).trans (by rw [if_pos rfl, hx]; rfl)
  · exact (getElem?_modifyNth _ _ _ _).trans (if_neg hm.symm)

/-- What a claim leaves alone: everything but the counter at p, the cores and the counts. -/
def ClaimFrame (p : CounterId) (s u : State) : Prop :=
  u = { s with counters := u.counters, cores := u.cores, deltas := u.deltas, regs := u.regs } ∧
  ∀ q, q ≠ p → u.counters[q] = s.counters[q]

/-- The control core, where it is who claims, is told. -/
def ToldWho (p : CounterId) (who : Claimer) (v : W64) (ok : Bool) (new : List (Nat × Nat)) (s u : State) : Prop :=
  ∀ k, who = .control k → ∀ d pr, waitsOn (s.core k) p = some (d, pr) → Told k d pr v ok new s u

/-- The launcher or stream, where it is who claims, holds the index i. -/
def HeldBy (j : Job) (p : CounterId) (who : Claimer) (i : Nat) (s u : State) : Prop :=
  ∀ k st n x, who = .launcher k st → (s.core k).seatIdx j.ctx j.running st = some n → (s.core k).seats[n]? = some x →
    (∃ y, (u.core k).seats[n]? = some y ∧ y.claims = x.claims + 1 ∧ y.epoch = x.epoch ∧
      y.held = x.held ++ [⟨j.uid, p.val, i, x.epoch, x.claims % x.slots, [], []⟩]) ∧
    (∀ m, m ≠ n → (u.core k).seats[m]? = (s.core k).seats[m]?) ∧
    u.core k = { s.core k with seats := (u.core k).seats } ∧ ∀ i, i ≠ k → u.core i = s.core i

section Serve

variable {s : State} {p : CounterId} {c : Counter} {j : Job} {who : Claimer}

theorem counters_setCounter (s : State) (p : CounterId) (c : Option Counter) :
    (s.setCounter p c).counters[p] = c ∧ ∀ q, q ≠ p → (s.setCounter p c).counters[q] = s.counters[q] :=
  ⟨(Vector.getElem_set_fin _ _ _ _).trans (if_pos rfl), fun _ hq => (Vector.getElem_set_fin _ _ _ _).trans (if_neg hq)⟩

theorem ClaimFrame.setCounter (s : State) (p : CounterId) (c : Option Counter) : ClaimFrame p s (s.setCounter p c) :=
  ⟨rfl, (counters_setCounter s p c).2⟩

/-- An answer and a count leave the same alone. -/
theorem ClaimFrame.trans {v u1 u : State} (h : ClaimFrame p s v) (h1 : u1 = { v with cores := u1.cores })
    (h2 : u = { u1 with deltas := u.deltas, regs := u.regs }) : ClaimFrame p s u ∧ u.counters = v.counters := by
  obtain ⟨frame, others⟩ := h
  have counters : u.counters = v.counters := by rw [h2, h1]
  refine ⟨⟨?_, fun q hq => ?_⟩, counters⟩
  · rw [h2, h1, frame]
  · rw [counters]
    exact others q hq

/-- Nothing has been counted where the counts and the registers are the same. -/
theorem Counted.of_same {s u : State} (hr : u.regs = s.regs) (hd : u.deltas = s.deltas) : Counted [] [] s u :=
  (Counted.refl [] s).of_sameRegs hd (fun o _ => State.reg_congr hr o) (by simp)

/-- An index is served. -/
theorem gives_index {i : Nat} {c1 : Counter} (hc : s.counters[p] = some c) (hw : c.nextClaim = some who)
    (hj : s.job? c.job = some j) (wants : s.claims j p who = true) (served : s.serve j c = .index i c1) :
    Gives (.claimServed p) s (fun u => ClaimFrame p s u ∧
      (ToldWho p who (BitVec.ofNat 64 i) true [(p.val, i)] s u ∧ HeldBy j p who i s u ∧ Counted [(Reg.pstTcClaimCount, 1)] [] s u) ∧
      u.counters[p] = some { c1 with waiting := c1.waiting.erase who, blocked := false }) := by
  let v := s.setCounter p (some { c1 with waiting := c1.waiting.erase who, blocked := false })
  let u := (v.giveIndex j p who i).bump Reg.pstTcClaimCount 1
  have core : ∀ k, u.core k = (v.giveIndex j p who i).core k := State.core_bump _ _ _
  obtain ⟨frame, counters⟩ := (ClaimFrame.setCounter s p _).trans (State.giveIndex_frame v j p who i) (bump_frame _ Reg.pstTcClaimCount 1)
  refine ⟨u, ?_, frame, ⟨fun k hk d pr waits => ?_, fun k st n x hk hn hx => ?_, ?_⟩, ?_⟩
  · show execClaimServed p s = _
    unfold execClaimServed State.counter?
    rw [hc]
    dsimp only
    rw [hw, hj]
    dsimp only
    rw [if_pos wants, served]
    rfl
  · subst hk
    obtain ⟨dest, others, flag, flags, running, ⟨pc, loops⟩, cores, whole⟩ := Told.giveIndex (s := v) waits j i
    simp only [← core] at dest others flag flags running pc loops cores whole
    exact ⟨dest, others, flag, flags, running, ⟨pc, loops⟩, cores, whole⟩
  · subst hk
    have held := seat_giveIndex (s := v) p i hn hx
    simp only [← core] at held
    exact held
  · have given : Counted [] [] s (v.giveIndex j p who i) := by
      rw [State.giveIndex_frame]
      exact .of_same rfl rfl
    exact given.bump_of_no_conv 1 convCore_pstTcClaimCount List.not_mem_nil List.not_mem_nil
  · exact (congrArg (·[p]) counters).trans (counters_setCounter _ _ _).1

/-- A claim that begins to wait. -/
theorem gives_claimWait (hc : s.counters[p] = some c) (hw : c.nextClaim = some who) (hj : s.job? c.job = some j)
    (wants : s.claims j p who = true) (served : s.serve j c = .wait) :
    Gives (.claimServed p) s (fun u => ClaimFrame p s u ∧ u.cores = s.cores ∧ Counted [] [] s u ∧
      u.counters[p] = some { c with waiting := who :: c.waiting.erase who, blocked := true }) := by
  refine ⟨_, ?_, ClaimFrame.setCounter s p _, rfl, .of_same rfl rfl, (counters_setCounter _ _ _).1⟩
  show execClaimServed p s = _
  unfold execClaimServed State.counter?
  rw [hc]
  dsimp only
  rw [hw, hj]
  dsimp only
  rw [if_pos wants, served]
  rfl

/-- A claimer that no longer wants its claim gives it up. -/
theorem gives_claimDropped (hc : s.counters[p] = some c) (hw : c.nextClaim = some who) (hj : s.job? c.job = some j)
    (unwanted : s.claims j p who = false) : Gives (.claimServed p) s (fun u => u = { s with counters := u.counters } ∧
      u.counters[p] = some { c with waiting := c.waiting.erase who, blocked := false } ∧
      ∀ q, q ≠ p → u.counters[q] = s.counters[q]) := by
  refine ⟨s.setCounter p (some { c with waiting := c.waiting.erase who, blocked := false }), ?_, rfl, counters_setCounter _ _ _⟩
  show execClaimServed p s = _
  unfold execClaimServed State.counter?
  rw [hc]
  dsimp only
  rw [hw, hj]
  dsimp only
  rw [unwanted]
  rfl

/-- A claim learns that its counter is exhausted. -/
theorem gives_exhausted (hc : s.counters[p] = some c) (hw : c.nextClaim = some who) (hj : s.job? c.job = some j)
    (wants : s.claims j p who = true) (served : s.serve j c = .exhausted) :
    Gives (.claimServed p) s (fun u => ClaimFrame p s u ∧ ToldWho p who (BitVec.allOnes 64) false [] s u ∧
      u.counters[p] = some { c with waiting := c.waiting.erase who, blocked := false } ∧ Counted [] [] s u ∧
      ((∃ k st, who = .launcher k st) → u.cores = s.cores)) := by
  let v := s.setCounter p (some { c with waiting := c.waiting.erase who, blocked := false })
  have counters := counters_setCounter s p (some { c with waiting := c.waiting.erase who, blocked := false })
  cases who with
  | launcher k st =>
    refine ⟨v, ?_, .setCounter s p _, fun _ e => (by cases e), counters.1, .of_same rfl rfl, fun _ => rfl⟩
    show execClaimServed p s = _
    simp only [execClaimServed, State.counter?, hc, hw, hj, wants, if_true, served]
    rfl
  | control k =>
    cases waits : waitsOn (s.core k) p with
    | none =>
      have : (waitsOn (s.core k) p).isSome = true := wants
      rw [waits] at this
      cases this
    | some x =>
      obtain ⟨d, pr⟩ := x
      have runs : execClaimServed p s = ok (v.giveControl k d pr (BitVec.allOnes 64) false) := by
        simp only [execClaimServed, State.counter?, hc, hw, hj, wants, if_true, served, waits]
        rfl
      refine ⟨_, runs, ⟨rfl, counters.2⟩, fun k' e d' pr' w' => ?_, counters.1,
        .of_same rfl rfl, fun ⟨_, _, e⟩ => by cases e⟩
      cases e
      cases waits.symm.trans w'
      exact .exhausted (s := s) (v := v) rfl k d pr

end Serve

/-- Settles O30: each claim by what `State.serve` answers, DONE_LOW by `Counter.Settled.advance`. -/
theorem claimsAndCompletionOrder : Obligations.ClaimsAndCompletionOrder := by
  refine ⟨fun s p c j who hc hw hj => ?_, fun c self => ?_⟩
  · intro left frame told given
    have toldOf : ∀ {v ok new u}, ToldWho p who v ok new s u → told v ok new u := fun h k hk d pr waits => by
      obtain ⟨dest, others, flag, flags, running, went, cores, core⟩ := h k hk d pr waits
      exact ⟨dest, others, flag, flags, running, went, cores, core⟩
    refine ⟨fun wants returned room => ?_, fun wants none more released room => ?_, fun wants waits => ?_,
      fun wants none beyond => ?_, fun unwanted => gives_claimDropped hc hw hj unwanted⟩
    · obtain ⟨i, mem, least, served⟩ := State.serve_returned (s := s) (j := j) returned room
      obtain ⟨u, hu, kept, ⟨said, held, counts⟩, counter⟩ := gives_index hc hw hj wants served
      exact ⟨u, hu, kept, i, mem, least, ⟨toldOf said, held, counts⟩, counter⟩
    · obtain ⟨u, hu, kept, ⟨said, held, counts⟩, counter⟩ :=
        gives_index hc hw hj wants (State.serve_next none more released room)
      exact ⟨u, hu, kept, ⟨toldOf said, held, counts⟩, counter⟩
    · exact gives_claimWait hc hw hj wants (State.serve_wait waits)
    · obtain ⟨u, hu, kept, said, rest⟩ := gives_exhausted hc hw hj wants (State.serve_exhausted none beyond)
      exact ⟨u, hu, kept, toldOf said, rest⟩
  · obtain ⟨rises, limited, passed, kept, outstanding, next, _⟩ := Counter.Settled.advance self (c.done.length + 1) c
    exact ⟨rises, limited, passed, kept, outstanding, next⟩

end Sys2Proof

/-! PROOF. What the end of a job and the completion of an index leave alone: memory, the registers of the clusters, and a core that
runs no tile, but for the indices that its seats hold (R115, R180, R305, R316, R323, R325, R332, R333). -/

namespace Sys2Proof.Machine

/-- An offset of the clusters' own registers (R399). -/
def clusterReg (o : Nat) : Prop := 0x1800000 ≤ o ∧ o < 0x1C00000

/-- What stays where core k has no work; reports are kept, and others may join them. -/
structure KeptFacts (k : CoreId) (s u : State) : Prop where
  mem : u.mem = s.mem
  deltas : u.deltas = s.deltas
  counters : u.counters = s.counters
  regs : ∀ o, clusterReg o → u.reg o = s.reg o
  core : u.core k = { s.core k with seats := (u.core k).seats }
  reports : s.reports ⊆ u.reports

/-- It all stays, where core k has no work. -/
def Kept (k : CoreId) (s u : State) : Prop := (s.core k).phase.active = false → KeptFacts k s u

section Kept

variable {k : CoreId} {s t u : State}

theorem Kept.refl (k : CoreId) (s : State) : Kept k s s := fun _ => ⟨rfl, rfl, rfl, fun _ _ => rfl, rfl, List.Subset.refl _⟩

theorem Kept.trans (h1 : Kept k s t) (h2 : Kept k t u) : Kept k s u := fun idle => by
  obtain ⟨mem1, deltas1, counters1, regs1, core1, reports1⟩ := h1 idle
  have still : (t.core k).phase.active = false := by rw [core1]; exact idle
  obtain ⟨mem2, deltas2, counters2, regs2, core2, reports2⟩ := h2 still
  exact ⟨mem2.trans mem1, deltas2.trans deltas1, counters2.trans counters1, fun o ho => (regs2 o ho).trans (regs1 o ho),
    by rw [core2, core1], List.Subset.trans reports1 reports2⟩

/-- A step along a list. -/
theorem Kept.foldl {α : Type} {f : State → α → State} (h : ∀ s x, Kept k s (f s x)) (l : List α) (s : State) :
    Kept k s (l.foldl f s) := by
  induction l generalizing s with
  | nil => exact .refl k s
  | cons a l ih => exact (h s a).trans (ih (f s a))

/-- A change of what is none of this. -/
theorem Kept.of_frame (h : u = { s with
    writes := u.writes, stopped := u.stopped, jobs := u.jobs, links := u.links, rink := u.rink, lodge := u.lodge }) : Kept k s u := fun _ => by
  refine ⟨?_, ?_, ?_, fun o _ => ?_, ?_, ?_⟩ <;> rw [h]
  · rfl
  · rfl
  · exact List.Subset.refl _

theorem Kept.setReg (s : State) {o : Nat} (h : ¬ clusterReg o) (v : W64) : Kept k s (s.setReg o v) := fun _ =>
  ⟨rfl, rfl, rfl, fun _ hp => State.reg_setReg_ne _ _ _ _ fun e => h (e ▸ hp), rfl, List.Subset.refl _⟩

/-! ## Reports and messages -/

theorem Kept.report (s : State) (r : Report) : Kept k s (s.report r) := by
  unfold State.report
  dsimp only
  split
  · exact fun _ => ⟨rfl, rfl, rfl, fun _ _ => rfl, rfl, List.subset_append_left _ _⟩
  · split
    · refine (Kept.setReg s ?_ _).trans (.setReg _ ?_ _)
      · simp only [clusterReg, Reg.errClassCount]; omega
      · simp only [clusterReg, Reg.errLostCount]; omega
    · exact fun _ => ⟨rfl, rfl, rfl, fun _ _ => rfl, rfl, List.subset_append_left _ _⟩

theorem Kept.sendTo (s : State) (dest : BitVec 12) (m : RinkMsg) : Kept k s (s.sendTo dest m) := by
  have lost : ¬ clusterReg Reg.rnkRouteDropCount := by simp only [clusterReg, Reg.rnkRouteDropCount]; omega
  unfold State.sendTo State.sendFrom
  split
  · split
    · exact .of_frame rfl
    · exact .setReg s lost _
  · exact .setReg s lost _

theorem Kept.notify (s : State) (c : ClusterId) (n : Note) : Kept k s (s.notify c n).1 := by
  unfold State.notify
  dsimp only
  split
  · exact .of_frame rfl
  · refine ((Kept.setReg s ?_ _).trans (.setReg _ ?_ _)).trans (.of_frame rfl)
    · simp only [clusterReg, Reg.ldgEvqStatus]; omega
    · simp only [clusterReg, Reg.ldgEvqOverrunCount]; omega

theorem Kept.onJob (s : State) (uid : W32) (f : Job → Job) : Kept k s (s.onJob uid f) := .of_frame rfl

/-! ## Tiles are stopped and held indices dropped -/

theorem Kept.dropStopped (s : State) (p : Stopped → Bool) : Kept k s (s.dropStopped p) :=
  (Kept.of_frame (u := { s with stopped := s.stopped.filter (fun x => !p x) }) rfl).trans
    (.foldl (fun _ _ => .of_frame rfl) _ _)

theorem Kept.setCore_ne (s : State) {j : CoreId} (h : k ≠ j) (c : Core) : Kept k s (s.setCore j c) := fun _ => by
  have core : (s.setCore j c).core k = s.core k := State.core_setCore_ne _ _ _ _ h
  exact ⟨rfl, rfl, rfl, fun _ _ => rfl, by rw [core], List.Subset.refl _⟩

theorem Kept.stopTile (s : State) (j : CoreId) : Kept k s (s.stopTile j) := by
  unfold State.stopTile
  split
  · next active =>
    intro idle
    have other : k ≠ j := by
      rintro rfl
      rw [active] at idle
      cases idle
    let t : State := { s.dropStopped (fun x => x.isCommandOf j) with
      writes := s.writes.map (fun (w : RowWrite) => if w.ownedBy j then { w with owner := none, signs := false } else w) }
    have drained : Kept k (s.dropStopped (fun x => x.isCommandOf j)) t := .of_frame rfl
    exact ((Kept.dropStopped s _).trans (drained.trans (.setCore_ne t other _))) idle
  · exact .refl k s

theorem Kept.stopTilesOf (s : State) (uid : W32) : Kept k s (s.stopTilesOf uid) := .foldl (fun s j => .stopTile s j) _ s

/-- The cores without the held indices of a job. -/
def State.withoutHeld (s : State) (uid : W32) : State :=
  { s with cores := s.cores.map (fun (c : Core) => { c with seats := c.seats.map (fun (x : Seat) =>
      { x with held := x.held.filter (fun h => h.job != uid) }) }) }

theorem Kept.dropHeld (s : State) (uid : W32) : Kept k s (s.dropHeld uid) := by
  have held : Kept k s (s.withoutHeld uid) := fun _ => by
    have core : (s.withoutHeld uid).core k = { s.core k with seats := (s.core k).seats.map (fun (x : Seat) =>
        { x with held := x.held.filter (fun h => h.job != uid) }) } := Vector.getElem_map ..
    exact ⟨rfl, rfl, rfl, fun _ _ => rfl, by rw [core], List.Subset.refl _⟩
  exact held.trans (.dropStopped _ _)

/-! ## Jobs end (R115, R202, R325) -/

theorem Kept.closeJob (s : State) (uid : W32) (status : Nat) : Kept k s (s.closeJob uid status) :=
  (Kept.onJob s uid _).trans (.dropHeld _ uid)

theorem Kept.sendAbort (s : State) (j : Job) (cause : AbortCause) : Kept k s (s.sendAbort j cause) :=
  .foldl (fun s _ => .sendTo s _ _) _ s

theorem Kept.noteAbort (s : State) (j : Job) (cause : AbortCause) : Kept k s (s.noteAbort j cause) := by
  have count : ¬ clusterReg Reg.rnkCascadeAbortCount := by simp only [clusterReg, Reg.rnkCascadeAbortCount]; omega
  exact (Kept.setReg s count _).trans (.report _ _)

theorem Kept.tellEnd (s : State) (uid : W32) : Kept k s (s.tellEnd uid) := by
  unfold State.tellEnd
  split
  · split
    · exact .refl k s
    · exact ((Kept.sendAbort s _ _).trans (.noteAbort _ _ _)).trans (.stopTilesOf _ uid)
  · exact .refl k s

theorem Kept.endJob (s : State) (uid : W32) (status : Nat) : Kept k s (s.endJob uid status) :=
  (Kept.tellEnd s uid).trans (.closeJob _ uid status)

theorem Kept.abortJob (s : State) (uid : W32) : Kept k s (s.abortJob uid) := (Kept.endJob s uid 2).trans (.stopTilesOf _ uid)

theorem Kept.abortCascade (s : State) (j : Job) (cause : AbortCause) : Kept k s (s.abortCascade j cause) :=
  ((Kept.sendAbort s j cause).trans (.noteAbort _ j cause)).trans ((Kept.closeJob _ j.uid 2).trans (.stopTilesOf _ j.uid))

theorem Kept.metFrozen (s : State) (uid : W32) (c : CtxId) (read : Bool) (va : Nat) : Kept k s (s.metFrozen uid c read va) := by
  refine Kept.trans ?_ (.abortJob _ uid)
  split
  · next d _ =>
    split
    · refine .setReg s ?_ _
      have := d.isLt
      simp only [clusterReg, Reg.dmcFrzDiscardCount]
      omega
    · exact .refl k s
  · exact .refl k s

/-! ## Signatures and completions (R305, R323, R332, R333) -/

theorem Kept.latchDivergence (s : State) (own peer : Signature) : Kept k s (s.latchDivergence own peer) := by
  unfold State.latchDivergence
  dsimp only
  split
  · refine (((Kept.setReg s ?_ _).trans (.setReg _ ?_ _)).trans (.setReg _ ?_ _)).trans (.setReg _ ?_ _)
    · simp only [clusterReg, Reg.synFirstKey]; omega
    · simp only [clusterReg, Reg.synFirstIndex]; omega
    · simp only [clusterReg, Reg.synFirstSigLocal]; omega
    · simp only [clusterReg, Reg.synFirstSigPeer]; omega
  · exact .refl k s

theorem Kept.onCompared (s : State) (r : Signature) (f : Job → Job) : Kept k s (s.onCompared r f) := .of_frame rfl

theorem Kept.judge (s : State) (own peer : Signature) : Kept k s (s.judge own peer) := by
  have skew : ¬ clusterReg Reg.synSlalomSkewCount := by simp only [clusterReg, Reg.synSlalomSkewCount]; omega
  have agree : ¬ clusterReg Reg.synMatchCount := by simp only [clusterReg, Reg.synMatchCount]; omega
  have status : ¬ clusterReg Reg.synStatus := by simp only [clusterReg, Reg.synStatus]; omega
  have count : ¬ clusterReg Reg.synDivCount := by simp only [clusterReg, Reg.synDivCount]; omega
  unfold State.judge
  split
  · exact (Kept.setReg s skew _).trans (.onCompared _ _ _)
  · split
    · exact .setReg s agree _
    · dsimp only
      have noted : Kept k s (((((s.latchDivergence own peer).setFlag Reg.synStatus 0 true).inc Reg.synDivCount 32 1).report
          (divergenceReport s own peer)).onCompared own (fun j => { j with diverged := true })) :=
        ((((Kept.latchDivergence s own peer).trans (.setReg _ status _)).trans (.setReg _ count _)).trans (.report _ _)).trans
          (.onCompared _ _ _)
      split
      · split
        · exact noted.trans (.abortJob _ _)
        · exact noted
      · exact noted

theorem Kept.ownSignature (s : State) (r : Signature) : Kept k s (s.ownSignature r) := by
  have status : ¬ clusterReg Reg.synStatus := by simp only [clusterReg, Reg.synStatus]; omega
  have count : ¬ clusterReg Reg.synUnmatchedCount := by simp only [clusterReg, Reg.synUnmatchedCount]; omega
  unfold State.ownSignature
  dsimp only
  refine (Kept.sendTo s (BitVec.ofNat 12 (s.fld Reg.synCtrl 27 16)) (.signature r)).trans ?_
  split
  · exact (Kept.of_frame rfl).trans (.judge _ _ _)
  · split
    · exact .of_frame rfl
    · exact ((Kept.setReg _ status _).trans (.setReg _ count _)).trans (.onCompared _ _ _)

theorem Kept.sendExchange {s u : State} {j : Job} {e : CascadeEntry} {pos index : Nat} {x : Exchange}
    (h : s.sendExchange j e pos index x = some u) : Kept k s u := by
  unfold State.sendExchange at h
  split at h
  · split at h
    · cases h
    · cases h
      refine .foldl (fun s m => ?_) _ s
      split
      · exact .foldl (fun s p => .sendTo s _ _) _ s
      · exact .refl k s
  · cases h
    exact .refl k s

/-- Exchanges that all find their translations. -/
theorem Kept.exchanges {j : Job} {e : CascadeEntry} {pos index : Nat} (l : List Exchange) {s u : State}
    (h : l.foldl (fun (a : Option State) x => a.bind (fun s => s.sendExchange j e pos index x)) (some s) = some u) : Kept k s u := by
  induction l generalizing s with
  | nil =>
    cases h
    exact .refl k _
  | cons x l ih =>
    rw [List.foldl_cons, Option.bind_some] at h
    cases sent : s.sendExchange j e pos index x with
    | none =>
      rw [sent, List.foldl_fixed' (fun _ => rfl)] at h
      cases h
    | some t =>
      rw [sent] at h
      exact (Kept.sendExchange sent).trans (ih h)

theorem Kept.exchangesMeet {s u : State} {j : Job} {e : CascadeEntry} {pos index : Nat}
    (h : s.exchangesMeet j e pos index = some u) : Kept k s u := by
  obtain ⟨l, x, r, _, hx, _⟩ := List.findSome?_eq_some_iff.1 h
  split at hx
  · unfold State.readMeets at hx
    obtain ⟨a, _, rfl⟩ := Option.map_eq_some_iff.1 hx
    exact .metFrozen s _ _ _ _
  · cases hx

theorem Kept.sendCompletion (s : State) (j : Job) (n index : Nat) : Kept k s (s.sendCompletion j n index) := by
  unfold State.sendCompletion
  split
  · exact .refl k s
  · next e _ =>
    split
    · exact .refl k s
    · next pos _ =>
      cases met : s.exchangesMeet j e pos index with
      | some u => exact Kept.exchangesMeet met
      | none =>
        rw [Option.getD_none]
        split
        · exact .abortCascade s _ _
        · next t sent =>
          have told := (Kept.exchanges e.exchanges sent).trans (Kept.foldl (k := k) (f := fun s m => s.sendTo (BitVec.ofNat 12 m)
            (.completion ⟨BitVec.ofNat 12 s.devId, pos, j.ctx, j.model, j.nModel, Fin.ofNat 16 n, BitVec.ofNat 32 index⟩))
            (fun s _ => .sendTo s _ _) (e.members.filter (fun m => m != s.devId)) t)
          dsimp only
          split
          · exact told
          · exact told.trans (.abortCascade _ _ _)

theorem Kept.withCounters (h : Kept k s u) (cs : Vector (Option Counter) 64) :
    Kept k { s with counters := cs } { u with counters := cs } := fun idle => by
  obtain ⟨mem, deltas, _, regs, core, reports⟩ := h idle
  exact ⟨mem, deltas, rfl, regs, core, reports⟩

/-- The state of an index that is complete, before anyone is told (R180). -/
def State.indexDone (s : State) (p : CounterId) (c : Counter) (index : Nat) : State :=
  s.setCounter p (some (({ c with outstanding := c.outstanding.erase index, done := c.done ++ [index] } : Counter).settle s.devId))

theorem Kept.signedIf (s : State) (b : Bool) (r : Signature) : Kept k s (if b = true then s.ownSignature r else s) := by
  split
  · exact .ownSignature s r
  · exact .refl k s

/-- What follows a completed index at its counter: messages, signatures, and the job's end where they find none to receive them. -/
theorem Kept.completeIndex {p : CounterId} {c : Counter} (hc : s.counters[p] = some c) (index : Nat) (sig : W64) :
    Kept k (s.indexDone p c index) (s.completeIndex p index sig) := by
  unfold State.completeIndex State.counter?
  rw [hc]
  dsimp only
  split
  · exact .refl k _
  · next j _ =>
    have told : Kept k (s.indexDone p c index) (if c.members.isEmpty = true then s.indexDone p c index
        else (s.indexDone p c index).sendCompletion j c.number index) := by
      split
      · exact .refl k _
      · exact .sendCompletion _ _ _ _
    exact told.trans (.signedIf _ _ _)

theorem completeIndex_of_none {p : CounterId} (hc : s.counters[p] = none) (index : Nat) (sig : W64) :
    s.completeIndex p index sig = s := by
  unfold State.completeIndex State.counter?
  rw [hc]

/-- All of it but the counters. -/
def KeptButCounters (k : CoreId) (s u : State) : Prop := ∃ cs, Kept k { s with counters := cs } u

theorem KeptButCounters.refl (k : CoreId) (s : State) : KeptButCounters k s s := ⟨s.counters, .refl k s⟩

theorem KeptButCounters.trans (h1 : KeptButCounters k s t) (h2 : KeptButCounters k t u) : KeptButCounters k s u := by
  obtain ⟨_, h1⟩ := h1
  obtain ⟨cs, h2⟩ := h2
  exact ⟨cs, (h1.withCounters cs).trans h2⟩

theorem KeptButCounters.completeIndex (s : State) (p : CounterId) (index : Nat) (sig : W64) :
    KeptButCounters k s (s.completeIndex p index sig) := by
  cases hc : s.counters[p] with
  | none =>
    rw [completeIndex_of_none hc]
    exact .refl k s
  | some c => exact ⟨_, Kept.completeIndex hc index sig⟩

theorem KeptButCounters.foldl {α : Type} {f : State → α → State} (h : ∀ s x, KeptButCounters k s (f s x)) (l : List α) (s : State) :
    KeptButCounters k s (l.foldl f s) := by
  induction l generalizing s with
  | nil => exact .refl k s
  | cons a l ih => exact (h s a).trans (ih (f s a))

end Kept

end Sys2Proof.Machine

/-! PROOF. The step monitor, and the recovery of a halted core (R115, R117, R141). -/

namespace Sys2Proof.Machine

theorem State.jobs_dropStopped (s : State) (p : Stopped → Bool) : (s.dropStopped p).jobs = s.jobs :=
  List.foldlRecOn (motive := fun u : State => u.jobs = s.jobs) _ _ rfl fun _ h _ _ => h

/-- A job that is over has ended. -/
theorem State.ended_closeJob (s : State) (uid : W32) (status : Nat) {j : Job} (hj : j ∈ (s.closeJob uid status).jobs)
    (hu : j.uid = uid) : j.state = .ended := by
  have jobs : (s.closeJob uid status).jobs = (s.onJob uid (fun j => if j.state = .ended then j
      else { j with state := .ended, status := status })).jobs := State.jobs_dropStopped _ _
  rw [jobs] at hj
  obtain ⟨x, _, rfl⟩ := List.mem_map.1 hj
  dsimp only at hu ⊢
  by_cases same : x.uid = uid
  · rw [if_pos same]
    split
    · next ended => exact ended
    · rfl
  · rw [if_neg same] at hu
    exact absurd hu same

/-- Firmware's reports are never lost (R369). -/
theorem State.mem_report_firmware (s : State) {r : Report} (h : r.firmware = true) : r ∈ (s.report r).reports := by
  unfold State.report
  rw [h]
  exact List.mem_append_right _ (List.mem_singleton.2 rfl)

/-- The halt of a tile's core as the Lodge has recorded it, its job ended and the core not yet free (R115, R117). -/
def State.haltNoted (s : State) (k : CoreId) (t : Tile) : State :=
  ((((s.report (haltReport s k t.ctx.val)).takeNote (clusterFin k) (.halt k)).onJob t.job (fun j => j.noteHalt s k)).endJob t.job 1)

theorem Kept.haltNoted {k : CoreId} (s : State) (t : Tile) : Kept k (s.report (haltReport s k t.ctx.val)) (s.haltNoted k t) :=
  ((Kept.of_frame (u := (s.report (haltReport s k t.ctx.val)).takeNote (clusterFin k) (.halt k)) rfl).trans (.onJob _ t.job _)).trans
    (.endJob _ t.job 1)

/-- What the Lodge does for a halted core that ran a tile. -/
theorem exec_haltRecord {s : State} {k : CoreId} {t : Tile} (awake : s.lodge.inReset = false) (halted : (s.core k).phase = .halted)
    (done : (s.core k).accesses = []) (ht : (s.core k).tile = some t) : exec (.haltRecord k) s =
      ok ((s.haltNoted k t).setCore k
        { (s.haltNoted k t).core k with phase := .recorded, tile := none, halting := Vector.replicate 4 [] }) := by
  show execHaltRecord k s = _
  have job : haltedJob (s.core k) = some t.job := by unfold haltedJob; rw [ht]
  unfold execHaltRecord
  rw [awake]
  dsimp only
  rw [halted, done, job, ht]
  rfl

end Sys2Proof.Machine

namespace Sys2Proof

open Machine

/-- Settles O33: the monitor's halt by `Halted.haltAt`, the record by what the end of the job leaves alone. -/
theorem hungAndHaltedCores : Obligations.HungAndHaltedCores := by
  intro s k
  refine ⟨fun active stuck => ?_, fun moves => ?_, fun awake halted pending => ?_, fun awake halted done t ht => ?_⟩
  · refine ⟨s.halt k .monitor 0x08 0 (s.core k).pc.toNat 0, ?_, .haltAt active _ .monitor (by decide) (by decide) (s.core k).pc.isLt 0⟩
    show execHungCoreHalt k s = _
    unfold execHungCoreHalt
    dsimp only
    rw [active, stuck]
    rfl
  · refine ⟨s, ?_, rfl⟩
    show execHungCoreHalt k s = _
    unfold execHungCoreHalt
    dsimp only
    rw [moves, Bool.not_true, Bool.and_false]
    rfl
  · refine ⟨s, ?_, rfl⟩
    show execHaltRecord k s = _
    unfold execHaltRecord
    rw [awake]
    dsimp only
    rw [halted]
    dsimp only
    rw [List.isEmpty_eq_false_iff.2 pending]
    rfl
  · have idle : (s.core k).phase.active = false := by rw [halted]; rfl
    obtain ⟨mem1, _, _, _, core1, _⟩ := Kept.report (k := k) s (haltReport s k t.ctx.val) idle
    have still : ((s.report (haltReport s k t.ctx.val)).core k).phase.active = false := by rw [core1]; exact idle
    obtain ⟨mem2, _, _, _, core2, reports⟩ := Kept.haltNoted s t still
    have core := State.core_setCore_same (s.haltNoted k t) k
      { (s.haltNoted k t).core k with phase := .recorded, tile := none, halting := Vector.replicate 4 [] }
    refine ⟨_, exec_haltRecord awake halted done ht, ?_, ?_, mem2.trans mem1, ?_, ?_,
      ⟨haltReport s k t.ctx.val, reports (State.mem_report_firmware s rfl), rfl, rfl, rfl, rfl, rfl⟩,
      fun j hj hu => State.ended_closeJob _ t.job 1 hj hu⟩
    · rw [core]
    · rw [core]
    · rw [core, core2, core1]
    · rw [core, core2, core1]

end Sys2Proof

/-! PROOF. What completes with END (R108, R137, R180, R364). -/

namespace Sys2Proof.Machine

open Laws

theorem convCore_ccTokenResidueCount (k : CoreId) : convCore (Reg.ccTokenResidueCount k) = none := by revert k; decide

theorem clusterReg_ccTokenStatus (k : CoreId) : clusterReg (Reg.ccTokenStatus k) := by
  have := k.isLt
  simp only [clusterReg, Reg.ccTokenStatus, coreBase, clusterBase]
  omega

theorem ccTokenStatus_ne_residue (k : CoreId) : Reg.ccTokenStatus k ≠ Reg.ccTokenResidueCount k := by
  simp [Reg.ccTokenStatus, Reg.ccTokenResidueCount]

/-! ## Notifications (R364) -/

/-- A notification that has found room stands in its queue, behind those that were there. -/
theorem State.mem_notify {s : State} {c : ClusterId} {n : Note} (h : ((s.notify c n).1.lodge.events[c]).length < 256) :
    (s.lodge.events[c]).length < 256 ∧ n ∈ (s.notify c n).1.lodge.events[c] ∧
      ∀ m ∈ s.lodge.events[c], m ∈ (s.notify c n).1.lodge.events[c] := by
  by_cases room : (s.lodge.events[c]).length < 256
  · rw [State.notify_queued s c n room]
    have events : (s.lodge.events.set c (s.lodge.events[c] ++ [n]))[c] = s.lodge.events[c] ++ [n] := Vector.getElem_set_self ..
    dsimp only
    rw [events]
    exact ⟨room, List.mem_append_right _ (List.mem_singleton.2 rfl), fun m hm => List.mem_append_left _ hm⟩
  · have full : (s.notify c n).1.lodge.events[c] = s.lodge.events[c] := by
      unfold State.notify
      dsimp only
      rw [if_neg room]
      rfl
    rw [full] at h
    exact absurd h room

theorem Kept.notifyEnd {k : CoreId} (s : State) (gate : Bool) : Kept k s (s.notifyEnd k gate) := by
  unfold State.notifyEnd
  dsimp only
  split
  · exact (Kept.notify s _ _).trans (.notify _ _ _)
  · exact .notify s _ _

/-- The notes of an END stand in the queue, where it is not full. -/
theorem State.mem_notifyEnd {s : State} {k : CoreId} {gate : Bool}
    (h : ((s.notifyEnd k gate).lodge.events[clusterFin k]).length < 256) :
    .ended k ∈ (s.notifyEnd k gate).lodge.events[clusterFin k] ∧
      (gate = true → .gate k ∈ (s.notifyEnd k gate).lodge.events[clusterFin k]) := by
  cases gate with
  | false => exact ⟨(State.mem_notify h).2.1, fun e => by cases e⟩
  | true =>
    obtain ⟨room, marked, before⟩ := State.mem_notify (s := (s.notify (clusterFin k) (.ended k)).1) h
    exact ⟨before _ (State.mem_notify room).2.1, fun _ => marked⟩

/-! ## The core that its tile leaves (R108, R137) -/

section Leaves

variable (s : State) (k : CoreId) (t : Tile) (gate : Bool)

/-- No token is left where all the counters read 0. -/
theorem Core.noTokens_iff (c : Core) : c.tokens.toList.all (· == 0) = true ↔ ∀ i, c.token i = 0 := by
  rw [List.all_eq_true]
  refine ⟨fun h i => beq_iff_eq.1 (h _ (Vector.mem_toList_iff.2 (Vector.getElem_mem i.isLt))), fun h x hx => ?_⟩
  obtain ⟨i, hi, rfl⟩ := Vector.mem_iff_getElem.1 (Vector.mem_toList_iff.1 hx)
  exact beq_iff_eq.2 (h ⟨i, hi⟩)

/-- What the clearing of tokens leaves: the core with none. -/
theorem State.core_clearResidue : (s.clearResidue k).core k = { s.core k with tokens := Vector.replicate 32 0 } := by
  unfold State.clearResidue
  split
  · next none =>
    have cleared : (s.core k).tokens = Vector.replicate 32 0 :=
      Vector.ext fun i hi => ((Core.noTokens_iff _).1 none ⟨i, hi⟩).trans (Vector.getElem_replicate hi).symm
    rw [← cleared]
  · rw [State.core_bump, State.core_stick, State.core_setCore_same]

theorem State.clearResidue_frame : s.clearResidue k = { s with
    cores := (s.clearResidue k).cores, regs := (s.clearResidue k).regs, deltas := (s.clearResidue k).deltas } := by
  unfold State.clearResidue
  split
  · rfl
  · rw [bump_frame, State.stick_frame]
    rfl

theorem State.clearResidue_none (h : ∀ i, (s.core k).token i = 0) : s.clearResidue k = s :=
  if_pos ((Core.noTokens_iff _).2 h)

/-- Tokens left are counted and shown (R137). -/
theorem State.clearResidue_some (h : ∃ i, (s.core k).token i ≠ 0) :
    ((s.clearResidue k).reg (Reg.ccTokenStatus k)).getLsbD 0 = true ∧
    lookupD 0 (s.clearResidue k).deltas (Reg.ccTokenResidueCount k) =
      (splitDelta (lookupD 0 s.deltas (Reg.ccTokenResidueCount k)) 1).1 := by
  obtain ⟨i, hi⟩ := h
  let v := (s.setCore k { s.core k with tokens := Vector.replicate 32 0 }).stick (Reg.ccTokenStatus k) 1
  have runs : s.clearResidue k = v.bump (Reg.ccTokenResidueCount k) 1 := if_neg fun none => hi ((Core.noTokens_iff _).1 none i)
  have counted := (Counted.of_same (s := v) (u := v) rfl rfl).bump_of_no_conv 1 (convCore_ccTokenResidueCount k) List.not_mem_nil
    List.not_mem_nil
  have deltas : v.deltas = s.deltas := by
    show ((s.setCore k _).stick _ 1).deltas = _
    rw [State.stick_frame]
    rfl
  rw [runs]
  refine ⟨?_, ?_⟩
  · rw [bump_reg_ne _ _ _ _ (ccTokenStatus_ne_residue k) (fun j hj => by rw [convCore_ccTokenResidueCount] at hj; cases hj)]
    show (((s.setCore k _).stick (Reg.ccTokenStatus k) 1).reg _).getLsbD 0 = true
    rw [State.reg_stick_same, BitVec.getLsbD_or]
    simp
  · rw [counted.waits, deltas]
    simp [riseAt]

/-- What END leaves before anyone is told: the core is free, and the counts of the tile have joined its job's. -/
def State.tileLeft : State :=
  let s2 := (((s.clearResidue k).addCounts t).markGate t gate).dropTileIndex k t
  s2.setCore k { s2.core k with phase := .idle, tile := none, loops := [], chain := none, port := [],
                                skew := Vector.replicate 2 none, skewTail := Vector.replicate 2 [] }

theorem State.markGate_frame : s.markGate t gate = { s with jobs := (s.markGate t gate).jobs } := by
  unfold State.markGate
  split
  · split <;> rfl
  · rfl

theorem State.dropTileIndex_frame : s.dropTileIndex k t = { s with cores := (s.dropTileIndex k t).cores } := by
  unfold State.dropTileIndex
  split <;> rfl

theorem State.core_dropTileIndex : (s.dropTileIndex k t).core k = { s.core k with seats := ((s.dropTileIndex k t).core k).seats } := by
  unfold State.dropTileIndex
  split
  · exact (State.core_setCore_same _ _ _).trans (by rw [State.setSeat, State.core_setCore_same])
  · rfl

theorem State.tileLeft_frame : s.tileLeft k t gate = { s.clearResidue k with
    jobs := (s.tileLeft k t gate).jobs, cores := (s.tileLeft k t gate).cores } := by
  unfold State.tileLeft
  dsimp only
  rw [State.dropTileIndex_frame, State.markGate_frame]
  rfl

theorem State.core_tileLeft : (s.tileLeft k t gate).core k = { s.core k with
    tokens := Vector.replicate 32 0, seats := ((s.tileLeft k t gate).core k).seats, phase := .idle, tile := none, loops := []
    chain := none, port := [], skew := Vector.replicate 2 none, skewTail := Vector.replicate 2 [] } := by
  have before : (((s.clearResidue k).addCounts t).markGate t gate).core k = { s.core k with tokens := Vector.replicate 32 0 } := by
    rw [State.markGate_frame]
    exact State.core_clearResidue s k
  unfold State.tileLeft
  rw [State.core_setCore_same, State.core_dropTileIndex, before]

end Leaves

/-- The indices that a tile completes: its own, and those that it claimed. -/
def Tile.indices (t : Tile) : List (Nat × Nat) := (t.counter, t.index.toNat) :: t.claimed

/-- The indices of a tile are complete, before the Lodge is told. -/
def State.indicesDone (s : State) (k : CoreId) (t : Tile) (gate : Bool) : State :=
  t.indices.foldl (fun s x => s.completeIndex (Fin.ofNat 64 x.1) x.2 t.sig) (s.tileLeft k t gate)

/-- The end of a tile, where nothing of it is left to wait for. -/
theorem exec_tileComplete {s : State} {k : CoreId} {t : Tile} {gate : Bool} (phase : (s.core k).phase = .ending gate)
    (ht : (s.core k).tile = some t) (due : chainDue (s.core k) = false) :
    exec (.tileComplete k) s = if tileOver s k then ok ((s.indicesDone k t gate).notifyEnd k gate) else ok s := by
  show execTileComplete k s = _
  unfold execTileComplete
  rw [chainEndIfDue_of_not_due due]
  dsimp only
  rw [phase, ht]
  rfl

/-- A tile that claimed nothing completes its own index: the counter after it (R180). -/
theorem indicesDone_counter {s : State} {k : CoreId} {t : Tile} (gate : Bool) {c : Counter} (alone : t.claimed = [])
    (hc : s.counters[(Fin.ofNat 64 t.counter : CounterId)] = some c) :
    ∃ self, (s.indicesDone k t gate).counters[(Fin.ofNat 64 t.counter : CounterId)] =
      some (({ c with outstanding := c.outstanding.erase t.index.toNat, done := c.done ++ [t.index.toNat] } : Counter).settle self) := by
  have before : (s.tileLeft k t gate).counters[(Fin.ofNat 64 t.counter : CounterId)] = some c := by
    rw [s.tileLeft_frame k t gate, State.clearResidue_frame]
    exact hc
  have runs : s.indicesDone k t gate = (s.tileLeft k t gate).completeIndex (Fin.ofNat 64 t.counter) t.index.toNat t.sig := by
    unfold State.indicesDone Tile.indices
    rw [alone]
    rfl
  have idle : ((s.tileLeft k t gate).core k).phase.active = false := by rw [State.core_tileLeft]; rfl
  have kept := Kept.completeIndex (k := k) before t.index.toNat t.sig idle
  refine ⟨(s.tileLeft k t gate).devId, ?_⟩
  rw [runs, kept.counters]
  exact (counters_setCounter _ _ _).1

end Sys2Proof.Machine

namespace Sys2Proof

open Machine

/-- When the waits of END are over: the core is free, its index complete and the Lodge told. -/
theorem gives_tileComplete {s : State} {k : CoreId} {t : Tile} {gate : Bool} (phase : (s.core k).phase = .ending gate)
    (ht : (s.core k).tile = some t) (due : chainDue (s.core k) = false) (waited : tileOver s k = true) :
    Gives (.tileComplete k) s (fun u =>
      (u.core k).phase = .idle ∧ (u.core k).tile = none ∧ (∀ i, (u.core k).token i = 0) ∧ u.mem = s.mem ∧
      (u.core k).g = (s.core k).g ∧ (u.core k).dstore = (s.core k).dstore ∧ (u.core k).vregs = (s.core k).vregs ∧
      ((∃ i, (s.core k).token i ≠ 0) → (u.reg (Reg.ccTokenStatus k)).getLsbD 0 = true ∧
        lookupD 0 u.deltas (Reg.ccTokenResidueCount k) = (splitDelta (lookupD 0 s.deltas (Reg.ccTokenResidueCount k)) 1).1) ∧
      ((∀ i, (s.core k).token i = 0) → u.reg (Reg.ccTokenStatus k) = s.reg (Reg.ccTokenStatus k) ∧
        lookupD 0 u.deltas (Reg.ccTokenResidueCount k) = lookupD 0 s.deltas (Reg.ccTokenResidueCount k)) ∧
      (u.lodge.events[clusterFin k].length < 256 → .ended k ∈ u.lodge.events[clusterFin k] ∧
        (gate = true → .gate k ∈ u.lodge.events[clusterFin k])) ∧
      (∀ c, t.claimed = [] → s.counters[(Fin.ofNat 64 t.counter : CounterId)] = some c → c.members = [] →
        ∃ c', u.counters[(Fin.ofNat 64 t.counter : CounterId)] = some c' ∧
          c'.outstanding = c.outstanding.erase t.index.toNat ∧ c'.next = c.next ∧ c'.returns = c.returns ∧
          (t.index.toNat < c'.doneLow ∨ t.index.toNat ∈ c'.done) ∧ c.doneLow ≤ c'.doneLow)) := by
  let u := (s.indicesDone k t gate).notifyEnd k gate
  have left := s.core_tileLeft k t gate
  have frame := s.tileLeft_frame k t gate
  have idle : ((s.tileLeft k t gate).core k).phase.active = false := by rw [left]; rfl
  obtain ⟨cs, completed⟩ := KeptButCounters.foldl (k := k) (fun s (x : Nat × Nat) => .completeIndex s (Fin.ofNat 64 x.1) x.2 t.sig)
    t.indices (s.tileLeft k t gate)
  have still : ((s.indicesDone k t gate).core k).phase.active = false := by
    have core : (s.indicesDone k t gate).core k = { (s.tileLeft k t gate).core k with
      seats := ((s.indicesDone k t gate).core k).seats } := (completed idle).core
    rw [core]
    exact idle
  have kept : Kept k { s.tileLeft k t gate with counters := cs } u := completed.trans (.notifyEnd _ gate)
  obtain ⟨mem, deltas, _, regs, core, _⟩ := kept idle
  have core : u.core k = { (s.tileLeft k t gate).core k with seats := (u.core k).seats } := core
  have status : u.reg (Reg.ccTokenStatus k) = (s.clearResidue k).reg (Reg.ccTokenStatus k) :=
    (regs _ (clusterReg_ccTokenStatus k)).trans (by show (s.tileLeft k t gate).reg _ = _; rw [frame]; rfl)
  have counts : u.deltas = (s.clearResidue k).deltas := deltas.trans (by show (s.tileLeft k t gate).deltas = _; rw [frame])
  refine ⟨u, ?_, ?_, ?_, fun i => ?_, ?_, ?_, ?_, ?_, fun some => ?_, fun none => ?_, State.mem_notifyEnd, fun c alone hc _ => ?_⟩
  · rw [exec_tileComplete phase ht due, if_pos waited]
    rfl
  · rw [core, left]
  · rw [core, left]
  · rw [core, left]
    exact Vector.getElem_replicate i.isLt
  · refine mem.trans ?_
    show (s.tileLeft k t gate).mem = _
    rw [frame, State.clearResidue_frame]
  · rw [core, left]
  · rw [core, left]
  · rw [core, left]
  · rw [status, counts]
    exact s.clearResidue_some k some
  · rw [status, counts, s.clearResidue_none k none]
    exact ⟨rfl, rfl⟩
  · obtain ⟨self, counter⟩ := indicesDone_counter gate alone hc
    obtain ⟨rises, _, _, done, outstanding, next, returns⟩ := Counter.Settled.advance self _
      ({ c with outstanding := c.outstanding.erase t.index.toNat, done := c.done ++ [t.index.toNat] } : Counter)
    refine ⟨_, (congrArg (·[(Fin.ofNat 64 t.counter : CounterId)]) (Kept.notifyEnd _ gate still).counters).trans counter, outstanding,
      next, returns, ?_, rises⟩
    rcases done t.index.toNat (List.mem_append_right _ (List.mem_singleton.2 rfl)) with stays | passed
    · exact .inr stays
    · exact .inl passed.2

end Sys2Proof

/-! PROOF. Tiles launch (R99, R118, R124, R137, R174, R179, R194, R209, R212). -/

namespace Sys2Proof.Machine

open Laws

/-! ## The launch that a core chooses (R209) -/

theorem State.seat_of_seatLaunch {s : State} {k : CoreId} {n : Nat} {x : Seat} {l : Launch} (h : s.seatLaunch k n x = some l) :
    l.seat = n := by
  unfold State.seatLaunch at h
  split at h
  · cases h
  split at h
  · obtain ⟨a, -, ha⟩ := Option.bind_eq_some_iff.1 h
    split at ha
    · cases ha
      rfl
    · cases ha
  split at h
  · cases h
  obtain ⟨j, -, hj⟩ := List.mem_filterMap.1 (List.mem_of_mem_head? h)
  split at hj
  · split at hj
    · split at hj
      · split at hj
        · cases hj
          rfl
        · cases hj
      · cases hj
    · cases hj
  · cases hj

/-- The seat of the launch that a core chooses is one of the core's, at the place that the launch names. -/
theorem State.seat_of_pickLaunch {s : State} {k : CoreId} {l : Launch} {x : Seat} (h : s.pickLaunch k = some (l, x)) :
    (s.core k).seats[l.seat]? = some x := by
  have chosen : (l, x) ∈ ((s.core k).seats.zipIdx).filterMap (fun x => (s.seatLaunch k x.2 x.1).map (fun a => (a, x.1))) := by
    unfold State.pickLaunch at h
    dsimp only at h
    split at h
    · cases h
    · next a r cands =>
      rw [cands, ← Option.some.inj h]
      refine List.foldlRecOn r _ List.mem_cons_self fun m hm y hy => ?_
      split
      · exact List.mem_cons_of_mem _ hy
      · exact hm
  obtain ⟨⟨y, n⟩, mem, launch⟩ := List.mem_filterMap.1 chosen
  obtain ⟨l', launches, same⟩ := Option.map_eq_some_iff.1 launch
  obtain ⟨rfl, rfl⟩ := Prod.mk.inj same
  rw [State.seat_of_seatLaunch launches]
  exact List.mem_zipIdx_iff_getElem?.1 mem

/-! ## The argument block (R209, R211, R212) -/

/-- ARGWORD of block 0 holds the row of the job's frame slot. -/
theorem lookupD_putSlotRow_in (c : Core) (x : Seat) (g : Stage) {im : Image} {j : Job} {e : InputEntry} {r i : Nat}
    (he : im.input = some e) (hr : j.slotRow = some r) (hi : i < 4) :
    lookupD 0 (putSlotRow c x g im j).dstore (x.dbase * 4096 + g.argBlk + e.argWord + i) = (leBytes 4 r).getD i 0 := by
  unfold putSlotRow
  rw [hr, he]
  dsimp only
  rw [lookupD_writeRun, leBytes_length, if_pos (by omega), Nat.add_sub_cancel_left]

theorem lookupD_putSlotRow_out (c : Core) (x : Seat) (g : Stage) {im : Image} {j : Job} {a : Nat}
    (h : ∀ e r, im.input = some e → j.slotRow = some r →
      ¬ (x.dbase * 4096 + g.argBlk + e.argWord ≤ a ∧ a < x.dbase * 4096 + g.argBlk + e.argWord + 4)) :
    lookupD 0 (putSlotRow c x g im j).dstore a = lookupD 0 c.dstore a := by
  unfold putSlotRow
  split
  · next r e hr he => rw [lookupD_writeRun, leBytes_length, if_neg (h e r he hr)]
  · rfl

/-- The core once the block of a launch holds its job's arguments: they are copied where another job's stand there. -/
def Launch.argued (l : Launch) (c : Core) (x : Seat) (g : Stage) : Core :=
  if x.argOwner.contains (l.slot, l.job.uid) then c else putArgs c x g l.job l.slot

/-- Arguments go to the data store alone. -/
theorem Launch.argued_frame (l : Launch) (c : Core) (x : Seat) (g : Stage) (im : Image) : putSlotRow (l.argued c x g) x g im l.job =
    { c with dstore := (putSlotRow (l.argued c x g) x g im l.job).dstore } := by
  unfold putSlotRow Launch.argued
  split <;> split <;> rfl

section Block

variable (l : Launch) (c : Core) (x : Seat) (g : Stage) {a : Nat}

theorem Launch.lookupD_argued_out (h : ¬ (x.dbase * 4096 + g.argBlk + l.slot * g.argStride ≤ a ∧
      a < x.dbase * 4096 + g.argBlk + l.slot * g.argStride + l.job.argData.length)) :
    lookupD 0 (l.argued c x g).dstore a = lookupD 0 c.dstore a := by
  unfold Launch.argued
  split
  · rfl
  · exact (lookupD_writeRun _ _ _ _ _).trans (if_neg h)

theorem Launch.lookupD_argued_in (other : x.argOwner.contains (l.slot, l.job.uid) = false)
    (h : x.dbase * 4096 + g.argBlk + l.slot * g.argStride ≤ a ∧
      a < x.dbase * 4096 + g.argBlk + l.slot * g.argStride + l.job.argData.length) :
    lookupD 0 (l.argued c x g).dstore a = l.job.argData.getD (a - (x.dbase * 4096 + g.argBlk + l.slot * g.argStride)) 0 := by
  unfold Launch.argued
  rw [if_neg (by rw [other]; exact Bool.false_ne_true)]
  exact (lookupD_writeRun _ _ _ _ _).trans (if_pos h)

end Block

section OwnArgs

variable (s : State) (k : CoreId) (l : Launch) (g : Stage)

theorem State.ownArgs_frame : s.ownArgs k l g = { s with cores := (s.ownArgs k l g).cores } := by
  unfold State.ownArgs
  dsimp only
  split
  · split <;> rfl
  · rfl

theorem State.core_ownArgs_ne {j : CoreId} (h : j ≠ k) : (s.ownArgs k l g).core j = s.core j := by
  unfold State.ownArgs
  dsimp only
  split
  · split
    · exact State.core_setCore_ne _ _ _ _ h
    · exact (State.core_setCore_ne _ _ _ _ h).trans (State.core_setCore_ne _ _ _ _ h)
  · rfl

theorem State.core_ownArgs {x : Seat} {im : Image} (hx : (s.core k).seats[l.seat]? = some x) (him : s.imageOf l.job = some im) :
    (s.ownArgs k l g).core k = { s.core k with
      dstore := (putSlotRow (l.argued (s.core k) x g) x g im l.job).dstore, seats := ((s.ownArgs k l g).core k).seats } := by
  have core : (s.ownArgs k l g).core k = { putSlotRow (l.argued (s.core k) x g) x g im l.job with
      seats := ((s.ownArgs k l g).core k).seats } := by
    unfold State.ownArgs Launch.argued
    dsimp only
    rw [hx, him]
    dsimp only
    split
    · rw [State.core_setCore_same]
    · rw [State.setSeat, State.core_setCore_same, State.core_setCore_same]
  rw [Launch.argued_frame] at core
  exact core

end OwnArgs

/-! ## The index that a launcher claims now (R179) -/

section Claimed

variable (s : State) (k : CoreId) (l : Launch)

/-- A launch before its tile is made: the index that the launcher claims now is claimed and counted. -/
def State.claimedNow : State :=
  match l.claimed with
  | some c => ((s.setCounter l.p (some c)).setSeat k l.seat (fun y => y.hold l.job.uid l.p.val l.index)).bump Reg.pstTcClaimCount 1
  | none => s

theorem State.claimedNow_frame : s.claimedNow k l = { s with
    counters := (s.claimedNow k l).counters, cores := (s.claimedNow k l).cores
    regs := (s.claimedNow k l).regs, deltas := (s.claimedNow k l).deltas } := by
  unfold State.claimedNow
  split
  · rw [bump_frame]
    rfl
  · rfl

theorem State.core_claimedNow_ne {j : CoreId} (h : j ≠ k) : (s.claimedNow k l).core j = s.core j := by
  unfold State.claimedNow
  split
  · rw [State.core_bump]
    exact State.core_setCore_ne _ _ _ _ h
  · rfl

theorem State.core_claimedNow : (s.claimedNow k l).core k = { s.core k with seats := ((s.claimedNow k l).core k).seats } := by
  unfold State.claimedNow
  split
  · rw [State.core_bump, State.setSeat, State.core_setCore_same]
    rfl
  · rfl

/-- The seat that launches, its data partition and the owners of its blocks as before. -/
theorem State.seat_claimedNow {x : Seat} (hx : (s.core k).seats[l.seat]? = some x) :
    ∃ y, ((s.claimedNow k l).core k).seats[l.seat]? = some y ∧ y.dbase = x.dbase ∧ y.argOwner = x.argOwner := by
  unfold State.claimedNow
  split
  · refine ⟨x.hold l.job.uid l.p.val l.index, ?_, rfl, rfl⟩
    rw [State.core_bump, State.setSeat, State.core_setCore_same]
    dsimp only
    rw [getElem?_modifyNth, if_pos rfl]
    exact congrArg (Option.map _) hx
  · exact ⟨x, hx, rfl, rfl⟩

theorem State.counters_claimedNow {c : Counter} (h : l.claimed = some c) : (s.claimedNow k l).counters[l.p] = some c := by
  unfold State.claimedNow
  rw [h]
  dsimp only
  rw [bump_frame]
  exact (counters_setCounter _ _ _).1

theorem State.claimedNow_none (h : l.claimed = none) : s.claimedNow k l = s := by
  unfold State.claimedNow
  rw [h]

theorem Counted.claimedNow : Counted (if l.claimed.isSome then [(Reg.pstTcClaimCount, 1)] else []) [] s (s.claimedNow k l) := by
  unfold State.claimedNow
  cases l.claimed with
  | none => exact .refl [] s
  | some c =>
    have claimed : Counted [] [] s ((s.setCounter l.p (some c)).setSeat k l.seat (fun y => y.hold l.job.uid l.p.val l.index)) :=
      .of_same rfl rfl
    exact claimed.bump_of_no_conv 1 convCore_pstTcClaimCount List.not_mem_nil List.not_mem_nil

end Claimed

/-! ## The registers of a core that a launch clears (R118, R140) -/

/-- The halt registers of a core, and its charge. -/
def haltRegs (k : CoreId) : List Nat :=
  [Reg.ccHaltStatus k, Reg.ccHaltDetail k, Reg.ccHaltPc k, Reg.ccHaltAddr k, Reg.ccTileCharge k]

theorem State.reg_clearCoreRegs (s : State) (k : CoreId) (o : Nat) :
    (s.clearCoreRegs k).reg o = if o ∈ haltRegs k then 0 else s.reg o := by
  simp only [State.clearCoreRegs, State.reg_setReg, haltRegs, List.mem_cons, List.not_mem_nil, or_false]
  grind

theorem State.clearCoreRegs_frame (s : State) (k : CoreId) : ∃ regs, s.clearCoreRegs k = { s with regs := regs } := by
  have register : ∀ (v : State) (regs) (o : Nat), ∃ after, ({ v with regs := regs } : State).setReg o 0 = { v with regs := after } :=
    fun v regs o => ⟨_, rfl⟩
  unfold State.clearCoreRegs
  obtain ⟨r1, h1⟩ := register s s.regs (Reg.ccHaltStatus k)
  obtain ⟨r2, h2⟩ := register s r1 (Reg.ccHaltDetail k)
  obtain ⟨r3, h3⟩ := register s r2 (Reg.ccHaltPc k)
  obtain ⟨r4, h4⟩ := register s r3 (Reg.ccHaltAddr k)
  obtain ⟨r5, h5⟩ := register s r4 (Reg.ccTileCharge k)
  exact ⟨r5, by rw [h1, h2, h3, h4, h5]⟩

theorem pstTcClaimCount_not_mem_haltRegs (k : CoreId) : Reg.pstTcClaimCount ∉ haltRegs k := by revert k; decide

/-! ## The tile that launches (R99, R174, R194) -/

section Launched

variable (s : State) (k : CoreId) (l : Launch) (x : Seat)

/-- The tile of a launch. -/
def State.launchTile : Tile :=
  ⟨x.ctx, x.model, x.stage, l.job.uid, l.p.val, BitVec.ofNat 64 l.index, x.epoch, l.job.strict, x.ibase, x.ipart, x.dbase, x.dpart,
    (s.attrsOf x.ctx).1, (s.attrsOf x.ctx).2.1, (s.attrsOf x.ctx).2.2, [], 0, 0, 0, 0, 0⟩

theorem State.launchTile_attrs {cx : Context} (h : s.ctx? x.ctx = some cx) : (s.launchTile l x).abandon = cx.abandon ∧
    (s.launchTile l x).faultWait = cx.faultWait ∧ (s.launchTile l x).autonomous = cx.autonomous := by
  simp only [State.launchTile, State.attrsOf, h, and_self]

variable {g : Stage}

/-- A launch whose tile stands in the core, before the seats and the registers follow. -/
def State.tileSet (g : Stage) : State :=
  ((s.claimedNow k l).ownArgs k l g).setCore k
    (launchCore (((s.claimedNow k l).ownArgs k l g).core k) (s.launchTile l x) g.entry (g.argBlk + l.slot * g.argStride))

theorem State.tileSet_frame : s.tileSet k l x g = { s.claimedNow k l with cores := (s.tileSet k l x g).cores } := by
  have frame := (s.claimedNow k l).ownArgs_frame k l g
  unfold State.tileSet
  generalize (s.claimedNow k l).ownArgs k l g = v at frame ⊢
  rw [frame]
  rfl

theorem State.core_tileSet_ne {j : CoreId} (h : j ≠ k) : (s.tileSet k l x g).core j = s.core j := by
  unfold State.tileSet
  rw [State.core_setCore_ne _ _ _ _ h, State.core_ownArgs_ne _ _ _ _ h, State.core_claimedNow_ne _ _ _ h]

theorem State.core_tileSet : (s.tileSet k l x g).core k = launchCore (((s.claimedNow k l).ownArgs k l g).core k) (s.launchTile l x)
    g.entry (g.argBlk + l.slot * g.argStride) :=
  State.core_setCore_same _ _ _

/-- The end of a launch: the seats follow, and the registers are cleared. -/
def State.settled (n : Nat) : State := (s.seatsAfterLaunch k n).clearCoreRegs k

theorem State.settled_frame (n : Nat) : s.settled k n = { s with cores := (s.settled k n).cores, regs := (s.settled k n).regs } := by
  unfold State.settled
  obtain ⟨regs, frame⟩ := (s.seatsAfterLaunch k n).clearCoreRegs_frame k
  rw [frame]
  rfl

theorem State.cores_settled (n : Nat) (j : CoreId) : (s.settled k n).core j = (s.seatsAfterLaunch k n).core j := by
  unfold State.settled
  obtain ⟨regs, frame⟩ := (s.seatsAfterLaunch k n).clearCoreRegs_frame k
  rw [frame]
  rfl

theorem State.core_settled_ne (n : Nat) {j : CoreId} (h : j ≠ k) : (s.settled k n).core j = s.core j := by
  rw [State.cores_settled]
  exact State.core_setCore_ne _ _ _ _ h

theorem State.core_settled (n : Nat) : (s.settled k n).core k = { s.core k with seats := ((s.settled k n).core k).seats } := by
  rw [State.cores_settled, State.seatsAfterLaunch, State.core_setCore_same]

theorem State.launch_eq (hg : s.stageOf l.job x.stage = some g) : s.launch k l x = (s.tileSet k l x g).settled k l.seat := by
  unfold State.launch
  rw [hg]
  rfl

theorem State.launch_frame (hg : s.stageOf l.job x.stage = some g) : s.launch k l x =
    { s.claimedNow k l with cores := (s.launch k l x).cores, regs := (s.launch k l x).regs } := by
  rw [State.launch_eq s k l x hg, State.settled_frame, State.tileSet_frame]

theorem State.core_launch_ne (hg : s.stageOf l.job x.stage = some g) {j : CoreId} (h : j ≠ k) :
    (s.launch k l x).core j = s.core j := by
  rw [State.launch_eq s k l x hg, State.core_settled_ne _ _ _ h, State.core_tileSet_ne _ _ _ _ h]

theorem State.core_launch (hg : s.stageOf l.job x.stage = some g) : (s.launch k l x).core k =
    { launchCore (((s.claimedNow k l).ownArgs k l g).core k) (s.launchTile l x) g.entry (g.argBlk + l.slot * g.argStride) with
      seats := ((s.launch k l x).core k).seats } := by
  rw [State.launch_eq s k l x hg, State.core_settled, State.core_tileSet]

/-- The stores of the core as the tile finds them, by the launching seat and the image of the job. -/
theorem State.stores_launch (hx : (s.core k).seats[l.seat]? = some x) (hg : s.stageOf l.job x.stage = some g) :
    ((s.launch k l x).core k).istore = (s.core k).istore ∧
    ∃ y im, s.imageOf l.job = some im ∧ y.dbase = x.dbase ∧ y.argOwner = x.argOwner ∧ ((s.launch k l x).core k).dstore =
      (putSlotRow (l.argued ((s.claimedNow k l).core k) y g) y g im l.job).dstore := by
  obtain ⟨im, him, -⟩ := Option.bind_eq_some_iff.1 hg
  obtain ⟨y, hy, base, owner⟩ := s.seat_claimedNow k l hx
  have image : (s.claimedNow k l).imageOf l.job = some im := by
    rw [State.claimedNow_frame]
    exact him
  have core := State.core_launch s k l x hg
  rw [State.core_ownArgs _ k l g hy image] at core
  refine ⟨?_, y, im, him, base, owner, ?_⟩
  · rw [core, State.core_claimedNow]
    rfl
  · rw [core]
    rfl

theorem State.reg_launch (hg : s.stageOf l.job x.stage = some g) (o : Nat) : (s.launch k l x).reg o =
    if o ∈ haltRegs k then 0 else (s.claimedNow k l).reg o := by
  have cleared : ((s.tileSet k l x g).settled k l.seat).reg o = if o ∈ haltRegs k then 0 else (s.tileSet k l x g).reg o :=
    State.reg_clearCoreRegs _ k o
  rw [State.launch_eq s k l x hg, cleared, State.tileSet_frame]
  rfl

theorem Counted.launch (hg : s.stageOf l.job x.stage = some g) :
    Counted (if l.claimed.isSome then [(Reg.pstTcClaimCount, 1)] else []) (haltRegs k) s (s.launch k l x) := by
  refine ((Counted.claimedNow s k l).mono (List.nil_subset _)).of_sameRegs ?_ (fun o ho => ?_) (fun o ho mem => ?_)
  · rw [State.launch_frame s k l x hg]
  · rw [State.reg_launch s k l x hg, if_neg ho]
  · have counts : o = Reg.pstTcClaimCount := by
      cases claims : l.claimed with
      | none => simp [claims] at mem
      | some c => simpa [claims] using mem
    exact pstTcClaimCount_not_mem_haltRegs k (counts ▸ ho)

end Launched

theorem gr_launchCore (c : Core) (t : Tile) (entry arg : Nat) (r : BitVec 5) : (launchCore c t entry arg).gr r =
    if r = 1 then t.index else if r = 2 then BitVec.ofNat 64 arg else if r = 3 then t.epoch.zeroExtend 64 else 0 := by
  have place : ∀ (g : Vector W64 32) (n : Nat) (v : W64) (hn : n < 32),
      (g.set n v)[r.toFin] = if r = BitVec.ofNat 5 n then v else g[r.toFin] := fun g n v hn => by
    have at_n : (⟨n, hn⟩ : Fin 32) = r.toFin ↔ r = BitVec.ofNat 5 n := by
      rw [Fin.ext_iff]
      show n = r.toNat ↔ _
      bv_omega
    exact (Vector.getElem_set_fin g ⟨n, hn⟩ r.toFin v).trans (by simp only [eq_comm (a := r.toFin), at_n])
  have zero : Core.reset.g[r.toFin] = 0 := Vector.getElem_replicate _
  unfold Core.gr launchCore
  dsimp only
  rw [place, place, place, zero]
  by_cases first : r = 1
  · rw [first]; rfl
  by_cases second : r = 2
  · rw [second]; rfl
  by_cases third : r = 3
  · rw [third]; rfl
  · simp only [if_neg first, if_neg second, if_neg third]
    exact (if_congr Iff.rfl rfl (by
      rw [if_neg (c := r = 3#5) third, if_neg (c := r = 2#5) second, if_neg (c := r = 1#5) first])).trans (ite_self _)

/-! ## Nothing to launch (R179) -/

/-- Claims of launchers of core k have joined counters; nothing else has changed. -/
structure ClaimsJoined (k : CoreId) (s u : State) : Prop where
  frame : u = { s with counters := u.counters }
  unbound : ∀ p : CounterId, s.counters[p] = none → u.counters[p] = none
  waits : ∀ (p : CounterId) (c : Counter), s.counters[p] = some c → ∃ new : List Claimer,
    u.counters[p] = some { c with waiting := c.waiting ++ new } ∧ ∀ w ∈ new, ∃ st, w = .launcher k st

namespace ClaimsJoined

variable {k : CoreId} {s t u : State}

theorem refl (k : CoreId) (s : State) : ClaimsJoined k s s :=
  ⟨rfl, fun _ h => h, fun p c h => ⟨[], by rw [h, List.append_nil], fun _ hw => absurd hw List.not_mem_nil⟩⟩

theorem trans (h1 : ClaimsJoined k s t) (h2 : ClaimsJoined k t u) : ClaimsJoined k s u := by
  refine ⟨?_, fun p h => h2.unbound p (h1.unbound p h), fun p c h => ?_⟩
  · rw [h2.frame, h1.frame]
  · obtain ⟨new1, at1, by1⟩ := h1.waits p c h
    obtain ⟨new2, at2, by2⟩ := h2.waits p _ at1
    refine ⟨new1 ++ new2, ?_, fun w hw => (List.mem_append.1 hw).elim (by1 w) (by2 w)⟩
    rw [at2, List.append_assoc]

theorem addClaim (s : State) (p : CounterId) (st : StageNo) : ClaimsJoined k s (s.addClaim p (.launcher k st)) := by
  have after : ∀ q, (s.addClaim p (.launcher k st)).counters[q] = if q = p then
      (s.counters[p]).map (fun x => { x with waiting := x.waiting ++ [.launcher k st] }) else s.counters[q] := fun q =>
    Vector.getElem_set_fin _ _ _ _
  refine ⟨rfl, fun q h => ?_, fun q c h => ?_⟩
  · rw [after]
    split
    · next e => rw [← e, h]; rfl
    · exact h
  · by_cases e : q = p
    · refine ⟨[.launcher k st], ?_, fun w hw => ⟨st, List.mem_singleton.1 hw⟩⟩
      rw [after, if_pos e, ← e, h]
      rfl
    · refine ⟨[], ?_, fun _ hw => absurd hw List.not_mem_nil⟩
      rw [after, if_neg e, h, List.append_nil]

theorem queueSeats (k : CoreId) (seats : List Seat) (s : State) : ClaimsJoined k s (seats.foldl (fun s x => match s.launcherWait k x with
    | some p => s.addClaim p (.launcher k x.stage)
    | none => s) s) := by
  induction seats generalizing s with
  | nil => exact .refl k s
  | cons x rest ih =>
    refine ClaimsJoined.trans ?_ (ih _)
    dsimp only
    split
    · exact .addClaim s _ _
    · exact .refl k s

end ClaimsJoined

/-- The state once the Lodge has taken what a core told it at its END. -/
def State.endTaken (s : State) (k : CoreId) : State := (s.takeNote (clusterFin k) (.ended k)).takeNote (clusterFin k) (.gate k)

section Exec

variable {s : State} {k : CoreId} (free : (s.core k).free = true) (awake : s.lodge.inReset = false)

include free awake

theorem exec_tileLaunch_of_pick {l : Launch} {x : Seat} (pick : (s.endTaken k).pickLaunch k = some (l, x)) :
    exec (.tileLaunch k) s = ok ((s.endTaken k).launch k l x) := by
  show execTileLaunch k s = _
  unfold execTileLaunch
  dsimp only
  rw [free, awake, ← State.endTaken, pick]
  rfl

theorem exec_tileLaunch_of_none (none : (s.endTaken k).pickLaunch k = none) :
    exec (.tileLaunch k) s = ok ((s.endTaken k).queueLaunchers k) := by
  show execTileLaunch k s = _
  unfold execTileLaunch
  dsimp only
  rw [free, awake, ← State.endTaken, none]
  rfl

end Exec

end Sys2Proof.Machine

namespace Sys2Proof

open Machine Laws

/-- A free core with no tile to launch. -/
theorem gives_queueLaunchers {s : State} {k : CoreId} (free : (s.core k).free = true) (awake : s.lodge.inReset = false)
    (none : (s.endTaken k).pickLaunch k = none) : Gives (.tileLaunch k) s (fun u =>
      u = { s.endTaken k with cores := u.cores, counters := u.counters } ∧ (∀ j, j ≠ k → u.core j = s.core j) ∧
      u.core k = { s.core k with seats := (s.core k).seats.map (fun (x : Seat) => { x with launcherStopped := false }) } ∧
      (∀ p : CounterId, s.counters[p] = Option.none → u.counters[p] = Option.none) ∧
      ∀ (p : CounterId) (c : Counter), s.counters[p] = some c → ∃ new : List Claimer,
        u.counters[p] = some { c with waiting := c.waiting ++ new } ∧ ∀ w ∈ new, ∃ st, w = .launcher k st) := by
  let v := (s.endTaken k).setCore k { s.core k with
    seats := (s.core k).seats.map (fun (x : Seat) => { x with launcherStopped := false }) }
  have joined : ClaimsJoined k v ((s.endTaken k).queueLaunchers k) := .queueSeats k _ v
  have cores : ∀ j, ((s.endTaken k).queueLaunchers k).core j = v.core j := fun j => by rw [joined.frame]; rfl
  refine ⟨(s.endTaken k).queueLaunchers k, ?_, ?_, fun j hj => ?_, ?_, joined.unbound, joined.waits⟩
  · exact exec_tileLaunch_of_none free awake none
  · rw [joined.frame]
    rfl
  · rw [cores]
    exact State.core_setCore_ne _ _ _ _ hj
  · rw [cores]
    exact State.core_setCore_same _ _ _

/-- What a launch leaves in the data store: the arguments of the job in its block, the row of its frame slot at ARGWORD of block 0,
and every other byte as it was. -/
theorem dstore_launched {v : State} {k : CoreId} {l : Launch} {x : Seat} {g : Stage} (hx : (v.core k).seats[l.seat]? = some x)
    (hg : v.stageOf l.job x.stage = some g) :
    let blk := x.dbase * 4096 + g.argBlk
    let own := blk + l.slot * g.argStride
    let inArgs := fun (a : Nat) => own ≤ a ∧ a < own + l.job.argData.length
    let inWord := fun (a : Nat) => ∃ im e r, v.imageOf l.job = some im ∧ im.input = some e ∧ l.job.slotRow = some r ∧
      blk + e.argWord ≤ a ∧ a < blk + e.argWord + 4
    let after := ((v.launch k l x).core k).dstore
    (∀ a, ¬ inArgs a → ¬ inWord a → lookupD 0 after a = lookupD 0 (v.core k).dstore a) ∧
    (x.argOwner.contains (l.slot, l.job.uid) = false → ∀ a, inArgs a → ¬ inWord a →
      lookupD 0 after a = l.job.argData.getD (a - own) 0) ∧
    (∀ im e r, v.imageOf l.job = some im → im.input = some e → l.job.slotRow = some r → ∀ i, i < 4 →
      lookupD 0 after (blk + e.argWord + i) = (leBytes 4 r).getD i 0) := by
  intro blk own inArgs inWord after
  obtain ⟨-, y, im, him, base, owner, stored⟩ := v.stores_launch k l x hx hg
  have before : ((v.claimedNow k l).core k).dstore = (v.core k).dstore := by rw [State.core_claimedNow]
  have beside : ∀ a, ¬ inWord a → lookupD 0 after a = lookupD 0 (l.argued ((v.claimedNow k l).core k) y g).dstore a := fun a ha => by
    show lookupD 0 ((v.launch k l x).core k).dstore a = _
    rw [stored]
    refine lookupD_putSlotRow_out _ y g fun e r he hr word => ha ⟨im, e, r, him, he, hr, ?_⟩
    rw [base] at word
    exact word
  refine ⟨fun a out notWord => ?_, fun other a args notWord => ?_, fun im' e r him' he hr i hi => ?_⟩
  · rw [beside a notWord, l.lookupD_argued_out _ y g (by rw [base]; exact out), before]
  · rw [beside a notWord, l.lookupD_argued_in _ y g (by rw [owner]; exact other) (by rw [base]; exact args), base]
  · obtain rfl : im = im' := Option.some.inj (him.symm.trans him')
    show lookupD 0 ((v.launch k l x).core k).dstore (x.dbase * 4096 + g.argBlk + e.argWord + i) = _
    rw [stored, ← base]
    exact lookupD_putSlotRow_in _ y g he hr hi

/-- Settles O29: a launch sets the core as `launchCore` gives it, and an END whose waits are over leaves it free. -/
theorem tilesLaunchAndComplete : Obligations.TilesLaunchAndComplete := by
  unfold Obligations.TilesLaunchAndComplete
  refine ⟨fun s k => ?_, fun s k t gate phase ht due => ⟨fun waits => ⟨s, ?_, rfl⟩, gives_tileComplete phase ht due⟩⟩
  · intro v free awake
    refine ⟨fun l x g pick hg => ?_, gives_queueLaunchers free awake⟩
    intro cleared blk own inArgs inWord
    have hx : (v.core k).seats[l.seat]? = some x := State.seat_of_pickLaunch pick
    let u := v.launch k l x
    have frame : u = { v.claimedNow k l with cores := u.cores, regs := u.regs } := v.launch_frame k l x hg
    have core : u.core k = { launchCore (((v.claimedNow k l).ownArgs k l g).core k) (v.launchTile l x) g.entry
        (g.argBlk + l.slot * g.argStride) with seats := (u.core k).seats } := v.core_launch k l x hg
    obtain ⟨outside, args, word⟩ := dstore_launched hx hg
    have cores : ∀ j, j ≠ k → u.core j = s.core j := fun j hj => v.core_launch_ne k l x hg hj
    have counters : u.counters = (v.claimedNow k l).counters := by rw [frame]
    refine ⟨u, exec_tileLaunch_of_pick free awake pick, ?_⟩
    refine ⟨by rw [core]; rfl, by rw [core]; rfl, by rw [core]; rfl, by rw [core]; rfl, fun r => ?_, fun i => ?_, fun q => ?_,
      by rw [core]; rfl, by rw [core]; rfl, by rw [core]; rfl, by rw [core]; rfl,
      ⟨v.launchTile l x, by rw [core]; rfl, rfl, rfl, rfl, rfl, rfl, rfl, rfl, rfl, rfl, rfl, rfl, rfl, rfl, rfl,
        fun cx hcx => v.launchTile_attrs l x hcx⟩,
      (v.stores_launch k l x hx hg).1, ?_, cores, outside, args, word, fun c1 claims => ?_, fun none => ?_, fun o ho => ?_,
      (Counted.launch v k l x hg).of_start rfl rfl⟩
    · rw [core]
      exact gr_launchCore (((v.claimedNow k l).ownArgs k l g).core k) (v.launchTile l x) g.entry
        (g.argBlk + l.slot * g.argStride) r
    · rw [core]
      exact Vector.getElem_replicate i.isLt
    · rw [core]
      exact Vector.getElem_replicate q.isLt
    · rw [frame, State.claimedNow_frame]
      rfl
    · rw [counters]
      exact v.counters_claimedNow k l claims
    · rw [counters, v.claimedNow_none k l none]
      rfl
    · exact (v.reg_launch k l x hg o).trans (if_pos ho)
  · rw [exec_tileComplete phase ht due, if_neg (by rw [waits]; exact Bool.false_ne_true)]
    rfl

end Sys2Proof

/-! PROOF. What a Lift writes at virtual addresses reaches no table (R171, R197). -/

namespace Sys2Proof.Machine

/-! ## Where a walk leads -/

/-- A page of the device that a leaf entry names is one that the context may reach (R197). -/
theorem State.reachable_of_leaf {s : State} {e : BitVec 64} {va n level : Nat} {write : Bool} {pa : Nat}
    (h : s.leaf e va n level write = .ok (.dev pa)) : ∃ page, s.reachable page n = true ∧ pa = page + va % n := by
  unfold State.leaf at h
  dsimp only at h
  split at h
  · cases h
  split at h
  · split at h
    · cases h
    · next reached =>
      split at h
      · cases h
      · cases h
        exact ⟨_, by simpa using reached, rfl⟩
  · split at h
    · cases h
    split at h
    · cases h
    split at h <;> cases h

/-- What a walk translates to device memory lies in a page that the context may reach (R195–R197). -/
theorem State.reachable_of_walk {s : State} {root va : Nat} {write : Bool} {pa : Nat}
    (h : s.walk root va write = .ok (.dev pa)) :
    ∃ page n, 64 ∣ n ∧ 0 < n ∧ s.reachable page n = true ∧ pa = page + va % n := by
  unfold State.walk at h
  split at h
  · cases h
  dsimp only at h
  split at h
  · cases h
  split at h
  · cases h
  split at h
  · cases h
  split at h
  · obtain ⟨page, reached, at_⟩ := State.reachable_of_leaf h
    exact ⟨page, _, by norm_num, by norm_num, reached, at_⟩
  split at h
  · cases h
  split at h
  · cases h
  split at h
  · cases h
  · obtain ⟨page, reached, at_⟩ := State.reachable_of_leaf h
    exact ⟨page, _, by norm_num, by norm_num, reached, at_⟩

/-- The store view translates to rows alone (R198). -/
theorem State.xltStore_ne_dev {s : State} {c : CtxId} {va pa : Nat} : s.xltStore c va ≠ .ok (.dev pa) := by
  -- the function is rewritten as a whole, or the kernel would evaluate `va - 0xFA0000000000`
  rw [show @State.xltStore = _ from by delta State.xltStore; rfl]
  generalize storeOf _ = x
  cases x with
  | none => exact fun h => by cases h
  | some p => exact fun h => by dsimp only at h; split at h <;> cases h

/-- What a context other than the Lodge's reaches in device memory lies in such a page (R193, R198). -/
theorem State.reachable_of_xlt {s : State} {c : CtxId} {va : Nat} {write : Bool} {pa : Nat} (hc : c ≠ 0)
    (h : s.xlt c va write = .ok (.dev pa)) :
    ∃ page n, 64 ∣ n ∧ 0 < n ∧ s.reachable page n = true ∧ pa = page + va % n := by
  unfold State.xlt at h
  rw [if_neg hc] at h
  split at h
  · cases h
  split at h
  · exact absurd h State.xltStore_ne_dev
  split at h
  · cases h
  · exact State.reachable_of_walk h

/-! ## The table region and the end of plain DRAM -/

/-- An address in the table region, or beyond the plain DRAM (R197). -/
def State.spares (s : State) (a : Nat) : Prop :=
  s.tableRegion.1 ≤ a ∧ a < s.tableRegion.1 + s.tableRegion.2 ∨ s.codecBase ≤ a

/-- A unit of 64 bytes that a context reaches lies clear of those addresses. -/
theorem State.unit_of_reachable {s : State} {page n va a : Nat} (hn : 64 ∣ n) (pos : 0 < n) (aligned : va % 64 = 0)
    (reached : s.reachable page n = true) (ha : s.spares a) : ¬ (page + va % n ≤ a ∧ a < page + va % n + 64) := by
  have within : va % n + 64 ≤ n := by
    have lt := Nat.mod_lt va pos
    have rem : va % n % 64 = 0 := by rw [Nat.mod_mod_of_dvd _ hn, aligned]
    omega
  simp only [State.reachable, State.plainDram, overlaps, Bool.and_eq_true, Bool.not_eq_true', Bool.and_eq_false_iff,
    decide_eq_true_eq, decide_eq_false_iff_not] at reached
  obtain ⟨plain, apart⟩ := reached
  unfold State.spares at ha
  omega

/-- The table region and the regions above the plain DRAM lie where they lay. -/
structure SameRegions (s u : State) : Prop where
  tables : u.tableRegion = s.tableRegion
  codec : u.codecBase = s.codecBase

theorem SameRegions.spares {s u : State} (h : SameRegions s u) (a : Nat) : u.spares a ↔ s.spares a := by
  simp only [State.spares, h.tables, h.codec]

theorem SameRegions.of_wrote {s u : State} (h : Wrote s u) : SameRegions s u := by
  have base := h.regs Reg.ldgXltRegionBase (by decide)
  have size := h.regs Reg.ldgXltRegionSize (by decide)
  have pool := h.regs Reg.vcPoolSize (by decide)
  have board : u.board = s.board := by rw [h.rest]
  refine ⟨?_, ?_⟩
  · simp only [State.tableRegion, State.fld, base, size]
  · unfold State.codecBase State.lodgeBase State.usable State.fld
    rw [board, pool]

/-! ## Writing device memory -/

/-- The blocks above the mark that are listed as initialised, once one more is (R295). -/
def State.blocksWith (s : State) (d : DmcId) (block : Nat) : List Nat := s.dmc[d].initialised.erase block ++ [block]

/-- The mark once a block is initialised: past every listed block that follows it (R295). -/
def State.markWith (s : State) (d : DmcId) (block : Nat) : Nat :=
  markUp (fun b => decide (b < s.dmcBytes / 64) && (s.blocksWith d block).contains b) (s.blocksWith d block).length (s.initMark d)

/-- The state with the mark moved to m, and the listed blocks above it. -/
def State.withMark (s : State) (d : DmcId) (l : List Nat) (m : Nat) : State :=
  (s.setDmc d { s.dmc[d] with initialised := l.filter (fun b => decide (m ≤ b)) }).setReg (Reg.dmcInitMark d.val) (BitVec.ofNat 64 m)

theorem State.initialise_of_below {s : State} {d : DmcId} {block : Nat} (h : block < s.initMark d) : s.initialise d block = s :=
  if_pos h

theorem State.initialise_of_top {s : State} {d : DmcId} {block : Nat} (h : ¬ block < s.initMark d)
    (top : s.dmcBytes / 64 ≤ s.markWith d block) : s.initialise d block =
      (s.withMark d (s.blocksWith d block) (s.markWith d block)).setFlag (Reg.dmcStatus d.val) 3 true :=
  (if_neg h).trans (if_pos top)

theorem State.initialise_of_rest {s : State} {d : DmcId} {block : Nat} (h : ¬ block < s.initMark d)
    (top : ¬ s.dmcBytes / 64 ≤ s.markWith d block) : s.initialise d block =
      s.withMark d (s.blocksWith d block) (s.markWith d block) :=
  (if_neg h).trans (if_neg top)

/-- Initialising a block moves the mark and the list of blocks above it, and sets INIT_DONE at the top, or changes nothing. -/
theorem State.initialise_cases (s : State) (d : DmcId) (block : Nat) : s.initialise d block = s ∨
    ∃ l m, s.initialise d block = s.withMark d l m ∨
      s.initialise d block = (s.withMark d l m).setFlag (Reg.dmcStatus d.val) 3 true := by
  by_cases h : block < s.initMark d
  · exact .inl (State.initialise_of_below h)
  · by_cases top : s.dmcBytes / 64 ≤ s.markWith d block
    · exact .inr ⟨_, _, .inr (State.initialise_of_top h top)⟩
    · exact .inr ⟨_, _, .inl (State.initialise_of_rest h top)⟩

/-- Initialising a block is no write: what DRAM holds reads as before (R295). -/
@[simp] theorem State.initialise_mem (s : State) (d : DmcId) (block : Nat) : (s.initialise d block).mem = s.mem := by
  obtain e | ⟨l, m, e | e⟩ := s.initialise_cases d block <;> rw [e] <;> rfl

@[simp] theorem State.initRange_mem (s : State) (a n : Nat) : (s.initRange a n).mem = s.mem := by
  unfold State.initRange
  split
  · rfl
  · refine List.foldlRecOn (motive := fun u : State => u.mem = s.mem) _ _ rfl fun u hu i _ => ?_
    split
    · rw [State.initialise_mem, hu]
    · exact hu

/-- A byte of device memory after a unit of the device has written. -/
theorem State.byteAt_put (s : State) (a x : Nat) (bs : List Byte) :
    (s.put a bs).byteAt x = if a ≤ x ∧ x < a + bs.length then bs.getD (x - a) 0 else s.byteAt x :=
  (State.byteAt_congr (State.initRange_mem _ _ _) x).trans (State.byteAt_wr s a x bs)

/-- The units that a Lift writes leave a byte outside the pages that the tile's context may reach. -/
theorem byteAt_writeUnits {k : CoreId} {t : Tile} {seq a : Nat} (hc : t.ctx ≠ 0) {units : List (Nat × List Byte)}
    (hu : ∀ x ∈ units, x.1 % 64 = 0 ∧ x.2.length = 64) (o : Nat) {s : State} (ha : s.spares a) :
    (writeUnits k t seq units o s).1.byteAt a = s.byteAt a := by
  induction units generalizing o s with
  | nil => rfl
  | cons x rest ih =>
    obtain ⟨va, bs⟩ := x
    obtain ⟨aligned, whole⟩ := hu _ List.mem_cons_self
    have goesOn := fun {v : State} (same : SameRegions s v) (byte : v.byteAt a = s.byteAt a) =>
      (ih (fun y hy => hu y (List.mem_cons_of_mem _ hy)) (o + 64) ((same.spares a).2 ha)).trans byte
    unfold writeUnits
    split
    · rfl
    split
    · rfl
    · next pa translated =>
      obtain ⟨page, n, hn, pos, reached, rfl⟩ := State.reachable_of_xlt hc translated
      refine goesOn (v := (s.put _ bs).sign k va bs) ⟨(SameRegions.of_wrote (.put s _ bs)).tables, (SameRegions.of_wrote (.put s _ bs)).codec⟩ ?_
      have apart := State.unit_of_reachable hn pos aligned reached ha
      exact (State.byteAt_put s _ a bs).trans (if_neg (by rw [whole]; exact apart))
    · exact goesOn ⟨rfl, rfl⟩ rfl
    · split
      · rfl
      · exact goesOn ⟨rfl, rfl⟩ rfl

end Sys2Proof.Machine

namespace Sys2Proof

open Machine

/-- Settles O28: every unit that is written lies in a page that the context may reach, and no write moves the regions. -/
theorem liftWritesSpareTheTables : Obligations.LiftWritesSpareTheTables := by
  unfold Obligations.LiftWritesSpareTheTables
  intro k t seq o units s a hc hu ha
  exact byteAt_writeUnits hc hu o ha

end Sys2Proof

/-! PROOF. The fault slot, and the refusal of what is stopped (R171, R201, R202). -/

namespace Sys2Proof.Machine

theorem exec_faultSlotWrite (ctx : CtxId) (s : State) : exec (.faultSlotWrite ctx) s = execFaultSlotWrite ctx s := rfl
theorem exec_faultWaitTimeout (ctx : CtxId) (s : State) : exec (.faultWaitTimeout ctx) s = execFaultWaitTimeout ctx s := rfl

/-! ## Host memory -/

/-- A byte of host memory after a write. -/
theorem State.hostByteAt_hostWr (s : State) (a x : Nat) (bs : List Byte) :
    (s.hostWr a bs).hostByteAt x = if a ≤ x ∧ x < a + bs.length then bs.getD (x - a) 0 else s.hostByteAt x := by
  unfold State.hostByteAt State.hostWr
  split
  · next h =>
    obtain ⟨above, below⟩ := h
    have inside : x - a < bs.length := by omega
    rw [lookupD_splice_in _ _ _ _ _ _ above below, lookupD_keyed, if_pos above, List.getD_eq_getElem _ _ inside,
      List.getD_eq_getElem _ _ inside]
  · next h => exact lookupD_splice_out _ _ _ _ _ _ (fun _ hc => keyed_mem hc) (by omega)

/-- Bytes of host memory read back as they were written. -/
theorem State.hostRd_hostWr (s : State) (a : Nat) (bs : List Byte) : (s.hostWr a bs).hostRd a bs.length = bs := by
  refine List.ext_getElem (by simp [State.hostRd]) fun i _ hi => ?_
  simp only [State.hostRd, List.getElem_map, List.getElem_range]
  rw [State.hostByteAt_hostWr, if_pos (by omega), Nat.add_sub_cancel_left, List.getD_eq_getElem _ _ hi]

/-! ## The fault slot (R201) -/

theorem State.faultSlot_length (s : State) (x : Context) (f : Stopped) : (s.faultSlot x f).length = 32 := by
  simp [State.faultSlot, leBytes_length]

/-- The fields of a fault slot. -/
theorem State.faultSlot_fields (s : State) (x : Context) (f : Stopped) :
    let b := s.faultSlot x f
    leAt b 0 8 = f.va.toNat ∧ leAt b 8 2 = x.id.val ∧ leAt b 10 1 = f.cause % 256 ∧ leAt b 11 1 = f.level % 256 ∧
    leAt b 12 1 = f.lift % 256 ∧
    leAt b 13 1 = ((s.stopped.filter (fun y => y.ctx == x.id)).map (·.lift)).dedup.length % 256 ∧ leAt b 14 2 = 0 ∧
    leAt b 16 8 = f.gate.toNat ∧ leAt b 24 8 = x.faultSeq.toNat := by
  have va : f.va.toNat < 18446744073709551616 := f.va.isLt
  have gate : f.gate.toNat < 18446744073709551616 := f.gate.isLt
  have number : x.faultSeq.toNat < 18446744073709551616 := x.faultSeq.isLt
  have ctx : x.id.val < 65536 := by omega
  have last := leAt_leBytes_append 8 x.faultSeq.toNat []
  rw [List.append_nil] at last
  refine ⟨?_, ?_, ?_, ?_, ?_, ?_, ?_, ?_, ?_⟩
  all_goals
    simp [State.faultSlot, List.append_assoc, leAt_skip, leAt_leBytes_append, va, gate, number, ctx, last]

/-- A context that is found has the number sought. -/
theorem State.id_of_ctx? {s : State} {c : CtxId} {x : Context} (h : s.ctx? c = some x) : x.id = c := by
  simpa using List.find?_some h

/-- What the slot is to describe: the earliest unresolved fault, or the last reported, where it does not show it yet. -/
theorem State.slotFault_eq (s : State) (x : Context) :
    (∀ f, s.firstFault x.id = some f → s.slotFault x = some f) ∧
    (s.firstFault x.id = none → s.slotFault x = if x.slotSeq = x.faultSeq then none else x.lastFault) := by
  refine ⟨fun f h => ?_, fun h => ?_⟩ <;> simp only [State.slotFault, h]

/-- The state in which a context's slot shows a fault. -/
def State.slotWritten (s : State) (x : Context) (f : Stopped) : State :=
  (((s.setCtx { x with slotSeq := x.faultSeq }).hostWr x.status.toNat (s.faultSlot x f))).takeNote (liftCluster f.lift) f.note

theorem exec_faultSlotWrite_of_fault {s : State} {ctx : CtxId} {x : Context} {f : Stopped} (awake : s.lodge.inReset = false)
    (hx : s.ctx? ctx = some x) (hf : s.slotFault x = some f) (masters : s.masters = true) :
    exec (.faultSlotWrite ctx) s = ok (s.slotWritten x f) := by
  have links : (s.setCtx { x with slotSeq := x.faultSeq }).masters = true := masters
  rw [exec_faultSlotWrite, execFaultSlotWrite, awake]
  simp only [Bool.false_eq_true, if_false, hx, hf, State.hostPost, links, if_true]
  rfl

/-! ## What a halt leaves of the stopped work and the reports (R115) -/

/-- Reports stay, and stopped work is at most given up. -/
structure GivesUp (s u : State) : Prop where
  reports : u.reports = s.reports
  stopped : u.stopped ⊆ s.stopped

theorem GivesUp.trans {s t u : State} (h : GivesUp s t) (g : GivesUp t u) : GivesUp s u :=
  ⟨g.reports.trans h.reports, List.Subset.trans g.stopped h.stopped⟩

theorem GivesUp.of_same {s u : State} (hr : u.reports = s.reports) (hs : u.stopped = s.stopped) : GivesUp s u :=
  ⟨hr, hs ▸ List.Subset.refl _⟩

theorem GivesUp.notify (s : State) (c : ClusterId) (n : Note) : GivesUp s (s.notify c n).1 := by
  unfold State.notify
  dsimp only
  split <;> exact .of_same rfl rfl

theorem GivesUp.setCore (s : State) (k : CoreId) (c : Core) : GivesUp s (s.setCore k c) := .of_same rfl rfl

theorem GivesUp.writeHaltRegs (s : State) (k : CoreId) (src : HaltSource) (reason detail pc addr : Nat) :
    GivesUp s (s.writeHaltRegs k src reason detail pc addr) := .of_same rfl rfl

theorem GivesUp.abandonWrites (s : State) (k : CoreId) : GivesUp s (s.abandonWrites k) := by
  unfold State.abandonWrites
  refine List.foldlRecOn (motive := GivesUp s) _ _ (.of_same rfl rfl) fun u hu w _ => hu.trans (.of_same rfl rfl)

theorem GivesUp.abandonEngines (s : State) (k : CoreId) : GivesUp s (s.abandonEngines k) :=
  (GivesUp.abandonWrites s k).trans ⟨rfl, List.filter_subset_self _⟩

theorem GivesUp.haltAt (s : State) (k : CoreId) (key : Nat) (src : HaltSource) (reason detail pc addr : Nat) :
    GivesUp s (s.haltAt k key src reason detail pc addr) := by
  unfold State.haltAt
  split
  · exact (((GivesUp.abandonEngines s k).trans (.writeHaltRegs _ _ _ _ _ _ _)).trans (.setCore _ _ _)).trans (.notify _ _ _)
  · exact .of_same rfl rfl

theorem GivesUp.haltFill (s : State) (k : CoreId) (reason addr : Nat) : GivesUp s (haltFill s k reason addr) := by
  have free : ∀ c n, GivesUp s (((s.writeHaltRegs k .lift reason 0 0 addr).setCore k c).notify (clusterFin k) n).1 := fun c n =>
    ((GivesUp.writeHaltRegs s _ _ _ _ _ _).trans (.setCore _ _ _)).trans (.notify _ _ _)
  unfold Machine.haltFill
  split
  · exact free _ _
  · exact free _ _
  · exact .haltAt s k _ _ _ _ _ _

/-! ## Refusal (R202) -/

/-- Work that leaves the list of stopped work: the list and the event queues are all that changes. -/
theorem State.dropStopped_frame (s : State) (p : Stopped → Bool) : s.dropStopped p = { s with
    stopped := s.stopped.filter (fun x => !p x), lodge := { s.lodge with events := (s.dropStopped p).lodge.events } } :=
  List.foldlRecOn (motive := fun u : State => u = { s with
    stopped := s.stopped.filter (fun x => !p x), lodge := { s.lodge with events := u.lodge.events } }) _ _ rfl
    fun u hu x _ => by rw [hu]; rfl

/-- The report of a refused fault is the firmware's, which is never lost (R369). -/
theorem State.report_xltReport (s t : State) (x : Stopped) :
    s.report (xltReport t x) = { s with reports := s.reports ++ [xltReport t x] } := rfl

/-- What refusing a piece of stopped work leaves: its record is made, and it is stopped no more. -/
theorem State.refuseStop_spec (s : State) (x : Stopped) : (s.refuseStop x).reports = s.reports ++ [xltReport s x] ∧
    (s.refuseStop x).stopped ⊆ s.stopped.filter (fun y => !(y == x)) := by
  have frame := State.dropStopped_frame s (fun y => y == x)
  have given : ∀ u : State, GivesUp ((s.dropStopped (fun y => y == x)).report (xltReport s x)) u →
      u.reports = s.reports ++ [xltReport s x] ∧ u.stopped ⊆ s.stopped.filter (fun y => !(y == x)) := fun u h => by
    rw [State.report_xltReport, frame] at h
    exact ⟨h.reports, h.stopped⟩
  refine given _ ?_
  unfold State.refuseStop
  dsimp only
  split
  · exact .haltFill _ _ _ _
  · split
    · exact .haltAt _ _ _ _ _ _ _ _
    · exact .of_same rfl rfl

/-- A report that says what a refused piece of work was (R202). -/
def Stopped.RecordedIn (x : Stopped) (l : List Report) : Prop :=
  ∃ r ∈ l, r.cls = 2 ∧ r.cause = x.cause ∧ r.addr = x.va ∧ r.ctx = x.ctx.val ∧ r.gate = x.gate

/-- Refusing one piece of work after another: each is recorded, and none of them is stopped any more. -/
theorem State.foldl_refuseStop (l : List Stopped) (s : State) :
    let u := l.foldl State.refuseStop s
    s.reports ⊆ u.reports ∧ (∀ x ∈ l, x.RecordedIn u.reports) ∧ ∀ x ∈ u.stopped, x ∈ s.stopped ∧ x ∉ l := by
  induction l generalizing s with
  | nil => exact ⟨List.Subset.refl _, fun _ h => absurd h List.not_mem_nil, fun _ h => ⟨h, List.not_mem_nil⟩⟩
  | cons y rest ih =>
    obtain ⟨kept, recorded, left⟩ := ih (s.refuseStop y)
    obtain ⟨reports, stopped⟩ := s.refuseStop_spec y
    rw [reports] at kept
    refine ⟨fun r hr => kept (List.mem_append_left _ hr), fun x hx => ?_, fun x hx => ?_⟩
    · rcases List.mem_cons.1 hx with rfl | hx
      · exact ⟨_, kept (List.mem_append_right _ (List.mem_singleton.2 rfl)), rfl, rfl, rfl, rfl, rfl⟩
      · exact recorded x hx
    · obtain ⟨before, notRest⟩ := left x hx
      obtain ⟨listed, ne⟩ := List.mem_filter.1 (stopped before)
      refine ⟨listed, fun h => (List.mem_cons.1 h).elim (fun e => ?_) notRest⟩
      simp [e] at ne

/-- Refusing everything that is stopped in a context. -/
theorem State.refuseWhere_ctx (s : State) (ctx : CtxId) : let u := s.refuseWhere (fun x => x.ctx == ctx)
    (∀ x ∈ u.stopped, x.ctx ≠ ctx ∧ x ∈ s.stopped) ∧ ∀ x ∈ s.stopped, x.ctx = ctx → x.RecordedIn u.reports := by
  obtain ⟨-, recorded, left⟩ := State.foldl_refuseStop (s.stopped.filter (fun x => x.ctx == ctx)) s
  refine ⟨fun x hx => ?_, fun x hx e => recorded x (List.mem_filter.2 ⟨hx, by simpa using e⟩)⟩
  obtain ⟨listed, other⟩ := left x hx
  exact ⟨fun e => other (List.mem_filter.2 ⟨listed, by simpa using e⟩), listed⟩

end Sys2Proof.Machine

namespace Sys2Proof

open Machine

/-- A core with work halts for its refused command, with reason 0x07 and the faulting address (R202). -/
theorem Halted.refuseStop {s : State} {x : Stopped} {k : CoreId} {n : Nat} {c : Cmd} (work : x.work = .command k n)
    (found : ((s.core k).queue 2).find? (fun c => c.seq == x.seq) = some c) (active : (s.core k).phase.active = true)
    (hpos : c.pos < 256) : Halted k 3 0x07 c.pos c.pc.toNat x.va.toNat s (s.refuseStop x) := by
  let v := (s.dropStopped (fun y => y == x)).report (xltReport s x)
  have cores : v.cores = s.cores := by
    show (s.dropStopped _).cores = _
    rw [State.dropStopped_frame]
  have run : s.refuseStop x = v.haltFor k 2 c 0x07 x.va.toNat := by
    unfold State.refuseStop
    simp only [work]
    rw [show v.core k = s.core k from State.core_congr cores k, found]
  rw [run]
  exact .haltFor cores active 2 hpos (by decide) _

/-- Settles O37: the slot by its fields, the refusal piece by piece. -/
theorem faultsAreReportedOrRefused : Obligations.FaultsAreReportedOrRefused := by
  unfold Obligations.FaultsAreReportedOrRefused
  intro s ctx awake
  have timeout : ∀ f, s.firstFault ctx = some f → exec (.faultWaitTimeout ctx) s =
      ok (if s.waitedOut f then s.refuseWhere (fun x => x.ctx == ctx) else s) := fun f hf => by
    rw [exec_faultWaitTimeout, execFaultWaitTimeout, awake]
    simp only [Bool.false_eq_true, if_false, hf]
  refine ⟨fun x f hx hf masters => ⟨_, exec_faultSlotWrite_of_fault awake hx hf masters, ?_⟩, fun x hx => ?_,
    fun f hf due => ⟨s, by rw [timeout f hf, due]; rfl, rfl⟩, fun f hf due => ?_⟩
  · have slot : (s.slotWritten x f).hostRd x.status.toNat 32 = s.faultSlot x f := by
      rw [← s.faultSlot_length x f]
      exact State.hostRd_hostWr (s.setCtx _) _ _
    obtain ⟨va, id, cause, level, lift, lifts, zero, gate, number⟩ := s.faultSlot_fields x f
    dsimp only
    rw [slot]
    refine ⟨va, id, cause, level, lift, State.id_of_ctx? hx ▸ lifts, zero, gate, number, rfl, rfl, rfl, fun a ha => ?_⟩
    exact (State.hostByteAt_hostWr (s.setCtx _) _ _ _).trans (if_neg (by rw [s.faultSlot_length]; omega))
  · rw [← State.id_of_ctx? hx]
    exact s.slotFault_eq x
  · obtain ⟨left, recorded⟩ := s.refuseWhere_ctx ctx
    refine ⟨_, by rw [timeout f hf, due, if_pos rfl]; rfl, left, recorded, fun k x n c alone work found active hpos => ?_⟩
    rw [State.refuseWhere, alone]
    exact .refuseStop work found active hpos

end Sys2Proof

/-! PROOF. What the Lift commands deliver, and where (R156–R165, R172). -/

namespace Sys2Proof.Machine

open Laws

theorem exec_laddr (k : CoreId) (n : Nat) (s : State) : exec (.laddr k n) s = execLaddr k n s := rfl

/-- The three commands that deliver run alike; their codes tell them apart. -/
theorem exec_lift {k : CoreId} {n : Nat} {p : Instr × Nat} (hp : p ∈ [(Instr.lcopy k n, 1), (.lskew k n, 2), (.lfill k n, 3)])
    (s : State) : exec p.1 s = ok (s.engineEvent k (liftStep State.tileMetFrozen k n (some p.2))) := by
  simp only [List.mem_cons, List.not_mem_nil, or_false] at hp
  rcases hp with rfl | rfl | rfl <;> rfl

/-! ## What is counted of a source (R172; log 81) -/

/-- The counts of a Lift that what a source has given raises. -/
def liftCounts (l : Nat) (r : LiftRead) : List (Nat × Nat) :=
  [(Reg.lftReqCount l, r.reqs), (Reg.lftPkIn l, r.packed), (Reg.lftPkOut l, r.decoded)]

theorem liftOf_lt (k : CoreId) (d : Desc) : liftOf k d < 12 := by
  unfold liftOf
  split <;> omega

theorem convCore_liftCounts {l : Nat} (hl : l < 12) : convCore (Reg.lftReqCount l) = none ∧ convCore (Reg.lftPkIn l) = none ∧
    convCore (Reg.lftPkOut l) = none := by
  have all : ∀ l : Fin 12, convCore (Reg.lftReqCount l) = none ∧ convCore (Reg.lftPkIn l) = none ∧
    convCore (Reg.lftPkOut l) = none := by decide
  exact all ⟨l, hl⟩

theorem counted_countRead (s : State) {l : Nat} (hl : l < 12) (r : LiftRead) :
    Counted (liftCounts l r) [] s (s.countRead l r) := by
  obtain ⟨reqs, packed, decoded⟩ := convCore_liftCounts hl
  refine (((Counted.refl [] s).bump_of_no_conv r.reqs reqs ?_ ?_).bump_of_no_conv r.packed packed ?_ ?_).bump_of_no_conv
    r.decoded decoded ?_ ?_ <;> simp [Reg.lftReqCount, Reg.lftPkIn, Reg.lftPkOut]

/-- Counting what a source has given touches counts alone. -/
theorem State.countRead_frame (s : State) (l : Nat) (r : LiftRead) :
    s.countRead l r = { s with deltas := (s.countRead l r).deltas, regs := (s.countRead l r).regs } :=
  ((Tallied.bump s _ r.reqs).trans (.bump _ _ r.packed)).trans (.bump _ _ r.decoded)

/-- What is done with the counted bytes in cores and row writes leaves the rest. -/
theorem State.rest_of_countRead {s u : State} {l : Nat} {r : LiftRead}
    (rest : u = { s.countRead l r with cores := u.cores, writes := u.writes }) :
    u = { s with cores := u.cores, writes := u.writes, deltas := u.deltas, regs := u.regs } := by
  have regs : u.regs = (s.countRead l r).regs := by rw [rest]
  have deltas : u.deltas = (s.countRead l r).deltas := by rw [rest]
  rw [State.countRead_frame] at rest
  rw [regs, deltas]
  exact rest

theorem counted_of_countRead {s u : State} {l : Nat} (hl : l < 12) {r : LiftRead}
    (rest : u = { s.countRead l r with cores := u.cores, writes := u.writes }) : Counted (liftCounts l r) [] s u :=
  (counted_countRead s hl r).of_sameRegs (by rw [rest]) (fun o _ => by rw [rest]; rfl) (fun _ h => absurd h List.not_mem_nil)

theorem State.core_countRead (s : State) (l : Nat) (r : LiftRead) (j : CoreId) : (s.countRead l r).core j = s.core j := by
  rw [countRead_frame]
  rfl

@[simp] theorem State.countRead_writes (s : State) (l : Nat) (r : LiftRead) : (s.countRead l r).writes = s.writes := by
  rw [countRead_frame]

/-- The two ways of a change to cores and row writes alone. -/
theorem coresWrites_trans {s v u : State} (h : v = { s with cores := v.cores, writes := v.writes })
    (g : u = { v with cores := u.cores, writes := u.writes }) : u = { s with cores := u.cores, writes := u.writes } :=
  g.trans (by rw [h])

theorem State.setCore_frame (s : State) (k : CoreId) (c : Core) :
    s.setCore k c = { s with cores := (s.setCore k c).cores, writes := (s.setCore k c).writes } := rfl

theorem State.setCmd_frame (s : State) (k : CoreId) (q : QueueId) (n : Nat) (f : Cmd → Cmd) :
    s.setCmd k q n f = { s with cores := (s.setCmd k q n f).cores, writes := (s.setCmd k q n f).writes } := rfl

theorem State.core_setCmd (s : State) (k : CoreId) (q : QueueId) (n : Nat) (f : Cmd → Cmd) :
    (s.setCmd k q n f).core k = (s.core k).setQueue q (modifyNth f n ((s.core k).queue q)) := State.core_setCore_same _ _ _

theorem State.core_setCmd_ne (s : State) {k j : CoreId} (h : j ≠ k) (q : QueueId) (n : Nat) (f : Cmd → Cmd) :
    (s.setCmd k q n f).core j = s.core j := State.core_setCore_ne _ _ _ _ h

/-! ## The vectors that a sequence keeps (R163) -/

theorem keepVectors_core (c : Core) (cmd : Cmd) (bytes : List Byte) :
    keepVectors c cmd bytes = { c with skewTail := (keepVectors c cmd bytes).skewTail } := by
  unfold keepVectors
  dsimp only
  split <;> rfl

theorem keepVectors_skewTail {c e : Core} (h : c.skewTail = e.skewTail) (cmd : Cmd) (bytes : List Byte) :
    (keepVectors c cmd bytes).skewTail = (keepVectors e cmd bytes).skewTail := by
  unfold keepVectors
  dsimp only
  split
  · exact h
  · rw [h]

/-- A Lift command is done: its sequence keeps its vectors, and its mark is set. -/
def State.liftDone (v : State) (k : CoreId) (n : Nat) (cmd : Cmd) (bytes : List Byte) : State :=
  (v.setCore k (keepVectors (v.core k) cmd bytes)).markExecuted k 2 n

theorem State.core_liftDone (v : State) (k : CoreId) (n : Nat) (cmd : Cmd) (bytes : List Byte) : (v.liftDone k n cmd bytes).core k =
    { v.core k with queues := ((v.liftDone k n cmd bytes).core k).queues
                    skewTail := (keepVectors (v.core k) cmd bytes).skewTail } := by
  rw [State.liftDone, State.core_markExecuted, State.core_setCore_same, keepVectors_core]
  rfl

theorem State.core_liftDone_ne (v : State) {k j : CoreId} (h : j ≠ k) (n : Nat) (cmd : Cmd) (bytes : List Byte) :
    (v.liftDone k n cmd bytes).core j = v.core j :=
  (State.core_setCore_ne _ _ _ _ h).trans (State.core_setCore_ne _ _ _ _ h)

theorem State.liftDone_frame (v : State) (k : CoreId) (n : Nat) (cmd : Cmd) (bytes : List Byte) : v.liftDone k n cmd bytes =
    { v with cores := (v.liftDone k n cmd bytes).cores, writes := (v.liftDone k n cmd bytes).writes } :=
  coresWrites_trans (v.setCore_frame k _) (State.setCmd_frame _ k 2 n _)

theorem executed_liftDone {s v : State} {k : CoreId} (h : (v.core k).queues = (s.core k).queues) (n : Nat) (cmd : Cmd)
    (bytes : List Byte) : Executed k 2 n s (v.liftDone k n cmd bytes) :=
  .of_markExecuted 2 n (by rw [State.core_setCore_same, keepVectors_core]; exact h)

/-! ## What a run answers -/

/-- What the source of a command gives it now. -/
def State.liftRead (s : State) (k : CoreId) (t : Tile) (cmd : Cmd) : LiftRead :=
  liftSource s t.ctx cmd (liftNeed (s.core k) cmd)

/-- The state once what the source gives has been counted. -/
def State.liftCounted (s : State) (k : CoreId) (t : Tile) (cmd : Cmd) : State :=
  s.countRead (liftOf k cmd.desc) (s.liftRead k t cmd)

theorem State.core_liftCounted (s : State) (k : CoreId) (t : Tile) (cmd : Cmd) (j : CoreId) :
    (s.liftCounted k t cmd).core j = s.core j := State.core_countRead _ _ _ _

section Run

variable {s : State} {k : CoreId} {t : Tile} {n : Nat} {cmd : Cmd}

/-- A command whose source can be read delivers, to the port or elsewhere. -/
theorem liftRun_of_read (room : Desc.dst cmd.desc = 13 → portFit (s.core k) cmd ≠ 0) (read : (s.liftRead k t cmd).stop = none) :
    liftRun s k t n cmd = if Desc.dst cmd.desc = 13 then portDeliver (s.liftCounted k t cmd) k n cmd (s.liftRead k t cmd)
      else rowsDeliver (s.liftCounted k t cmd) k t n cmd (s.liftRead k t cmd) := by
  have waits : ¬ (Desc.dst cmd.desc == 13 && portFit (s.core k) cmd == 0) = true := by
    simp only [Bool.and_eq_true, beq_iff_eq, not_and]
    exact room
  unfold State.liftRead at read
  unfold liftRun
  rw [if_neg waits]
  dsimp only
  rw [read]
  rfl

/-- A command to the direct port waits while the buffer has no room for an entry (R164). -/
theorem liftRun_of_full (port : Desc.dst cmd.desc = 13) (full : portFit (s.core k) cmd = 0) : liftRun s k t n cmd = .wait s := by
  simp [liftRun, port, full]

theorem liftRun_rows (read : (s.liftRead k t cmd).stop = none) (dst : Desc.dst cmd.desc < 12) :
    liftRun s k t n cmd = .done (((s.liftCounted k t cmd).sendRows k 2 cmd t (Desc.dst cmd.desc) (field cmd.desc 46 30)
      (liftOutput (s.core k) cmd (s.liftRead k t cmd).bytes).rows).liftDone k n cmd (s.liftRead k t cmd).bytes) := by
  rw [liftRun_of_read (fun e => by omega) read, if_neg (by omega)]
  unfold rowsDeliver
  dsimp only
  rw [if_pos dst, State.core_liftCounted]
  rfl

/-- The core with the next entries in the port's buffer (R164). -/
def Core.portFed (c : Core) (cmd : Cmd) (bytes : List Byte) : Core :=
  let next := ((liftOutput c cmd bytes).entries.drop cmd.resumeAt).take (portFit c cmd)
  { c with port := c.port ++ next.map (fun e => ⟨e, cmd.seq, entryBytes cmd.desc⟩) }

theorem liftRun_port (read : (s.liftRead k t cmd).stop = none) (port : Desc.dst cmd.desc = 13)
    (room : portFit (s.core k) cmd ≠ 0) : liftRun s k t n cmd =
      let v := (s.liftCounted k t cmd).setCore k ((s.core k).portFed cmd (s.liftRead k t cmd).bytes)
      if cmd.resumeAt + portFit (s.core k) cmd = portEntries cmd.desc then .done (v.liftDone k n cmd (s.liftRead k t cmd).bytes)
      else .wait (v.setCmd k 2 n (fun x =>
        { x with resumeAt := cmd.resumeAt + portFit (s.core k) cmd, got := (s.liftRead k t cmd).raw })) := by
  rw [liftRun_of_read (fun _ => room) read, if_pos port]
  unfold portDeliver State.liftDone
  dsimp only
  rw [State.core_liftCounted, State.core_setCore_same, State.setCore_setCore]
  rfl

/-- The units of a command's rows at the virtual addresses that its LADDR describes, behind those written (R161). -/
def liftUnits (cmd : Cmd) (bytes : List Byte) : List (Nat × List Byte) :=
  (List.zip (runAddrs (cmd.before.getD 0) bytes.length) (groupsOf 64 (bytes.length / 64) bytes)).drop (cmd.resumeAt / 64)

/-- How a run at virtual addresses ends, by what stopped its units (R171). -/
def unitsRun (k : CoreId) (n : Nat) (cmd : Cmd) (r : LiftRead) (v : State) : Option LiftStop → LiftRun
  | none => .done (v.liftDone k n cmd r.bytes)
  | some (.fault o va cause level) => .fault v true o va cause level r.raw
  | some (.halt reason addr) => .halt v reason addr
  | some (.frozen va) => .frozen v false va
  | some (.wait o) => .wait (v.setCmd k 2 n (fun x => { x with resumeAt := o, got := r.raw }))

/-- What writing the units of a command gives. -/
def State.liftWritten (s : State) (k : CoreId) (t : Tile) (cmd : Cmd) : State × Nat × Option LiftStop :=
  writeUnits k t cmd.seq (liftUnits cmd (liftOutput (s.core k) cmd (s.liftRead k t cmd).bytes).rows.flatten) cmd.resumeAt
    (s.liftCounted k t cmd)

theorem liftRun_virtual (read : (s.liftRead k t cmd).stop = none) (dst : 12 ≤ Desc.dst cmd.desc)
    (port : Desc.dst cmd.desc ≠ 13) : liftRun s k t n cmd = unitsRun k n cmd (s.liftRead k t cmd) ((s.liftWritten k t cmd).1.bump
      (Reg.lftReqCount (liftOf k cmd.desc)) (((s.liftWritten k t cmd).2.1 - cmd.resumeAt) / 64)) (s.liftWritten k t cmd).2.2 := by
  rw [liftRun_of_read (fun e => absurd e port) read, if_neg port]
  unfold rowsDeliver State.liftWritten liftUnits
  dsimp only
  rw [if_neg (by omega), State.core_liftCounted]
  generalize Machine.writeUnits _ _ _ _ _ _ = w
  obtain ⟨v, o, stop⟩ := w
  rcases stop with - | (- | - | - | -) <;> rfl

end Run

/-! ## Units written at virtual addresses -/

/-- What writing units at virtual addresses may touch: memory of device and host, the controllers and marks that follow, the row
writes on their way, and the signature of the tile. -/
structure UnitsWritten (k : CoreId) (s u : State) : Prop where
  rest : u = { s with mem := u.mem, hostMem := u.hostMem, cores := u.cores, regs := u.regs, dmc := u.dmc, writes := u.writes }
  core : u.core k = { s.core k with tile := (u.core k).tile }
  cores : ∀ j, j ≠ k → u.core j = s.core j
  tile : ∀ t, (s.core k).tile = some t → ∃ sig, (u.core k).tile = some { t with sig := sig }

theorem UnitsWritten.refl (k : CoreId) (s : State) : UnitsWritten k s s := ⟨rfl, rfl, fun _ _ => rfl, fun t h => ⟨t.sig, h⟩⟩

theorem UnitsWritten.trans {k : CoreId} {s t u : State} (h : UnitsWritten k s t) (g : UnitsWritten k t u) : UnitsWritten k s u where
  rest := g.rest.trans (by rw [h.rest])
  core := g.core.trans (by rw [h.core])
  cores j hj := (g.cores j hj).trans (h.cores j hj)
  tile x hx := by
    obtain ⟨sig, hs⟩ := h.tile x hx
    obtain ⟨sig', hs'⟩ := g.tile _ hs
    exact ⟨sig', hs'⟩

/-- Initialising blocks touches the controllers and their registers alone. -/
theorem State.initialise_frame (s : State) (d : DmcId) (block : Nat) :
    s.initialise d block = { s with dmc := (s.initialise d block).dmc, regs := (s.initialise d block).regs } := by
  unfold State.initialise
  split
  · rfl
  · dsimp only
    split <;> rfl

theorem State.put_frame (s : State) (a : Nat) (bs : List Byte) :
    s.put a bs = { s with mem := (s.put a bs).mem, dmc := (s.put a bs).dmc, regs := (s.put a bs).regs } := by
  unfold State.put State.initRange
  split
  · rfl
  · refine List.foldlRecOn (motive := fun u : State => u = { s with mem := u.mem, dmc := u.dmc, regs := u.regs }) _ _ rfl
      fun u hu i _ => ?_
    split
    · rw [State.initialise_frame, hu]
    · exact hu

theorem UnitsWritten.sign {k : CoreId} {s v : State}
    (h : v = { s with mem := v.mem, hostMem := v.hostMem, regs := v.regs, dmc := v.dmc }) (addr : Nat) (bs : List Byte) :
    UnitsWritten k s (v.sign k addr bs) := by
  have core : ∀ j, v.core j = s.core j := State.core_congr (by rw [h])
  refine ⟨by rw [State.sign, State.setCore, h], ?_, fun j hj => ?_, fun t ht => ?_⟩
  · rw [State.sign, State.core_setCore_same, core]
  · rw [State.sign, State.core_setCore_ne _ _ _ _ hj, core]
  · rw [State.sign, State.core_setCore_same, core, ht]
    exact ⟨_, rfl⟩

theorem UnitsWritten.send (k : CoreId) (s : State) (ws : List RowWrite) : UnitsWritten k s { s with writes := ws } :=
  ⟨rfl, rfl, fun _ _ => rfl, fun t h => ⟨t.sig, h⟩⟩

theorem UnitsWritten.writeUnits (k : CoreId) (t : Tile) (seq : Nat) (units : List (Nat × List Byte)) (o : Nat) (s : State) :
    UnitsWritten k s (writeUnits k t seq units o s).1 := by
  induction units generalizing o s with
  | nil => exact .refl k s
  | cons x rest ih =>
    obtain ⟨va, bs⟩ := x
    unfold Machine.writeUnits
    split
    · exact .refl k s
    split
    · exact .refl k s
    next pa _ =>
      exact (UnitsWritten.sign (v := s.put pa bs) (by rw [State.put_frame]) va bs).trans (ih (o + 64) _)
    next ba _ =>
      exact (UnitsWritten.sign (v := s.hostWr ba bs) rfl va bs).trans (ih (o + 64) _)
    next =>
      split
      · exact .refl k s
      · exact (UnitsWritten.send k s _).trans (ih (o + 64) _)

/-! ## What a command makes of its source (R162) -/

/-- Every row that a command makes is a whole row. -/
theorem length_of_mem_liftOutput {c : Core} {cmd : Cmd} {bytes row : List Byte} (h : row ∈ (liftOutput c cmd bytes).rows) :
    row.length = 512 := by
  unfold liftOutput at h
  dsimp only at h
  split at h
  · exact length_of_mem_rowsOf h
  · split at h
    · rw [List.eq_of_mem_replicate h]
      rw [List.length_flatten, List.map_replicate, List.sum_replicate, leBytes_length]
      rfl
    · exact length_of_mem_packRows h

/-- Whole rows hold their bytes and no more. -/
theorem flatten_rowsOf {bs : List Byte} {n : Nat} (h : bs.length = 512 * n) : (rowsOf bs).flatten = bs := by
  refine ((prefix_flatten_rowsOf bs).eq_of_length ?_).symm
  have rows : (rowsOf bs).map List.length = List.replicate (rowsOf bs).length 512 :=
    List.eq_replicate_iff.2 ⟨List.length_map .., fun x hx => by
      obtain ⟨r, hr, rfl⟩ := List.mem_map.1 hx
      exact length_of_mem_rowsOf hr⟩
  rw [List.length_flatten, rows, List.sum_replicate, rowsOf_length, h, cdiv_mul_left _ (by decide), smul_eq_mul, Nat.mul_comm]

/-- An LCOPY from store rows makes the rows that it reads. -/
theorem liftOutput_copy {s : State} {ctx : CtxId} {c : Core} {cmd : Cmd} {need : Nat} (code : Desc.cmd cmd.desc = 1)
    (plain : bit cmd.desc 74 = false) (src : Desc.src cmd.desc < 12) :
    (liftSource s ctx cmd need).stop = none ∧
    (liftOutput c cmd (liftSource s ctx cmd need).bytes).rows.flatten =
      s.rd (rowAddr (Desc.src cmd.desc) (field cmd.desc 63 47)) (512 * need) := by
  have read : liftSource s ctx cmd need =
      { LiftRead.ended 0 none with bytes := s.rowsFrom (Desc.src cmd.desc) (field cmd.desc 63 47) need } := by
    simp [liftSource, code, plain, Nat.ne_of_lt src]
  rw [read]
  refine ⟨rfl, ?_⟩
  simp only [liftOutput, code, if_true]
  exact flatten_rowsOf (n := need) (readRun_length ..)

/-- The byte i of the 16-bit value of an LFILL. -/
theorem leBytes_fillValue (d : Desc) : leBytes 2 (field d 63 48) = (List.range 2).map (fun i => d.extractLsb' (48 + 8 * i) 8) := by
  have high : d.toNat / 2 ^ 56 = d.toNat / 2 ^ 48 / 256 := by
    rw [Nat.div_div_eq_div_mul]
    norm_num
  have bytes : leBytes 2 (field d 63 48) = [BitVec.ofNat 8 (field d 63 48), BitVec.ofNat 8 (field d 63 48 / 256)] := rfl
  rw [bytes]
  refine congrArg₂ (fun a b => [a, b]) (BitVec.eq_of_toNat_eq ?_) (BitVec.eq_of_toNat_eq ?_)
  all_goals
    simp only [BitVec.toNat_ofNat, BitVec.extractLsb'_toNat, field, Nat.shiftRight_eq_div_pow, Nat.reduceAdd, Nat.reduceMul,
      Nat.reduceSub]
    omega

/-- An LFILL makes rows of its value, and reads nothing. -/
theorem liftOutput_fill {s : State} {ctx : CtxId} {c : Core} {cmd : Cmd} {need : Nat} (code : Desc.cmd cmd.desc = 3) :
    (liftSource s ctx cmd need).stop = none ∧ (liftOutput c cmd (liftSource s ctx cmd need).bytes).rows =
      List.replicate (field cmd.desc 29 13)
        ((List.range 512).map (fun i => BitVec.extractLsb' (48 + 8 * (i % 2)) 8 (cmd.desc : Desc))) := by
  refine ⟨by simp [liftSource, code, LiftRead.ended], ?_⟩
  have row := flatMap_range_map_range (fun _ i => BitVec.extractLsb' (48 + 8 * i) 8 (cmd.desc : Desc)) 256 2
  simp only [liftOutput, code, Nat.reduceEqDiff, if_false, if_true, leBytes_fillValue]
  rw [← row, List.flatMap_def, List.map_const', List.length_range]

/-- An LCOPY that does not go to the direct port needs all its rows. -/
theorem liftNeed_copy {c : Core} {cmd : Cmd} (dst : Desc.dst cmd.desc ≠ 13) (code : Desc.cmd cmd.desc = 1) :
    liftNeed c cmd = field cmd.desc 29 13 := by
  simp [liftNeed, plainRows, dst, code]

/-! ## Skewing (R163) -/

theorem length_skewedSlices (d : Desc) (kept vecs : List (List Nat)) (v0 : Nat) :
    (skewedSlices d kept vecs v0).length = skewSlices d := by simp [skewedSlices]

/-- Element j of slice i of a sequence that begins: element j of vector i − j, and outside the sequence the edge code. -/
theorem skewedSlices_element (d : Desc) (vecs : List (List Nat)) {i j : Nat} (hi : i < skewSlices d) (hj : j < skewDepth d) :
    let code := fun (c : Nat) => skewElem (field d 69 68) (field d 67 64) (field d 14 7) c
    ((skewedSlices d [] vecs 0).getD i []).getD j 0 = if i < j then code (edgeCode d) else match vecs[i - j]? with
      | some v => code (v.getD j 0)
      | none => code (edgeCode d) := by
  simp only [skewedSlices, getD_map_range _ _ hi, getD_map_range _ _ hj, List.nil_append, List.length_nil, Nat.sub_zero,
    Nat.add_zero, Nat.zero_add]
  by_cases before : i < j
  · rw [if_pos before, if_pos before]
  · rw [if_neg before, if_neg before]
    cases vecs[i - j]? <;> rfl

end Sys2Proof.Machine

namespace Sys2Proof

open Machine

/-! ## What a delivery leaves unchanged -/

/-- A Lift command of core k has delivered to store rows or to the direct port, with what its source gave counted. -/
structure Lifted (k : CoreId) (l : Nat) (r : LiftRead) (s u : State) : Prop where
  counts : Counted (liftCounts l r) [] s u
  cores : ∀ j, j ≠ k → u.core j = s.core j
  rest : u = { s with cores := u.cores, writes := u.writes, deltas := u.deltas, regs := u.regs }
  core : u.core k = { s.core k with
    queues := (u.core k).queues, skewTail := (u.core k).skewTail, port := (u.core k).port }

theorem Lifted.of_countRead {k : CoreId} {l : Nat} {r : LiftRead} {s u : State} (hl : l < 12)
    (rest : u = { s.countRead l r with cores := u.cores, writes := u.writes }) (cores : ∀ j, j ≠ k → u.core j = s.core j)
    (core : u.core k = { s.core k with
      queues := (u.core k).queues, skewTail := (u.core k).skewTail, port := (u.core k).port }) : Lifted k l r s u where
  counts := counted_of_countRead hl rest
  cores := cores
  rest := State.rest_of_countRead rest
  core := core

/-- A Lift's event on a core that has not halted, for a command whose turn it is. -/
theorem gives_lift {s u : State} {k : CoreId} {t : Tile} {n : Nat} {cmd : Cmd} {p : Instr × Nat}
    (live : (s.core k).phase ≠ .halted) (hp : p ∈ [(Instr.lcopy k n, 1), (.lskew k n, 2), (.lfill k n, 3)])
    (ready : liftReady? s k n (some p.2) = some (t, cmd))
    (run : liftRun s k t n cmd = .done u ∨ liftRun s k t n cmd = .wait u) {P : State → Prop} (hP : P u) : Gives p.1 s P := by
  refine gives_engineEvent live (exec_lift hp s) ?_ hP
  unfold liftStep
  rcases run with run | run <;> simp only [ready, run]

section Delivery

variable {s : State} {k : CoreId} {t : Tile} {n : Nat} {cmd : Cmd}

/-- Rows on their way to a store. -/
theorem lifted_rows : let r := s.liftRead k t cmd
    let rows := (liftOutput (s.core k) cmd r.bytes).rows
    let u := ((s.liftCounted k t cmd).sendRows k 2 cmd t (Desc.dst cmd.desc) (field cmd.desc 46 30) rows).liftDone k n cmd r.bytes
    Lifted k (liftOf k cmd.desc) r s u ∧ Executed k 2 n s u ∧
    (u.core k).skewTail = (keepVectors (s.core k) cmd r.bytes).skewTail ∧ (u.core k).port = (s.core k).port ∧
    SentRows k 2 cmd t (Desc.dst cmd.desc) (field cmd.desc 46 30) rows.length rows.flatten s u := by
  intro r rows u
  let v := (s.liftCounted k t cmd).sendRows k 2 cmd t (Desc.dst cmd.desc) (field cmd.desc 46 30) rows
  have core : ∀ j, v.core j = s.core j := s.core_liftCounted k t cmd
  have own := v.core_liftDone k n cmd r.bytes
  rw [core] at own
  have sent : u.writes = s.writes ++ rowWrites k 2 cmd t (Desc.dst cmd.desc) (field cmd.desc 46 30) rows := by
    show (s.liftCounted k t cmd).writes ++ _ = _
    rw [State.liftCounted, State.countRead_writes]
    rfl
  have rest := coresWrites_trans (s := s.liftCounted k t cmd) (v := v) rfl (v.liftDone_frame k n cmd r.bytes)
  refine ⟨.of_countRead (liftOf_lt k _) rest (fun j hj => ?_) (by rw [own]), executed_liftDone (by rw [core]) n cmd _, by rw [own],
    by rw [own], .of_rowWrites sent (fun _ h => length_of_mem_liftOutput h) (List.prefix_refl _)⟩
  rw [State.core_liftDone_ne _ hj, core]

/-- The state with the next entries in the direct port's buffer. -/
def State.portFed (s : State) (k : CoreId) (t : Tile) (cmd : Cmd) : State :=
  (s.liftCounted k t cmd).setCore k ((s.core k).portFed cmd (s.liftRead k t cmd).bytes)

theorem core_portFed : (State.portFed s k t cmd).core k = (s.core k).portFed cmd (s.liftRead k t cmd).bytes :=
  State.core_setCore_same _ _ _

theorem core_portFed_ne {j : CoreId} (h : j ≠ k) : (State.portFed s k t cmd).core j = s.core j :=
  (State.core_setCore_ne _ _ _ _ h).trans (s.core_liftCounted k t cmd j)

theorem portFed_writes : (State.portFed s k t cmd).writes = s.writes := State.countRead_writes _ _ _

/-- The last entries to the direct port. -/
theorem lifted_portDone : let r := s.liftRead k t cmd
    let u := (State.portFed s k t cmd).liftDone k n cmd r.bytes
    Lifted k (liftOf k cmd.desc) r s u ∧ Executed k 2 n s u ∧
    (u.core k).skewTail = (keepVectors (s.core k) cmd r.bytes).skewTail ∧ u.writes = s.writes ∧
    (u.core k).port = ((s.core k).portFed cmd r.bytes).port := by
  intro r u
  have own := (State.portFed s k t cmd).core_liftDone k n cmd r.bytes
  rw [core_portFed] at own
  have rest := coresWrites_trans (State.setCore_frame _ k _) ((State.portFed s k t cmd).liftDone_frame k n cmd r.bytes)
  refine ⟨.of_countRead (liftOf_lt k _) rest (fun j hj => ?_) ?_, executed_liftDone (by rw [core_portFed]; rfl) n cmd _, ?_,
    portFed_writes, by rw [own]⟩
  · rw [State.core_liftDone_ne _ hj, core_portFed_ne hj]
  · rw [own]
    rfl
  · rw [own]
    exact keepVectors_skewTail (c := (s.core k).portFed cmd r.bytes) (e := s.core k) rfl cmd r.bytes

/-- Entries to the direct port with others to come. -/
theorem lifted_portWait (f : Cmd → Cmd) : let r := s.liftRead k t cmd
    let u := (State.portFed s k t cmd).setCmd k 2 n f
    Lifted k (liftOf k cmd.desc) r s u ∧ u.writes = s.writes ∧ (u.core k).port = ((s.core k).portFed cmd r.bytes).port ∧
    (u.core k).queue 2 = modifyNth f n ((s.core k).queue 2) ∧ (∀ q, q ≠ 2 → (u.core k).queue q = (s.core k).queue q) ∧
    (u.core k).skewTail = (s.core k).skewTail := by
  intro r u
  have own : u.core k = ((s.core k).portFed cmd r.bytes).setQueue 2 (modifyNth f n ((s.core k).queue 2)) := by
    rw [State.core_setCmd, core_portFed]
    rfl
  have rest := coresWrites_trans (State.setCore_frame _ k _) ((State.portFed s k t cmd).setCmd_frame k 2 n f)
  refine ⟨.of_countRead (liftOf_lt k _) rest (fun j hj => ?_) ?_, portFed_writes, by rw [own]; rfl, ?_, fun q hq => ?_,
    by rw [own]; rfl⟩
  · rw [State.core_setCmd_ne _ hj, core_portFed_ne hj]
  · rw [own]
    rfl
  · rw [own, Core.queue_setQueue, if_pos rfl]
  · rw [own, Core.queue_setQueue, if_neg hq]
    rfl

/-- A Lift command of core k has written units at virtual addresses since s2, and counted the requests. -/
structure UnitsCounted (k : CoreId) (l m : Nat) (s2 u : State) : Prop where
  counts : Counted [(Reg.lftReqCount l, m)] [] s2 u
  cores : ∀ j, j ≠ k → u.core j = s2.core j
  rest : u = { s2 with cores := u.cores, deltas := u.deltas, regs := u.regs }
  core : u.core k = { s2.core k with queues := (u.core k).queues, skewTail := (u.core k).skewTail }

theorem UnitsCounted.of_bump {l m : Nat} {s2 u : State} (hl : l < 12)
    (rest : u = { s2.bump (Reg.lftReqCount l) m with cores := u.cores }) (cores : ∀ j, j ≠ k → u.core j = s2.core j)
    (core : u.core k = { s2.core k with queues := (u.core k).queues, skewTail := (u.core k).skewTail }) :
    UnitsCounted k l m s2 u where
  counts := by
    have counted := (Counted.refl [] s2).bump_of_no_conv m (convCore_liftCounts hl).1 (by simp) (by simp)
    exact counted.of_sameRegs (by rw [rest]) (fun o _ => by rw [rest]; rfl) (fun _ h => absurd h List.not_mem_nil)
  cores := cores
  rest := by
    have regs : u.regs = (s2.bump (Reg.lftReqCount l) m).regs := by rw [rest]
    have deltas : u.deltas = (s2.bump (Reg.lftReqCount l) m).deltas := by rw [rest]
    rw [Laws.bump_frame] at rest
    rw [regs, deltas]
    exact rest
  core := core

variable {s2 : State} (written : UnitsWritten k (s.liftCounted k t cmd) s2)

include written

theorem core_unitsWritten : s2.core k = { s.core k with tile := (s2.core k).tile } := by
  have core := written.core
  rw [State.core_liftCounted] at core
  exact core

/-- The last units at virtual addresses. -/
theorem lifted_unitsDone (l m : Nat) (hl : l < 12) (bytes : List Byte) :
    let u := (s2.bump (Reg.lftReqCount l) m).liftDone k n cmd bytes
    UnitsCounted k l m s2 u ∧ Executed k 2 n s u ∧ (u.core k).skewTail = (keepVectors (s.core k) cmd bytes).skewTail := by
  intro u
  have core := core_unitsWritten written
  have own := (s2.bump (Reg.lftReqCount l) m).core_liftDone k n cmd bytes
  rw [State.core_bump] at own
  refine ⟨.of_bump hl rfl (fun j hj => ?_) (by rw [own]), executed_liftDone ?_ n cmd _, ?_⟩
  · rw [State.core_liftDone_ne _ hj, State.core_bump]
  · rw [State.core_bump, core]
  · rw [own]
    exact keepVectors_skewTail (by rw [core]) cmd bytes

/-- Units at virtual addresses with others to come. -/
theorem lifted_unitsWait (l m : Nat) (hl : l < 12) (f : Cmd → Cmd) :
    let u := (s2.bump (Reg.lftReqCount l) m).setCmd k 2 n f
    UnitsCounted k l m s2 u ∧ (u.core k).queue 2 = modifyNth f n ((s.core k).queue 2) ∧
    (∀ q, q ≠ 2 → (u.core k).queue q = (s.core k).queue q) ∧ (u.core k).skewTail = (s.core k).skewTail := by
  intro u
  have core := core_unitsWritten written
  have queue : ∀ q, (s2.core k).queue q = (s.core k).queue q := fun q => by rw [core]; rfl
  have own : u.core k = (s2.core k).setQueue 2 (modifyNth f n ((s.core k).queue 2)) := by
    rw [State.core_setCmd, State.core_bump, queue]
  refine ⟨.of_bump hl rfl (fun j hj => ?_) (by rw [own]; rfl), ?_, fun q hq => ?_, ?_⟩
  · rw [State.core_setCmd_ne _ hj, State.core_bump]
  · rw [own, Core.queue_setQueue, if_pos rfl]
  · rw [own, Core.queue_setQueue, if_neg hq, queue]
  · rw [own, Core.setQueue_skewTail, core]

end Delivery

/-- LADDR has no effect of its own (R161). -/
theorem gives_laddr {s : State} {k : CoreId} {n : Nat} {x : Cmd} (hx : ((s.core k).queue 2)[n]? = some x)
    (begun : x.phase = .begun) (code : Desc.cmd x.desc = 4) : Gives (.laddr k n) s (fun u => OnlyCore k [] s u ∧
      Executed k 2 n s u ∧ u.core k = { s.core k with queues := (u.core k).queues }) := by
  refine ⟨s.markExecuted k 2 n, ?_, ⟨rfl, fun j hj => State.core_setCore_ne _ _ _ _ hj, fun _ _ => rfl⟩,
    .of_markExecuted 2 n rfl, ?_⟩
  · rw [exec_laddr, execLaddr, hx]
    simp [begun, code, ok]
  · rw [State.core_markExecuted]
    rfl

/-- Settles O27: each delivery by the way it takes, the rows by what the command makes of its source. -/
theorem liftCommands : Obligations.LiftCommands := by
  unfold Obligations.LiftCommands
  refine ⟨fun s k t n cmd => ⟨fun live p hp ready => ⟨fun read dst => ?_, fun port => ⟨fun full => ?_, fun room read last => ?_,
    fun room read more => ?_⟩, fun read dst s2 o stop written => ?_⟩, counted_countRead s (liftOf_lt k _) _, liftNeed_copy,
    liftOutput_copy, liftOutput_fill, fun x => gives_laddr⟩,
    fun d vecs i j => ⟨length_skewedSlices d [] vecs 0, skewedSlices_element d vecs⟩⟩
  · obtain ⟨lifted, executed, kept, port, sent⟩ := lifted_rows (s := s) (k := k) (t := t) (n := n) (cmd := cmd)
    exact gives_lift live hp ready (.inl (liftRun_rows read dst))
      ⟨⟨lifted.counts, lifted.cores, lifted.rest, lifted.core⟩, executed, kept, port, sent⟩
  · exact gives_lift live hp ready (.inr (liftRun_of_full port full)) rfl
  · obtain ⟨lifted, executed, kept, sent⟩ := lifted_portDone (s := s) (k := k) (t := t) (n := n) (cmd := cmd)
    exact gives_lift live hp ready (.inl ((liftRun_port read port room).trans (if_pos last)))
      ⟨⟨lifted.counts, lifted.cores, lifted.rest, lifted.core⟩, executed, kept, sent⟩
  · obtain ⟨lifted, writes, port', goesOn⟩ := lifted_portWait (s := s) (k := k) (t := t) (n := n) (cmd := cmd) _
    exact gives_lift live hp ready (.inr ((liftRun_port read port room).trans (if_neg more)))
      ⟨⟨lifted.counts, lifted.cores, lifted.rest, lifted.core⟩, ⟨writes, port'⟩, goesOn⟩
  · have eq : s.liftWritten k t cmd = (s2, o, stop) := written
    have units : UnitsWritten k (s.liftCounted k t cmd) s2 := by
      have all : UnitsWritten k (s.liftCounted k t cmd) (s.liftWritten k t cmd).1 := .writeUnits ..
      rw [eq] at all
      exact all
    have run := liftRun_virtual (n := n) read (by omega) (by omega)
    rw [eq] at run
    refine ⟨fun none => ?_, fun w wait => ?_⟩
    · subst none
      obtain ⟨made, executed, kept⟩ := lifted_unitsDone (n := n) units _ ((o - cmd.resumeAt) / 64) (liftOf_lt k cmd.desc)
        (s.liftRead k t cmd).bytes
      exact gives_lift live hp ready (.inl run) ⟨⟨made.counts, made.cores, made.rest, made.core⟩, executed, kept⟩
    · subst wait
      obtain ⟨made, goesOn⟩ := lifted_unitsWait (n := n) units _ ((o - cmd.resumeAt) / 64) (liftOf_lt k cmd.desc) _
      exact gives_lift live hp ready (.inr run) ⟨⟨made.counts, made.cores, made.rest, made.core⟩, goesOn⟩

end Sys2Proof

/-! PROOF. Prefetch claims and fills, the stop on a Lift fault, and RESUME (R170–R172, R201). -/

namespace Sys2Proof.Machine

theorem exec_streamClaim (k : CoreId) (s : State) : exec (.streamClaim k) s = execStreamClaim k s := rfl
theorem exec_streamFill (k : CoreId) (j : StreamNo) (s : State) : exec (.streamFill k j) s = execStreamFill k j s := rfl
theorem exec_liftFault (w : LiftWork) (s : State) : exec (.liftFault w) s = execLiftFault w s := rfl
theorem exec_liftResume (l : LiftId) (s : State) : exec (.liftResume l) s = execLiftResume l s := rfl

/-! ## Claims (R170, R179) -/

theorem State.addClaim_counters (s : State) (p : CounterId) (who : Claimer) (q : CounterId) : (s.addClaim p who).counters[q] =
    if q = p then s.counters[p].map (fun c => { c with waiting := c.waiting ++ [who] }) else s.counters[q] := by
  rw [State.addClaim, Vector.getElem_set_fin]

/-- The claims that the stages of a core with prefetch streams have to put, in order (R170). -/
def State.streamWants (s : State) (k : CoreId) : List (CounterId × StageNo) :=
  (s.core k).seats.filterMap (fun x =>
    if x.streams.isEmpty || x.halts || decide (x.slots ≤ x.held.length) || !s.ctxRuns x.ctx then none
    else match s.claimable x with
      | some (_, p) => if s.claimWaits k x.stage p then none else some (p, x.stage)
      | none => none)

theorem execStreamClaim_of_wants {s : State} {k : CoreId} {p : CounterId} {st : StageNo}
    (wants : (s.streamWants k).head? = some (p, st)) : execStreamClaim k s = ok (s.addClaim p (.launcher k st)) := by
  show (match (s.streamWants k).head? with
    | some (p, st) => ok (s.addClaim p (.launcher k st))
    | none => ok s) = _
  rw [wants]

/-! ## What a fill reads and sends (R170) -/

/-- What stream j of a core gives for an index that its stage holds. -/
def fillRead (s : State) (j : StreamNo) (seat : Seat) (h : Held) (d : StreamDesc) : LiftRead :=
  if d.pk then decodeChunks (keeping (h.before j) (packedVa s seat.ctx (d.base + h.index * d.stride))) (h.before j).length
    d.rows 0 d.rows d.rows
  else s.readOn seat.ctx (h.before j) ((List.range (8 * d.rows)).map (fun x => d.base + h.index * d.stride + 64 * x))

/-- The row writes of a fill. -/
def fillWrites (k : CoreId) (seat : Seat) (h : Held) (row : Nat) (rows : List (List Byte)) : List RowWrite :=
  rows.zipIdx.map (fun p =>
    ⟨rowAddr k.val (row + p.2), false, 0, p.1, some ⟨seat.ctx, seat.model, seat.stage, k, h.epoch⟩, none, false⟩)

/-- What the Lodge is told of a fill that finds no translation, and what the fill goes on from. -/
def fillStop (s : State) (k : CoreId) (j : StreamNo) (seat : Seat) (h : Held) (r : LiftRead) (o a cause level : Nat) : Stopped :=
  ⟨k.val, .fill k j, seat.ctx, BitVec.ofNat 64 a, cause, level, j.val, false, o, s.gate, some (seat.model, seat.stage),
    some (h.counter, h.index), r.raw⟩

/-- A held index whose slot of stream j is filled. -/
def Held.fill (j : StreamNo) (h : Held) : Held := { h with filled := h.filled ++ [j.val] }

/-- The state in which a fill's rows are on their way, its reads counted. -/
def State.filled (s : State) (k : CoreId) (j : StreamNo) (i hn : Nat) (seat : Seat) (h : Held) (row : Nat) (r : LiftRead) : State :=
  State.setSeat { s.countRead k.val r with writes := s.writes ++ fillWrites k seat h row (rowsOf r.bytes) } k i
    (fun x => { x with held := modifyNth (Held.fill j) hn x.held })

section Fill

variable {met : W32 → CtxId → Nat → State → State} {s : State} {k : CoreId} {j : StreamNo} {i hn : Nat} {seat : Seat} {h : Held}
  {d : StreamDesc} (target : fillTarget s k j = some (i, seat, hn, h, d))

include target

theorem runFill_of_read {row : Nat} (slot : slotRow s k seat d h.slot = some row) (read : (fillRead s j seat h d).stop = none) :
    runFill met s k j = s.filled k j i hn seat h row (fillRead s j seat h d) := by
  have writes := State.countRead_writes s k.val (fillRead s j seat h d)
  unfold State.filled
  rw [← writes]
  unfold fillRead at read
  unfold runFill
  rw [target]
  dsimp only
  rw [read, slot]
  rfl

theorem runFill_of_fault {o a cause level : Nat} (read : (fillRead s j seat h d).stop = some (.fault o a cause level)) :
    runFill met s k j = (s.countRead k.val (fillRead s j seat h d)).addStop
      (fillStop s k j seat h (fillRead s j seat h d) o a cause level) := by
  unfold fillRead at read
  unfold runFill
  rw [target]
  dsimp only
  rw [read]
  rfl

end Fill

theorem fillWrites_row (k : CoreId) (seat : Seat) (h : Held) (row : Nat) (rows : List (List Byte)) :
    (fillWrites k seat h row rows).map (·.row) = (List.range rows.length).map (fun x => rowAddr k (row + x)) := by
  rw [fillWrites, List.map_map, List.range_eq_range', ← List.zipIdx_map_snd 0 rows, List.map_map]
  rfl

theorem fillWrites_data (k : CoreId) (seat : Seat) (h : Held) (row : Nat) (rows : List (List Byte)) :
    (fillWrites k seat h row rows).map (·.data) = rows := by
  rw [fillWrites, List.map_map]
  exact List.zipIdx_map_fst 0 rows

/-! ## What a stop records (R171, R201) -/

/-- A fault is counted and numbered with its context. -/
def Context.noteFault (x : Stopped) (c : Context) : Context :=
  if c.id = x.ctx then { c with faultSeq := c.faultSeq + 1, lastFault := some x } else c

theorem Context.noteFault_id (x : Stopped) (c : Context) : (c.noteFault x).id = c.id := by
  unfold Context.noteFault
  split <;> rfl

theorem Context.noteFault_faultWait (x : Stopped) (c : Context) : (c.noteFault x).faultWait = c.faultWait := by
  unfold Context.noteFault
  split <;> rfl

/-- A numbered fault shows in its context. -/
theorem Context.noteFault_ne {x : Stopped} {c : Context} (h : c.id = x.ctx) : c.noteFault x ≠ c := by
  intro same
  have number := congrArg Context.faultSeq same
  rw [Context.noteFault, if_pos h] at number
  exact absurd number (by bv_omega)

/-- The state that has recorded a stop. -/
def State.stopNoted (s : State) (x : Stopped) : State :=
  (({ s with stopped := s.stopped ++ [x], contexts := s.contexts.map (Context.noteFault x) }.inc Reg.ldgXltFaultCount 32 1).notify
    (liftCluster x.lift) x.note).1

theorem State.addStop_eq (s : State) (x : Stopped) :
    s.addStop x = if (s.stopNoted x).refusesAtOnce x then (s.stopNoted x).refuseStop x else s.stopNoted x := rfl

/-- A note to the Lodge touches its events, and the overrun registers where there is no room. -/
theorem State.notify_frame (s : State) (c : ClusterId) (n : Note) : (s.notify c n).1 = { s with
    regs := (s.notify c n).1.regs
    lodge := { s.lodge with events := (s.notify c n).1.lodge.events, overruns := (s.notify c n).1.lodge.overruns } } := by
  unfold State.notify
  dsimp only
  split <;> rfl

/-- A note joins its queue where there is room. -/
theorem State.notify_events (s : State) (c : ClusterId) (n : Note) : (s.notify c n).1.lodge.events =
    s.lodge.events.set c (if s.lodge.events[c].length < 256 then s.lodge.events[c] ++ [n] else s.lodge.events[c]) := by
  unfold State.notify
  dsimp only
  split
  · rfl
  · exact (Vector.set_getElem_self ..).symm

/-- The registers that recording a stop may change. -/
def stopRegs : List Nat := [Reg.ldgXltFaultCount, Reg.ldgEvqStatus, Reg.ldgEvqOverrunCount]

/-- What recording a stop touches. -/
theorem State.stopNoted_frame (s : State) (x : Stopped) : s.stopNoted x = { s with
    stopped := s.stopped ++ [x], contexts := s.contexts.map (Context.noteFault x), regs := (s.stopNoted x).regs
    lodge := { s.lodge with events := (s.stopNoted x).lodge.events, overruns := (s.stopNoted x).lodge.overruns } } :=
  State.notify_frame _ _ _

theorem State.reg_stopNoted (s : State) (x : Stopped) : SameRegs stopRegs s (s.stopNoted x) := fun o ho => by
  simp only [stopRegs, List.mem_cons, List.not_mem_nil, or_false, not_or] at ho
  obtain ⟨count, status, overruns⟩ := ho
  exact (State.reg_notify _ _ _ status overruns).trans (State.reg_setReg_ne _ _ _ _ count)

theorem State.reg_stopNoted_count (s : State) (x : Stopped) :
    ((s.stopNoted x).reg Reg.ldgXltFaultCount).toNat = satAdd 32 (s.reg Reg.ldgXltFaultCount).toNat 1 := by
  have counted : (s.stopNoted x).reg Reg.ldgXltFaultCount = BitVec.ofNat 64 (satAdd 32 (s.reg Reg.ldgXltFaultCount).toNat 1) :=
    (State.reg_notify _ _ _ (by decide) (by decide)).trans (State.reg_setReg_same _ _ _)
  rw [counted, BitVec.toNat_ofNat, satAdd]
  omega

theorem State.stopNoted_events (s : State) (x : Stopped) : (s.stopNoted x).lodge.events =
    s.lodge.events.set (liftCluster x.lift) (if s.lodge.events[liftCluster x.lift].length < 256 then
      s.lodge.events[liftCluster x.lift] ++ [x.note] else s.lodge.events[liftCluster x.lift]) :=
  State.notify_events _ _ _

/-- The waiting time of a fault's context is that of the cores and contexts (R194). -/
theorem State.faultWaitOf_congr {s u : State} (x : Stopped) (cores : u.cores = s.cores)
    (waits : ∀ c, (u.ctx? c).map (·.faultWait) = (s.ctx? c).map (·.faultWait)) : u.faultWaitOf x = s.faultWaitOf x := by
  unfold State.faultWaitOf Stopped.seat?
  rw [State.core_congr cores, waits]

theorem State.faultWaitOf_stopNoted (s : State) (x : Stopped) : (s.stopNoted x).faultWaitOf x = s.faultWaitOf x := by
  refine State.faultWaitOf_congr x (by rw [State.stopNoted_frame]) fun c => ?_
  have found : (s.stopNoted x).ctx? c = (s.ctx? c).map (Context.noteFault x) := by
    rw [State.stopNoted_frame]
    unfold State.ctx?
    rw [List.find?_map]
    simp only [Function.comp_def, Context.noteFault_id]
  rw [found, Option.map_map]
  simp only [Function.comp_def, Context.noteFault_faultWait]

/-- A stop that is not refused at once is recorded, and no more. -/
theorem State.addStop_of_waits {s : State} {x : Stopped} (cause : x.cause ≠ 3) (wait : s.faultWaitOf x ≠ some 0) :
    s.addStop x = s.stopNoted x := by
  have waits : (s.stopNoted x).refusesAtOnce x = false := by
    simp [State.refusesAtOnce, State.faultWaitOf_stopNoted, cause, wait]
  rw [State.addStop_eq, waits]
  rfl

/-- A recorded stop changes its context's fault number. -/
theorem State.stopNoted_contexts_ne {s : State} {x : Stopped} (h : ∃ c ∈ s.contexts, c.id = x.ctx) :
    (s.stopNoted x).contexts ≠ s.contexts := by
  obtain ⟨c, mem, id⟩ := h
  rw [State.stopNoted_frame]
  intro same
  exact Context.noteFault_ne id (List.map_inj_left.1 (same.trans (List.map_id _).symm) c mem)

/-! ## The run that stops (R171) -/

/-- How a run ends whose source stops. -/
def sourceRun (r : LiftRead) (v : State) : LiftStop → LiftRun
  | .halt reason addr => .halt v reason addr
  | .fault o va cause level => .fault v false o va cause level r.raw
  | .wait _ => .wait v
  | .frozen va => .frozen v true va

section Run

variable {s s1 : State} {k : CoreId} {t : Tile} {n : Nat} {cmd : Cmd} {dest : Bool} {o va cause level : Nat} {got : List Byte}

theorem liftRun_of_stop {stop : LiftStop} (room : Desc.dst cmd.desc = 13 → portFit (s.core k) cmd ≠ 0)
    (read : (s.liftRead k t cmd).stop = some stop) :
    liftRun s k t n cmd = sourceRun (s.liftRead k t cmd) (s.liftCounted k t cmd) stop := by
  have waits : ¬ (Desc.dst cmd.desc == 13 && portFit (s.core k) cmd == 0) = true := by
    simp only [Bool.and_eq_true, beq_iff_eq, not_and]
    exact room
  unfold State.liftRead at read
  unfold liftRun
  rw [if_neg waits]
  dsimp only
  rw [read]
  cases stop <;> rfl

/-- Units that find no translation stop with what the command has read. -/
theorem unitsRun_fault {r : LiftRead} {v : State} {stop : Option LiftStop}
    (run : unitsRun k n cmd r v stop = .fault s1 dest o va cause level got) : dest = true ∧ got = r.raw ∧ s1 = v := by
  rcases stop with _ | (_ | _ | _ | _) <;> cases run
  exact ⟨rfl, rfl, rfl⟩

theorem sourceRun_fault {r : LiftRead} {v : State} {stop : LiftStop}
    (run : sourceRun r v stop = .fault s1 dest o va cause level got) : dest = false ∧ got = r.raw ∧ s1 = v := by
  cases stop <;> cases run
  exact ⟨rfl, rfl, rfl⟩

/-- The state behind the units of a command, its requests counted. -/
def State.unitsCounted (s : State) (k : CoreId) (t : Tile) (cmd : Cmd) : State :=
  (s.liftWritten k t cmd).1.bump (Reg.lftReqCount (liftOf k cmd.desc)) (((s.liftWritten k t cmd).2.1 - cmd.resumeAt) / 64)

/-- A run finds no translation at its source, or behind the units that it has written. -/
theorem liftRun_fault (run : liftRun s k t n cmd = .fault s1 dest o va cause level got) : got = (s.liftRead k t cmd).raw ∧
    s1 = if dest then s.unitsCounted k t cmd else s.liftCounted k t cmd := by
  by_cases full : Desc.dst cmd.desc = 13 ∧ portFit (s.core k) cmd = 0
  · cases (liftRun_of_full full.1 full.2).symm.trans run
  have room : Desc.dst cmd.desc = 13 → portFit (s.core k) cmd ≠ 0 := fun port none => full ⟨port, none⟩
  cases read : (s.liftRead k t cmd).stop with
  | some stop =>
    obtain ⟨rfl, rfl, rfl⟩ := sourceRun_fault ((liftRun_of_stop room read).symm.trans run)
    exact ⟨rfl, rfl⟩
  | none =>
    by_cases rows : Desc.dst cmd.desc < 12
    · cases (liftRun_rows read rows).symm.trans run
    by_cases port : Desc.dst cmd.desc = 13
    · have ends := (liftRun_port read port (room port)).symm.trans run
      dsimp only at ends
      split at ends <;> cases ends
    · obtain ⟨rfl, rfl, rfl⟩ := unitsRun_fault ((liftRun_virtual read (by omega) port).symm.trans run)
      exact ⟨rfl, rfl⟩

/-- A run that faults keeps the queue, the stopped work, the clock, the contexts and the tile's waiting time. -/
theorem liftRun_fault_keeps (run : liftRun s k t n cmd = .fault s1 dest o va cause level got) (tile : (s.core k).tile = some t) :
    s1.stopped = s.stopped ∧ s1.gate = s.gate ∧ (s1.core k).queues = (s.core k).queues ∧
    ∃ sig, (s1.core k).tile = some { t with sig := sig } := by
  have counted : (s.liftCounted k t cmd).stopped = s.stopped ∧ (s.liftCounted k t cmd).gate = s.gate := by
    rw [State.liftCounted, State.countRead_frame]
    exact ⟨rfl, rfl⟩
  obtain ⟨-, rfl⟩ := liftRun_fault run
  cases dest with
  | false =>
    refine ⟨counted.1, counted.2, ?_⟩
    simp only [Bool.false_eq_true, if_false]
    rw [State.core_liftCounted]
    exact ⟨rfl, t.sig, tile⟩
  | true =>
    have written : UnitsWritten k (s.liftCounted k t cmd) (s.liftWritten k t cmd).1 := .writeUnits ..
    have frame : (s.unitsCounted k t cmd).stopped = s.stopped ∧ (s.unitsCounted k t cmd).gate = s.gate := by
      rw [State.unitsCounted, Laws.bump_frame, written.rest]
      exact counted
    have core : (s.unitsCounted k t cmd).core k = (s.liftWritten k t cmd).1.core k := State.core_bump ..
    refine ⟨frame.1, frame.2, ?_⟩
    simp only [if_true]
    rw [core]
    refine ⟨?_, written.tile t ((congrArg Core.tile (s.core_liftCounted k t cmd k)).trans tile)⟩
    rw [written.core, State.core_liftCounted]

end Run

/-! ## RESUME (R171, R172) -/

/-- A command of the queue when stopped work goes on. -/
def Stopped.goOn (x : Stopped) (c : Cmd) : Cmd :=
  if c.seq = x.seq ∧ c.phase = .stopped then
    { c with phase := .begun, got := x.got, resumeAt := if x.destination then x.offset else c.resumeAt }
  else c

/-- An index that a stage holds, when a stopped fill of stream j goes on. -/
def Stopped.handBack (x : Stopped) (j : StreamNo) (h : Held) : Held :=
  if h.filled.contains j.val || x.index != some (h.counter, h.index) then h
  else { h with got := (j.val, x.got) :: h.got.filter (fun g => g.1 != j.val) }

/-- A seat when a stopped fill goes on. -/
def Stopped.handBackTo (x : Stopped) (j : StreamNo) (y : Seat) : Seat :=
  if y.ctx = x.ctx ∧ x.stage = some (y.model, y.stage) then { y with held := y.held.map (x.handBack j) } else y

/-- What a core has when stopped work goes on. -/
def Stopped.resumed (x : Stopped) (c : Core) : Core :=
  match x.work with
  | .fill _ j => { c with seats := c.seats.map (x.handBackTo j) }
  | .command _ _ => c.setQueue 2 ((c.queue 2).map x.goOn)

theorem State.resumeWork_eq (s : State) (x : Stopped) : s.resumeWork x = s.setCore x.core (x.resumed (s.core x.core)) := by
  unfold State.resumeWork Stopped.core Stopped.resumed
  cases x.work <;> rfl

/-- Resumed work touches queues and seats. -/
theorem Stopped.resumed_frame (x : Stopped) (c : Core) :
    x.resumed c = { c with queues := (x.resumed c).queues, seats := (x.resumed c).seats } := by
  unfold Stopped.resumed
  cases x.work <;> rfl

theorem Stopped.goOn_seq (x : Stopped) (c : Cmd) : (x.goOn c).seq = c.seq := by
  unfold Stopped.goOn
  split <;> rfl

theorem Stopped.goOn_desc (x : Stopped) (c : Cmd) : (x.goOn c).desc = c.desc := by
  unfold Stopped.goOn
  split <;> rfl

/-- Going on leaves a command's phase, or begins it. -/
theorem Stopped.goOn_phase (x : Stopped) (c : Cmd) : (x.goOn c).phase = if c.seq = x.seq ∧ c.phase = .stopped then .begun
    else c.phase := by
  unfold Stopped.goOn
  split <;> rfl

/-- The cores of resumed work change in queues and seats alone, and nothing else changes. -/
theorem State.foldl_resumeWork_frame (l : List Stopped) (s : State) : let u := l.foldl State.resumeWork s
    u = { s with cores := u.cores } ∧
    ∀ j, u.core j = { s.core j with queues := (u.core j).queues, seats := (u.core j).seats } := by
  refine List.foldlRecOn (motive := fun u : State => u = { s with cores := u.cores } ∧
    ∀ j, u.core j = { s.core j with queues := (u.core j).queues, seats := (u.core j).seats }) l State.resumeWork ⟨rfl, fun _ => rfl⟩
    fun u hu x _ => ?_
  obtain ⟨rest, core⟩ := hu
  rw [State.resumeWork_eq]
  refine ⟨by rw [State.setCore, rest], fun j => ?_⟩
  by_cases own : j = x.core
  · subst own
    rw [State.core_setCore_same, Stopped.resumed_frame, core]
  · rw [State.core_setCore_ne _ _ _ _ own, core]

/-- A core's Lift queue holds a command of this number and descriptor, in this phase. -/
def State.holdsCmd (s : State) (k : CoreId) (seq : Nat) (d : Desc) (phase : CmdPhase) : Prop :=
  ∃ y ∈ (s.core k).queue 2, y.seq = seq ∧ y.desc = d ∧ y.phase = phase

theorem Stopped.queue_resumed (x : Stopped) (c : Core) : (x.resumed c).queue 2 = match x.work with
    | .fill _ _ => c.queue 2
    | .command _ _ => (c.queue 2).map x.goOn := by
  unfold Stopped.resumed
  cases x.work
  · exact (Core.queue_setQueue _ _ _ _).trans (if_pos rfl)
  · rfl

theorem State.core_resumeWork (s : State) (x : Stopped) (k : CoreId) :
    (s.resumeWork x).core k = if k = x.core then x.resumed (s.core k) else s.core k := by
  rw [State.resumeWork_eq]
  split
  · next own => rw [own, State.core_setCore_same]
  · next other => exact State.core_setCore_ne _ _ _ _ other

section Holds

variable {s : State} {k : CoreId} {seq : Nat} {d : Desc}

/-- Work that goes on leaves a command where it is, or begins it. -/
theorem State.holdsCmd_resumeWork {phase : CmdPhase} (h : s.holdsCmd k seq d phase) (x : Stopped) :
    (s.resumeWork x).holdsCmd k seq d phase ∨ (s.resumeWork x).holdsCmd k seq d .begun := by
  obtain ⟨y, mem, num, desc, ph⟩ := h
  unfold State.holdsCmd
  rw [State.core_resumeWork]
  split
  case isFalse => exact .inl ⟨y, mem, num, desc, ph⟩
  rw [Stopped.queue_resumed]
  cases x.work with
  | fill => exact .inl ⟨y, mem, num, desc, ph⟩
  | command =>
    have found := List.mem_map_of_mem (f := x.goOn) mem
    have number := (x.goOn_seq y).trans num
    have same := (x.goOn_desc y).trans desc
    by_cases stopped : y.seq = x.seq ∧ y.phase = .stopped
    · exact .inr ⟨_, found, number, same, (x.goOn_phase y).trans (if_pos stopped)⟩
    · exact .inl ⟨_, found, number, same, ((x.goOn_phase y).trans (if_neg stopped)).trans ph⟩

/-- A stopped command of this number is begun when its work goes on. -/
theorem State.holdsCmd_resumed {x : Stopped} {n : Nat} (work : x.work = .command k n) (h : s.holdsCmd k x.seq d .stopped) :
    (s.resumeWork x).holdsCmd k x.seq d .begun := by
  obtain ⟨y, mem, num, desc, ph⟩ := h
  have own : k = x.core := by rw [Stopped.core, work]
  unfold State.holdsCmd
  rw [State.core_resumeWork, if_pos own, Stopped.queue_resumed, work]
  exact ⟨_, List.mem_map_of_mem mem, (x.goOn_seq y).trans num, (x.goOn_desc y).trans desc,
    (x.goOn_phase y).trans (if_pos ⟨num, ph⟩)⟩

theorem State.foldl_resumeWork_begun (l : List Stopped) {s : State} (h : s.holdsCmd k seq d .begun) :
    (l.foldl State.resumeWork s).holdsCmd k seq d .begun :=
  List.foldlRecOn (motive := fun u : State => u.holdsCmd k seq d .begun) l State.resumeWork h
    fun _ hu x _ => (State.holdsCmd_resumeWork hu x).elim id id

/-- Every stopped command that goes on is begun. -/
theorem State.foldl_resumeWork_begins {x : Stopped} {n : Nat} (work : x.work = .command k n) {l : List Stopped} (mem : x ∈ l)
    {s : State} (h : s.holdsCmd k x.seq d .stopped) : (l.foldl State.resumeWork s).holdsCmd k x.seq d .begun := by
  induction l generalizing s with
  | nil => exact absurd mem List.not_mem_nil
  | cons y rest ih =>
    rcases List.mem_cons.1 mem with rfl | later
    · exact State.foldl_resumeWork_begun rest (State.holdsCmd_resumed work h)
    · rcases State.holdsCmd_resumeWork h y with waits | begun
      · exact ih later waits
      · exact State.foldl_resumeWork_begun rest begun

end Holds

/-- What an index has when a stopped fill goes on: nothing, unless it is the fill's own. -/
theorem Stopped.handBack_spec (x : Stopped) (j : StreamNo) (h : Held) : (x.handBack j h).index = h.index ∧
    (h.filled.contains j.val = false → x.index = some (h.counter, h.index) → (x.handBack j h).before j = x.got) ∧
    (x.index ≠ some (h.counter, h.index) → x.handBack j h = h) := by
  unfold Stopped.handBack
  refine ⟨by split <;> rfl, fun unfilled own => ?_, fun other => if_pos (by simp [other])⟩
  rw [unfilled, own, bne_self_eq_false]
  simp [Held.before]

/-- The seats and indices of a stopped fill, where it goes on. -/
theorem Stopped.seats_resumed {x : Stopped} {j : CoreId} {m : StreamNo} (work : x.work = .fill j m) (c : Core) {i hn : Nat} {y : Seat}
    {h : Held} (seat : c.seats[i]? = some y) (ctx : y.ctx = x.ctx) (stage : x.stage = some (y.model, y.stage))
    (held : y.held[hn]? = some h) :
    ∃ y', (x.resumed c).seats[i]? = some y' ∧ y'.held[hn]? = some (x.handBack m h) := by
  refine ⟨x.handBackTo m y, ?_, ?_⟩
  · rw [Stopped.resumed, work]
    simp [seat]
  · rw [Stopped.handBackTo, if_pos ⟨ctx, stage⟩]
    simp [held]

/-- Work that goes on after the list has been cut. -/
theorem State.coresStopped_trans {s v u : State}
    (h : v = { s with stopped := v.stopped, lodge := { s.lodge with events := v.lodge.events } })
    (g : u = { v with cores := u.cores }) :
    u = { s with cores := u.cores, stopped := u.stopped, lodge := { s.lodge with events := u.lodge.events } } := by
  have stopped : u.stopped = v.stopped := by rw [g]
  have events : u.lodge.events = v.lodge.events := by rw [g]
  rw [h] at g
  rw [stopped, events]
  exact g

/-- What goes on, and what stays stopped. -/
theorem State.resumeWhere_frame (s : State) (p : Stopped → Bool) : let u := s.resumeWhere p
    u.stopped = s.stopped.filter (fun x => !p x) ∧
    u = { s with cores := u.cores, stopped := u.stopped, lodge := { s.lodge with events := u.lodge.events } } ∧
    ∀ j, u.core j = { s.core j with queues := (u.core j).queues, seats := (u.core j).seats } := by
  intro u
  have dropped := s.dropStopped_frame p
  obtain ⟨rest, core⟩ := State.foldl_resumeWork_frame (s.stopped.filter p) (s.dropStopped p)
  have left : (s.dropStopped p).stopped = s.stopped.filter (fun x => !p x) := by rw [dropped]
  rw [← left] at dropped
  refine ⟨(congrArg State.stopped rest).trans left, State.coresStopped_trans dropped rest, fun j => ?_⟩
  have own := core j
  rw [State.core_congr (show (s.dropStopped p).cores = s.cores by rw [dropped])] at own
  exact own

end Sys2Proof.Machine

namespace Sys2Proof

open Machine

/-! ## What a stop leaves unchanged -/

/-- A stop whose reads are counted, as it is recorded. -/
structure StopRecorded (s : State) (x : Stopped) (r : LiftRead) (u : State) : Prop where
  stopped : u.stopped = s.stopped ++ [x]
  mem : u.mem = s.mem
  registers : ∀ j, (u.core j).g = (s.core j).g
  contexts : u.contexts = s.contexts.map (Context.noteFault x)
  faults : (u.reg Reg.ldgXltFaultCount).toNat = satAdd 32 (s.reg Reg.ldgXltFaultCount).toNat 1
  counts : Counted (liftCounts x.lift r) stopRegs s u
  events : u.lodge.events = s.lodge.events.set (liftCluster x.lift) (if s.lodge.events[liftCluster x.lift].length < 256 then
    s.lodge.events[liftCluster x.lift] ++ [x.note] else s.lodge.events[liftCluster x.lift])

theorem liftCounts_stopRegs {l : Nat} (hl : l < 12) (r : LiftRead) : ∀ o ∈ stopRegs, o ∉ (liftCounts l r).map (·.1) := by
  have all : ∀ l : Fin 12, ∀ o ∈ stopRegs, o ∉ [Reg.lftReqCount l, Reg.lftPkIn l, Reg.lftPkOut l] := by decide
  exact all ⟨l, hl⟩

/-- The stop of work whose reads have been counted, whatever has become of the cores' queues. -/
theorem StopRecorded.of_countRead {s v : State} {x : Stopped} (hl : x.lift < 12) {r : LiftRead}
    (rest : v = { s.countRead x.lift r with cores := v.cores }) (registers : ∀ j, (v.core j).g = (s.core j).g) :
    StopRecorded s x r (v.stopNoted x) := by
  have frame := v.stopNoted_frame x
  have start : v = { s with cores := v.cores, writes := v.writes, deltas := v.deltas, regs := v.regs } :=
    State.rest_of_countRead (rest.trans (by rw [rest]))
  have counts : Counted (liftCounts x.lift r) [] s v := counted_of_countRead hl (rest.trans (by rw [rest]))
  have core : ∀ j, (v.stopNoted x).core j = v.core j := State.core_congr (by rw [frame])
  refine ⟨?_, ?_, fun j => by rw [core, registers], ?_, ?_, ?_, ?_⟩
  · rw [frame, start]
  · rw [frame, start]
  · rw [frame, start]
  · rw [State.reg_stopNoted_count, counts.regs]
    simpa using liftCounts_stopRegs hl r _ (by decide)
  · exact (counts.mono (List.nil_subset _)).of_sameRegs (by rw [frame]) (v.reg_stopNoted x) (liftCounts_stopRegs hl r)
  · rw [State.stopNoted_events, show v.lodge = s.lodge by rw [start]]

/-! ## Claims and fills (R170) -/

theorem gives_streamClaim {s : State} {k : CoreId} {p : CounterId} {st : StageNo} {c : Counter}
    (wants : (s.streamWants k).head? = some (p, st)) (found : s.counters[p] = some c) :
    Gives (.streamClaim k) s (fun u => u = { s with counters := u.counters } ∧
      u.counters[p] = some { c with waiting := c.waiting ++ [.launcher k st] } ∧
      ∀ q, q ≠ p → u.counters[q] = s.counters[q]) := by
  refine ⟨s.addClaim p (.launcher k st), execStreamClaim_of_wants wants, rfl, ?_, fun q hq => ?_⟩
  · rw [State.addClaim_counters, if_pos rfl, found]
    rfl
  · rw [State.addClaim_counters, if_neg hq]

section Fill

variable {s : State} {k : CoreId} {j : StreamNo} {i hn : Nat} {seat : Seat} {h : Held} {d : StreamDesc}

/-- What a fill sends to its slot. -/
structure FillSent (s : State) (k : CoreId) (j : StreamNo) (i hn : Nat) (seat : Seat) (h : Held) (row : Nat) (r : LiftRead)
    (u : State) : Prop where
  cores : ∀ m, m ≠ k → u.core m = s.core m
  counts : Counted (liftCounts k.val r) [] s u
  rest : u = { s with cores := u.cores, writes := u.writes, deltas := u.deltas, regs := u.regs }
  writes : u.writes = s.writes ++ fillWrites k seat h row (rowsOf r.bytes)
  core : u.core k = { s.core k with
    seats := modifyNth (fun x => { x with held := modifyNth (Held.fill j) hn x.held }) i (s.core k).seats }

theorem fillSent (s : State) (k : CoreId) (j : StreamNo) (i hn : Nat) (seat : Seat) (h : Held) (row : Nat) (r : LiftRead) :
    FillSent s k j i hn seat h row r (s.filled k j i hn seat h row r) where
  cores m hm := (State.core_setCore_ne _ _ _ _ hm).trans (State.core_countRead _ _ _ _)
  counts := counted_of_countRead (by omega) rfl
  rest := State.rest_of_countRead rfl
  writes := rfl
  core := by
    have own : ∀ ws, State.core { s.countRead k.val r with writes := ws } k = s.core k := fun _ => State.core_countRead _ _ _ _
    rw [State.filled, State.setSeat, State.core_setCore_same, own]

variable (target : fillTarget s k j = some (i, seat, hn, h, d))

include target

theorem gives_streamFill {row : Nat} (on : s.off = false) (slot : slotRow s k seat d h.slot = some row)
    (read : (fillRead s j seat h d).stop = none) :
    Gives (.streamFill k j) s (FillSent s k j i hn seat h row (fillRead s j seat h d)) := by
  refine ⟨_, ?_, fillSent s k j i hn seat h row (fillRead s j seat h d)⟩
  rw [exec_streamFill, execStreamFill, on, runFill_of_read target slot read]
  rfl

/-- A fill whose rows find no translation stops. -/
theorem gives_fillFault {o a cause level : Nat} (on : s.off = false)
    (read : (fillRead s j seat h d).stop = some (.fault o a cause level))
    (wait : s.faultWaitOf (fillStop s k j seat h (fillRead s j seat h d) o a cause level) ≠ some 0) (cause3 : cause ≠ 3)
    (ctx : ∃ x ∈ s.contexts, x.id = seat.ctx) : Gives (.liftFault (.fill k j)) s (StopRecorded s
      (fillStop s k j seat h (fillRead s j seat h d) o a cause level) (fillRead s j seat h d)) := by
  let x := fillStop s k j seat h (fillRead s j seat h d) o a cause level
  let v := s.countRead k.val (fillRead s j seat h d)
  have frame : v = { s with deltas := v.deltas, regs := v.regs } := s.countRead_frame k.val _
  have contexts : v.contexts = s.contexts := by rw [frame]
  have waits : v.faultWaitOf x ≠ some 0 := by
    rwa [State.faultWaitOf_congr x (s := s) (by rw [frame]) fun c => by rw [State.ctx?, contexts]; rfl]
  have run : plainFill s k j = v.stopNoted x := by
    rw [plainFill, runFill_of_fault target read]
    exact State.addStop_of_waits cause3 waits
  have faults : fillFaults s k j = true := by
    rw [fillFaults, decide_eq_true_eq, run, ← contexts]
    exact State.stopNoted_contexts_ne (contexts ▸ ctx)
  refine ⟨v.stopNoted x, ?_, .of_countRead (by show k.val < 12; omega) rfl fun m => by rw [State.core_countRead]⟩
  rw [exec_liftFault, execLiftFault, on, faults, run]
  rfl

end Fill

/-! ## A command's stop (R171) -/

/-- The stop of a command. -/
def cmdStop (s : State) (k : CoreId) (t : Tile) (n : Nat) (cmd : Cmd) (dest : Bool) (o va cause level : Nat) (got : List Byte) :
    Stopped :=
  ⟨liftOf k cmd.desc, .command k n, t.ctx, BitVec.ofNat 64 va, cause, level, cmd.seq, dest, o, s.gate, none, none, got⟩

/-- A command that is ready has a tile, and stands in the queue. -/
theorem liftReady?_some {s : State} {k : CoreId} {n : Nat} {code : Option Nat} {t : Tile} {cmd : Cmd}
    (ready : liftReady? s k n code = some (t, cmd)) : (s.core k).tile = some t ∧ ((s.core k).queue 2)[n]? = some cmd := by
  unfold liftReady? at ready
  dsimp only at ready
  cases tile : (s.core k).tile with
  | none => simp [tile] at ready
  | some t' =>
    cases found : ((s.core k).queue 2)[n]? with
    | none => simp [tile, found] at ready
    | some c =>
      rw [tile, found] at ready
      obtain ⟨-, same⟩ := Option.ite_none_right_eq_some.1 ready
      cases same
      exact ⟨rfl, rfl⟩

/-- A command's fault waits as long as the tile's own context says (R194). -/
theorem State.faultWaitOf_command {s : State} {k : CoreId} {t t' : Tile} {n : Nat} {cmd : Cmd} {dest : Bool} {o va cause level : Nat}
    {got : List Byte} (v : State) (tile : (s.core k).tile = some t') (ctx : t'.ctx = t.ctx) :
    s.faultWaitOf (cmdStop v k t n cmd dest o va cause level got) = some t'.faultWait := by
  have seat : (cmdStop v k t n cmd dest o va cause level got).seat? s = none := by simp [Stopped.seat?, cmdStop]
  have core : (cmdStop v k t n cmd dest o va cause level got).core = k := rfl
  unfold State.faultWaitOf
  rw [core, tile]
  dsimp only
  rw [seat]
  exact if_pos ctx

/-- A command that finds no translation stops. -/
theorem gives_commandFault {s s1 : State} {k : CoreId} {t : Tile} {n : Nat} {cmd : Cmd} {dest : Bool} {o va cause level : Nat}
    {got : List Byte} (ready : liftReady? s k n none = some (t, cmd))
    (run : liftRun s k t n cmd = .fault s1 dest o va cause level got) (cause3 : cause ≠ 3) (wait : t.faultWait ≠ 0) :
    let x := cmdStop s k t n cmd dest o va cause level got
    Gives (.liftFault (.command k n)) s (fun u =>
      (∃ y, ((u.core k).queue 2)[n]? = some y ∧ y.phase = .stopped ∧ y.desc = cmd.desc) ∧ u.stopped = s.stopped ++ [x] ∧
      (dest = false → StopRecorded s x (s.liftRead k t cmd) u)) := by
  intro x
  obtain ⟨tile, found⟩ := liftReady?_some ready
  obtain ⟨stopped, gate, queues, sig, tile1⟩ := liftRun_fault_keeps run tile
  let v := s1.setCmd k 2 n (fun y => { y with phase := .stopped })
  have core : v.core k = (s1.core k).setQueue 2 (modifyNth (fun y => { y with phase := .stopped }) n ((s1.core k).queue 2)) :=
    State.core_setCmd _ _ _ _ _
  have waits : v.faultWaitOf x ≠ some 0 := by
    have tile2 : (v.core k).tile = some { t with sig := sig } := (congrArg Core.tile core).trans tile1
    have own : v.faultWaitOf x = some t.faultWait := 
      State.faultWaitOf_command (t := t) (t' := { t with sig := sig }) s tile2 rfl
    rw [own]
    simpa using wait
  have stop : stopCommand s1 k t n cmd dest o va cause level got = v.stopNoted x := by
    have same : cmdStop s1 k t n cmd dest o va cause level got = x := by rw [cmdStop, gate]; rfl
    unfold stopCommand
    exact (congrArg v.addStop same).trans (State.addStop_of_waits cause3 waits)
  have frame := v.stopNoted_frame x
  refine ⟨v.stopNoted x, ?_, ⟨{ cmd with phase := .stopped }, ?_, rfl, rfl⟩, ?_, fun source => ?_⟩
  · rw [exec_liftFault, execLiftFault, ← stop]
    simp only [ready, run]
    rfl
  · have queue : (s1.core k).queue 2 = (s.core k).queue 2 := by rw [Core.queue, queues]; rfl
    rw [State.core_congr (show (v.stopNoted x).cores = v.cores by rw [frame]), core, Core.queue_setQueue, if_pos rfl,
      getElem?_modifyNth, queue, found]
    simp
  · rw [frame]
    exact congrArg (· ++ [x]) stopped
  · obtain ⟨-, rfl⟩ := liftRun_fault run
    subst source
    refine .of_countRead (liftOf_lt k _) rfl fun j => ?_
    by_cases own : j = k
    · subst own
      have same := congrArg Core.g (s.core_liftCounted j t cmd j)
      rw [core]
      exact same
    · rw [State.core_setCmd_ne _ own]
      exact congrArg Core.g (s.core_liftCounted k t cmd j)

/-! ## RESUME (R172) -/

theorem gives_liftResume {s : State} {l : LiftId} {f : Stopped} (awake : s.lodge.inReset = false)
    (first : s.stopped.find? (fun x => x.lift == l.val) = some f) {P : State → Prop}
    (holds : P (s.resumeWhere (fun x => x.ctx == f.ctx && x.lift == l.val))) : Gives (.liftResume l) s P := by
  refine ⟨_, ?_, holds⟩
  rw [exec_liftResume, execLiftResume, awake]
  simp only [Bool.false_eq_true, if_false, first]
  rfl

/-- Settles O31: the fill and the stop by the way the run takes, RESUME piece by piece of what was stopped. -/
theorem streamsAndLiftFaults : Obligations.StreamsAndLiftFaults := by
  unfold Obligations.StreamsAndLiftFaults
  refine ⟨fun s k p st c wants => gives_streamClaim wants, fun s k t n => ⟨fun j i hn seat h d on target => ⟨fun row slot read => ?_,
    fun o a cause level read wait cause3 ctx => ?_⟩, fun cmd s1 dest o va cause level got ready run cause3 wait => ?_,
    fun l f awake first => ?_⟩⟩
  · obtain ⟨u, run, sent⟩ := gives_streamFill target on slot read
    refine ⟨u, run, sent.cores, sent.counts, sent.rest, ⟨_, sent.writes, fillWrites_row .., fillWrites_data .., fun x hx => ?_⟩,
      sent.core⟩
    obtain ⟨p, -, rfl⟩ := List.mem_map.1 hx
    exact ⟨rfl, rfl, rfl⟩
  · obtain ⟨u, run, noted⟩ := gives_fillFault target on read wait cause3 ctx
    exact ⟨u, run, noted.stopped, noted.mem, noted.registers, noted.contexts, noted.faults, noted.counts, noted.events⟩
  · obtain ⟨u, exec, queue, stopped, recorded⟩ := gives_commandFault ready run cause3 wait
    refine ⟨(liftRun_fault run).1, u, exec, queue, _, stopped, rfl, rfl, rfl, rfl, rfl, rfl, rfl, rfl, rfl, rfl, rfl, fun source => ?_⟩
    have noted := recorded source
    exact ⟨noted.stopped, noted.mem, noted.registers, noted.contexts, noted.faults, noted.counts, noted.events⟩
  · refine gives_liftResume awake first ?_
    obtain ⟨left, rest, core⟩ := s.resumeWhere_frame (fun x => x.ctx == f.ctx && x.lift == l.val)
    have same : ∀ j, (s.dropStopped (fun x => x.ctx == f.ctx && x.lift == l.val)).core j = s.core j :=
      State.core_congr (by rw [State.dropStopped_frame])
    refine ⟨left, rest, core, fun x mem goes j m c work queued num phase => ?_, fun alone => ?_⟩
    · obtain ⟨y, mem', num', desc, begun⟩ := State.foldl_resumeWork_begins work
        (l := s.stopped.filter (fun x => x.ctx == f.ctx && x.lift == l.val)) (List.mem_filter.2 ⟨mem, goes⟩)
        (s := s.dropStopped _) ⟨c, (same j).symm ▸ queued, num, rfl, phase⟩
      exact ⟨y, mem', num', desc, begun⟩
    · rw [State.resumeWhere, alone, List.foldl_cons, List.foldl_nil]
      refine ⟨fun j m work => ?_, fun j m work i hn y h seat ctx stage held => ?_⟩
      · have own : j = f.core := by rw [Stopped.core, work]
        rw [State.core_resumeWork, if_pos own, same, Stopped.queue_resumed, work]
        rfl
      · have own : j = f.core := by rw [Stopped.core, work]
        rw [State.core_resumeWork, if_pos own, same]
        obtain ⟨y', seat', held'⟩ := Stopped.seats_resumed work (s.core j) seat ctx stage held
        exact ⟨y', _, seat', held', f.handBack_spec m h⟩

end Sys2Proof

/-! PROOF. Where an address of DRAM lies (R296). -/

namespace Sys2Proof.Machine

/-! ## The fields of a block number -/

theorem xorFields_lt (w n v : Nat) : xorFields w n v < 2 ^ w := by
  induction n generalizing v with
  | zero => exact Nat.two_pow_pos w
  | succ n ih => exact Nat.xor_lt_two_pow (Nat.mod_lt _ (Nat.two_pow_pos w)) (ih _)

/-- A field beyond the number's bits adds nothing. -/
theorem xorFields_succ_of_lt {w n v : Nat} (h : v < 2 ^ (w * n)) : xorFields w (n + 1) v = xorFields w n v := by
  induction n generalizing v with
  | zero =>
    have zero : v = 0 := by simpa using h
    simp [xorFields, zero]
  | succ n ih =>
    have rest : v >>> w < 2 ^ (w * n) := by
      rw [Nat.shiftRight_eq_div_pow, Nat.div_lt_iff_lt_mul (Nat.two_pow_pos w), ← Nat.pow_add]
      exact lt_of_lt_of_eq h (by ring_nf)
    rw [xorFields, ih rest, xorFields]

/-- The lowest field comes back from the exclusive or of all and that of the others (R296). -/
theorem low_of_xorFields {w b : Nat} (hw : 0 < w) (hw' : w ≤ 30) :
    xorFields w 30 (b % 2 ^ 30) ^^^ xorFields w 30 (b / 2 ^ w % 2 ^ (30 - w)) = b % 2 ^ w := by
  have high : (b % 2 ^ 30) >>> w = b / 2 ^ w % 2 ^ (30 - w) := by
    rw [Nat.shiftRight_eq_div_pow, show (2 : Nat) ^ 30 = 2 ^ w * 2 ^ (30 - w) by rw [← Nat.pow_add, Nat.add_sub_cancel' hw'],
      Nat.mod_mul_right_div_self]
  have low : b % 2 ^ 30 % 2 ^ w = b % 2 ^ w := Nat.mod_mod_of_dvd b (Nat.pow_dvd_pow 2 hw')
  have short : b / 2 ^ w % 2 ^ (30 - w) < 2 ^ (w * 29) :=
    lt_of_lt_of_le (Nat.mod_lt _ (Nat.two_pow_pos _)) (Nat.pow_le_pow_right (by omega) (by omega))
  rw [xorFields_succ_of_lt short, show xorFields w 30 (b % 2 ^ 30) = (b % 2 ^ 30 % 2 ^ w) ^^^ xorFields w 29 ((b % 2 ^ 30) >>> w)
    from rfl, high, low, Nat.xor_assoc, Nat.xor_self, Nat.xor_zero]

/-! ## Groups -/

theorem State.groupSize_cases (s : State) : (s.groupSize = 8 ∧ groupBits s.groupSize = 3) ∨
    (s.groupSize = 4 ∧ groupBits s.groupSize = 2) ∨ (s.groupSize = 2 ∧ groupBits s.groupSize = 1) := by
  unfold State.groupSize
  split <;> simp [groupBits]

/-- A group of controllers holds as many as the values of a field. -/
theorem State.groupSize_eq (s : State) : s.groupSize = 2 ^ groupBits s.groupSize := by
  obtain ⟨size, bits⟩ | ⟨size, bits⟩ | ⟨size, bits⟩ := s.groupSize_cases <;> rw [bits, size] <;> rfl

theorem State.liveGroups_nodup (s : State) : s.liveGroups.Nodup := List.nodup_range.filter _

/-- A controller of a live group. -/
theorem State.controller_lt {s : State} {g i x : Nat} (live : s.liveGroups[i]? = some g) (hx : x < s.groupSize) :
    g * s.groupSize + x < 8 := by
  have mem := (List.mem_filter.1 (List.mem_of_getElem? live)).1
  rw [List.mem_range] at mem
  obtain ⟨size, -⟩ | ⟨size, -⟩ | ⟨size, -⟩ := s.groupSize_cases <;>
    rw [size] at hx mem ⊢ <;> omega

/-- The bytes of a group's share of usable DRAM (R296). -/
def State.share (s : State) : Nat := s.usable / s.liveGroups.length

/-- The controller of an address in a group. -/
def State.homeOf (s : State) (g a : Nat) : DmcId :=
  Fin.ofNat 8 (g * s.groupSize + xorFields (groupBits s.groupSize) 30 (a % s.share / 4096 % 2 ^ 30))

theorem State.dramAt_of_live {s : State} {a g : Nat} (live : s.liveGroups[a / s.share]? = some g) (size : s.share ≠ 0) :
    s.dramAt a = some (s.homeOf g a, a % s.share / 4096 / 2 ^ groupBits s.groupSize * 4096 + a % 4096) := by
  unfold State.share at live size
  unfold State.dramAt
  dsimp only
  rw [live]
  dsimp only
  rw [if_neg size, Nat.shiftRight_eq_div_pow]
  rfl

theorem State.dramAt_of_dead {s : State} {a : Nat} (dead : s.liveGroups[a / s.share]? = none ∨ s.share = 0) : s.dramAt a = none := by
  unfold State.share at dead
  unfold State.dramAt
  dsimp only
  cases live : s.liveGroups[a / (s.usable / s.liveGroups.length)]? with
  | none => rfl
  | some g =>
    dsimp only
    rw [if_pos (dead.resolve_left (by rw [live]; exact Option.some_ne_none g))]

theorem State.xorFields_lt_groupSize (s : State) (n v : Nat) : xorFields (groupBits s.groupSize) n v < s.groupSize :=
  lt_of_lt_of_eq (xorFields_lt _ _ _) s.groupSize_eq.symm

theorem State.val_homeOf {s : State} {i g : Nat} (a : Nat) (live : s.liveGroups[i]? = some g) :
    (s.homeOf g a).val = g * s.groupSize + xorFields (groupBits s.groupSize) 30 (a % s.share / 4096 % 2 ^ 30) :=
  Nat.mod_eq_of_lt (State.controller_lt live (s.xorFields_lt_groupSize _ _))

/-- A local address tells its block number's high part, and its place in the block. -/
theorem local_div_mod (h a : Nat) : (h * 4096 + a % 4096) / 4096 = h ∧ (h * 4096 + a % 4096) % 4096 = a % 4096 := by omega

/-- The place of an address gives the address (R296). -/
theorem State.dramAddr_of_dramAt {s : State} {a : Nat} {d : DmcId} {l : Nat} (aligned : s.share % 4096 = 0)
    (found : s.dramAt a = some (d, l)) : s.dramAddr d l = a := by
  by_cases dead : s.liveGroups[a / s.share]? = none ∨ s.share = 0
  · rw [State.dramAt_of_dead dead] at found
    cases found
  rw [not_or] at dead
  obtain ⟨g, live⟩ := Option.ne_none_iff_exists'.1 dead.1
  rw [State.dramAt_of_live live dead.2] at found
  cases found
  have home := State.val_homeOf a live
  obtain ⟨w1, w30⟩ : 0 < groupBits s.groupSize ∧ groupBits s.groupSize ≤ 30 := by
    obtain ⟨-, bits⟩ | ⟨-, bits⟩ | ⟨-, bits⟩ := s.groupSize_cases <;> rw [bits] <;> decide
  have low := low_of_xorFields (b := a % s.share / 4096) w1 w30
  have lt := s.xorFields_lt_groupSize 30 (a % s.share / 4096 % 2 ^ 30)
  have group : (s.homeOf g a).val / s.groupSize = g := by
    rw [home, Nat.mul_comm, Nat.mul_add_div (by omega), Nat.div_eq_of_lt lt, Nat.add_zero]
  have member : (s.homeOf g a).val % s.groupSize = xorFields (groupBits s.groupSize) 30 (a % s.share / 4096 % 2 ^ 30) := by
    rw [home, Nat.mul_comm, Nat.mul_add_mod, Nat.mod_eq_of_lt lt]
  obtain ⟨short, at_⟩ := List.getElem?_eq_some_iff.1 live
  have index : s.liveGroups.findIdx? (fun g' => g' == g) = some (a / s.share) := by
    rw [List.findIdx?_eq_some_iff_getElem]
    refine ⟨short, by simp [at_], fun j hj => ?_⟩
    rw [← at_]
    simpa using fun e => absurd ((s.liveGroups_nodup.getElem_inj_iff).1 e) (by omega)
  obtain ⟨high, rem⟩ := local_div_mod (a % s.share / 4096 / 2 ^ groupBits s.groupSize) a
  unfold State.dramAddr
  dsimp only
  rw [group, index, high, rem, member, low, Option.getD_some, Nat.div_add_mod', ← State.share]
  have inner : a % s.share % 4096 = a % 4096 := Nat.mod_mod_of_dvd a (Nat.dvd_of_mod_eq_zero aligned)
  have split := Nat.div_add_mod' (a % s.share) 4096
  have whole := Nat.div_add_mod' a s.share
  omega

end Sys2Proof.Machine

/-! PROOF. What a DRAM channel issues next (R298). -/

namespace Sys2Proof.Machine

/-! ## The first that passes a test -/

/-- The n-th entry of a list is its first that passes a test. -/
structure FirstAt {α : Type} (p : α → Bool) (q : List α) (n : Nat) (r : α) : Prop where
  entry : q[n]? = some r
  passes : p r = true
  before : ∀ m y, m < n → q[m]? = some y → p y = false

theorem firstAt_of_findIdx? {α : Type} {p : α → Bool} {q : List α} {n : Nat} (h : q.findIdx? p = some n) : ∃ r, FirstAt p q n r := by
  obtain ⟨short, passes, before⟩ := List.findIdx?_eq_some_iff_getElem.1 h
  refine ⟨q[n], List.getElem?_eq_getElem short, passes, fun m y less entry => ?_⟩
  obtain ⟨lt, rfl⟩ := List.getElem?_eq_some_iff.1 entry
  simpa using before m less

theorem FirstAt.mem {α : Type} {p : α → Bool} {q : List α} {n : Nat} {r : α} (h : FirstAt p q n r) : r ∈ q :=
  List.mem_of_getElem? h.entry

/-! ## The first class that waits -/

theorem foldl_min_le (l : List Nat) (a : Nat) : l.foldl min a ≤ a ∧ ∀ x ∈ l, l.foldl min a ≤ x := by
  induction l generalizing a with
  | nil => exact ⟨le_refl a, fun _ h => absurd h List.not_mem_nil⟩
  | cons b rest ih =>
    obtain ⟨all, each⟩ := ih (min a b)
    refine ⟨all.trans (min_le_left a b), fun x hx => ?_⟩
    rcases List.mem_cons.1 hx with rfl | hx
    · exact all.trans (min_le_right a x)
    · exact each x hx

theorem foldl_min_mem (l : List Nat) (a : Nat) : l.foldl min a = a ∨ l.foldl min a ∈ l := by
  induction l generalizing a with
  | nil => exact .inl rfl
  | cons b rest ih =>
    rcases ih (min a b) with same | mem
    · rcases min_choice a b with e | e
      · exact .inl (same.trans e)
      · exact .inr (List.mem_cons.2 (.inl (same.trans e)))
    · exact .inr (List.mem_cons_of_mem _ mem)

/-- Rank of the first class that waits in a queue (R298). -/
def bestRank (q : List Queued) : Nat := (q.map (fun x => classRank x.req.cls)).foldl min 4

theorem bestRank_le {q : List Queued} {y : Queued} (h : y ∈ q) : bestRank q ≤ classRank y.req.cls :=
  (foldl_min_le _ 4).2 _ (List.mem_map_of_mem h)

theorem classRank_lt (c : DramClass) : classRank c < 4 := by cases c <;> decide

/-- A queue that is not empty has a request of its first class. -/
theorem exists_bestRank {q : List Queued} (h : q ≠ []) : ∃ y ∈ q, classRank y.req.cls = bestRank q := by
  obtain ⟨y, hy⟩ := List.exists_mem_of_ne_nil q h
  rcases foldl_min_mem (q.map (fun x => classRank x.req.cls)) 4 with four | mem
  · have lt := classRank_lt y.req.cls
    have le := bestRank_le hy
    unfold bestRank at le
    omega
  · obtain ⟨z, hz, rank⟩ := List.mem_map.1 mem
    exact ⟨z, hz, rank⟩

/-! ## The choice -/

/-- A request of a class. -/
def Queued.ofRank (k : Nat) (y : Queued) : Bool := classRank y.req.cls == k

/-- A request of a class that 16 have passed. -/
def Queued.passedOf (k : Nat) (y : Queued) : Bool := classRank y.req.cls == k && decide (16 ≤ y.passed)

/-- A request of a class to an open row. -/
def State.openOf (s : State) (d : DmcId) (k : Nat) (y : Queued) : Bool :=
  classRank y.req.cls == k && s.dmc[d].isOpen (s.queuedPlace d y)

/-- How a channel comes to its next request: the first promoted; else of the first class one that 16 have passed, else one to an open
row, else the first (R298). -/
inductive NextIssue (s : State) (d : DmcId) (q : List Queued) (n : Nat) (r : Queued) : Prop
  | promoted (first : FirstAt (fun y => y.promoted) q n r)
  | passed (none : ∀ y ∈ q, y.promoted = false) (first : FirstAt (Queued.passedOf (bestRank q)) q n r)
  | opened (none : ∀ y ∈ q, y.promoted = false) (fresh : ∀ y ∈ q, y.passedOf (bestRank q) = false)
      (first : FirstAt (s.openOf d (bestRank q)) q n r)
  | oldest (none : ∀ y ∈ q, y.promoted = false) (fresh : ∀ y ∈ q, y.passedOf (bestRank q) = false)
      (closed : ∀ y ∈ q, s.openOf d (bestRank q) y = false) (first : FirstAt (Queued.ofRank (bestRank q)) q n r)

theorem State.nextIssue_eq (s : State) (d : DmcId) (q : List Queued) : s.nextIssue d q =
    (((q.findIdx? (fun y => y.promoted)).or (q.findIdx? (Queued.passedOf (bestRank q)))).or
      (q.findIdx? (s.openOf d (bestRank q)))).or (q.findIdx? (Queued.ofRank (bestRank q))) := by
  show (match q.findIdx? (fun y => y.promoted) with
    | some n => some n
    | none => match q.findIdx? (Queued.passedOf (bestRank q)) with
      | some n => some n
      | none => match q.findIdx? (s.openOf d (bestRank q)) with
        | some n => some n
        | none => q.findIdx? (Queued.ofRank (bestRank q))) = _
  cases q.findIdx? (fun y => y.promoted) <;> cases q.findIdx? (Queued.passedOf (bestRank q)) <;>
    cases q.findIdx? (s.openOf d (bestRank q)) <;> rfl

theorem State.nextIssue_spec {s : State} {d : DmcId} {q : List Queued} {n : Nat} (h : s.nextIssue d q = some n) :
    ∃ r, NextIssue s d q n r := by
  rw [State.nextIssue_eq] at h
  cases promoted : q.findIdx? (fun y => y.promoted) with
  | some m =>
    rw [promoted] at h
    cases h
    exact (firstAt_of_findIdx? promoted).imp fun _ => .promoted
  | none =>
  cases passed : q.findIdx? (Queued.passedOf (bestRank q)) with
  | some m =>
    rw [promoted, passed] at h
    cases h
    exact (firstAt_of_findIdx? passed).imp fun _ => .passed (by simpa using promoted)
  | none =>
  cases opened : q.findIdx? (s.openOf d (bestRank q)) with
  | some m =>
    rw [promoted, passed, opened] at h
    cases h
    exact (firstAt_of_findIdx? opened).imp fun _ => .opened (by simpa using promoted) (by simpa using passed)
  | none =>
    rw [promoted, passed, opened] at h
    exact (firstAt_of_findIdx? h).imp fun _ => .oldest (by simpa using promoted) (by simpa using passed) (by simpa using opened)

/-- A channel issues a request where one waits. -/
theorem State.nextIssue_eq_none {s : State} {d : DmcId} {q : List Queued} : s.nextIssue d q = none ↔ q = [] := by
  rw [State.nextIssue_eq]
  refine ⟨fun h => by_contra fun ne => ?_, fun h => by rw [h]; rfl⟩
  obtain ⟨y, hy, rank⟩ := exists_bestRank ne
  have none := List.findIdx?_eq_none_iff.1 (Option.or_eq_none_iff.1 h).2 y hy
  simp [Queued.ofRank, rank] at none

/-- The class of a request that is chosen unpromoted. -/
theorem NextIssue.rank {s : State} {d : DmcId} {q : List Queued} {n : Nat} {r : Queued} (h : NextIssue s d q n r)
    (none : ∀ y ∈ q, y.promoted = false) : classRank r.req.cls = bestRank q := by
  rcases h with first | ⟨-, first⟩ | ⟨-, -, first⟩ | ⟨-, -, -, first⟩
  · exact absurd first.passes (by simp [none r first.mem])
  · exact beq_iff_eq.1 (Bool.and_eq_true_iff.1 first.passes).1
  · exact beq_iff_eq.1 (Bool.and_eq_true_iff.1 first.passes).1
  · exact beq_iff_eq.1 first.passes

end Sys2Proof.Machine

namespace Sys2Proof

open Machine

/-- R298 of what a channel issues next. -/
theorem nextIssue_choice (s : State) (d : DmcId) (q : List Queued) : (s.nextIssue d q = none ↔ q = []) ∧
    ∀ n, s.nextIssue d q = some n → ∃ r, q[n]? = some r ∧
      let first := fun (p : Queued → Bool) => p r = true ∧ ∀ m y, m < n → q[m]? = some y → p y = false
      let mine := fun (y : Queued) => classRank y.req.cls == classRank r.req.cls
      let passed := fun (y : Queued) => mine y && decide (16 ≤ y.passed)
      let opened := fun (y : Queued) => mine y && s.dmc[d].isOpen (s.queuedPlace d y)
      ((∃ y ∈ q, y.promoted = true) → first (fun y => y.promoted)) ∧
      ((∀ y ∈ q, y.promoted = false) →
        (∀ y ∈ q, classRank r.req.cls ≤ classRank y.req.cls) ∧
        ((∃ y ∈ q, passed y = true) → first passed) ∧
        ((∀ y ∈ q, passed y = false) → ((∃ y ∈ q, opened y = true) → first opened) ∧
          ((∀ y ∈ q, opened y = false) → first mine))) := by
  refine ⟨State.nextIssue_eq_none, fun n h => ?_⟩
  obtain ⟨r, next⟩ := State.nextIssue_spec h
  have clash : ∀ {p : Queued → Bool}, (∀ y ∈ q, p y = false) → (∃ y ∈ q, p y = true) → False := fun none some => by
    obtain ⟨y, hy, passes⟩ := some
    exact absurd passes (by simp [none y hy])
  have entry : q[n]? = some r := by
    rcases next with first | ⟨-, first⟩ | ⟨-, -, first⟩ | ⟨-, -, -, first⟩ <;> exact first.entry
  refine ⟨r, entry, fun some => ?_, fun none => ?_⟩
  · rcases next with first | ⟨none, first⟩ | ⟨none, -, first⟩ | ⟨none, -, -, first⟩
    · exact ⟨first.passes, first.before⟩
    all_goals exact absurd some (clash none)
  rw [next.rank none]
  refine ⟨fun y hy => bestRank_le hy, fun some => ?_, fun fresh => ⟨fun some => ?_, fun closed => ?_⟩⟩
  · rcases next with first | ⟨-, first⟩ | ⟨-, fresh, first⟩ | ⟨-, fresh, -, first⟩
    · exact absurd ⟨r, first.mem, first.passes⟩ (clash none)
    · exact ⟨first.passes, first.before⟩
    all_goals exact absurd some (clash fresh)
  · rcases next with first | ⟨-, first⟩ | ⟨-, -, first⟩ | ⟨-, -, closed, first⟩
    · exact absurd ⟨r, first.mem, first.passes⟩ (clash none)
    · exact absurd ⟨r, first.mem, first.passes⟩ (clash fresh)
    · exact ⟨first.passes, first.before⟩
    · exact absurd some (clash closed)
  · rcases next with first | ⟨-, first⟩ | ⟨-, -, first⟩ | ⟨-, -, -, first⟩
    · exact absurd ⟨r, first.mem, first.passes⟩ (clash none)
    · exact absurd ⟨r, first.mem, first.passes⟩ (clash fresh)
    · exact absurd ⟨r, first.mem, first.passes⟩ (clash closed)
    · exact ⟨first.passes, first.before⟩

end Sys2Proof

/-! PROOF. What the operations of a DRAM controller touch (R298–R302). -/

namespace Sys2Proof.Machine

/-! ## One controller -/

@[simp] theorem State.dmc_setDmc_same (s : State) (d : DmcId) (x : Dmc) : (s.setDmc d x).dmc[d] = x := by
  rw [State.setDmc, Vector.getElem_set_fin, if_pos rfl]

theorem State.dmc_setDmc_ne (s : State) {d e : DmcId} (h : e ≠ d) (x : Dmc) : (s.setDmc d x).dmc[e] = s.dmc[e] := by
  rw [State.setDmc, Vector.getElem_set_fin, if_neg h]

/-- An operation of controller d, which may change the named registers. -/
structure OnDmc (d : DmcId) (offs : List Nat) (s u : State) : Prop where
  rest : u = { s with dmc := u.dmc, regs := u.regs }
  others : ∀ e, e ≠ d → u.dmc[e] = s.dmc[e]
  regs : SameRegs offs s u

theorem OnDmc.refl (d : DmcId) (offs : List Nat) (s : State) : OnDmc d offs s s := ⟨rfl, fun _ _ => rfl, fun _ _ => rfl⟩

theorem OnDmc.trans {d : DmcId} {offs : List Nat} {s t u : State} (h : OnDmc d offs s t) (g : OnDmc d offs t u) :
    OnDmc d offs s u where
  rest := g.rest.trans (by rw [h.rest])
  others e he := (g.others e he).trans (h.others e he)
  regs o ho := (g.regs o ho).trans (h.regs o ho)

theorem OnDmc.mono {d : DmcId} {offs more : List Nat} {s u : State} (h : OnDmc d offs s u) (le : offs ⊆ more) : OnDmc d more s u :=
  ⟨h.rest, h.others, fun o ho => h.regs o fun mem => ho (le mem)⟩

theorem OnDmc.setDmc (d : DmcId) (offs : List Nat) (s : State) (x : Dmc) : OnDmc d offs s (s.setDmc d x) :=
  ⟨rfl, fun _ he => State.dmc_setDmc_ne s he x, fun _ _ => rfl⟩

theorem OnDmc.setReg (d : DmcId) {offs : List Nat} (s : State) {o : Nat} (v : W64) (ho : o ∈ offs) : OnDmc d offs s (s.setReg o v) :=
  ⟨rfl, fun _ _ => rfl, fun _ hp => State.reg_setReg_ne _ _ _ _ fun e => hp (e ▸ ho)⟩

section Same

variable {d : DmcId} {offs : List Nat} {s u : State} (h : OnDmc d offs s u)

include h

theorem OnDmc.mem : u.mem = s.mem := by rw [h.rest]
theorem OnDmc.gate : u.gate = s.gate := by rw [h.rest]
theorem OnDmc.board : u.board = s.board := by rw [h.rest]
theorem OnDmc.reports : u.reports = s.reports := by rw [h.rest]
theorem OnDmc.reservedUsed : u.reservedUsed = s.reservedUsed := by rw [h.rest]

theorem OnDmc.fld {o : Nat} (ho : o ∉ offs) (hi lo : Nat) : u.fld o hi lo = s.fld o hi lo := by
  rw [State.fld, State.fld, h.regs o ho]

end Same

/-! ## Upkeep -/

/-- Upkeep of controller d: its requests stay, and what it fails for. -/
structure UpkeepOn (d : DmcId) (offs : List Nat) (s u : State) : Prop extends OnDmc d offs s u where
  kept : u.dmc[d] = { s.dmc[d] with
    postponed := u.dmc[d].postponed, openRows := u.dmc[d].openRows, rolling := u.dmc[d].rolling
    activates := u.dmc[d].activates, neighbours := u.dmc[d].neighbours, history := u.dmc[d].history }

theorem UpkeepOn.refl (d : DmcId) (offs : List Nat) (s : State) : UpkeepOn d offs s s := ⟨.refl d offs s, rfl⟩

theorem UpkeepOn.trans {d : DmcId} {offs : List Nat} {s t u : State} (h : UpkeepOn d offs s t) (g : UpkeepOn d offs t u) :
    UpkeepOn d offs s u := ⟨h.toOnDmc.trans g.toOnDmc, g.kept.trans (by rw [h.kept])⟩

theorem UpkeepOn.mono {d : DmcId} {offs more : List Nat} {s u : State} (h : UpkeepOn d offs s u) (le : offs ⊆ more) :
    UpkeepOn d more s u := ⟨h.toOnDmc.mono le, h.kept⟩

theorem UpkeepOn.setDmc (d : DmcId) (offs : List Nat) (s : State) {x : Dmc} (kept : x = { s.dmc[d] with
    postponed := x.postponed, openRows := x.openRows, rolling := x.rolling, activates := x.activates, neighbours := x.neighbours
    history := x.history }) : UpkeepOn d offs s (s.setDmc d x) :=
  ⟨.setDmc d offs s x, by rw [State.dmc_setDmc_same]; exact kept⟩

theorem UpkeepOn.setReg (d : DmcId) {offs : List Nat} (s : State) {o : Nat} (v : W64) (ho : o ∈ offs) :
    UpkeepOn d offs s (s.setReg o v) := ⟨.setReg d s v ho, rfl⟩

section Kept

variable {d : DmcId} {offs : List Nat} {s u : State} (h : UpkeepOn d offs s u)

include h

theorem UpkeepOn.queues : u.dmc[d].queues = s.dmc[d].queues := by rw [h.kept]
theorem UpkeepOn.input : u.dmc[d].input = s.dmc[d].input := by rw [h.kept]
theorem UpkeepOn.failing : u.dmc[d].failing = s.dmc[d].failing := by rw [h.kept]
theorem UpkeepOn.selfRefresh : u.dmc[d].selfRefresh = s.dmc[d].selfRefresh := by rw [h.kept]
theorem UpkeepOn.initialised : u.dmc[d].initialised = s.dmc[d].initialised := by rw [h.kept]

end Kept

/-! ## Commands that a channel issues -/

theorem State.issued_dmc (s : State) (d : DmcId) (ch : ChannelId) (c : DramCmd) (loc : W64) : (s.issued d ch c loc).dmc[d] =
    { s.dmc[d] with history :=
      s.dmc[d].history.set ch ((⟨s.gate, Config.dramCommand c loc⟩ :: s.dmc[d].history[ch]).take 64) } :=
  State.dmc_setDmc_same _ _ _

theorem UpkeepOn.issued (d : DmcId) (offs : List Nat) (s : State) (ch : ChannelId) (c : DramCmd) (loc : W64) :
    UpkeepOn d offs s (s.issued d ch c loc) := .setDmc d offs s rfl

/-- A run of commands leaves the controller's rows and counts. -/
theorem UpkeepOn.foldl_issued {α : Type} (d : DmcId) (offs : List Nat) (s : State) (ch : ChannelId) (c : DramCmd) (loc : α → W64)
    (l : List α) : let u := l.foldl (fun s b => s.issued d ch c (loc b)) s
    UpkeepOn d offs s u ∧ u.regs = s.regs ∧ u.dmc[d] = { s.dmc[d] with history := u.dmc[d].history } := by
  refine List.foldlRecOn (motive := fun u : State => UpkeepOn d offs s u ∧ u.regs = s.regs ∧
    u.dmc[d] = { s.dmc[d] with history := u.dmc[d].history }) _ _ ⟨.refl d offs s, rfl, rfl⟩ fun u hu b _ => ?_
  obtain ⟨upkeep, regs, same⟩ := hu
  refine ⟨upkeep.trans (.issued d offs u ch c (loc b)), regs, ?_⟩
  rw [State.issued_dmc, same]

/-! ## One activate (R301, R302) -/

/-- The draw of R302 for a channel's k-th activate. -/
def State.drawn (s : State) (d : DmcId) (ch : ChannelId) (k : Nat) : Bool :=
  decide (draw24 (s.reg (Reg.dmcNrSeed d.val)) (0xFF00 + 4 * d.val + ch.val) k < 2 ^ (24 - s.fld (Reg.dmcCtrl d.val) 23 20))

/-- The rows that the activate of a row brings neighbour refresh, where it is drawn. -/
def State.nearOf (s : State) (d : DmcId) (ch : ChannelId) (bank row : Nat) : List (Nat × Nat) :=
  if s.drawn d ch s.dmc[d].activates[ch] then (s.adjacent d row).map (fun r => (bank, r)) else []

/-- What an activate leaves of the rows and counts of its controller. -/
structure Activated (d : DmcId) (ch : ChannelId) (bank row : Nat) (s u : State) : Prop where
  upkeep : UpkeepOn d [Reg.dmcNrCount d.val] s u
  postponed : u.dmc[d].postponed = s.dmc[d].postponed
  activates : u.dmc[d].activates = s.dmc[d].activates.set ch (s.dmc[d].activates[ch] + 1)
  openRows : u.dmc[d].openRows = s.dmc[d].openRows.filter (fun r => r.1 != bank)
  rolling : u.dmc[d].rolling = writeOne 0 s.dmc[d].rolling bank (lookupD 0 s.dmc[d].rolling bank + 1)
  neighbours : u.dmc[d].neighbours = s.nearOf d ch bank row ++ s.dmc[d].neighbours
  count : u.reg (Reg.dmcNrCount d.val) = if s.drawn d ch s.dmc[d].activates[ch] then
    BitVec.ofNat 64 (satAdd 64 (s.reg (Reg.dmcNrCount d.val)).toNat 1) else s.reg (Reg.dmcNrCount d.val)

/-- The controller once a row has been activated, its command not yet in the history. -/
def State.activated (s : State) (d : DmcId) (ch : ChannelId) (bank row : Nat) : Dmc :=
  { s.dmc[d] with
    activates := s.dmc[d].activates.set ch (s.dmc[d].activates[ch] + 1)
    openRows := s.dmc[d].openRows.filter (fun r => r.1 != bank)
    rolling := writeOne 0 s.dmc[d].rolling bank (lookupD 0 s.dmc[d].rolling bank + 1)
    neighbours := s.nearOf d ch bank row ++ s.dmc[d].neighbours }

theorem State.activateRow_spec (s : State) (d : DmcId) (ch : ChannelId) (bank row : Nat) :
    Activated d ch bank row s (s.activateRow d ch bank row) := by
  let v := (s.setDmc d (s.activated d ch bank row)).issued d ch .activate (bankLoc bank ||| BitVec.ofNat 64 (row * 2 ^ 32))
  have run : s.activateRow d ch bank row = if s.drawn d ch s.dmc[d].activates[ch] then v.inc (Reg.dmcNrCount d.val) 64 1 else v := rfl
  have dmc : (s.activateRow d ch bank row).dmc = v.dmc := by
    rw [run]
    split <;> rfl
  have own := State.issued_dmc (s.setDmc d (s.activated d ch bank row)) d ch .activate
    (bankLoc bank ||| BitVec.ofNat 64 (row * 2 ^ 32))
  rw [State.dmc_setDmc_same] at own
  have upkeep : UpkeepOn d [Reg.dmcNrCount d.val] s v := (UpkeepOn.setDmc d _ s rfl).trans (.issued _ _ _ _ _ _)
  refine ⟨?_, ?_, ?_, ?_, ?_, ?_, ?_⟩
  case refine_1 =>
    rw [run]
    split
    · exact upkeep.trans (.setReg d v _ (List.mem_singleton.2 rfl))
    · exact upkeep
  case refine_7 =>
    rw [run]
    split
    · exact State.reg_setReg_same _ _ _
    · rfl
  all_goals
    rw [dmc, own]
    rfl

/-! ## Neighbour refresh (R301, R302) -/

/-- One neighbour refresh: its row leaves the list, and is activated. -/
def State.refreshRow (s : State) (d : DmcId) (ch : ChannelId) (bank : Nat) (r : Nat × Nat) : State :=
  (s.setDmc d { s.dmc[d] with neighbours := s.dmc[d].neighbours.erase r }).activateRow d ch bank r.2

/-- Neighbour refresh goes on where a row is due and the bank not full. -/
theorem State.refreshNear_succ (d : DmcId) (ch : ChannelId) (bank n : Nat) (s : State) : State.refreshNear d ch bank (n + 1) s =
    match s.dmc[d].neighbours.find? (fun r => r.1 == bank) with
    | none => s
    | some r => if s.bankFull d bank then s else State.refreshNear d ch bank n (s.refreshRow d ch bank r) := rfl

/-- What holds of one neighbour refresh after another holds of all. -/
theorem State.refreshNear_induct {d : DmcId} {ch : ChannelId} {bank : Nat} {P : State → State → Prop} (refl : ∀ s, P s s)
    (step : ∀ s u r, r ∈ s.dmc[d].neighbours → r.1 = bank → s.bankFull d bank = false → P (s.refreshRow d ch bank r) u → P s u)
    (n : Nat) (s : State) : P s (State.refreshNear d ch bank n s) := by
  induction n generalizing s with
  | zero => exact refl s
  | succ n ih =>
    rw [State.refreshNear_succ]
    split
    · exact refl s
    · next r found =>
      split
      · exact refl s
      · next full =>
        exact step s _ r (List.mem_of_find?_eq_some found) (by simpa using List.find?_some found) (by simpa using full) (ih _)

section RefreshRow

variable (s : State) (d : DmcId) (ch : ChannelId) (bank : Nat) (r : Nat × Nat)

theorem State.refreshRow_spec : let u := s.refreshRow d ch bank r
    UpkeepOn d [Reg.dmcNrCount d.val] s u ∧ u.dmc[d].postponed = s.dmc[d].postponed ∧
    u.dmc[d].activates = s.dmc[d].activates.set ch (s.dmc[d].activates[ch] + 1) ∧
    u.dmc[d].openRows = s.dmc[d].openRows.filter (fun r => r.1 != bank) ∧
    u.dmc[d].rolling = writeOne 0 s.dmc[d].rolling bank (lookupD 0 s.dmc[d].rolling bank + 1) ∧
    u.dmc[d].neighbours = s.nearOf d ch bank r.2 ++ s.dmc[d].neighbours.erase r := by
  have activated := State.activateRow_spec (s.setDmc d { s.dmc[d] with neighbours := s.dmc[d].neighbours.erase r }) d ch bank r.2
  obtain ⟨upkeep, postponed, activates, openRows, rolling, neighbours, -⟩ := activated
  unfold State.nearOf State.adjacent at neighbours
  rw [State.dmc_setDmc_same] at postponed activates openRows rolling neighbours
  exact ⟨(UpkeepOn.setDmc d _ s rfl).trans upkeep, postponed, activates, openRows, rolling, neighbours⟩

end RefreshRow

/-- The rows of a bank. -/
theorem State.nearOf_bank {s : State} {d : DmcId} {ch : ChannelId} {bank row : Nat} {x : Nat × Nat}
    (h : x ∈ s.nearOf d ch bank row) : x.1 = bank := by
  unfold State.nearOf at h
  split at h
  · obtain ⟨r, -, rfl⟩ := List.mem_map.1 h
    rfl
  · exact absurd h List.not_mem_nil

/-- What neighbour refresh of a bank leaves. -/
structure Refreshed (d : DmcId) (ch : ChannelId) (bank : Nat) (s u : State) : Prop where
  upkeep : UpkeepOn d [Reg.dmcNrCount d.val] s u
  postponed : u.dmc[d].postponed = s.dmc[d].postponed
  neighbours : ∀ b, b ≠ bank → ∀ row, (b, row) ∈ u.dmc[d].neighbours ↔ (b, row) ∈ s.dmc[d].neighbours
  openRows : ∀ b, b ≠ bank → ∀ row, (b, row) ∈ u.dmc[d].openRows ↔ (b, row) ∈ s.dmc[d].openRows
  activates : s.dmc[d].activates[ch] ≤ u.dmc[d].activates[ch]
  canonical : canonical 0 s.dmc[d].rolling = true → canonical 0 u.dmc[d].rolling = true
  counted : lookupD 0 u.dmc[d].rolling bank + s.dmc[d].activates[ch] = lookupD 0 s.dmc[d].rolling bank + u.dmc[d].activates[ch]
  others : ∀ b, b ≠ bank → lookupD 0 u.dmc[d].rolling b = lookupD 0 s.dmc[d].rolling b
  bound : ∀ m, s.board.rfm = some m →
    lookupD 0 u.dmc[d].rolling bank ≤ max m.maximum (lookupD 0 s.dmc[d].rolling bank)

theorem Refreshed.refl (d : DmcId) (ch : ChannelId) (bank : Nat) (s : State) : Refreshed d ch bank s s :=
  ⟨.refl d _ s, rfl, fun _ _ _ => Iff.rfl, fun _ _ _ => Iff.rfl, le_refl _, id, rfl, fun _ _ => rfl,
    fun _ _ => le_max_right _ _⟩

/-- A bank that may take an activate has fewer than the device allows (R301). -/
theorem State.lt_of_bankFull {s : State} {d : DmcId} {bank : Nat} (h : s.bankFull d bank = false) {m : RefreshManagement}
    (hm : s.board.rfm = some m) : lookupD 0 s.dmc[d].rolling bank < m.maximum := by
  rw [State.bankFull, hm] at h
  simpa using h

theorem Refreshed.step {d : DmcId} {ch : ChannelId} {bank : Nat} {s u : State} {r : Nat × Nat} (hr : r.1 = bank)
    (room : s.bankFull d bank = false) (h : Refreshed d ch bank (s.refreshRow d ch bank r) u) : Refreshed d ch bank s u ∧
    s.dmc[d].activates[ch] < u.dmc[d].activates[ch] := by
  obtain ⟨upkeep, postponed, activates, openRows, rolling, neighbours⟩ := s.refreshRow_spec d ch bank r
  have one : (s.refreshRow d ch bank r).dmc[d].activates[ch] = s.dmc[d].activates[ch] + 1 := by
    rw [activates, Vector.getElem_set_fin, if_pos rfl]
  have more := h.activates
  have total := h.counted
  rw [one] at more total
  rw [rolling, lookupD_writeOne, if_pos rfl] at total
  refine ⟨⟨upkeep.trans h.upkeep, h.postponed.trans postponed, fun b hb row => ?_, fun b hb row => ?_, by omega,
    fun hc => h.canonical (rolling ▸ canonical_writeOne 0 _ _ _ hc), by omega, fun b hb => ?_, fun m hm => ?_⟩, by omega⟩
  · rw [h.neighbours b hb, neighbours, List.mem_append, List.mem_erase_of_ne (fun e => hb (by rw [← hr, ← e]))]
    exact or_iff_right fun near => hb (State.nearOf_bank near)
  · rw [h.openRows b hb, openRows, List.mem_filter]
    simp [hb]
  · rw [h.others b hb, rolling, lookupD_writeOne, if_neg hb]
  · have bound := h.bound m (by rw [upkeep.board]; exact hm)
    rw [rolling, lookupD_writeOne, if_pos rfl] at bound
    have lt := State.lt_of_bankFull room hm
    omega

theorem State.refreshNear_spec (d : DmcId) (ch : ChannelId) (bank n : Nat) (s : State) :
    Refreshed d ch bank s (State.refreshNear d ch bank n s) :=
  State.refreshNear_induct (P := Refreshed d ch bank) (.refl d ch bank) (fun _ _ _ _ hr room h => (h.step hr room).1) n s

/-- Neighbour refresh makes progress where a row is due and the bank not full. -/
theorem State.refreshNear_progress {d : DmcId} {ch : ChannelId} {bank n : Nat} {s : State} {r : Nat} {rest : List (Nat × Nat)}
    (first : s.dmc[d].neighbours = (bank, r) :: rest) (room : s.bankFull d bank = false) (hn : n ≠ 0) :
    s.dmc[d].activates[ch] < (State.refreshNear d ch bank n s).dmc[d].activates[ch] := by
  obtain ⟨m, rfl⟩ := Nat.exists_eq_succ_of_ne_zero hn
  have found : s.dmc[d].neighbours.find? (fun r => r.1 == bank) = some (bank, r) := by rw [first]; simp
  rw [State.refreshNear_succ, found]
  dsimp only
  rw [room, if_neg Bool.false_ne_true]
  exact (Refreshed.step (r := (bank, r)) rfl room (State.refreshNear_spec d ch bank m _)).2

/-- A bank with nothing due is left as it is. -/
theorem State.refreshNear_of_none {d : DmcId} {bank : Nat} {s : State} (h : ∀ b ∈ s.dmc[d].neighbours, b.1 ≠ bank)
    (ch : ChannelId) (n : Nat) : State.refreshNear d ch bank n s = s := by
  cases n with
  | zero => rfl
  | succ n =>
    have none : s.dmc[d].neighbours.find? (fun r => r.1 == bank) = none := by
      rw [List.find?_eq_none]
      simpa using h
    rw [State.refreshNear_succ, none]

end Sys2Proof.Machine

namespace Sys2Proof

open Machine

/-- R301, R302 of the neighbour refresh that is due in a bank. -/
theorem refreshNear_leaves (s : State) (d : DmcId) (ch : ChannelId) (bank n : Nat) :
    let x := s.dmc[d]
    let u := State.refreshNear d ch bank n s
    let y := u.dmc[d]
    u = { s with dmc := u.dmc, regs := u.regs } ∧ SameRegs [Reg.dmcNrCount d] s u ∧ y.queues = x.queues ∧ y.input = x.input ∧
    (∀ b, b ≠ bank → (∀ row, (b, row) ∈ y.neighbours ↔ (b, row) ∈ x.neighbours) ∧
      (∀ row, (b, row) ∈ y.openRows ↔ (b, row) ∈ x.openRows)) ∧
    (canonical 0 x.rolling = true →
      lookupD 0 y.rolling bank + x.activates[ch] = lookupD 0 x.rolling bank + y.activates[ch] ∧
      (∀ b, b ≠ bank → lookupD 0 y.rolling b = lookupD 0 x.rolling b) ∧
      ∀ m, s.board.rfm = some m → lookupD 0 y.rolling bank ≤ max m.maximum (lookupD 0 x.rolling bank)) ∧
    (∀ r rest, x.neighbours = (bank, r) :: rest → s.bankFull d bank = false → n ≠ 0 → x.activates[ch] < y.activates[ch]) := by
  have h := State.refreshNear_spec d ch bank n s
  exact ⟨h.upkeep.rest, h.upkeep.regs, h.upkeep.queues, h.upkeep.input, fun b hb => ⟨h.neighbours b hb, h.openRows b hb⟩,
    fun _ => ⟨h.counted, h.others, h.bound⟩, fun r rest => State.refreshNear_progress⟩

end Sys2Proof

/-! PROOF. Counts of activates, refresh management and refresh (R301). -/

namespace Sys2Proof.Machine

/-! ## Counts of activates -/

theorem lookupD_of_forall_ne {α : Type} (d : α) {m : List (Nat × α)} {x : Nat} (h : ∀ c ∈ m, c.1 ≠ x) : lookupD d m x = d := by
  simpa using lookupD_append_right d m [] x h

/-- An entry is what its key reads as, where each key stands once. -/
theorem lookupD_of_mem {α : Type} (d : α) {m : List (Nat × α)} (h : m.Pairwise (fun x y => x.1 < y.1)) {b : Nat} {v : α}
    (mem : (b, v) ∈ m) : lookupD d m b = v := by
  induction m with
  | nil => exact absurd mem List.not_mem_nil
  | cons c rest ih =>
    obtain ⟨first, later⟩ := List.pairwise_cons.1 h
    rw [lookupD_cons]
    rcases List.mem_cons.1 mem with rfl | mem
    · exact if_pos rfl
    · rw [if_neg (by have := first _ mem; dsimp only at this; omega), ih later mem]

/-- A key that does not read as the rest has an entry. -/
theorem mem_of_lookupD_ne {α : Type} {d : α} {m : List (Nat × α)} {b : Nat} (h : lookupD d m b ≠ d) : (b, lookupD d m b) ∈ m := by
  induction m with
  | nil => exact absurd rfl h
  | cons c rest ih =>
    rw [lookupD_cons] at h ⊢
    split
    · next same => exact List.mem_cons.2 (.inl (by rw [same]))
    · next other =>
      rw [if_neg other] at h
      exact List.mem_cons_of_mem _ (ih h)

theorem lowerCounts_cons (b v : Nat) (rest : List (Nat × Nat)) (p : Nat → Bool) (n : Nat) : lowerCounts ((b, v) :: rest) p n =
    if (if p b then v - n else v) ≠ 0 then (b, if p b then v - n else v) :: lowerCounts rest p n else lowerCounts rest p n := by
  unfold lowerCounts
  rw [List.map_cons, List.filter_cons]
  by_cases named : p b = true
  · simp [named]
  · simp [named]

/-- A lowered count had an entry. -/
theorem mem_lowerCounts {l : List (Nat × Nat)} {p : Nat → Bool} {n : Nat} {c : Nat × Nat} (h : c ∈ lowerCounts l p n) :
    (∃ v, (c.1, v) ∈ l) ∧ c.2 ≠ 0 := by
  obtain ⟨mapped, nonzero⟩ := List.mem_filter.1 h
  obtain ⟨e, mem, rfl⟩ := List.mem_map.1 mapped
  refine ⟨⟨e.2, ?_⟩, by simpa using nonzero⟩
  split <;> exact mem

theorem canonical_lowerCounts {l : List (Nat × Nat)} (h : canonical 0 l = true) (p : Nat → Bool) (n : Nat) :
    canonical 0 (lowerCounts l p n) = true := by
  rw [canonical_iff] at h ⊢
  refine ⟨List.Pairwise.filter _ (List.pairwise_map.2 (h.1.imp fun {a b} lt => ?_)), fun c hc => (mem_lowerCounts hc).2⟩
  split <;> split <;> exact lt

theorem lookupD_lowerCounts {l : List (Nat × Nat)} (h : l.Pairwise (fun x y => x.1 < y.1)) (p : Nat → Bool) (n b : Nat) :
    lookupD 0 (lowerCounts l p n) b = if p b then lookupD 0 l b - n else lookupD 0 l b := by
  induction l with
  | nil => simp [lowerCounts]
  | cons c rest ih =>
    obtain ⟨a, v⟩ := c
    obtain ⟨first, later⟩ := List.pairwise_cons.1 h
    rw [lowerCounts_cons, lookupD_cons]
    by_cases same : b = a
    · subst same
      have gone : lookupD 0 rest b = 0 := lookupD_of_forall_ne 0 fun c hc => (first c hc).ne'
      rw [if_pos rfl]
      generalize (if p b = true then v - n else v) = w
      split
      · rw [lookupD_cons, if_pos rfl]
      · next zero =>
        rw [ih later, gone, Nat.zero_sub, ite_self]
        exact (not_not.1 zero).symm
    · rw [if_neg same]
      generalize (if p a = true then v - n else v) = w
      split
      · rw [lookupD_cons, if_neg same, ih later]
      · exact ih later

/-- The count of a bank, lowered where a test names the bank. -/
theorem lookupD_lowerCounts_le {l : List (Nat × Nat)} (h : canonical 0 l = true) (p : Nat → Bool) (n b : Nat) :
    lookupD 0 (lowerCounts l p n) b ≤ lookupD 0 l b := by
  rw [lookupD_lowerCounts ((canonical_iff 0 l).1 h).1]
  split
  · exact Nat.sub_le _ _
  · exact le_refl _

/-! ## Refresh management (R301) -/

/-- The banks at the device's threshold. -/
theorem State.mem_rfmBanks {s : State} {d : DmcId} (h : canonical 0 s.dmc[d].rolling = true) {m : RefreshManagement}
    (hm : s.board.rfm = some m) (pos : 0 < m.threshold) (ch : ChannelId) (b : Nat) :
    b ∈ s.rfmBanks d ch ↔ b / 32 = ch.val ∧ m.threshold ≤ lookupD 0 s.dmc[d].rolling b := by
  have sorted := ((canonical_iff 0 _).1 h).1
  rw [State.rfmBanks, hm]
  simp only [List.mem_map, List.mem_filter, Bool.and_eq_true, beq_iff_eq, decide_eq_true_eq]
  constructor
  · rintro ⟨⟨b', v⟩, ⟨mem, channel, reached⟩, rfl⟩
    exact ⟨channel, by rw [lookupD_of_mem 0 sorted mem]; exact reached⟩
  · rintro ⟨channel, reached⟩
    exact ⟨(b, lookupD 0 s.dmc[d].rolling b), ⟨mem_of_lookupD_ne (by omega), channel, reached⟩, rfl⟩

/-- What refresh management that is due leaves. -/
structure Managed (d : DmcId) (ch : ChannelId) (s u : State) : Prop where
  upkeep : UpkeepOn d [Reg.dmcRfmCount d.val] s u
  postponed : u.dmc[d].postponed = s.dmc[d].postponed
  openRows : u.dmc[d].openRows = s.dmc[d].openRows
  neighbours : u.dmc[d].neighbours = s.dmc[d].neighbours
  activates : u.dmc[d].activates = s.dmc[d].activates
  rolling : u.dmc[d].rolling = if s.rfmBanks d ch = [] then s.dmc[d].rolling
    else lowerCounts s.dmc[d].rolling (s.rfmBanks d ch).contains ((s.board.rfm.map (·.threshold)).getD 0)
  count : u.reg (Reg.dmcRfmCount d.val) = if (s.rfmBanks d ch).isEmpty = true then s.reg (Reg.dmcRfmCount d.val) else
    BitVec.ofNat 64 (satAdd 64 (s.reg (Reg.dmcRfmCount d.val)).toNat (s.rfmBanks d ch).length)

theorem State.issueRfm_of_none {s : State} {d : DmcId} {ch : ChannelId} (h : s.rfmBanks d ch = []) : s.issueRfm d ch = s := by
  simp [State.issueRfm, h]

theorem State.issueRfm_spec (s : State) (d : DmcId) (ch : ChannelId) : Managed d ch s (s.issueRfm d ch) := by
  by_cases none : s.rfmBanks d ch = []
  · rw [State.issueRfm_of_none none]
    exact ⟨.refl d _ s, rfl, rfl, rfl, rfl, (if_pos none).symm, (if_pos (by simp [none])).symm⟩
  have some : (s.rfmBanks d ch).isEmpty = false := by simpa using none
  let x : Dmc := { s.dmc[d] with
    rolling := lowerCounts s.dmc[d].rolling (s.rfmBanks d ch).contains ((s.board.rfm.map (·.threshold)).getD 0) }
  let v := (s.setDmc d x).inc (Reg.dmcRfmCount d.val) 64 (s.rfmBanks d ch).length
  have run : s.issueRfm d ch = (s.rfmBanks d ch).foldl (fun s b => s.issued d ch .manage (bankLoc b)) v :=
    if_neg (by rw [some]; exact Bool.false_ne_true)
  obtain ⟨upkeep, regs, own⟩ := UpkeepOn.foldl_issued d [Reg.dmcRfmCount d.val] v ch .manage bankLoc (s.rfmBanks d ch)
  have set : v.dmc[d] = x := State.dmc_setDmc_same s d x
  rw [← run] at upkeep regs own
  rw [set] at own
  refine ⟨((UpkeepOn.setDmc d _ s rfl).trans (.setReg d _ _ (List.mem_singleton.2 rfl))).trans upkeep, ?_, ?_, ?_, ?_, ?_, ?_⟩
  case refine_5 =>
    rw [own, if_neg none]
  case refine_6 =>
    rw [State.reg_congr regs, some, if_neg Bool.false_ne_true]
    exact State.reg_setReg_same _ _ _
  all_goals rw [own]

/-- Refresh management lowers the count of each bank at the threshold by the threshold (R301). -/
theorem State.lookupD_issueRfm {s : State} {d : DmcId} (h : canonical 0 s.dmc[d].rolling = true) {m : RefreshManagement}
    (hm : s.board.rfm = some m) (pos : 0 < m.threshold) (ch : ChannelId) (b : Nat) :
    lookupD 0 (s.issueRfm d ch).dmc[d].rolling b = if b / 32 = ch.val ∧ m.threshold ≤ lookupD 0 s.dmc[d].rolling b then
      lookupD 0 s.dmc[d].rolling b - m.threshold else lookupD 0 s.dmc[d].rolling b := by
  have named := State.mem_rfmBanks h hm pos ch b
  rw [(s.issueRfm_spec d ch).rolling]
  split
  · next none =>
    rw [none] at named
    rw [if_neg fun at_ => absurd (named.2 at_) List.not_mem_nil]
  · rw [lookupD_lowerCounts ((canonical_iff 0 _).1 h).1, hm]
    simp only [List.contains_iff_mem, named, Option.map_some, Option.getD_some]

/-- Counts never rise by refresh management. -/
theorem Managed.rolling_le {d : DmcId} {ch : ChannelId} {s u : State} (h : Managed d ch s u)
    (hc : canonical 0 s.dmc[d].rolling = true) : canonical 0 u.dmc[d].rolling = true ∧
    ∀ b, lookupD 0 u.dmc[d].rolling b ≤ lookupD 0 s.dmc[d].rolling b := by
  rw [h.rolling]
  split
  · exact ⟨hc, fun _ => le_refl _⟩
  · exact ⟨canonical_lowerCounts hc _ _, lookupD_lowerCounts_le hc _ _⟩

/-! ## Refresh (R301; log 116) -/

/-- Banks by falling counts. -/
def moreActivates (a b : Nat × Nat) : Bool := decide (b.2 < a.2)

/-- The head of a list has the highest count. -/
def HeadHasMost (l : List (Nat × Nat)) : Prop := ∀ c, l.head? = some c → ∀ x ∈ l, x.2 ≤ c.2

theorem HeadHasMost.insertWith {l : List (Nat × Nat)} (h : HeadHasMost l) (a : Nat × Nat) :
    HeadHasMost (insertWith moreActivates a l) := by
  cases l with
  | nil =>
    intro c hc x hx
    cases hc
    rw [List.mem_singleton.1 hx]
  | cons b rest =>
    have top := h b rfl
    intro c hc x hx
    have member := (mem_insertWith _ _ _).1 hx
    rw [Machine.insertWith] at hc
    by_cases less : b.2 < a.2
    · rw [if_pos (by simpa [moreActivates] using less)] at hc
      cases hc
      rcases member with rfl | mem
      · exact le_refl _
      · exact (top x mem).trans less.le
    · rw [if_neg (by simpa [moreActivates] using less)] at hc
      cases hc
      rcases member with rfl | mem
      · exact not_lt.1 less
      · exact top x mem

theorem HeadHasMost.sortWith (l : List (Nat × Nat)) : HeadHasMost (sortWith moreActivates l) :=
  List.foldlRecOn (motive := HeadHasMost) l _ (fun _ h => by cases h) fun _ h a _ => h.insertWith a

/-- The bank to refresh: one of the channel's with the most activates, where one has any. -/
theorem worstBank_spec (l : List (Nat × Nat)) (ch : Nat) : (worstBank l ch = none ∧ ∀ c ∈ l, c.1 / 32 ≠ ch) ∨
    ∃ c ∈ l, worstBank l ch = some c.1 ∧ c.1 / 32 = ch ∧ ∀ b v, (b, v) ∈ l → b / 32 = ch → v ≤ c.2 := by
  have run : worstBank l ch = (sortWith moreActivates (l.filter (fun r => r.1 / 32 == ch))).head?.map (·.1) := rfl
  have mem : ∀ x, x ∈ sortWith moreActivates (l.filter (fun r => r.1 / 32 == ch)) ↔ x ∈ l ∧ x.1 / 32 = ch := fun x => by
    rw [mem_sortWith, List.mem_filter, beq_iff_eq]
  cases head : (sortWith moreActivates (l.filter (fun r => r.1 / 32 == ch))).head? with
  | none =>
    refine .inl ⟨by rw [run, head]; rfl, fun c hc channel => ?_⟩
    exact absurd ((mem c).2 ⟨hc, channel⟩) (by rw [List.head?_eq_none_iff.1 head]; exact List.not_mem_nil)
  | some c =>
    obtain ⟨listed, channel⟩ := (mem c).1 (List.mem_of_head? head)
    exact .inr ⟨c, listed, by rw [run, head]; rfl, channel, fun b v hb own => HeadHasMost.sortWith _ c head (b, v)
      ((mem (b, v)).2 ⟨hb, own⟩)⟩

/-- The bank that a refresh of a channel goes to. -/
def State.refreshed (s : State) (d : DmcId) (ch : ChannelId) : Nat := (worstBank s.dmc[d].rolling ch.val).getD (32 * ch.val)

/-- A refresh goes to a bank of its channel. -/
theorem State.refreshed_channel (s : State) (d : DmcId) (ch : ChannelId) : s.refreshed d ch / 32 = ch.val := by
  unfold State.refreshed
  rcases worstBank_spec s.dmc[d].rolling ch.val with ⟨none, -⟩ | ⟨c, -, some, channel, -⟩
  · rw [none, Option.getD_none]
    omega
  · rw [some, Option.getD_some, channel]

/-- What a refresh leaves. -/
structure BankRefreshed (d : DmcId) (ch : ChannelId) (s u : State) : Prop where
  upkeep : UpkeepOn d [] s u
  regs : u.regs = s.regs
  postponed : u.dmc[d].postponed = s.dmc[d].postponed.set ch (s.dmc[d].postponed[ch] - 1)
  openRows : u.dmc[d].openRows = s.dmc[d].openRows.filter (fun r => r.1 != s.refreshed d ch)
  rolling : u.dmc[d].rolling = match s.board.rfm with
    | some r => lowerCounts s.dmc[d].rolling (fun y => y == s.refreshed d ch) r.credit
    | none => s.dmc[d].rolling

/-- The controller once a bank has been refreshed, its command not yet in the history. -/
def State.bankRefreshed (s : State) (d : DmcId) (ch : ChannelId) : Dmc :=
  { s.dmc[d] with
    postponed := s.dmc[d].postponed.set ch (s.dmc[d].postponed[ch] - 1)
    openRows := s.dmc[d].openRows.filter (fun r => r.1 != s.refreshed d ch)
    rolling := match s.board.rfm with
      | some r => lowerCounts s.dmc[d].rolling (fun y => y == s.refreshed d ch) r.credit
      | none => s.dmc[d].rolling }

theorem State.refreshBank_spec (s : State) (d : DmcId) (ch : ChannelId) : BankRefreshed d ch s (s.refreshBank d ch) := by
  have run : s.refreshBank d ch = (s.setDmc d (s.bankRefreshed d ch)).issued d ch .refresh (bankLoc (s.refreshed d ch)) := rfl
  have own := State.issued_dmc (s.setDmc d (s.bankRefreshed d ch)) d ch .refresh (bankLoc (s.refreshed d ch))
  rw [← run, State.dmc_setDmc_same] at own
  refine ⟨(UpkeepOn.setDmc d [] s rfl).trans (.issued _ _ _ _ _ _), rfl, ?_, ?_, ?_⟩
  all_goals
    rw [own]
    rfl

/-- Counts never rise by a refresh, and only that of the bank falls. -/
theorem BankRefreshed.rolling_le {d : DmcId} {ch : ChannelId} {s u : State} (h : BankRefreshed d ch s u)
    (hc : canonical 0 s.dmc[d].rolling = true) : canonical 0 u.dmc[d].rolling = true ∧
    ∀ b, lookupD 0 u.dmc[d].rolling b ≤ lookupD 0 s.dmc[d].rolling b ∧
      (b / 32 ≠ ch.val → lookupD 0 u.dmc[d].rolling b = lookupD 0 s.dmc[d].rolling b) := by
  rw [h.rolling]
  split
  · refine ⟨canonical_lowerCounts hc _ _, fun b => ⟨lookupD_lowerCounts_le hc _ _ b, fun other => ?_⟩⟩
    rw [lookupD_lowerCounts ((canonical_iff 0 _).1 hc).1, if_neg]
    intro same
    rw [beq_iff_eq.1 same, State.refreshed_channel] at other
    exact other rfl
  · exact ⟨hc, fun _ => ⟨le_refl _, fun _ => rfl⟩⟩

/-- A refresh goes to a bank of the channel that has the most activates, closes it, and lowers its count by the device's credit. -/
theorem BankRefreshed.worst {d : DmcId} {ch : ChannelId} {s u : State} (h : BankRefreshed d ch s u) (b v : Nat)
    (listed : (b, v) ∈ s.dmc[d].rolling) (channel : b / 32 = ch.val) : ∃ c w, (c, w) ∈ s.dmc[d].rolling ∧ c / 32 = ch.val ∧ v ≤ w ∧
    (∀ row, (c, row) ∉ u.dmc[d].openRows) ∧
    (canonical 0 s.dmc[d].rolling = true → ∀ m, s.board.rfm = some m → lookupD 0 u.dmc[d].rolling c = w - m.credit) := by
  rcases worstBank_spec s.dmc[d].rolling ch.val with ⟨-, none⟩ | ⟨c, mem, some, own, most⟩
  · exact absurd channel (none _ listed)
  have bank : s.refreshed d ch = c.1 := by rw [State.refreshed, some, Option.getD_some]
  refine ⟨c.1, c.2, mem, own, most b v listed channel, fun row opened => ?_, fun hc m hm => ?_⟩
  · rw [h.openRows, bank] at opened
    simp at opened
  · have sorted := ((canonical_iff 0 _).1 hc).1
    rw [h.rolling, hm]
    dsimp only
    rw [lookupD_lowerCounts sorted, bank, if_pos (beq_self_eq_true c.1), lookupD_of_mem 0 sorted mem]

/-! ## What falls due before a request (R298) -/

/-- As many refreshes are postponed as the standard permits. -/
def State.refreshForced (s : State) (d : DmcId) (ch : ChannelId) : Prop :=
  s.dmc[d].postponed[ch] ≠ 0 ∧ Config.refreshPostpone ≤ s.dmc[d].postponed[ch]

/-- What is due before a request: refresh management, and then a refresh where it is forced. -/
theorem State.issueDue_cases (s : State) (d : DmcId) (ch : ChannelId) :
    (s.refreshForced d ch ∧ s.issueDue d ch = (s.issueRfm d ch).refreshBank d ch) ∨
    (¬ s.refreshForced d ch ∧ s.issueDue d ch = s.issueRfm d ch) := by
  have same := (s.issueRfm_spec d ch).postponed
  unfold State.issueDue State.refreshForced
  dsimp only
  rw [same]
  by_cases forced : s.dmc[d].postponed[ch] ≠ 0 ∧ Config.refreshPostpone ≤ s.dmc[d].postponed[ch]
  · exact .inl ⟨forced, if_pos (by simpa using forced)⟩
  · exact .inr ⟨forced, if_neg (by simpa using forced)⟩

/-- What falls due before a request leaves the requests, and counts no activate up. -/
structure DueIssued (d : DmcId) (ch : ChannelId) (s u : State) : Prop where
  upkeep : UpkeepOn d [Reg.dmcRfmCount d.val] s u
  forced : s.refreshForced d ch → u.dmc[d].postponed = s.dmc[d].postponed.set ch (s.dmc[d].postponed[ch] - 1)
  free : ¬ s.refreshForced d ch → u.dmc[d].postponed = s.dmc[d].postponed
  count : u.reg (Reg.dmcRfmCount d.val) = if (s.rfmBanks d ch).isEmpty = true then s.reg (Reg.dmcRfmCount d.val) else
    BitVec.ofNat 64 (satAdd 64 (s.reg (Reg.dmcRfmCount d.val)).toNat (s.rfmBanks d ch).length)
  rolling : canonical 0 s.dmc[d].rolling = true → canonical 0 u.dmc[d].rolling = true ∧
    ∀ b, lookupD 0 u.dmc[d].rolling b ≤ lookupD 0 s.dmc[d].rolling b
  idle : ¬ s.refreshForced d ch → (s.rfmBanks d ch).isEmpty = true → u = s

theorem State.issueDue_spec (s : State) (d : DmcId) (ch : ChannelId) : DueIssued d ch s (s.issueDue d ch) := by
  have managed := s.issueRfm_spec d ch
  rcases s.issueDue_cases d ch with ⟨forced, run⟩ | ⟨free, run⟩
  · have refreshed := (s.issueRfm d ch).refreshBank_spec d ch
    rw [run]
    refine ⟨managed.upkeep.trans (refreshed.upkeep.mono (List.nil_subset _)), fun _ => by rw [refreshed.postponed, managed.postponed],
      fun free => absurd forced free, by rw [State.reg_congr refreshed.regs, managed.count], fun hc => ?_,
      fun free => absurd forced free⟩
    obtain ⟨canonical1, le1⟩ := managed.rolling_le hc
    obtain ⟨canonical2, le2⟩ := refreshed.rolling_le canonical1
    exact ⟨canonical2, fun b => (le2 b).1.trans (le1 b)⟩
  · rw [run]
    exact ⟨managed.upkeep, fun forced => absurd forced free, fun _ => managed.postponed, managed.count, managed.rolling_le,
      fun _ none => State.issueRfm_of_none (List.isEmpty_iff.1 none)⟩

end Sys2Proof.Machine

/-! PROOF. Requests at a controller's input (R158, R295, R297, R303). -/

namespace Sys2Proof.Machine

/-! ## Where an address lies -/

/-- An address lies where the configuration, the controllers' states and the board say. -/
theorem State.dramAt_congr {s u : State} (board : u.board = s.board) (cfg : u.reg (Reg.dmcCfg 0) = s.reg (Reg.dmcCfg 0))
    (status : ∀ g, u.reg (Reg.dmcStatus g) = s.reg (Reg.dmcStatus g)) : u.dramAt = s.dramAt := by
  have size : u.groupSize = s.groupSize := by rw [State.groupSize, State.groupSize, State.fld, State.fld, cfg]
  have state : u.dmcState = s.dmcState := funext fun g => by rw [State.dmcState, State.dmcState, State.fld, State.fld, status]
  have live : u.liveGroups = s.liveGroups := by rw [State.liveGroups, State.liveGroups, size, state]
  funext a
  unfold State.dramAt State.usable
  rw [size, live, board]

theorem State.dmcBytes_congr {s u : State} (board : u.board = s.board) (cfg : u.reg (Reg.dmcCfg 0) = s.reg (Reg.dmcCfg 0))
    (status : ∀ g, u.reg (Reg.dmcStatus g) = s.reg (Reg.dmcStatus g)) : u.dmcBytes = s.dmcBytes := by
  have size : u.groupSize = s.groupSize := by rw [State.groupSize, State.groupSize, State.fld, State.fld, cfg]
  have state : u.dmcState = s.dmcState := funext fun g => by rw [State.dmcState, State.dmcState, State.fld, State.fld, status]
  have live : u.liveGroups = s.liveGroups := by rw [State.liveGroups, State.liveGroups, size, state]
  unfold State.dmcBytes State.usable
  rw [size, live, board]

/-! ## Initialised blocks (R295) -/

/-- The registers that follow the mark. -/
def markRegs (d : DmcId) : List Nat := [Reg.dmcInitMark d.val, Reg.dmcStatus d.val]

/-- Initialising a block touches the list of blocks, and the registers of the mark. -/
theorem State.initialise_on (s : State) (d : DmcId) (block : Nat) : OnDmc d (markRegs d) s (s.initialise d block) ∧
    (s.initialise d block).dmc[d] = { s.dmc[d] with initialised := (s.initialise d block).dmc[d].initialised } := by
  have mark : ∀ l m, OnDmc d (markRegs d) s (s.withMark d l m) := fun l m =>
    (OnDmc.setDmc d _ s _).trans (.setReg d _ _ List.mem_cons_self)
  have own : ∀ l m, (s.withMark d l m).dmc[d] = { s.dmc[d] with initialised := l.filter (fun b => decide (m ≤ b)) } := fun l m =>
    State.dmc_setDmc_same _ _ _
  obtain same | ⟨l, m, moved | top⟩ := s.initialise_cases d block
  · rw [same]
    exact ⟨.refl d _ s, rfl⟩
  · rw [moved]
    exact ⟨mark l m, by rw [own]⟩
  · have flagged : ((s.withMark d l m).setFlag (Reg.dmcStatus d.val) 3 true).dmc = (s.withMark d l m).dmc := rfl
    rw [top]
    refine ⟨(mark l m).trans (.setReg d _ _ (List.mem_cons_of_mem _ List.mem_cons_self)), ?_⟩
    rw [flagged, own]

/-! ## A request enters its queue -/

/-- The requests that a controller holds, at its input and in its queues. -/
def Dmc.requests (x : Dmc) : List DramRequest := (x.input ++ x.queues.toList.flatten).map (·.req)

/-- What taking requests in from the input touches: memory, the queues, the blocks initialised and their registers. -/
structure TakenIn (d : DmcId) (s u : State) : Prop where
  rest : u = { s with dmc := u.dmc, mem := u.mem, regs := u.regs }
  others : ∀ e, e ≠ d → u.dmc[e] = s.dmc[e]
  regs : SameRegs (markRegs d) s u
  kept : u.dmc[d] = { s.dmc[d] with
    input := u.dmc[d].input, queues := u.dmc[d].queues, initialised := u.dmc[d].initialised }

theorem TakenIn.refl (d : DmcId) (s : State) : TakenIn d s s := ⟨rfl, fun _ _ => rfl, fun _ _ => rfl, rfl⟩

theorem TakenIn.trans {d : DmcId} {s t u : State} (h : TakenIn d s t) (g : TakenIn d t u) : TakenIn d s u where
  rest := g.rest.trans (by rw [h.rest])
  others e he := (g.others e he).trans (h.others e he)
  regs o ho := (g.regs o ho).trans (h.regs o ho)
  kept := g.kept.trans (by rw [h.kept])

theorem TakenIn.of_onDmc {d : DmcId} {s u : State} (h : OnDmc d (markRegs d) s u) (kept : u.dmc[d] = { s.dmc[d] with
    input := u.dmc[d].input, queues := u.dmc[d].queues, initialised := u.dmc[d].initialised }) : TakenIn d s u where
  rest := h.rest.trans (by rw [h.mem])
  others := h.others
  regs := h.regs
  kept := kept

/-- A queue with one request more. -/
def Dmc.withRequest (x : Dmc) (ch : ChannelId) (q : Queued) : Dmc := { x with queues := x.queues.set ch (x.queues[ch] ++ [q]) }

/-- A request in its channel's queue: a write has been made. -/
theorem State.acceptDram_spec (s : State) (d : DmcId) (l : Nat) (r : DramRequest) (promoted : Bool) :
    let u := s.acceptDram d l r promoted
    TakenIn d s u ∧ u.dmc[d].input = s.dmc[d].input ∧ u.dmc[d].queues =
      (s.dmc[d].withRequest (placeChannel (placeOf d l)) ⟨r, promoted, 0, s.gate, none⟩).queues ∧
    ∀ a, u.byteAt a = if r.write = true ∧ r.addr ≤ a ∧ a < r.addr + r.data.length then r.data.getD (a - r.addr) 0
      else s.byteAt a := by
  intro u
  let x := s.dmc[d].withRequest (placeChannel (placeOf d l)) ⟨r, promoted, 0, s.gate, none⟩
  let v := s.setDmc d x
  have run : u = if r.write then (if r.whole then (v.wr r.addr r.data).initialise d (l / 64) else v.wr r.addr r.data) else v := rfl
  have own : v.dmc[d] = x := State.dmc_setDmc_same s d x
  have queued : TakenIn d s v := .of_onDmc (.setDmc d _ s x) (by rw [own]; rfl)
  cases write : r.write with
  | false =>
    rw [run, write, if_neg Bool.false_ne_true]
    exact ⟨queued, by rw [own]; rfl, by rw [own], fun a => (if_neg fun h => absurd h.1 (by simp)).symm⟩
  | true =>
    have written : TakenIn d s (v.wr r.addr r.data) := queued.trans ⟨rfl, fun _ _ => rfl, fun _ _ => rfl, rfl⟩
    have own' : (v.wr r.addr r.data).dmc[d] = x := own
    have bytes : ∀ a, (v.wr r.addr r.data).byteAt a = if true = true ∧ r.addr ≤ a ∧ a < r.addr + r.data.length then
        r.data.getD (a - r.addr) 0 else s.byteAt a := fun a => by
      rw [State.byteAt_wr]
      simp only [true_and]
      rfl
    obtain ⟨initialised, same⟩ := (v.wr r.addr r.data).initialise_on d (l / 64)
    rw [run, write, if_pos rfl]
    split
    · refine ⟨written.trans (.of_onDmc initialised (same.trans (by rw [same]))), by rw [same, own']; rfl, by rw [same, own'],
        fun a => (State.byteAt_congr (State.initialise_mem _ _ _) a).trans (bytes a)⟩
    · exact ⟨written, by rw [own']; rfl, by rw [own'], bytes⟩

/-- A write of a whole block initialises it when it enters its queue (R295). -/
theorem State.acceptDram_of_whole (s : State) (d : DmcId) (l : Nat) {r : DramRequest} (write : r.write = true)
    (whole : r.whole = true) (promoted : Bool) : s.acceptDram d l r promoted = ((s.setDmc d (s.dmc[d].withRequest
      (placeChannel (placeOf d l)) ⟨r, promoted, 0, s.gate, none⟩)).wr r.addr r.data).initialise d (l / 64) :=
  (if_pos write).trans (if_pos whole)

/-- One request more in a queue is one request more in all. -/
theorem flatten_set_append {α : Type} {n : Nat} (v : Vector (List α) n) (i : Fin n) (z : α) :
    ((v.set i (v[i] ++ [z])).toList.flatten).Perm (z :: v.toList.flatten) := by
  have short : i.val < v.toList.length := by simp
  have entry : v[i] = v.toList[i.val] := by simp
  have parts : v.toList.flatten = (v.toList.take i.val).flatten ++ (v.toList[i.val] ++ (v.toList.drop (i.val + 1)).flatten) := by
    conv_lhs => rw [← List.take_append_drop i.val v.toList, List.drop_eq_getElem_cons short]
    rw [List.flatten_append, List.flatten_cons]
  rw [Vector.toList_set, List.set_eq_take_append_cons_drop, if_pos short, List.flatten_append, List.flatten_cons, parts, entry,
    List.append_assoc, List.singleton_append, ← List.append_assoc, ← List.append_assoc]
  exact List.perm_middle

theorem Dmc.requests_withRequest (x : Dmc) (ch : ChannelId) (q : Queued) :
    (x.withRequest ch q).requests.Perm (q.req :: x.requests) := by
  have all := (List.perm_append_left_iff x.input).2 (flatten_set_append x.queues ch q)
  exact ((all.trans List.perm_middle).map (·.req))

/-! ## The input port (R153, R297) -/

/-- The input port takes one request in, where its channel has room. -/
def State.takeIn (d : DmcId) (s : State) (q : Queued) : State :=
  match s.dramAt q.req.addr with
  | some x =>
    let ch := placeChannel (placeOf d x.2)
    if queueRoom s.dmc[d].queues[ch] q.req.cls then
      (s.setDmc d { s.dmc[d] with input := s.dmc[d].input.erase q }).acceptDram d x.2 q.req false
    else s
  | none => s

theorem State.drainPort_eq (s : State) (d : DmcId) :
    s.drainPort d = (sortWith portBefore s.dmc[d].input).foldl (State.takeIn d) s := rfl

/-- Requests at the input come into the queues: none is lost or made twice, and none in a queue moves. -/
structure Drained (d : DmcId) (s u : State) : Prop extends TakenIn d s u where
  requests : u.dmc[d].requests.Perm s.dmc[d].requests
  behind : ∀ c : ChannelId, ∃ more, u.dmc[d].queues[c] = s.dmc[d].queues[c] ++ more

theorem Drained.refl (d : DmcId) (s : State) : Drained d s s := ⟨.refl d s, .refl _, fun _ => ⟨[], (List.append_nil _).symm⟩⟩

theorem Drained.trans {d : DmcId} {s t u : State} (h : Drained d s t) (g : Drained d t u) : Drained d s u where
  toTakenIn := h.toTakenIn.trans g.toTakenIn
  requests := g.requests.trans h.requests
  behind c := by
    obtain ⟨more, first⟩ := h.behind c
    obtain ⟨more', second⟩ := g.behind c
    exact ⟨more ++ more', by rw [second, first, List.append_assoc]⟩

/-- A request that is taken in leaves the input; another stays there. -/
theorem State.takeIn_spec (d : DmcId) (s : State) {q : Queued} (mem : q ∈ s.dmc[d].input) : Drained d s (State.takeIn d s q) ∧
    ((State.takeIn d s q).dmc[d].input = s.dmc[d].input.erase q ∨ (State.takeIn d s q).dmc[d].input = s.dmc[d].input) := by
  unfold State.takeIn
  split
  · next x _ =>
    dsimp only
    split
    · let v := s.setDmc d { s.dmc[d] with input := s.dmc[d].input.erase q }
      have own : v.dmc[d] = { s.dmc[d] with input := s.dmc[d].input.erase q } := State.dmc_setDmc_same _ _ _
      have left : TakenIn d s v := .of_onDmc (.setDmc d _ s _) (by rw [own])
      obtain ⟨taken, input, queues, -⟩ := v.acceptDram_spec d x.2 q.req false
      rw [own] at input queues
      refine ⟨⟨left.trans taken, ?_, fun c => ?_⟩, .inl input⟩
      · have entered : ((v.acceptDram d x.2 q.req false).dmc[d]).requests = (Dmc.withRequest { s.dmc[d] with
            input := s.dmc[d].input.erase q } (placeChannel (placeOf d x.2)) ⟨q.req, false, 0, v.gate, none⟩).requests := by
          rw [Dmc.requests, input, queues]
          rfl
        rw [entered]
        refine (Dmc.requests_withRequest _ _ _).trans ?_
        exact (((List.perm_cons_erase mem).symm.append_right s.dmc[d].queues.toList.flatten).map (·.req))
      · rw [queues, Dmc.withRequest, Vector.getElem_set_fin]
        split
        · next same => exact ⟨_, by rw [← same]⟩
        · exact ⟨[], (List.append_nil _).symm⟩
    · exact ⟨.refl d s, .inr rfl⟩
  · exact ⟨.refl d s, .inr rfl⟩

theorem State.foldl_takeIn (d : DmcId) (l : List Queued) (s : State) (h : l.Subperm s.dmc[d].input) :
    Drained d s (l.foldl (State.takeIn d) s) := by
  induction l generalizing s with
  | nil => exact .refl d s
  | cons q rest ih =>
    have mem : q ∈ s.dmc[d].input := h.subset List.mem_cons_self
    obtain ⟨drained, input⟩ := State.takeIn_spec d s mem
    refine drained.trans (ih _ ?_)
    rcases input with taken | waits
    · rw [taken]
      simpa using h.erase q
    · rw [waits]
      exact (List.sublist_cons_self q rest).subperm.trans h

theorem insertWith_perm {α : Type} (lt : α → α → Bool) (a : α) (l : List α) : (insertWith lt a l).Perm (a :: l) := by
  induction l with
  | nil => exact .refl _
  | cons b rest ih =>
    rw [insertWith]
    split
    · exact .refl _
    · exact (ih.cons b).trans (.swap a b rest)

theorem sortWith_perm {α : Type} (lt : α → α → Bool) (l : List α) : (sortWith lt l).Perm l := by
  have all : ∀ acc : List α, (l.foldl (fun s a => insertWith lt a s) acc).Perm (acc ++ l) := by
    induction l with
    | nil => exact fun acc => by rw [List.append_nil]; exact .refl _
    | cons b rest ih =>
      exact fun acc => (ih _).trans (((insertWith_perm lt b acc).append_right rest).trans List.perm_middle.symm)
  exact all []

theorem State.drainPort_spec (s : State) (d : DmcId) : Drained d s (s.drainPort d) := by
  rw [State.drainPort_eq]
  exact State.foldl_takeIn d _ s (sortWith_perm portBefore s.dmc[d].input).subperm

/-- With nothing at the input nothing comes in. -/
theorem State.drainPort_of_nil {s : State} {d : DmcId} (h : s.dmc[d].input = []) : s.drainPort d = s := by
  rw [State.drainPort_eq, h]
  rfl

/-! ## A request arrives -/

/-- The controller with one request more at its input. -/
def Dmc.arrived (x : Dmc) (q : Queued) : Dmc := { x with input := x.input ++ [q] }

theorem Dmc.requests_arrived (x : Dmc) (q : Queued) : (x.arrived q).requests.Perm (q.req :: x.requests) := by
  have all : (x.input ++ [q] ++ x.queues.toList.flatten).Perm (q :: (x.input ++ x.queues.toList.flatten)) := by
    rw [List.append_assoc]
    exact List.perm_middle
  exact all.map (·.req)

/-- The state in which a request has come to its controller's input. -/
def State.dramArrival (s : State) (d : DmcId) (r : DramRequest) : State :=
  s.setDmc d (s.dmc[d].arrived ⟨r, false, 0, s.gate, none⟩)

theorem State.dramAt_dramArrival (s : State) (d : DmcId) (r : DramRequest) : (s.dramArrival d r).dramAt = s.dramAt :=
  State.dramAt_congr rfl rfl fun _ => rfl

/-- A controller that is put back. -/
theorem State.setDmc_setDmc_getElem (s : State) (d : DmcId) (x : Dmc) : (s.setDmc d x).setDmc d s.dmc[d] = s := by
  simp [State.setDmc, Vector.set_set, Vector.set_getElem_self]

section Arrival

variable {s : State} {d : DmcId} (runs : s.dmcRuns d = true) (r : DramRequest)

include runs

theorem State.enqueueDram_eq : s.enqueueDram d r = (s.dramArrival d r).drainPort d := if_pos runs

/-- A running controller takes a request at its input, and loses none. -/
theorem State.enqueueDram_requests : let u := s.enqueueDram d r
    u.dmc[d].requests.Perm (r :: s.dmc[d].requests) ∧ (∀ e, e ≠ d → u.dmc[e] = s.dmc[e]) ∧
    u.dmc[d].scrubBlock = s.dmc[d].scrubBlock := by
  have drained := (s.dramArrival d r).drainPort_spec d
  have own : (s.dramArrival d r).dmc[d] = s.dmc[d].arrived ⟨r, false, 0, s.gate, none⟩ := State.dmc_setDmc_same _ _ _
  intro u
  have run : u = (s.dramArrival d r).drainPort d := State.enqueueDram_eq runs r
  rw [run]
  refine ⟨drained.requests.trans ?_, fun e he => (drained.others e he).trans (State.dmc_setDmc_ne s he _), ?_⟩
  · rw [own]
    exact Dmc.requests_arrived _ _
  · rw [drained.kept, own]
    rfl

variable (empty : s.dmc[d].input = [])

include empty

/-- A request that comes to an empty input is taken in at once, or waits. -/
theorem State.enqueueDram_of_empty : s.enqueueDram d r = State.takeIn d (s.dramArrival d r) ⟨r, false, 0, s.gate, none⟩ := by
  have own : (s.dramArrival d r).dmc[d].input = [⟨r, false, 0, s.gate, none⟩] := by
    rw [State.dramArrival, State.dmc_setDmc_same, Dmc.arrived, empty]
    rfl
  rw [State.enqueueDram_eq runs, State.drainPort_eq, own]
  rfl

/-- A request that comes to an empty input enters its queue where that has room. -/
theorem State.enqueueDram_of_room {l : Nat} (at_ : s.dramAt r.addr = some (d, l))
    (room : queueRoom s.dmc[d].queues[placeChannel (placeOf d l)] r.cls = true) : s.enqueueDram d r = s.acceptDram d l r false := by
  have own : (s.dramArrival d r).dmc[d] = s.dmc[d].arrived ⟨r, false, 0, s.gate, none⟩ := State.dmc_setDmc_same _ _ _
  have input : (s.dmc[d].arrived ⟨r, false, 0, s.gate, none⟩).input.erase ⟨r, false, 0, s.gate, none⟩ = s.dmc[d].input := by
    show (s.dmc[d].input ++ [_]).erase _ = s.dmc[d].input
    rw [empty, List.nil_append, List.erase_cons_head]
  have back : { (s.dramArrival d r).dmc[d] with
      input := (s.dramArrival d r).dmc[d].input.erase ⟨r, false, 0, s.gate, none⟩ } = s.dmc[d] := by
    rw [own, input]
    rfl
  rw [State.enqueueDram_of_empty runs r empty, State.takeIn, State.dramAt_dramArrival, at_]
  dsimp only
  rw [if_pos (by rw [own]; exact room), back, State.dramArrival, State.setDmc_setDmc_getElem]

/-- A request that comes to an empty input waits where its queue has no room. -/
theorem State.enqueueDram_of_full {l : Nat} (at_ : s.dramAt r.addr = some (d, l))
    (full : queueRoom s.dmc[d].queues[placeChannel (placeOf d l)] r.cls = false) : s.enqueueDram d r = s.dramArrival d r := by
  have own : (s.dramArrival d r).dmc[d] = s.dmc[d].arrived ⟨r, false, 0, s.gate, none⟩ := State.dmc_setDmc_same _ _ _
  rw [State.enqueueDram_of_empty runs r empty, State.takeIn, State.dramAt_dramArrival, at_]
  dsimp only
  rw [if_neg (by rw [own]; exact Bool.eq_false_iff.1 full)]

/-- A request that writes nothing leaves memory, whether it is taken in or not. -/
theorem State.byteAt_enqueueDram (nothing : r.write = false ∨ r.data = []) (a : Nat) :
    (s.enqueueDram d r).byteAt a = s.byteAt a := by
  rw [State.enqueueDram_of_empty runs r empty]
  unfold State.takeIn
  split
  · dsimp only
    split
    · obtain ⟨-, -, -, bytes⟩ := State.acceptDram_spec ((s.dramArrival d r).setDmc d { (s.dramArrival d r).dmc[d] with
        input := (s.dramArrival d r).dmc[d].input.erase ⟨r, false, 0, s.gate, none⟩ }) d _ r false
      refine (bytes a).trans (if_neg fun written => ?_)
      obtain ⟨write, above, below⟩ := written
      rcases nothing with read | none
      · exact absurd write (by simp [read])
      · rw [none, List.length_nil] at below
        omega
    · rfl
  · rfl

end Arrival

/-! ## The mark rises (R295) -/

/-- The mark rises past blocks that a test names, no further than it counts, and no further than they go. -/
theorem markUp_spec {p : Nat → Bool} {top : Nat} (named : ∀ b, p b = true → b < top) (n m : Nat) :
    m ≤ markUp p n m ∧ markUp p n m ≤ max m top ∧ (n ≠ 0 → p m = true → m < markUp p n m) := by
  induction n generalizing m with
  | zero => exact ⟨le_refl m, le_max_left m top, fun h => absurd rfl h⟩
  | succ n ih =>
    rw [markUp]
    split
    · next here =>
      obtain ⟨rises, bound, -⟩ := ih (m + 1)
      have below := named m here
      exact ⟨by omega, by omega, fun _ _ => by omega⟩
    · next stays => exact ⟨le_refl m, le_max_left m top, fun _ here => absurd here stays⟩

section Mark

variable {s : State} {d : DmcId} {block : Nat}

theorem State.markWith_spec (s : State) (d : DmcId) (block : Nat) : s.initMark d ≤ s.markWith d block ∧
    s.markWith d block ≤ max (s.initMark d) (s.dmcBytes / 64) ∧
    (block = s.initMark d → block < s.dmcBytes / 64 → block < s.markWith d block) := by
  have listed : block ∈ s.blocksWith d block := List.mem_append_right _ (List.mem_singleton.2 rfl)
  obtain ⟨rises, bound, more⟩ := markUp_spec (p := fun b => decide (b < s.dmcBytes / 64) && (s.blocksWith d block).contains b)
    (top := s.dmcBytes / 64) (fun b hb => of_decide_eq_true (Bool.and_eq_true_iff.1 hb).1) (s.blocksWith d block).length (s.initMark d)
  refine ⟨rises, bound, fun at_ below => ?_⟩
  rw [← at_] at more
  refine (more (List.length_pos_of_mem listed).ne' ?_).trans_eq (by rw [at_]; rfl)
  rw [Bool.and_eq_true, decide_eq_true_eq, List.contains_iff_mem]
  exact ⟨below, listed⟩

/-- A block that is initialised lies below the mark, or is listed; the mark is where it was, or has risen, and at the top the
controller says so. -/
theorem State.initialise_mark (new : ¬ block < s.initMark d) (small : s.dmcBytes < 2 ^ 64) :
    (s.initialise d block).initMark d = s.markWith d block ∧
    (s.initialise d block).dmc[d].initialised = (s.blocksWith d block).filter (fun b => decide (s.markWith d block ≤ b)) ∧
    (s.dmcBytes / 64 ≤ s.markWith d block → (s.initialise d block).flag (Reg.dmcStatus d.val) 3 = true) := by
  have mark : s.initMark d < 2 ^ 64 := (s.reg _).isLt
  obtain ⟨-, bound, -⟩ := s.markWith_spec d block
  have fits : s.markWith d block < 2 ^ 64 := by omega
  have moved : ((s.withMark d (s.blocksWith d block) (s.markWith d block)).reg (Reg.dmcInitMark d.val)).toNat = s.markWith d block := by
    rw [State.withMark, State.reg_setReg_same, BitVec.toNat_ofNat, Nat.mod_eq_of_lt fits]
  have own : (s.withMark d (s.blocksWith d block) (s.markWith d block)).dmc[d] = { s.dmc[d] with
      initialised := (s.blocksWith d block).filter (fun b => decide (s.markWith d block ≤ b)) } := State.dmc_setDmc_same _ _ _
  have apart : Reg.dmcInitMark d.val ≠ Reg.dmcStatus d.val := by
    unfold Reg.dmcInitMark Reg.dmcStatus
    omega
  by_cases top : s.dmcBytes / 64 ≤ s.markWith d block
  · have dmc : ∀ v : State, (v.setFlag (Reg.dmcStatus d.val) 3 true).dmc = v.dmc := fun _ => rfl
    rw [State.initialise_of_top new top, State.initMark, State.setFlag, State.reg_setReg_ne _ _ _ _ apart]
    refine ⟨moved, ?_, fun _ => ?_⟩
    · rw [← State.setFlag, dmc, own]
    · rw [State.flag, State.reg_setReg_same]
      exact bit_setBit_same _ _ _ (by decide)
  · rw [State.initialise_of_rest new top]
    exact ⟨moved, by rw [own], fun reached => absurd reached top⟩

/-- A block that is initialised is below the mark, or stands in the list. -/
theorem State.initialise_covers (small : s.dmcBytes < 2 ^ 64) (new : ¬ block < s.initMark d) :
    block < (s.initialise d block).initMark d ∨ block ∈ (s.initialise d block).dmc[d].initialised := by
  obtain ⟨mark, listed, -⟩ := State.initialise_mark new small
  rw [mark, listed]
  by_cases below : block < s.markWith d block
  · exact .inl below
  · refine .inr (List.mem_filter.2 ⟨List.mem_append_right _ (List.mem_singleton.2 rfl), ?_⟩)
    simpa using below

end Mark

end Sys2Proof.Machine

/-! PROOF. Requests and the Groomer's work, as the controllers take them (R158, R295, R297, R303). -/

namespace Sys2Proof.Machine

theorem exec_dramRequest (r : DramRequest) (s : State) : exec (.dramRequest r) s = execDramRequest r s := rfl
theorem exec_frozenRequest (r : DramRequest) (s : State) : exec (.frozenRequest r) s = execFrozenRequest r s := rfl
theorem exec_scrubRead (d : DmcId) (o : Nat) (s : State) : exec (.scrubRead d o) s = execScrubRead d o s := rfl
theorem exec_initBlock (d : DmcId) (s : State) : exec (.initBlock d) s = execInitBlock d s := rfl

/-- A controller that runs is on, is in no freeze, and fails for nothing. -/
theorem State.of_dmcRuns {s : State} {d : DmcId} (runs : s.dmcRuns d = true) :
    s.off = false ∧ s.dmcState d.val ≠ 2 ∧ s.dmc[d].failing = none := by
  simp only [State.dmcRuns, Bool.and_eq_true, Bool.not_eq_true', beq_iff_eq] at runs
  obtain ⟨⟨on, state⟩, fails⟩ := runs
  exact ⟨on, by omega, by simpa using fails⟩

section Request

variable {s : State} {r : DramRequest} {d : DmcId} {l : Nat} (at_ : s.dramAt r.addr = some (d, l))

include at_

theorem exec_dramRequest_of_off (off : s.off = true) : exec (.dramRequest r) s = ok s := by
  rw [exec_dramRequest, execDramRequest, at_]
  dsimp only
  rw [off, if_pos rfl]

/-- A frozen controller takes a request as FROZEN_REQUEST says (R305). -/
theorem exec_dramRequest_of_frozen (frozen : s.dmcState d.val = 2) : exec (.dramRequest r) s = exec (.frozenRequest r) s := by
  rw [exec_dramRequest, exec_frozenRequest, execDramRequest, execFrozenRequest, at_]
  dsimp only
  cases off : s.off with
  | true => rw [if_pos rfl, if_neg (by simp)]
  | false => rw [if_neg Bool.false_ne_true, if_pos frozen, if_pos ⟨frozen, rfl⟩]

theorem exec_dramRequest_of_runs (runs : s.dmcRuns d = true) : exec (.dramRequest r) s = ok (s.enqueueDram d r) := by
  obtain ⟨on, state, -⟩ := State.of_dmcRuns runs
  rw [exec_dramRequest, execDramRequest, at_]
  dsimp only
  rw [on, if_neg Bool.false_ne_true, if_neg state]

end Request

/-- What a scrub read or an initialising write adds to its controller. -/
def Comes (d : DmcId) (r : DramRequest) (s u : State) : Prop := u.dmc[d].requests.Perm (r :: s.dmc[d].requests) ∧
  (s.dmc[d].input = [] → ∀ a, u.byteAt a = s.byteAt a)

/-- The controller's place for its next scrub read. -/
def State.scrubbed (s : State) (d : DmcId) : State :=
  s.setDmc d { s.dmc[d] with scrubBlock := if s.dmc[d].scrubBlock + 1 = s.dmcBytes / 64 then 0 else s.dmc[d].scrubBlock + 1 }

section Groomer

variable {s : State} {d : DmcId}

/-- Scrubbing holds no request, and fails for nothing. -/
theorem Dmc.requests_scrubBlock (x : Dmc) (b : Nat) : ({ x with scrubBlock := b } : Dmc).requests = x.requests ∧
    ({ x with scrubBlock := b } : Dmc).input = x.input := ⟨rfl, rfl⟩

theorem State.dmc_scrubbed (s : State) (d : DmcId) : (s.scrubbed d).dmc[d] = { s.dmc[d] with
    scrubBlock := if s.dmc[d].scrubBlock + 1 = s.dmcBytes / 64 then 0 else s.dmc[d].scrubBlock + 1 } := State.dmc_setDmc_same _ _ _

/-- No scrub read is to be issued now. -/
def State.scrubHeld (s : State) (d : DmcId) (o : Nat) : Bool :=
  !s.dmcRuns d || s.dmc[d].selfRefresh[placeChannel (placeOf d (64 * s.dmc[d].scrubBlock))] ||
    decide (s.dmcBytes / 64 ≤ s.dmc[d].scrubBlock) || decide (o < s.scrubPeriod d)

theorem execScrubRead_eq (d : DmcId) (o : Nat) (s : State) : execScrubRead d o s = if s.scrubHeld d o then ok s
    else ok ((s.scrubbed d).enqueueDram d ⟨.scrub, false, s.dramAddr d (64 * s.dmc[d].scrubBlock), [], none⟩) := rfl

theorem gives_scrubRead_early {o : Nat} (early : o < s.scrubPeriod d) : Gives (.scrubRead d o) s (fun u => u = s) := by
  have held : s.scrubHeld d o = true := by
    rw [State.scrubHeld, decide_eq_true early, Bool.or_true]
  exact ⟨s, (exec_scrubRead d o s).trans ((execScrubRead_eq d o s).trans (if_pos held)), rfl⟩

variable (runs : s.dmcRuns d = true)

include runs

/-- A request of the Groomer's own comes to the controller. -/
theorem comes_enqueueDram (r : DramRequest) (nothing : r.write = false ∨ r.data = []) : Comes d r s (s.enqueueDram d r) :=
  ⟨(State.enqueueDram_requests runs r).1, fun empty a => State.byteAt_enqueueDram runs r empty nothing a⟩

theorem dmcRuns_scrubbed : (s.scrubbed d).dmcRuns d = true := by
  have own := s.dmc_scrubbed d
  have same : (s.scrubbed d).dmcRuns d = (!s.off && s.dmcState d.val == 1 && (s.scrubbed d).dmc[d].failing.isNone) := rfl
  rw [same, own]
  exact runs

theorem execScrubRead_of_due {o : Nat} (below : s.dmc[d].scrubBlock < s.dmcBytes / 64)
    (awake : s.dmc[d].selfRefresh[placeChannel (placeOf d (64 * s.dmc[d].scrubBlock))] = false) (due : s.scrubPeriod d ≤ o) :
    execScrubRead d o s = ok ((s.scrubbed d).enqueueDram d ⟨.scrub, false, s.dramAddr d (64 * s.dmc[d].scrubBlock), [], none⟩) := by
  have free : s.scrubHeld d o = false := by
    have inside : decide (s.dmcBytes / 64 ≤ s.dmc[d].scrubBlock) = false := decide_eq_false (Nat.not_le.2 below)
    have late : decide (o < s.scrubPeriod d) = false := decide_eq_false (Nat.not_lt.2 due)
    rw [State.scrubHeld, runs, awake, inside, late]
    rfl
  exact (execScrubRead_eq d o s).trans (if_neg (Bool.eq_false_iff.1 free))

theorem gives_scrubRead {o : Nat} (below : s.dmc[d].scrubBlock < s.dmcBytes / 64)
    (awake : s.dmc[d].selfRefresh[placeChannel (placeOf d (64 * s.dmc[d].scrubBlock))] = false) (due : s.scrubPeriod d ≤ o) :
    Gives (.scrubRead d o) s (fun u => Comes d ⟨.scrub, false, s.dramAddr d (64 * s.dmc[d].scrubBlock), [], none⟩ s u ∧
      u.dmc[d].scrubBlock = if s.dmc[d].scrubBlock + 1 = s.dmcBytes / 64 then 0 else s.dmc[d].scrubBlock + 1) := by
  obtain ⟨requests, bytes⟩ := comes_enqueueDram (dmcRuns_scrubbed runs)
    ⟨.scrub, false, s.dramAddr d (64 * s.dmc[d].scrubBlock), [], none⟩ (.inl rfl)
  obtain ⟨-, -, block⟩ := State.enqueueDram_requests (dmcRuns_scrubbed runs)
    ⟨.scrub, false, s.dramAddr d (64 * s.dmc[d].scrubBlock), [], none⟩
  obtain ⟨held, input⟩ := Dmc.requests_scrubBlock s.dmc[d]
    (if s.dmc[d].scrubBlock + 1 = s.dmcBytes / 64 then 0 else s.dmc[d].scrubBlock + 1)
  rw [State.dmc_scrubbed] at requests bytes block
  rw [held] at requests
  rw [input] at bytes
  exact ⟨_, (exec_scrubRead d o s).trans (execScrubRead_of_due runs below awake due), ⟨requests, bytes⟩, block⟩

theorem exec_initBlock_of_below (below : s.initMark d < s.dmcBytes / 64) : exec (.initBlock d) s =
    ok (s.enqueueDram d ⟨.initialise, true, s.dramAddr d (64 * s.initMark d), [], none⟩) := by
  rw [exec_initBlock, execInitBlock, if_pos]
  rw [Bool.and_eq_true, decide_eq_true_eq]
  exact ⟨runs, below⟩

/-- An initialising write that is accepted raises the mark (R295). -/
theorem gives_initBlock_accepted (below : s.initMark d < s.dmcBytes / 64) (small : s.dmcBytes < 2 ^ 64)
    (at_ : s.dramAt (s.dramAddr d (64 * s.initMark d)) = some (d, 64 * s.initMark d)) (empty : s.dmc[d].input = [])
    (room : queueRoom s.dmc[d].queues[placeChannel (placeOf d (64 * s.initMark d))] .groom = true) :
    Gives (.initBlock d) s (fun u => (∀ a, u.byteAt a = s.byteAt a) ∧ s.initMark d < u.initMark d ∧
      u.initMark d ≤ s.dmcBytes / 64 ∧ (u.initMark d = s.dmcBytes / 64 → u.flag (Reg.dmcStatus d.val) 3 = true)) := by
  let r : DramRequest := ⟨.initialise, true, s.dramAddr d (64 * s.initMark d), [], none⟩
  let v := (s.setDmc d (s.dmc[d].withRequest (placeChannel (placeOf d (64 * s.initMark d))) ⟨r, false, 0, s.gate, none⟩)).wr r.addr []
  have accepted : s.enqueueDram d r = v.initialise d (s.initMark d) := by
    rw [State.enqueueDram_of_room runs r empty at_ room, State.acceptDram_of_whole s d _ rfl rfl, Nat.mul_div_cancel_left _ (by norm_num)]
  have mark : v.initMark d = s.initMark d := rfl
  have bytes : v.dmcBytes = s.dmcBytes := State.dmcBytes_congr rfl rfl fun _ => rfl
  have new : ¬ s.initMark d < v.initMark d := by omega
  obtain ⟨moved, -, top⟩ := State.initialise_mark new (by rw [bytes]; exact small)
  obtain ⟨-, bound, more⟩ := v.markWith_spec d (s.initMark d)
  have same := State.byteAt_enqueueDram runs r empty (.inr rfl)
  refine ⟨_, exec_initBlock_of_below runs below, same, ?_⟩
  rw [bytes] at bound more top
  rw [show s.enqueueDram d _ = v.initialise d (s.initMark d) from accepted, moved]
  exact ⟨more mark.symm below, by omega, fun reached => top reached.ge⟩

end Groomer

/-- R158, R295, R297 of a request and its controller. -/
theorem dramRequest_arrives (s : State) (r : DramRequest) :
    (s.dramAt r.addr = none → exec (.dramRequest r) s = .fault (.noSuchMemory r.addr)) ∧
    (∀ (d : DmcId) (l : Nat), s.dramAt r.addr = some (d, l) →
      (s.off = true → Gives (.dramRequest r) s (fun u => u = s)) ∧
      (s.dmcState d = 2 → exec (.dramRequest r) s = exec (.frozenRequest r) s) ∧
      (s.dmcRuns d = true →
        let x := s.dmc[d]
        let c := placeChannel (placeOf d l)
        Gives (.dramRequest r) s (fun u =>
          (((u.dmc[d]).input ++ (u.dmc[d]).queues.toList.flatten).map (·.req)).Perm
            (r :: (x.input ++ x.queues.toList.flatten).map (·.req)) ∧ ∀ e : DmcId, e ≠ d → u.dmc[e] = s.dmc[e]) ∧
        (x.input = [] → queueRoom x.queues[c] r.cls = true → Gives (.dramRequest r) s (fun u => (u.dmc[d]).input = [] ∧
          (u.dmc[d]).queues = x.queues.set c (x.queues[c] ++ [⟨r, false, 0, s.gate, none⟩]) ∧
          u = { s with dmc := u.dmc, mem := u.mem, regs := u.regs } ∧ SameRegs [Reg.dmcInitMark d, Reg.dmcStatus d] s u ∧
          (∀ a, u.byteAt a = if r.write = true ∧ r.addr ≤ a ∧ a < r.addr + r.data.length then r.data.getD (a - r.addr) 0
            else s.byteAt a))) ∧
        (x.input = [] → queueRoom x.queues[c] r.cls = false → Gives (.dramRequest r) s (fun u => u = { s with dmc := u.dmc } ∧
          (u.dmc[d]).input = [⟨r, false, 0, s.gate, none⟩] ∧ (u.dmc[d]).queues = x.queues)))) := by
  refine ⟨fun none => by rw [exec_dramRequest, execDramRequest, none], fun d l at_ => ⟨fun off => ⟨s, exec_dramRequest_of_off at_ off, rfl⟩,
    exec_dramRequest_of_frozen at_, fun runs => ?_⟩⟩
  have run := exec_dramRequest_of_runs at_ runs
  obtain ⟨requests, others, -⟩ := State.enqueueDram_requests runs r
  refine ⟨⟨_, run, requests, others⟩, fun empty room => ?_, fun empty full => ?_⟩
  · obtain ⟨taken, input, queues, bytes⟩ := s.acceptDram_spec d l r false
    rw [State.enqueueDram_of_room runs r empty at_ room] at run
    exact ⟨_, run, input.trans empty, queues, taken.rest, taken.regs, bytes⟩
  · rw [State.enqueueDram_of_full runs r empty at_ full] at run
    have own : (s.dramArrival d r).dmc[d] = s.dmc[d].arrived ⟨r, false, 0, s.gate, none⟩ := State.dmc_setDmc_same _ _ _
    refine ⟨_, run, rfl, ?_, by rw [own]; rfl⟩
    rw [own, Dmc.arrived, empty]
    rfl

end Sys2Proof.Machine

/-! PROOF. Promotions, refresh, self-refresh and checks of a controller (R153, R297, R298, R301, R304, R305). -/

namespace Sys2Proof.Machine

theorem exec_dramAgePromotion (d : DmcId) (ch : ChannelId) (n : Nat) (s : State) :
    exec (.dramAgePromotion d ch n) s = execDramAgePromotion d ch n s := rfl
theorem exec_dramPortPromotion (d : DmcId) (n : Nat) (s : State) :
    exec (.dramPortPromotion d n) s = execDramPortPromotion d n s := rfl
theorem exec_refreshDue (d : DmcId) (ch : ChannelId) (rfm : Bool) (s : State) :
    exec (.refreshDue d ch rfm) s = execRefreshDue d ch rfm s := rfl
theorem exec_selfRefreshEntry (d : DmcId) (ch : ChannelId) (e : SelfRefreshTry) (s : State) :
    exec (.selfRefreshEntry d ch e) s = execSelfRefreshEntry d ch e s := rfl
theorem exec_selfRefreshExit (d : DmcId) (ch : ChannelId) (s : State) :
    exec (.selfRefreshExit d ch) s = execSelfRefreshExit d ch s := rfl
theorem exec_modeRegisterCheck (d : DmcId) (ch : ChannelId) (b : Byte) (s : State) :
    exec (.modeRegisterCheck d ch b) s = execModeRegisterCheck d ch b s := rfl
theorem exec_calibrationDue (d : DmcId) (ch : ChannelId) (tracking inLimits : Bool) (s : State) :
    exec (.calibrationDue d ch tracking inLimits) s = execCalibrationDue d ch tracking inLimits s := rfl

/-- A count that fills its register rises and saturates. -/
theorem State.toNat_reg_inc64 (s : State) (o n : Nat) : ((s.inc o 64 n).reg o).toNat = satAdd 64 (s.reg o).toNat n := by
  rw [State.inc, State.reg_setReg_same, BitVec.toNat_ofNat, satAdd]
  omega

/-! ## Promotions (R153, R297, R298) -/

section Promotion

variable {s : State} {d : DmcId} {ch : ChannelId} {n : Nat} {r : Queued}

/-- A request that is promoted where it stands. -/
def Queued.promote (q : Queued) : Queued := { q with promoted := true }

/-- The controller with the n-th request of a channel promoted. -/
def Dmc.promoteQueued (x : Dmc) (ch : ChannelId) (n : Nat) : Dmc :=
  { x with queues := x.queues.set ch (modifyNth Queued.promote n x.queues[ch]) }

/-- The request has waited AGE_LIMIT, and is not promoted. -/
def State.aged (s : State) (d : DmcId) (r : Queued) : Bool :=
  !s.off && !r.promoted && decide (s.fld (Reg.dmcCtrl d.val) 7 0 * 500 ≤ s.gate.toNat - r.since.toNat)

theorem execDramAgePromotion_eq (at_ : s.dmc[d].queues[ch][n]? = some r) : execDramAgePromotion d ch n s = if s.aged d r then
    ok ((s.setDmc d (s.dmc[d].promoteQueued ch n)).inc (Reg.dmcPromoteCount d.val) 64 1) else ok s := by
  unfold execDramAgePromotion
  dsimp only
  rw [at_]
  rfl

theorem State.aged_iff (on : s.off = false) : s.aged d r = true ↔
    r.promoted = false ∧ s.fld (Reg.dmcCtrl d.val) 7 0 * 500 ≤ s.gate.toNat - r.since.toNat := by
  rw [State.aged, on]
  simp

theorem gives_dramAgePromotion (on : s.off = false) (at_ : s.dmc[d].queues[ch][n]? = some r) :
    let due := r.promoted = false ∧ s.fld (Reg.dmcCtrl d) 7 0 * 500 ≤ s.gate.toNat - r.since.toNat
    (due → Gives (.dramAgePromotion d ch n) s (fun u => u = { s with dmc := u.dmc, regs := u.regs } ∧
      (u.dmc[d]).queues[ch][n]? = some { r with promoted := true } ∧
      (∀ i, i ≠ n → (u.dmc[d]).queues[ch][i]? = s.dmc[d].queues[ch][i]?) ∧
      (u.reg (Reg.dmcPromoteCount d)).toNat = satAdd 64 (s.reg (Reg.dmcPromoteCount d)).toNat 1 ∧
      SameRegs [Reg.dmcPromoteCount d] s u)) ∧
    (¬ due → Gives (.dramAgePromotion d ch n) s (fun u => u = s)) := by
  have run := (exec_dramAgePromotion d ch n s).trans (execDramAgePromotion_eq at_)
  refine ⟨fun due => ?_, fun early => ?_⟩
  · let v := s.setDmc d (s.dmc[d].promoteQueued ch n)
    have queue : ((v.inc (Reg.dmcPromoteCount d.val) 64 1).dmc[d]).queues[ch] = modifyNth Queued.promote n s.dmc[d].queues[ch] := by
      have own : (v.inc (Reg.dmcPromoteCount d.val) 64 1).dmc[d] = s.dmc[d].promoteQueued ch n := State.dmc_setDmc_same _ _ _
      rw [own, Dmc.promoteQueued, Vector.getElem_set_fin, if_pos rfl]
    refine ⟨_, run.trans (if_pos ((State.aged_iff on).2 due)), rfl, ?_, fun i hi => ?_, State.toNat_reg_inc64 v _ 1,
      (OnDmc.setReg d v _ (List.mem_singleton.2 rfl)).regs⟩
    · rw [queue, getElem?_modifyNth, at_, if_pos rfl]
      rfl
    · rw [queue, getElem?_modifyNth, if_neg (Ne.symm hi)]
  · exact ⟨s, run.trans (if_neg fun due => early ((State.aged_iff on).1 due)), rfl⟩

theorem gives_dramPortPromotion (on : s.off = false) (at_ : s.dmc[d].input[n]? = some r) :
    Gives (.dramPortPromotion d n) s (fun u => u = { s with dmc := u.dmc } ∧
      (u.dmc[d]).input[n]? = some { r with promoted := true } ∧ (∀ i, i ≠ n → (u.dmc[d]).input[i]? = s.dmc[d].input[i]?) ∧
      (u.dmc[d]).queues = s.dmc[d].queues) := by
  have run : exec (.dramPortPromotion d n) s = if (s.off || r.promoted) = true then ok s
      else ok (s.setDmc d { s.dmc[d] with input := modifyNth Queued.promote n s.dmc[d].input }) := by
    rw [exec_dramPortPromotion]
    unfold execDramPortPromotion
    dsimp only
    rw [at_]
    rfl
  cases already : r.promoted with
  | true =>
    refine ⟨s, run.trans (if_pos (by rw [already, Bool.or_true])), rfl, ?_, fun _ _ => rfl, rfl⟩
    rw [at_, ← already]
  | false =>
    have own : (s.setDmc d { s.dmc[d] with input := modifyNth Queued.promote n s.dmc[d].input }).dmc[d] =
      { s.dmc[d] with input := modifyNth Queued.promote n s.dmc[d].input } := State.dmc_setDmc_same _ _ _
    refine ⟨_, run.trans (if_neg (by rw [on, already]; decide)), rfl, ?_, fun i hi => ?_, by rw [own]⟩
    · rw [own, getElem?_modifyNth, at_, if_pos rfl]
      rfl
    · rw [own, getElem?_modifyNth, if_neg (Ne.symm hi)]

end Promotion

/-! ## Refresh (R301) -/

section Refresh

variable {s : State} {d : DmcId} {ch : ChannelId} (on : s.off = false) (state : s.dmcState d = 1 ∨ s.dmcState d = 2)
  (awake : s.dmc[d].selfRefresh[ch] = false)

/-- The controller with one refresh more postponed. -/
def State.postponing (s : State) (d : DmcId) (ch : ChannelId) : State :=
  s.setDmc d { s.dmc[d] with postponed := s.dmc[d].postponed.set ch (s.dmc[d].postponed[ch] + 1) }

/-- One refresh after another: each lowers the number that are postponed. -/
theorem State.refreshBanks_spec (n : Nat) (s : State) (d : DmcId) (ch : ChannelId) : let u := s.refreshBanks d ch n
    UpkeepOn d [] s u ∧ u.regs = s.regs ∧ u.dmc[d].postponed[ch] = s.dmc[d].postponed[ch] - n ∧
    (canonical 0 s.dmc[d].rolling = true → canonical 0 u.dmc[d].rolling = true ∧
      ∀ b, lookupD 0 u.dmc[d].rolling b ≤ lookupD 0 s.dmc[d].rolling b ∧
        (b / 32 ≠ ch.val → lookupD 0 u.dmc[d].rolling b = lookupD 0 s.dmc[d].rolling b)) := by
  induction n with
  | zero => exact ⟨.refl d [] s, rfl, rfl, fun hc => ⟨hc, fun _ => ⟨le_refl _, fun _ => rfl⟩⟩⟩
  | succ n ih =>
    obtain ⟨upkeep, regs, postponed, rolling⟩ := ih
    have run : s.refreshBanks d ch (n + 1) = (s.refreshBanks d ch n).refreshBank d ch := by
      rw [State.refreshBanks, List.range_succ, List.foldl_append]
      rfl
    have refreshed := (s.refreshBanks d ch n).refreshBank_spec d ch
    dsimp only
    rw [run]
    refine ⟨upkeep.trans refreshed.upkeep, refreshed.regs.trans regs, ?_, fun hc => ?_⟩
    · rw [refreshed.postponed, Vector.getElem_set_fin, if_pos rfl, postponed, Nat.sub_sub]
    · obtain ⟨canonical1, le1⟩ := rolling hc
      obtain ⟨canonical2, le2⟩ := refreshed.rolling_le canonical1
      exact ⟨canonical2, fun b => ⟨(le2 b).1.trans (le1 b).1, fun other => ((le2 b).2 other).trans ((le1 b).2 other)⟩⟩

include on state awake

/-- A controller with its DRAM awake does what falls due. -/
theorem execRefreshDue_eq (rfm : Bool) : execRefreshDue d ch rfm s = if rfm then ok (s.issueRfm d ch)
    else if s.dmc[d].queues[ch] = [] then ok ((s.postponing d ch).refreshBanks d ch (s.dmc[d].postponed[ch] + 1))
    else if Config.refreshPostpone < s.dmc[d].postponed[ch] + 1 then ok ((s.postponing d ch).refreshBank d ch)
    else ok (s.postponing d ch) := by
  have goes : ¬ (s.off = true ∨ s.dmcState d.val ≠ 1 ∧ s.dmcState d.val ≠ 2 ∨ s.dmc[d].selfRefresh[ch] = true) := by
    rw [on, awake]
    simp only [Bool.false_eq_true, or_false, false_or, not_and_or, not_not]
    exact state
  unfold execRefreshDue
  dsimp only
  rw [if_neg goes]
  rfl

/-- Refresh management that falls due (R301). -/
theorem gives_refreshManagement : Gives (.refreshDue d ch true) s (fun u => u = { s with dmc := u.dmc, regs := u.regs } ∧
    (u.dmc[d]).queues = s.dmc[d].queues ∧ SameRegs [Reg.dmcRfmCount d] s u ∧ ((s.rfmBanks d ch) = [] → u = s) ∧
    ((s.rfmBanks d ch) ≠ [] → (u.reg (Reg.dmcRfmCount d)).toNat =
      satAdd 64 (s.reg (Reg.dmcRfmCount d)).toNat (s.rfmBanks d ch).length) ∧
    (canonical 0 s.dmc[d].rolling = true → ∀ m b, s.board.rfm = some m → 0 < m.threshold →
      lookupD 0 (u.dmc[d]).rolling b =
        (if b / 32 = ch.val ∧ m.threshold ≤ lookupD 0 s.dmc[d].rolling b then lookupD 0 s.dmc[d].rolling b - m.threshold
         else lookupD 0 s.dmc[d].rolling b))) := by
  have managed := s.issueRfm_spec d ch
  refine ⟨_, (exec_refreshDue d ch true s).trans (execRefreshDue_eq on state awake true), managed.upkeep.rest, managed.upkeep.queues,
    managed.upkeep.regs, State.issueRfm_of_none, fun some => ?_, fun hc m b hm pos => State.lookupD_issueRfm hc hm pos ch b⟩
  rw [managed.count, if_neg (by simpa using some), BitVec.toNat_ofNat, satAdd]
  omega

/-- A refresh that falls due (R298, R301). -/
theorem gives_refreshDue : let n := s.dmc[d].postponed[ch] + 1
    let oneRefresh := fun (u : State) =>
      ∀ b v, (b, v) ∈ s.dmc[d].rolling → b / 32 = ch.val → ∃ c w, (c, w) ∈ s.dmc[d].rolling ∧ c / 32 = ch.val ∧ v ≤ w ∧
        (∀ row, (c, row) ∉ (u.dmc[d]).openRows) ∧
        (canonical 0 s.dmc[d].rolling = true → ∀ m, s.board.rfm = some m → lookupD 0 (u.dmc[d]).rolling c = w - m.credit)
    Gives (.refreshDue d ch false) s (fun u => u = { s with dmc := u.dmc } ∧ (u.dmc[d]).queues = s.dmc[d].queues ∧
      (s.dmc[d].queues[ch] = [] → (u.dmc[d]).postponed[ch] = 0 ∧ (n = 1 → oneRefresh u) ∧
        (canonical 0 s.dmc[d].rolling = true → ∀ b, lookupD 0 (u.dmc[d]).rolling b ≤ lookupD 0 s.dmc[d].rolling b ∧
          (b / 32 ≠ ch.val → lookupD 0 (u.dmc[d]).rolling b = lookupD 0 s.dmc[d].rolling b))) ∧
      (s.dmc[d].queues[ch] ≠ [] → Config.refreshPostpone < n → (u.dmc[d]).postponed[ch] = n - 1 ∧ oneRefresh u) ∧
      (s.dmc[d].queues[ch] ≠ [] → n ≤ Config.refreshPostpone → (u.dmc[d]).postponed[ch] = n ∧
        (u.dmc[d]).openRows = s.dmc[d].openRows ∧ (u.dmc[d]).rolling = s.dmc[d].rolling)) := by
  intro n oneRefresh
  have run := (exec_refreshDue d ch false s).trans (execRefreshDue_eq on state awake false)
  rw [if_neg Bool.false_ne_true] at run
  have own : (s.postponing d ch).dmc[d] = { s.dmc[d] with postponed := s.dmc[d].postponed.set ch n } := State.dmc_setDmc_same _ _ _
  have waiting : (s.postponing d ch).dmc[d].postponed[ch] = n := by
    rw [own, Vector.getElem_set_fin, if_pos rfl]
  have upkeep : UpkeepOn d [] s (s.postponing d ch) := .setDmc d [] s rfl
  have rolling : (s.postponing d ch).dmc[d].rolling = s.dmc[d].rolling := by rw [own]
  have frame : ∀ u : State, UpkeepOn d [] (s.postponing d ch) u → u.regs = (s.postponing d ch).regs →
      u = { s with dmc := u.dmc } ∧ u.dmc[d].queues = s.dmc[d].queues := fun u more regs => by
    have all := upkeep.trans more
    have same : u.regs = s.regs := regs
    exact ⟨all.rest.trans (by rw [same]), all.queues⟩
  have refreshed := (s.postponing d ch).refreshBank_spec d ch
  have one : oneRefresh ((s.postponing d ch).refreshBank d ch) := fun b v listed channel => by
    obtain ⟨c, w, mem, own, most, closed, credit⟩ := refreshed.worst b v (by rw [rolling]; exact listed) channel
    rw [rolling] at mem credit
    exact ⟨c, w, mem, own, most, closed, credit⟩
  by_cases empty : s.dmc[d].queues[ch] = []
  · rw [if_pos empty] at run
    obtain ⟨more, regs, postponed, lowered⟩ := State.refreshBanks_spec n (s.postponing d ch) d ch
    obtain ⟨rest, queues⟩ := frame _ more regs
    rw [rolling] at lowered
    refine ⟨_, run, rest, queues, fun _ => ⟨?_, fun single => ?_, fun hc => (lowered hc).2⟩, fun some => absurd empty some,
      fun some => absurd empty some⟩
    · rw [postponed, waiting, Nat.sub_self]
    · have all : (s.postponing d ch).refreshBanks d ch (s.dmc[d].postponed[ch] + 1) = (s.postponing d ch).refreshBank d ch := by
        rw [show s.dmc[d].postponed[ch] + 1 = 1 from single]
        rfl
      rw [all]
      exact one
  rw [if_neg empty] at run
  by_cases forced : Config.refreshPostpone < s.dmc[d].postponed[ch] + 1
  · rw [if_pos forced] at run
    obtain ⟨rest, queues⟩ := frame _ refreshed.upkeep refreshed.regs
    refine ⟨_, run, rest, queues, fun none => absurd none empty, fun _ _ => ⟨?_, one⟩, fun _ few => absurd forced (Nat.not_lt.2 few)⟩
    rw [refreshed.postponed, Vector.getElem_set_fin, if_pos rfl, waiting]
  · rw [if_neg forced] at run
    exact ⟨_, run, rfl, by rw [own], fun none => absurd none empty, fun _ many => absurd many forced,
      fun _ _ => ⟨waiting, by rw [own], rolling⟩⟩

end Refresh

/-! ## Self-refresh (R304) -/

/-- Neighbour refresh of all a channel's banks. -/
theorem State.nearAll_upkeep (s : State) (d : DmcId) (ch : ChannelId) : UpkeepOn d [Reg.dmcNrCount d.val] s (s.nearAll d ch) :=
  List.foldlRecOn (motive := UpkeepOn d [Reg.dmcNrCount d.val] s) _ _ (.refl d _ s) fun u hu b _ =>
    hu.trans (State.refreshNear_spec d ch b _ u).upkeep

theorem State.nearAll_of_none {s : State} {d : DmcId} {ch : ChannelId} (none : ∀ b ∈ s.dmc[d].neighbours, b.1 / 32 ≠ ch.val) :
    s.nearAll d ch = s := by
  have nothing : (s.dmc[d].neighbours.map (·.1)).filter (fun b => b / 32 == ch.val) = [] := by
    rw [List.filter_eq_nil_iff]
    intro b hb
    obtain ⟨c, hc, rfl⟩ := List.mem_map.1 hb
    simpa using none c hc
  rw [State.nearAll, nothing]
  rfl

/-- The controller with the rows of a channel closed. -/
def Dmc.closed (x : Dmc) (ch : ChannelId) : Dmc := { x with openRows := x.openRows.filter (fun r => r.1 / 32 != ch.val) }

theorem Dmc.mem_closed (x : Dmc) (ch : ChannelId) (b : Nat × Nat) :
    b ∈ (x.closed ch).openRows ↔ b ∈ x.openRows ∧ b.1 / 32 ≠ ch.val := by
  rw [Dmc.closed, List.mem_filter, bne_iff_ne]

section SelfRefresh

variable {s : State} {d : DmcId} {ch : ChannelId}

/-- Self-refresh disabled. -/
theorem gives_selfRefreshEntry_disabled (none : s.fld (Reg.dmcCtrl d) 19 10 = 0) (e : SelfRefreshTry) :
    Gives (.selfRefreshEntry d ch e) s (fun u => u = s) := by
  refine ⟨s, ?_, rfl⟩
  rw [exec_selfRefreshEntry, execSelfRefreshEntry]
  exact if_neg (by simp [none])

theorem gives_selfRefreshExit (on : s.off = false) (asleep : s.dmc[d].selfRefresh[ch] = true) (some : s.dmc[d].queues[ch] ≠ []) :
    Gives (.selfRefreshExit d ch) s (fun u => u = { s with dmc := u.dmc } ∧
      (u.dmc[d]).selfRefresh = s.dmc[d].selfRefresh.set ch false ∧ (u.dmc[d]).queues = s.dmc[d].queues) := by
  let v := s.setDmc d { s.dmc[d] with selfRefresh := s.dmc[d].selfRefresh.set ch false }
  have waits : s.dmc[d].queues[ch].isEmpty = false := by simpa using some
  have run : exec (.selfRefreshExit d ch) s = ok (v.issued d ch .exit (channelLoc ch)) := by
    rw [exec_selfRefreshExit, execSelfRefreshExit, on, asleep, waits]
    rfl
  have own := State.issued_dmc v d ch .exit (channelLoc ch)
  have set : v.dmc[d] = { s.dmc[d] with selfRefresh := s.dmc[d].selfRefresh.set ch false } := State.dmc_setDmc_same _ _ _
  exact ⟨_, run, rfl, by rw [own, set], by rw [own, set]⟩

variable (runs : s.dmcRuns d = true) (awake : s.dmc[d].selfRefresh[ch] = false) (enabled : s.fld (Reg.dmcCtrl d) 19 10 ≠ 0)
  (empty : s.dmc[d].queues[ch] = []) (input : s.dmc[d].input = [])

/-- The state that has entered self-refresh. -/
def State.slept (s : State) (d : DmcId) (ch : ChannelId) : State :=
  ((s.setDmc d { s.dmc[d].closed ch with selfRefresh := s.dmc[d].selfRefresh.set ch true }).issued d ch .entry (channelLoc ch)).inc
    (Reg.dmcSrEntryCount d.val) 64 1

/-- The state that has abandoned the entry. -/
def State.abandonedSleep (s : State) (d : DmcId) (ch : ChannelId) : State :=
  (s.setDmc d (s.dmc[d].closed ch)).inc (Reg.dmcSrAbandonCount d.val) 64 1

include runs awake enabled empty input in
/-- An idle channel issues its neighbour refresh, and enters where nothing falls due. -/
theorem execSelfRefreshEntry_eq (e : SelfRefreshTry) : execSelfRefreshEntry d ch e s =
    if e.dueSoon || !(s.nearAll d ch).upkept d ch then ok (s.nearAll d ch)
    else if e.abandoned then ok ((s.nearAll d ch).abandonedSleep d ch) else ok ((s.nearAll d ch).slept d ch) := by
  have goes : (s.dmcRuns d && !s.dmc[d].selfRefresh[ch] && s.fld (Reg.dmcCtrl d.val) 19 10 != 0 && s.dmc[d].idle ch) = true := by
    rw [runs, awake, Dmc.idle, empty, input, bne_iff_ne.2 enabled]
    rfl
  unfold execSelfRefreshEntry
  rw [if_pos goes]
  rfl

/-- What the entry and its abandonment leave. -/
structure SleepTried (d : DmcId) (ch : ChannelId) (count : Nat) (t u : State) : Prop where
  on : OnDmc d [count] t u
  rows : ∀ b, b ∈ u.dmc[d].openRows ↔ b ∈ t.dmc[d].openRows ∧ b.1 / 32 ≠ ch.val
  counted : (u.reg count).toNat = satAdd 64 (t.reg count).toNat 1

theorem State.slept_spec (t : State) (d : DmcId) (ch : ChannelId) : SleepTried d ch (Reg.dmcSrEntryCount d.val) t (t.slept d ch) ∧
    (t.slept d ch).dmc[d].selfRefresh = t.dmc[d].selfRefresh.set ch true := by
  let v := t.setDmc d { t.dmc[d].closed ch with selfRefresh := t.dmc[d].selfRefresh.set ch true }
  have own := State.issued_dmc v d ch .entry (channelLoc ch)
  have dmc : (t.slept d ch).dmc = (v.issued d ch .entry (channelLoc ch)).dmc := rfl
  have set : v.dmc[d] = { t.dmc[d].closed ch with selfRefresh := t.dmc[d].selfRefresh.set ch true } := State.dmc_setDmc_same _ _ _
  refine ⟨⟨((OnDmc.setDmc d _ t _).trans (UpkeepOn.issued d _ v ch .entry _).toOnDmc).trans (.setReg d _ _ (List.mem_singleton.2 rfl)),
    fun b => ?_, State.toNat_reg_inc64 (v.issued d ch .entry (channelLoc ch)) _ 1⟩, by rw [dmc, own, set]⟩
  rw [dmc, own, set]
  exact t.dmc[d].mem_closed ch b

theorem State.abandonedSleep_spec (t : State) (d : DmcId) (ch : ChannelId) :
    SleepTried d ch (Reg.dmcSrAbandonCount d.val) t (t.abandonedSleep d ch) ∧
    (t.abandonedSleep d ch).dmc[d].selfRefresh = t.dmc[d].selfRefresh := by
  have own : (t.abandonedSleep d ch).dmc[d] = t.dmc[d].closed ch := State.dmc_setDmc_same _ _ _
  refine ⟨⟨(OnDmc.setDmc d _ t _).trans (.setReg d _ _ (List.mem_singleton.2 rfl)), fun b => ?_,
    State.toNat_reg_inc64 (t.setDmc d (t.dmc[d].closed ch)) _ 1⟩, by rw [own]; rfl⟩
  rw [own]
  exact t.dmc[d].mem_closed ch b

/-- The entry, behind the neighbour refresh before it. -/
theorem SleepTried.after {count : Nat} {t u : State} (h : SleepTried d ch count t u) (near : UpkeepOn d [Reg.dmcNrCount d.val] s t)
    (apart : count ≠ Reg.dmcNrCount d.val) :
    (u = { s with dmc := u.dmc, regs := u.regs } ∧ ∀ b, b ∈ (u.dmc[d]).openRows ↔ b ∈ (t.dmc[d]).openRows ∧ b.1 / 32 ≠ ch.val) ∧
    (u.reg count).toNat = satAdd 64 (s.reg count).toNat 1 ∧ SameRegs [count, Reg.dmcNrCount d.val] s u := by
  have all : OnDmc d [count, Reg.dmcNrCount d.val] s u := (near.toOnDmc.mono (by simp)).trans (h.on.mono (by simp))
  refine ⟨⟨all.rest, h.rows⟩, ?_, all.regs⟩
  rw [h.counted, near.regs count (by simpa using apart)]

include runs awake enabled empty input in
/-- R304 of an idle channel. -/
theorem gives_selfRefreshEntry : let t := s.nearAll d ch
    let closed := (fun (u : State) => u = { s with dmc := u.dmc, regs := u.regs } ∧
      ∀ b, b ∈ (u.dmc[d]).openRows ↔ b ∈ (t.dmc[d]).openRows ∧ b.1 / 32 ≠ ch.val)
    ((∀ b ∈ s.dmc[d].neighbours, b.1 / 32 ≠ ch.val) → t = s) ∧
    (∀ e : SelfRefreshTry, e.dueSoon = true ∨ t.upkept d ch = false → Gives (.selfRefreshEntry d ch e) s (fun u => u = t)) ∧
    (t.upkept d ch = true →
      Gives (.selfRefreshEntry d ch ⟨false, false⟩) s (fun u => closed u ∧
        (u.dmc[d]).selfRefresh = s.dmc[d].selfRefresh.set ch true ∧
        (u.reg (Reg.dmcSrEntryCount d)).toNat = satAdd 64 (s.reg (Reg.dmcSrEntryCount d)).toNat 1 ∧
        SameRegs [Reg.dmcSrEntryCount d, Reg.dmcNrCount d] s u) ∧
      Gives (.selfRefreshEntry d ch ⟨false, true⟩) s (fun u => closed u ∧ (u.dmc[d]).selfRefresh = s.dmc[d].selfRefresh ∧
        (u.reg (Reg.dmcSrAbandonCount d)).toNat = satAdd 64 (s.reg (Reg.dmcSrAbandonCount d)).toNat 1 ∧
        SameRegs [Reg.dmcSrAbandonCount d, Reg.dmcNrCount d] s u)) := by
  intro t closed
  have near := s.nearAll_upkeep d ch
  have run := fun e => (exec_selfRefreshEntry d ch e s).trans (execSelfRefreshEntry_eq runs awake enabled empty input e)
  refine ⟨State.nearAll_of_none, fun e due => ⟨t, (run e).trans (if_pos ?_), rfl⟩, fun upkept => ⟨?_, ?_⟩⟩
  · rw [Bool.or_eq_true, Bool.not_eq_true']
    exact due
  · have goes : ¬ (false || !t.upkept d ch) = true := by rw [upkept]; decide
    obtain ⟨tried, asleep⟩ := t.slept_spec d ch
    obtain ⟨closes, counted, regs⟩ := tried.after near (by unfold Reg.dmcSrEntryCount Reg.dmcNrCount; omega)
    exact ⟨_, (run ⟨false, false⟩).trans ((if_neg goes).trans (if_neg Bool.false_ne_true)), closes, by rw [asleep, near.selfRefresh],
      counted, regs⟩
  · have goes : ¬ (false || !t.upkept d ch) = true := by rw [upkept]; decide
    obtain ⟨tried, asleep⟩ := t.abandonedSleep_spec d ch
    obtain ⟨closes, counted, regs⟩ := tried.after near (by unfold Reg.dmcSrAbandonCount Reg.dmcNrCount; omega)
    exact ⟨_, (run ⟨false, true⟩).trans ((if_neg goes).trans (if_pos rfl)), closes, by rw [asleep, near.selfRefresh], counted, regs⟩

end SelfRefresh

/-! ## Checks that freeze (R305) -/

section Checks

variable {s : State} {d : DmcId} {ch : ChannelId} (runs : s.dmcRuns d = true)

/-- A command, and a failure where a check does not hold. -/
def State.checked (s : State) (d : DmcId) (ch : ChannelId) (c : DramCmd) (fails : Bool) (cause : Nat) : State :=
  if fails then (s.issued d ch c (channelLoc ch)).failDram d cause 0 (channelLoc ch) 0 else s.issued d ch c (channelLoc ch)

include runs

theorem State.checked_spec (c : DramCmd) (fails : Bool) (cause : Nat) : let u := s.checked d ch c fails cause
    u = { s with dmc := u.dmc } ∧ u.dmc[d].queues = s.dmc[d].queues ∧ u.dmc[d].openRows = s.dmc[d].openRows ∧
    u.dmc[d].failing = if fails then some ⟨cause, 0, channelLoc ch, 0⟩ else none := by
  obtain ⟨-, -, quiet⟩ := State.of_dmcRuns runs
  have issued := s.issued_dmc d ch c (channelLoc ch)
  cases fails with
  | false => exact ⟨rfl, (by rw [issued] : (s.issued d ch c (channelLoc ch)).dmc[d].queues = _),
      (by rw [issued] : (s.issued d ch c (channelLoc ch)).dmc[d].openRows = _),
      (by rw [issued]; exact quiet : (s.issued d ch c (channelLoc ch)).dmc[d].failing = _)⟩
  | true =>
    have own : (s.checked d ch c true cause).dmc[d] = { (s.issued d ch c (channelLoc ch)).dmc[d] with
        failing := some ⟨cause, 0, channelLoc ch, 0⟩ } := State.dmc_setDmc_same _ _ _
    exact ⟨rfl, by rw [own, issued], by rw [own, issued], by rw [own]; rfl⟩

theorem gives_modeRegisterCheck (b : Byte) : Gives (.modeRegisterCheck d ch b) s (fun u => u = { s with dmc := u.dmc } ∧
    (u.dmc[d]).queues = s.dmc[d].queues ∧ (u.dmc[d]).openRows = s.dmc[d].openRows ∧
    (u.dmc[d]).failing = if b = s.dmc[d].modeReg[ch] then none else some ⟨4, 0, channelLoc ch, 0⟩) := by
  have run : exec (.modeRegisterCheck d ch b) s = ok (s.checked d ch .modeRead (s.dmc[d].modeReg[ch] != b) 4) := by
    rw [exec_modeRegisterCheck, execModeRegisterCheck, runs]
    rfl
  obtain ⟨rest, queues, rows, failing⟩ := State.checked_spec (ch := ch) runs .modeRead (s.dmc[d].modeReg[ch] != b) 4
  refine ⟨_, run, rest, queues, rows, failing.trans ?_⟩
  by_cases same : b = s.dmc[d].modeReg[ch]
  · rw [if_pos same, ← same, bne_self_eq_false]
    rfl
  · rw [if_neg same, if_pos (bne_iff_ne.2 (Ne.symm same))]

theorem gives_calibrationDue (awake : s.dmc[d].selfRefresh[ch] = false) (tracking inLimits : Bool) :
    Gives (.calibrationDue d ch tracking inLimits) s (fun u => u = { s with dmc := u.dmc } ∧
      (u.dmc[d]).queues = s.dmc[d].queues ∧ (u.dmc[d]).openRows = s.dmc[d].openRows ∧
      (u.dmc[d]).failing = if tracking = true ∧ inLimits = false then some ⟨5, 0, channelLoc ch, 0⟩ else none) := by
  have run : exec (.calibrationDue d ch tracking inLimits) s = ok (s.checked d ch .calibrate (tracking && !inLimits) 5) := by
    rw [exec_calibrationDue, execCalibrationDue, runs, awake]
    rfl
  obtain ⟨rest, queues, rows, failing⟩ := State.checked_spec (ch := ch) runs .calibrate (tracking && !inLimits) 5
  refine ⟨_, run, rest, queues, rows, failing.trans ?_⟩
  simp only [Bool.and_eq_true, Bool.not_eq_true']

end Checks

end Sys2Proof.Machine

/-! PROOF. The service of a DRAM request (R295, R298, R300–R303). -/

namespace Sys2Proof.Machine

theorem exec_dramRequestServed (d : DmcId) (ch : ChannelId) (o : DramOutcome) (s : State) :
    exec (.dramRequestServed d ch o) s = execDramRequestServed d ch o s := rfl

/-! ## Registers -/

/-- Registers of a controller at different places differ. -/
theorem dmcReg_ne {a b : Nat} (h : a ≠ b) (d : Nat) : a + d * 0x10000 ≠ b + d * 0x10000 := by omega

/-- A report leaves the registers of the controllers. -/
theorem State.reg_report_of_lt (s : State) (r : Report) {o : Nat} (h : o < 0x900000) : (s.report r).reg o = s.reg o := by
  unfold State.report
  dsimp only
  split
  · rfl
  · split
    · refine (State.reg_setReg_ne _ _ _ _ ?_).trans (State.reg_setReg_ne _ _ _ _ ?_)
      · unfold Reg.errLostCount
        omega
      · unfold Reg.errClassCount
        omega
    · rfl

/-! ## Commands alone -/

/-- Only commands have been issued on controller d. -/
structure Spoken (d : DmcId) (s u : State) : Prop where
  on : OnDmc d [] s u
  kept : u.dmc[d] = { s.dmc[d] with history := u.dmc[d].history }

theorem Spoken.refl (d : DmcId) (s : State) : Spoken d s s := ⟨.refl d [] s, rfl⟩

theorem Spoken.trans {d : DmcId} {s t u : State} (h : Spoken d s t) (g : Spoken d t u) : Spoken d s u :=
  ⟨h.on.trans g.on, g.kept.trans (by rw [h.kept])⟩

theorem Spoken.issued (d : DmcId) (s : State) (ch : ChannelId) (c : DramCmd) (loc : W64) : Spoken d s (s.issued d ch c loc) :=
  ⟨.setDmc d [] s _, by rw [State.issued_dmc]⟩

/-- A command stands first in its channel's history. -/
theorem State.issued_history (s : State) (d : DmcId) (ch : ChannelId) (c : DramCmd) (loc : W64) :
    ∃ older, (s.issued d ch c loc).dmc[d].history[ch] = ⟨s.gate, Config.dramCommand c loc⟩ :: older ∧
      older = s.dmc[d].history[ch].take 63 := by
  refine ⟨_, ?_, rfl⟩
  rw [State.issued_dmc, Vector.getElem_set_fin, if_pos rfl]
  rfl

/-- The commands of a request's service: a read where it reads, a write where it writes. -/
def State.spoken (s : State) (d : DmcId) (ch : ChannelId) (r : Queued) (loc : W64) (writes : Bool) : State :=
  if writes then (if r.req.whole then s else s.issued d ch .read loc).issued d ch .write loc
  else if r.req.whole then s else s.issued d ch .read loc

theorem State.spoken_spec (s : State) (d : DmcId) (ch : ChannelId) (r : Queued) (loc : W64) (writes : Bool) :
    Spoken d s (s.spoken d ch r loc writes) ∧
    (r.req.whole = false → ⟨s.gate, Config.dramCommand .read loc⟩ ∈ (s.spoken d ch r loc writes).dmc[d].history[ch]) := by
  cases whole : r.req.whole with
  | true =>
    refine ⟨?_, fun h => Bool.noConfusion h⟩
    unfold State.spoken
    rw [whole, if_pos rfl]
    split
    · exact .issued d s ch .write loc
    · exact .refl d s
  | false =>
    unfold State.spoken
    rw [whole, if_neg Bool.false_ne_true]
    obtain ⟨older, first, -⟩ := s.issued_history d ch .read loc
    split
    · refine ⟨(Spoken.issued d s ch .read loc).trans (.issued d _ ch .write loc), fun _ => ?_⟩
      obtain ⟨before, second, kept⟩ := (s.issued d ch .read loc).issued_history d ch .write loc
      rw [second, kept, first]
      exact List.mem_cons_of_mem _ List.mem_cons_self
    · exact ⟨.issued d s ch .read loc, fun _ => by rw [first]; exact List.mem_cons_self⟩

/-! ## A request is answered -/

/-- The request has left its queue, and those of its class before it have been passed. -/
def State.answered (s : State) (d : DmcId) (ch : ChannelId) (n : Nat) (r : Queued) (loc : W64) (writes : Bool) : State :=
  let v := s.spoken d ch r loc writes
  v.setDmc d { v.dmc[d] with queues := v.dmc[d].queues.set ch (removeNth n (passOthers v.dmc[d].queues[ch] n r.req.cls)) }

theorem State.answered_spec (s : State) (d : DmcId) (ch : ChannelId) (n : Nat) (r : Queued) (loc : W64) (writes : Bool) :
    let u := s.answered d ch n r loc writes
    OnDmc d [] s u ∧ u.dmc[d] = { s.dmc[d] with
      queues := s.dmc[d].queues.set ch (removeNth n (passOthers s.dmc[d].queues[ch] n r.req.cls)), history := u.dmc[d].history } ∧
    (r.req.whole = false → ⟨s.gate, Config.dramCommand .read loc⟩ ∈ u.dmc[d].history[ch]) := by
  obtain ⟨spoken, history⟩ := s.spoken_spec d ch r loc writes
  have own : (s.answered d ch n r loc writes).dmc[d] = { (s.spoken d ch r loc writes).dmc[d] with
      queues := (s.spoken d ch r loc writes).dmc[d].queues.set ch
        (removeNth n (passOthers (s.spoken d ch r loc writes).dmc[d].queues[ch] n r.req.cls)) } := State.dmc_setDmc_same _ _ _
  refine ⟨spoken.on.trans (.setDmc d [] _ _), ?_, fun reads => ?_⟩
  · rw [own, spoken.kept]
  · rw [own]
    exact history reads

/-- What is counted of a wait, and what else the service does: the end of a scrub pass, or the block of a partial write. -/
def State.noted (s : State) (d : DmcId) (r : Queued) : State := (s.dramWait d r.req.cls r.since).afterService d r

/-- The registers that tell of a request's service are none of those that follow the mark. -/
theorem not_mem_markRegs {b : Nat} (d : DmcId) (mark : b ≠ 0x800030) (status : b ≠ 0x800008) : b + d.val * 0x10000 ∉ markRegs d := by
  simp only [markRegs, List.mem_cons, List.not_mem_nil, or_false, not_or]
  exact ⟨dmcReg_ne mark d.val, dmcReg_ne status d.val⟩

section Noted

variable (s : State) (d : DmcId) (r : Queued)

/-- The longest wait of a class. -/
theorem State.fld_dramWait (c : DramClass) (since : W64) : let lo := 16 * classRank c
    (s.dramWait d c since).fld (Reg.dmcMaxWait d.val) (lo + 15) lo =
      max (min ((s.gate.toNat - since.toNat) / 10) 65535) (s.fld (Reg.dmcMaxWait d.val) (lo + 15) lo) := by
  intro lo
  have rank := classRank_lt c
  have width : 16 * classRank c + 15 + 1 - 16 * classRank c = 16 := by omega
  have old : s.fld (Reg.dmcMaxWait d.val) (16 * classRank c + 15) (16 * classRank c) < 2 ^ 16 := lt_of_lt_of_eq (field_lt _ _ _) (congrArg (2 ^ ·) width)
  rw [State.dramWait, State.setFld, State.fld, State.reg_setReg_same, field_setField _ _ _ _ (by omega) (by omega), width,
    Nat.mod_eq_of_lt]
  have cap := Nat.min_le_right ((s.gate.toNat - since.toNat) / 10) 65535
  omega

/-- The end of a pass of the Groomer: the scrub read of the last block. -/
def State.passEnds (s : State) (q : Queued) : Prop := q.req.requester = .scrub ∧ s.queuedBlock q + 1 = s.dmcBytes / 64

/-- Registers that the service of a request notes. -/
def notedRegs (d : DmcId) : List Nat := [Reg.dmcMaxWait d.val, Reg.dmcScrubPassCount d.val] ++ markRegs d

theorem State.afterService_of_pass (ends : s.passEnds r) : s.afterService d r = s.inc (Reg.dmcScrubPassCount d.val) 32 1 :=
  (if_pos ends.1).trans (if_pos ends.2)

theorem State.afterService_of_scrub (scrub : r.req.requester = .scrub) (goesOn : ¬ s.passEnds r) : s.afterService d r = s :=
  (if_pos scrub).trans (if_neg fun last => goesOn ⟨scrub, last⟩)

theorem State.afterService_of_partial (other : r.req.requester ≠ .scrub) (part : (r.req.write && !r.req.whole) = true) :
    s.afterService d r = s.initialise d (s.queuedBlock r) := (if_neg other).trans (if_pos part)

theorem State.afterService_of_rest (other : r.req.requester ≠ .scrub) (none : ¬ (r.req.write && !r.req.whole) = true) :
    s.afterService d r = s := (if_neg other).trans (if_neg none)

/-- What else the service does touches the blocks initialised, their registers, and the count of passes. -/
theorem State.afterService_spec : OnDmc d (Reg.dmcScrubPassCount d.val :: markRegs d) s (s.afterService d r) ∧
    (s.afterService d r).dmc[d] = { s.dmc[d] with initialised := (s.afterService d r).dmc[d].initialised } ∧
    (s.passEnds r → (s.afterService d r).reg (Reg.dmcScrubPassCount d.val) =
      BitVec.ofNat 64 (satAdd 32 (s.reg (Reg.dmcScrubPassCount d.val)).toNat 1)) ∧
    (¬ s.passEnds r → (s.afterService d r).reg (Reg.dmcScrubPassCount d.val) = s.reg (Reg.dmcScrubPassCount d.val)) := by
  by_cases scrub : r.req.requester = .scrub
  · by_cases ends : s.passEnds r
    · rw [State.afterService_of_pass s d r ends]
      exact ⟨.setReg d s _ List.mem_cons_self, rfl, fun _ => State.reg_setReg_same _ _ _, fun goesOn => absurd ends goesOn⟩
    · rw [State.afterService_of_scrub s d r scrub ends]
      exact ⟨.refl d _ s, rfl, fun e => absurd e ends, fun _ => rfl⟩
  · have goesOn : ¬ s.passEnds r := fun ends => scrub ends.1
    by_cases part : (r.req.write && !r.req.whole) = true
    · obtain ⟨initialised, same⟩ := s.initialise_on d (s.queuedBlock r)
      rw [State.afterService_of_partial s d r scrub part]
      exact ⟨initialised.mono (List.subset_cons_self _ _), same, fun e => absurd e goesOn,
        fun _ => initialised.regs _ (not_mem_markRegs (b := 0x800240) d (by decide) (by decide))⟩
    · rw [State.afterService_of_rest s d r scrub part]
      exact ⟨.refl d _ s, rfl, fun e => absurd e goesOn, fun _ => rfl⟩

theorem State.dramWait_on (c : DramClass) (since : W64) : OnDmc d [Reg.dmcMaxWait d.val] s (s.dramWait d c since) ∧
    (s.dramWait d c since).dmc = s.dmc := ⟨.setReg d s _ (List.mem_singleton.2 rfl), rfl⟩

/-- A partial write's own requester is no scrub. -/
theorem DramRequest.requester_ne_scrub {r : DramRequest} (write : r.write = true) (part : r.whole = false) : r.requester ≠ .scrub := by
  intro scrub
  rw [DramRequest.whole, write, DramRequest.bar2, scrub] at part
  simp at part

end Noted

/-! ## The whole service -/

/-- What the check code says of a request's block. -/
def State.kindOf (s : State) (d : DmcId) (r : Queued) (o : DramOutcome) : Nat := if s.checks d r then o.kind else 0

/-- The state before the input port is looked at again. -/
def State.serviced (s : State) (d : DmcId) (ch : ChannelId) (n : Nat) (r : Queued) (o : DramOutcome) : State :=
  (s.answered d ch n r (s.queuedPlace d r) (r.req.write || s.kindOf d r o = 1)).noted d r

theorem State.serveDram_eq (s : State) (d : DmcId) (ch : ChannelId) (n : Nat) (r : Queued) (o : DramOutcome) :
    s.serveDram d ch n r o = if s.kindOf d r o = 2 then
      (s.spoken d ch r (s.queuedPlace d r) false).failDram d r.cause r.req.addr (s.queuedPlace d r) o.syndrome
    else (if s.kindOf d r o = 1 then (s.serviced d ch n r o).corrected d r.req.addr o else s.serviced d ch n r o).drainPort d := rfl

theorem State.queuedBlock_congr {s u : State} (h : u.dramAt = s.dramAt) (r : Queued) : u.queuedBlock r = s.queuedBlock r := by
  rw [State.queuedBlock, State.queuedBlock, h]

theorem State.queuedPlace_congr {s u : State} (h : u.dramAt = s.dramAt) (d : DmcId) (r : Queued) :
    u.queuedPlace d r = s.queuedPlace d r := by
  rw [State.queuedPlace, State.queuedPlace, h]

/-- A register that says nothing of where addresses lie: no configuration and no controller's state. -/
def OffMap (o : Nat) : Prop := Reg.dmcCfg 0 ≠ o ∧ ∀ g, Reg.dmcStatus g ≠ o

/-- The counts of a controller say nothing of where addresses lie. -/
theorem offMap_counts (d : DmcId) : ∀ o ∈ [Reg.dmcMaxWait d.val, Reg.dmcNrCount d.val, Reg.dmcRfmCount d.val], OffMap o := by
  have apart : ∀ b, 0x800008 < b → b < 0x810000 → OffMap (b + d.val * 0x10000) := fun b large small => by
    unfold OffMap Reg.dmcCfg Reg.dmcStatus
    exact ⟨by omega, fun g => by omega⟩
  intro o ho
  simp only [List.mem_cons, List.not_mem_nil, or_false] at ho
  rcases ho with rfl | rfl | rfl
  · exact apart 0x800228 (by decide) (by decide)
  · exact apart 0x800230 (by decide) (by decide)
  · exact apart 0x800238 (by decide) (by decide)

section Map

variable {d : DmcId} {offs : List Nat} {s u : State} (h : OnDmc d offs s u) (off : ∀ o ∈ offs, OffMap o)

include h off

/-- Addresses lie where they lay. -/
theorem OnDmc.sameMap : u.dramAt = s.dramAt ∧ u.dmcBytes = s.dmcBytes := by
  have cfg := h.regs (Reg.dmcCfg 0) fun mem => (off _ mem).1 rfl
  have status := fun g => h.regs (Reg.dmcStatus g) fun mem => (off _ mem).2 g rfl
  exact ⟨State.dramAt_congr h.board cfg status, State.dmcBytes_congr h.board cfg status⟩

theorem OnDmc.queuedBlock (r : Queued) : u.queuedBlock r = s.queuedBlock r := State.queuedBlock_congr (h.sameMap off).1 r

theorem OnDmc.queuedPlace (e : DmcId) (r : Queued) : u.queuedPlace e r = s.queuedPlace e r :=
  State.queuedPlace_congr (h.sameMap off).1 e r

theorem OnDmc.passEnds (r : Queued) : u.passEnds r ↔ s.passEnds r := by
  rw [State.passEnds, State.passEnds, h.queuedBlock off, (h.sameMap off).2]

end Map

/-- What the service of a request leaves, before the input port is looked at again. -/
structure Serviced (d : DmcId) (ch : ChannelId) (n : Nat) (r : Queued) (v u : State) : Prop where
  on : OnDmc d (notedRegs d) v u
  kept : u.dmc[d] = { v.dmc[d] with
    queues := v.dmc[d].queues.set ch (removeNth n (passOthers v.dmc[d].queues[ch] n r.req.cls))
    history := u.dmc[d].history, initialised := u.dmc[d].initialised }
  history : r.req.whole = false → ⟨v.gate, Config.dramCommand .read (v.queuedPlace d r)⟩ ∈ u.dmc[d].history[ch]
  wait : let lo := 16 * classRank r.req.cls
    u.fld (Reg.dmcMaxWait d.val) (lo + 15) lo =
      max (min ((v.gate.toNat - r.since.toNat) / 10) 65535) (v.fld (Reg.dmcMaxWait d.val) (lo + 15) lo)
  pass : v.passEnds r → u.reg (Reg.dmcScrubPassCount d.val) =
    BitVec.ofNat 64 (satAdd 32 (v.reg (Reg.dmcScrubPassCount d.val)).toNat 1)
  noPass : ¬ v.passEnds r → u.reg (Reg.dmcScrubPassCount d.val) = v.reg (Reg.dmcScrubPassCount d.val)
  covers : r.req.write = true → r.req.whole = false → v.initMark d ≤ v.queuedBlock r → v.dmcBytes < 2 ^ 64 →
    v.queuedBlock r < u.initMark d ∨ v.queuedBlock r ∈ u.dmc[d].initialised

theorem State.serviced_spec (v : State) (d : DmcId) (ch : ChannelId) (n : Nat) (r : Queued) (o : DramOutcome) :
    Serviced d ch n r v (v.serviced d ch n r o) := by
  obtain ⟨answered, own, history⟩ := v.answered_spec d ch n r (v.queuedPlace d r) (r.req.write || v.kindOf d r o = 1)
  have run : v.serviced d ch n r o = ((v.answered d ch n r (v.queuedPlace d r) (r.req.write || v.kindOf d r o = 1)).dramWait d
    r.req.cls r.since).afterService d r := rfl
  rw [run]
  generalize v.answered d ch n r (v.queuedPlace d r) (r.req.write || v.kindOf d r o = 1) = a at answered own history ⊢
  obtain ⟨waited, dmc⟩ := a.dramWait_on d r.req.cls r.since
  have wait := a.fld_dramWait d r.req.cls r.since
  generalize a.dramWait d r.req.cls r.since = w at waited dmc wait ⊢
  have before : OnDmc d [Reg.dmcMaxWait d.val] v w := (answered.mono (List.nil_subset _)).trans waited
  have off : ∀ o ∈ [Reg.dmcMaxWait d.val], OffMap o := fun o ho =>
    offMap_counts d o (by rw [List.mem_singleton.1 ho]; exact List.mem_cons_self)
  obtain ⟨service, same, pass, noPass⟩ := w.afterService_spec d r
  have count : w.reg (Reg.dmcScrubPassCount d.val) = v.reg (Reg.dmcScrubPassCount d.val) :=
    before.regs _ fun mem => dmcReg_ne (by decide) d.val (List.mem_singleton.1 mem)
  have untouched : Reg.dmcMaxWait d.val ∉ Reg.dmcScrubPassCount d.val :: markRegs d :=
    List.not_mem_cons_of_ne_of_not_mem (dmcReg_ne (by decide) d.val) (not_mem_markRegs (b := 0x800228) d (by decide) (by decide))
  refine ⟨(before.mono (by simp [notedRegs])).trans (service.mono (by simp [notedRegs])), ?_, fun reads => ?_, ?_, fun ends => ?_,
    fun goesOn => ?_, fun write part above small => ?_⟩
  · rw [same, dmc, own]
  · rw [same, dmc]
    exact history reads
  · have gate := answered.gate
    have old := answered.fld (o := Reg.dmcMaxWait d.val) List.not_mem_nil
    dsimp only at wait ⊢
    rw [service.fld untouched, wait, gate, old]
  · rw [pass ((before.passEnds off r).2 ends), count]
  · rw [noPass fun e => goesOn ((before.passEnds off r).1 e), count]
  · have mark : w.initMark d = v.initMark d := congrArg BitVec.toNat (before.regs _ fun mem =>
      dmcReg_ne (by decide) d.val (List.mem_singleton.1 mem))
    rw [State.afterService_of_partial w d r (DramRequest.requester_ne_scrub write part) (by rw [write, part]; rfl),
      before.queuedBlock off]
    refine State.initialise_covers ?_ ?_
    · rw [(before.sameMap off).2]
      exact small
    · rw [mark]
      exact Nat.not_lt.2 above

/-! ## Corrected blocks (R300, R368) -/

/-- The record of a corrected block. -/
def correctedReport (s : State) (d : DmcId) (a : Nat) (o : DramOutcome) : Report :=
  { mkReport s 0x03 0 (unitNo 4 d.val) 0 with detail := o.syndrome, addr := BitVec.ofNat 64 a }

theorem State.corrected_eq (s : State) (d : DmcId) (a : Nat) (o : DramOutcome) : s.corrected d a o =
    (s.inc (Reg.dmcCeCount d.val) 64 1).report (correctedReport s d a o) := rfl

/-- A corrected block is counted and reported, which touches no controller. -/
theorem State.corrected_spec (s : State) (d : DmcId) (a : Nat) (o : DramOutcome) : let u := s.corrected d a o
    u.dmc = s.dmc ∧ u.mem = s.mem ∧
    u.reg (Reg.dmcCeCount d.val) = BitVec.ofNat 64 (satAdd 64 (s.reg (Reg.dmcCeCount d.val)).toNat 1) ∧
    ∀ p, p < 0x900000 → p ≠ Reg.dmcCeCount d.val → u.reg p = s.reg p := by
  have frame := (s.inc (Reg.dmcCeCount d.val) 64 1).report_frame (correctedReport s d a o)
  dsimp only
  rw [State.corrected_eq]
  refine ⟨by rw [frame]; rfl, by rw [frame]; rfl, ?_, fun p small other => ?_⟩
  · rw [State.reg_report_of_lt _ _ (by unfold Reg.dmcCeCount; omega)]
    exact State.reg_setReg_same _ _ _
  · rw [State.reg_report_of_lt _ _ small]
    exact State.reg_setReg_ne _ _ _ _ other

/-! ## What the service of a request leaves -/

/-- What serving a request leaves of rows and counts of activates, whatever its outcome. -/
structure RowsKept (d : DmcId) (v u : State) : Prop where
  postponed : u.dmc[d].postponed = v.dmc[d].postponed
  openRows : u.dmc[d].openRows = v.dmc[d].openRows
  rolling : u.dmc[d].rolling = v.dmc[d].rolling
  activates : u.dmc[d].activates = v.dmc[d].activates
  neighbours : u.dmc[d].neighbours = v.dmc[d].neighbours
  nrCount : u.reg (Reg.dmcNrCount d.val) = v.reg (Reg.dmcNrCount d.val)

/-- What serving a request leaves that does not fail. -/
structure DramServed (d : DmcId) (ch : ChannelId) (n : Nat) (r : Queued) (o : DramOutcome) (v u : State) : Prop where
  rows : RowsKept d v u
  queue : ∃ more, u.dmc[d].queues[ch] = removeNth n (passOthers v.dmc[d].queues[ch] n r.req.cls) ++ more ∧
    (v.dmc[d].input = [] → more = [] ∧ u.mem = v.mem)
  failing : u.dmc[d].failing = v.dmc[d].failing
  history : r.req.whole = false → ⟨v.gate, Config.dramCommand .read (v.queuedPlace d r)⟩ ∈ u.dmc[d].history[ch]
  covers : r.req.write = true → r.req.whole = false → v.dmc[d].input = [] → v.initMark d ≤ v.queuedBlock r →
    v.dmcBytes < 2 ^ 64 → v.queuedBlock r < u.initMark d ∨ v.queuedBlock r ∈ u.dmc[d].initialised
  corrected : u.reg (Reg.dmcCeCount d.val) = if v.kindOf d r o = 1 then
    BitVec.ofNat 64 (satAdd 64 (v.reg (Reg.dmcCeCount d.val)).toNat 1) else v.reg (Reg.dmcCeCount d.val)
  report : v.kindOf d r o = 1 → ∃ e, e.cls = 3 ∧ e.detail = o.syndrome ∧ e.addr = BitVec.ofNat 64 r.req.addr ∧
    ∃ z : State, z.reports = v.reports ∧ z.reservedUsed = v.reservedUsed ∧ u.reports = (z.report e).reports
  pass : v.passEnds r → u.reg (Reg.dmcScrubPassCount d.val) =
    BitVec.ofNat 64 (satAdd 32 (v.reg (Reg.dmcScrubPassCount d.val)).toNat 1)
  noPass : ¬ v.passEnds r → u.reg (Reg.dmcScrubPassCount d.val) = v.reg (Reg.dmcScrubPassCount d.val)
  wait : let lo := 16 * classRank r.req.cls
    u.fld (Reg.dmcMaxWait d.val) (lo + 15) lo =
      max (min ((v.gate.toNat - r.since.toNat) / 10) 65535) (v.fld (Reg.dmcMaxWait d.val) (lo + 15) lo)

/-- A corrected block is counted and reported; of one that is sound nothing is said. -/
def State.reported (s : State) (d : DmcId) (r : Queued) (o : DramOutcome) (kind : Nat) : State :=
  if kind = 1 then s.corrected d r.req.addr o else s

theorem State.reported_spec (s : State) (d : DmcId) (r : Queued) (o : DramOutcome) (kind : Nat) : let u := s.reported d r o kind
    u.dmc = s.dmc ∧ u.mem = s.mem ∧ (∀ p, p < 0x900000 → p ≠ Reg.dmcCeCount d.val → u.reg p = s.reg p) ∧
    (u.reg (Reg.dmcCeCount d.val) = if kind = 1 then BitVec.ofNat 64 (satAdd 64 (s.reg (Reg.dmcCeCount d.val)).toNat 1)
      else s.reg (Reg.dmcCeCount d.val)) ∧
    (kind = 1 → ∃ e, e.cls = 3 ∧ e.detail = o.syndrome ∧ e.addr = BitVec.ofNat 64 r.req.addr ∧
      ∃ z : State, z.reports = s.reports ∧ z.reservedUsed = s.reservedUsed ∧ u.reports = (z.report e).reports) := by
  by_cases one : kind = 1
  · have run : s.reported d r o kind = s.corrected d r.req.addr o := if_pos one
    obtain ⟨dmc, mem, count, others⟩ := s.corrected_spec d r.req.addr o
    dsimp only
    rw [run, if_pos one]
    exact ⟨dmc, mem, others, count, fun _ => ⟨correctedReport s d r.req.addr o, rfl, rfl, rfl, s.inc (Reg.dmcCeCount d.val) 64 1, rfl,
      rfl, rfl⟩⟩
  · have run : s.reported d r o kind = s := if_neg one
    dsimp only
    rw [run, if_neg one]
    exact ⟨rfl, rfl, fun _ _ _ => rfl, rfl, fun e => absurd e one⟩

theorem not_mem_notedRegs {b : Nat} (d : DmcId) (other : b ∉ [0x800228, 0x800240, 0x800030, 0x800008]) :
    b + d.val * 0x10000 ∉ notedRegs d := by
  simp only [List.mem_cons, List.not_mem_nil, or_false, not_or] at other
  obtain ⟨wait, pass, mark, status⟩ := other
  simp only [notedRegs, List.cons_append, List.nil_append, List.mem_cons, not_or]
  exact ⟨dmcReg_ne wait d.val, dmcReg_ne pass d.val, not_mem_markRegs d mark status⟩

section DramServed

variable {v : State} {d : DmcId} {ch : ChannelId} {n : Nat} {r : Queued} {o : DramOutcome} (passes : v.kindOf d r o ≠ 2)

/-- The state that has served a request, its input port not looked at again. -/
def State.beforeDrain (v : State) (d : DmcId) (ch : ChannelId) (n : Nat) (r : Queued) (o : DramOutcome) : State :=
  (v.serviced d ch n r o).reported d r o (v.kindOf d r o)

include passes in
theorem State.serveDram_of_passes : v.serveDram d ch n r o = (v.beforeDrain d ch n r o).drainPort d :=
  (v.serveDram_eq d ch n r o).trans (if_neg passes)

/-- The registers of a controller but for those that a served request is counted in. -/
theorem State.reg_beforeDrain (v : State) (d : DmcId) (ch : ChannelId) (n : Nat) (r : Queued) (o : DramOutcome) :
    let u := (v.beforeDrain d ch n r o).drainPort d
    (∀ b, b < 0x10000 → b ≠ 0x30 → b ≠ 0x08 → b ≠ 0x200 → u.reg (0x800000 + b + d.val * 0x10000) =
      (v.serviced d ch n r o).reg (0x800000 + b + d.val * 0x10000)) ∧
    (u.reg (Reg.dmcCeCount d.val) = if v.kindOf d r o = 1 then
      BitVec.ofNat 64 (satAdd 64 (v.reg (Reg.dmcCeCount d.val)).toNat 1) else v.reg (Reg.dmcCeCount d.val)) := by
  obtain ⟨-, -, others, count, -⟩ := (v.serviced d ch n r o).reported_spec d r o (v.kindOf d r o)
  have drained := (v.beforeDrain d ch n r o).drainPort_spec d
  have serviced := v.serviced_spec d ch n r o
  refine ⟨fun b small mark status ce => ?_, ?_⟩
  · rw [drained.regs _ (not_mem_markRegs d (by omega) (by omega))]
    refine others _ (by omega) ?_
    unfold Reg.dmcCeCount
    omega
  · refine (drained.regs _ (not_mem_markRegs (b := 0x800200) d (by decide) (by decide))).trans (count.trans ?_)
    have same : (v.serviced d ch n r o).reg (Reg.dmcCeCount d.val) = v.reg (Reg.dmcCeCount d.val) :=
      serviced.on.regs _ (not_mem_notedRegs (b := 0x800200) d (by decide))
    rw [same]

include passes in
/-- A request that does not fail is served. -/
theorem State.served_of_passes : DramServed d ch n r o v (v.serveDram d ch n r o) := by
  rw [State.serveDram_of_passes passes]
  have serviced := v.serviced_spec d ch n r o
  obtain ⟨dmc, mem, others, -, report⟩ := (v.serviced d ch n r o).reported_spec d r o (v.kindOf d r o)
  obtain ⟨regs, count⟩ := v.reg_beforeDrain d ch n r o
  have drained := (v.beforeDrain d ch n r o).drainPort_spec d
  have own : (v.beforeDrain d ch n r o).dmc[d] = (v.serviced d ch n r o).dmc[d] := congrArg (·[d]) dmc
  have kept := drained.kept
  rw [own, serviced.kept] at kept
  have idle : v.dmc[d].input = [] → (v.beforeDrain d ch n r o).drainPort d = v.beforeDrain d ch n r o := fun empty =>
    State.drainPort_of_nil (by rw [own, serviced.kept]; exact empty)
  have nrCount : (v.serviced d ch n r o).reg (Reg.dmcNrCount d.val) = v.reg (Reg.dmcNrCount d.val) :=
    serviced.on.regs _ (not_mem_notedRegs (b := 0x800230) d (by decide))
  have pass := regs 0x240 (by decide) (by decide) (by decide) (by decide)
  have wait := regs 0x228 (by decide) (by decide) (by decide) (by decide)
  refine ⟨⟨?_, ?_, ?_, ?_, ?_, (regs 0x230 (by decide) (by decide) (by decide) (by decide)).trans nrCount⟩, ?_, ?_, fun reads => ?_,
    fun write part empty above small => ?_, count, fun one => ?_, fun ends => pass.trans (serviced.pass ends),
    fun goesOn => pass.trans (serviced.noPass goesOn), ?_⟩
  · rw [kept]
  · rw [kept]
  · rw [kept]
  · rw [kept]
  · rw [kept]
  · obtain ⟨more, behind⟩ := drained.behind ch
    rw [own, serviced.kept] at behind
    refine ⟨more, ?_, fun empty => ⟨?_, ?_⟩⟩
    · rw [behind]
      exact congrArg (· ++ more) ((Vector.getElem_set_fin ..).trans (if_pos rfl))
    · rw [idle empty, own, serviced.kept] at behind
      simpa using behind
    · rw [idle empty]
      exact mem.trans serviced.on.mem
  · rw [kept]
  · rw [kept]
    exact serviced.history reads
  · have mark : (v.beforeDrain d ch n r o).initMark d = (v.serviced d ch n r o).initMark d := congrArg BitVec.toNat
      (others _ (by unfold Reg.dmcInitMark; omega) (dmcReg_ne (by decide) d.val))
    rw [idle empty, own, mark]
    exact serviced.covers write part above small
  · obtain ⟨e, cls, detail, addr, z, reports, used, made⟩ := report one
    refine ⟨e, cls, detail, addr, z, reports.trans serviced.on.reports, used.trans serviced.on.reservedUsed, ?_⟩
    rw [drained.rest]
    exact made
  · exact (congrArg (field · _ _) wait).trans serviced.wait

/-- A request that fails keeps its place (R300, R305). -/
theorem State.served_of_fails (fails : v.kindOf d r o = 2) : let u := v.serveDram d ch n r o
    RowsKept d v u ∧ u.dmc[d].failing = some ⟨r.cause, r.req.addr / 64 * 64, v.queuedPlace d r, o.syndrome⟩ ∧
    u.dmc[d].queues = v.dmc[d].queues ∧ u.mem = v.mem := by
  have run := (v.serveDram_eq d ch n r o).trans (if_pos fails)
  obtain ⟨spoken, -⟩ := v.spoken_spec d ch r (v.queuedPlace d r) false
  generalize v.spoken d ch r (v.queuedPlace d r) false = y at run spoken
  have own : (y.failDram d r.cause r.req.addr (v.queuedPlace d r) o.syndrome).dmc[d] = { y.dmc[d] with
      failing := some ⟨r.cause, r.req.addr / 64 * 64, v.queuedPlace d r, o.syndrome⟩ } := State.dmc_setDmc_same _ _ _
  rw [spoken.kept] at own
  dsimp only
  rw [run]
  refine ⟨⟨?_, ?_, ?_, ?_, ?_, spoken.on.regs _ List.not_mem_nil⟩, ?_, ?_, spoken.on.mem⟩
  all_goals rw [own]

end DramServed

end Sys2Proof.Machine

/-! PROOF. What a channel does at a request's service (R295, R298, R300–R303). -/

namespace Sys2Proof.Machine

/-! ## The activate for a request -/

/-- The registers that upkeep may change. -/
def upkeepRegs (d : DmcId) : List Nat := [Reg.dmcNrCount d.val, Reg.dmcRfmCount d.val]

theorem offMap_upkeepRegs (d : DmcId) : ∀ o ∈ upkeepRegs d, OffMap o := fun o ho =>
  offMap_counts d o (List.mem_cons_of_mem _ ho)

/-- What the activate for a request leaves: its row is open, and no other of its bank. -/
structure Opened (d : DmcId) (ch : ChannelId) (bank row : Nat) (s u : State) : Prop where
  upkeep : UpkeepOn d [Reg.dmcNrCount d.val] s u
  postponed : u.dmc[d].postponed = s.dmc[d].postponed
  activates : u.dmc[d].activates = s.dmc[d].activates.set ch (s.dmc[d].activates[ch] + 1)
  openRows : u.dmc[d].openRows = s.dmc[d].openRows.filter (fun r => r.1 != bank) ++ [(bank, row)]
  rolling : u.dmc[d].rolling = writeOne 0 s.dmc[d].rolling bank (lookupD 0 s.dmc[d].rolling bank + 1)
  neighbours : u.dmc[d].neighbours = s.nearOf d ch bank row ++ s.dmc[d].neighbours
  count : u.reg (Reg.dmcNrCount d.val) = if s.drawn d ch s.dmc[d].activates[ch] then
    BitVec.ofNat 64 (satAdd 64 (s.reg (Reg.dmcNrCount d.val)).toNat 1) else s.reg (Reg.dmcNrCount d.val)

/-- An activate, and its row noted as open. -/
theorem Activated.opened {s v : State} {d : DmcId} {ch : ChannelId} {bank row : Nat} (activated : Activated d ch bank row s v) :
    Opened d ch bank row s (v.setDmc d { v.dmc[d] with openRows := v.dmc[d].openRows ++ [(bank, row)] }) := by
  have own : (v.setDmc d { v.dmc[d] with openRows := v.dmc[d].openRows ++ [(bank, row)] }).dmc[d] =
      { v.dmc[d] with openRows := v.dmc[d].openRows ++ [(bank, row)] } := State.dmc_setDmc_same _ _ _
  refine ⟨activated.upkeep.trans (.setDmc d _ v rfl), ?_, ?_, ?_, ?_, ?_, activated.count⟩
  · rw [own]
    exact activated.postponed
  · rw [own]
    exact activated.activates
  · rw [own]
    exact congrArg (· ++ _) activated.openRows
  · rw [own]
    exact activated.rolling
  · rw [own]
    exact activated.neighbours

theorem State.activate_spec (s : State) (d : DmcId) (loc : W64) :
    Opened d (placeChannel loc) (placeBank loc) (field loc 48 32) s (s.activate d loc) :=
  (s.activateRow_spec d (placeChannel loc) (placeBank loc) (field loc 48 32)).opened

/-- The rows next to one, where they exist. -/
theorem State.mem_nearOf {s : State} {d : DmcId} {ch : ChannelId} {bank row r : Nat} : (bank, r) ∈ s.nearOf d ch bank row ↔
    s.drawn d ch s.dmc[d].activates[ch] = true ∧ (r + 1 = row ∨ (r = row + 1 ∧ r < s.bankRows d)) := by
  have adjacent : r ∈ s.adjacent d row ↔ r + 1 = row ∨ (r = row + 1 ∧ r < s.bankRows d) := by
    unfold State.adjacent
    rw [List.mem_append]
    refine or_congr ?_ ?_
    · split
      · next zero => simp [zero]
      · rw [List.mem_singleton]
        omega
    · split
      · next inside =>
        rw [List.mem_singleton]
        exact ⟨fun e => ⟨e, e ▸ inside⟩, fun e => e.1⟩
      · next outside =>
        refine ⟨fun h => absurd h List.not_mem_nil, fun h => ?_⟩
        obtain ⟨rfl, inside⟩ := h
        exact absurd inside outside
  unfold State.nearOf
  split
  · next drawn =>
    rw [← adjacent, List.mem_map]
    exact ⟨fun ⟨_, mem, e⟩ => ⟨drawn, (Prod.mk.inj e).2 ▸ mem⟩, fun ⟨_, mem⟩ => ⟨r, mem, rfl⟩⟩
  · next undrawn => exact ⟨fun h => absurd h List.not_mem_nil, fun h => absurd h.1 undrawn⟩

/-! ## What the channel answers -/

section Service

variable {s : State} {d : DmcId} {ch : ChannelId} {o : DramOutcome}

/-- A request can not be served now: neighbour refresh is left over, or its bank is full. -/
def State.stuck (s : State) (d : DmcId) (bank : Nat) : Bool := s.nearDue d bank || s.bankFull d bank

/-- The state in which a request's row is open, behind what was due. -/
def State.ready (s : State) (d : DmcId) (ch : ChannelId) (loc : W64) : State :=
  if s.dmc[d].isOpen loc then s else (s.nearFirst d ch (placeBank loc)).activate d loc

theorem State.issueDue_upkeep (s : State) (d : DmcId) (ch : ChannelId) : UpkeepOn d (upkeepRegs d) s (s.issueDue d ch) :=
  (s.issueDue_spec d ch).upkeep.mono (by simp [upkeepRegs])

theorem State.nearFirst_upkeep (s : State) (d : DmcId) (ch : ChannelId) (bank : Nat) :
    UpkeepOn d (upkeepRegs d) s (s.nearFirst d ch bank) :=
  (State.refreshNear_spec d ch bank _ s).upkeep.mono (by simp [upkeepRegs])

theorem State.ready_upkeep (s : State) (d : DmcId) (ch : ChannelId) (loc : W64) : UpkeepOn d (upkeepRegs d) s (s.ready d ch loc) := by
  unfold State.ready
  split
  · exact .refl d _ s
  · exact (s.nearFirst_upkeep d ch _).trans ((State.activate_spec _ d loc).upkeep.mono (by simp [upkeepRegs]))

variable (runs : s.dmcRuns d = true) (awake : s.dmc[d].selfRefresh[ch] = false)

include runs awake

theorem execDramRequestServed_of_none (none : (s.issueDue d ch).nextIssue d s.dmc[d].queues[ch] = none) :
    execDramRequestServed d ch o s = ok (s.issueDue d ch) := by
  have queues := (s.issueDue_upkeep d ch).queues
  unfold execDramRequestServed
  rw [if_neg (by rw [runs, awake]; decide)]
  dsimp only
  rw [queues, none]

variable {n : Nat} {r : Queued}

theorem execDramRequestServed_of_some (next : (s.issueDue d ch).nextIssue d s.dmc[d].queues[ch] = some n)
    (at_ : s.dmc[d].queues[ch][n]? = some r) : execDramRequestServed d ch o s =
      let t := s.issueDue d ch
      let loc := s.queuedPlace d r
      if t.dmc[d].isOpen loc then ok (t.serveDram d ch n r o)
      else if (t.nearFirst d ch (placeBank loc)).stuck d (placeBank loc) then ok (t.nearFirst d ch (placeBank loc))
      else ok (((t.nearFirst d ch (placeBank loc)).activate d loc).serveDram d ch n r o) := by
  have queues := (s.issueDue_upkeep d ch).queues
  have place := (s.issueDue_upkeep d ch).toOnDmc.queuedPlace (offMap_upkeepRegs d) d r
  unfold execDramRequestServed
  rw [if_neg (by rw [runs, awake]; decide)]
  dsimp only
  rw [queues, next]
  dsimp only
  rw [at_]
  dsimp only
  rw [place]
  rfl

/-- A request that can be served is, its row open. -/
theorem execDramRequestServed_of_ready (next : (s.issueDue d ch).nextIssue d s.dmc[d].queues[ch] = some n)
    (at_ : s.dmc[d].queues[ch][n]? = some r) (goes : ¬ ((s.issueDue d ch).dmc[d].isOpen (s.queuedPlace d r) = false ∧
      ((s.issueDue d ch).nearFirst d ch (placeBank (s.queuedPlace d r))).stuck d (placeBank (s.queuedPlace d r)) = true)) :
    execDramRequestServed d ch o s = ok (((s.issueDue d ch).ready d ch (s.queuedPlace d r)).serveDram d ch n r o) := by
  refine (execDramRequestServed_of_some runs awake next at_).trans ?_
  dsimp only
  unfold State.ready
  by_cases opened : (s.issueDue d ch).dmc[d].isOpen (s.queuedPlace d r) = true
  · rw [if_pos opened, if_pos opened]
  · have free := fun stuck => goes ⟨by simpa using opened, stuck⟩
    rw [if_neg opened, if_neg opened, if_neg free]

theorem execDramRequestServed_of_stuck (next : (s.issueDue d ch).nextIssue d s.dmc[d].queues[ch] = some n)
    (at_ : s.dmc[d].queues[ch][n]? = some r) (closed : (s.issueDue d ch).dmc[d].isOpen (s.queuedPlace d r) = false)
    (stuck : ((s.issueDue d ch).nearFirst d ch (placeBank (s.queuedPlace d r))).stuck d (placeBank (s.queuedPlace d r)) = true) :
    execDramRequestServed d ch o s = ok ((s.issueDue d ch).nearFirst d ch (placeBank (s.queuedPlace d r))) := by
  refine (execDramRequestServed_of_some runs awake next at_).trans ?_
  dsimp only
  rw [closed, if_neg Bool.false_ne_true, if_pos stuck]

end Service

/-! ## No bank goes beyond the device's maximum (R301) -/

/-- Counts of activates that rise no further than the device allows. -/
structure Bounded (d : DmcId) (s u : State) : Prop where
  sorted : canonical 0 s.dmc[d].rolling = true → canonical 0 u.dmc[d].rolling = true
  bound : canonical 0 s.dmc[d].rolling = true → ∀ m b, s.board.rfm = some m →
    lookupD 0 u.dmc[d].rolling b ≤ max m.maximum (lookupD 0 s.dmc[d].rolling b)
  board : u.board = s.board

theorem Bounded.trans {d : DmcId} {s t u : State} (h : Bounded d s t) (g : Bounded d t u) : Bounded d s u where
  sorted := g.sorted ∘ h.sorted
  bound hc m b hm := by
    have first := h.bound hc m b hm
    have second := g.bound (h.sorted hc) m b (by rw [h.board]; exact hm)
    omega
  board := g.board.trans h.board

theorem Bounded.issueDue (s : State) (d : DmcId) (ch : ChannelId) : Bounded d s (s.issueDue d ch) where
  sorted hc := ((s.issueDue_spec d ch).rolling hc).1
  bound hc _ b _ := (((s.issueDue_spec d ch).rolling hc).2 b).trans (le_max_right _ _)
  board := (s.issueDue_spec d ch).upkeep.board

theorem Bounded.nearFirst (s : State) (d : DmcId) (ch : ChannelId) (bank : Nat) : Bounded d s (s.nearFirst d ch bank) := by
  have near := State.refreshNear_spec d ch bank (s.dmc[d].neighbours.length + 64) s
  refine ⟨near.canonical, fun _ m b hm => ?_, near.upkeep.board⟩
  by_cases own : b = bank
  · rw [own]
    exact near.bound m hm
  · exact (near.others b own).trans_le (le_max_right _ _)

/-- The activate of a bank that is not full. -/
theorem Bounded.activate {s : State} {d : DmcId} {loc : W64} (room : s.bankFull d (placeBank loc) = false) :
    Bounded d s (s.activate d loc) := by
  have opened := s.activate_spec d loc
  refine ⟨fun hc => by rw [opened.rolling]; exact canonical_writeOne 0 _ _ _ hc, fun _ m b hm => ?_, opened.upkeep.board⟩
  have lt := State.lt_of_bankFull room hm
  rw [opened.rolling, lookupD_writeOne]
  split
  · omega
  · exact le_max_right _ _

/-- A request's row is opened within the device's maximum. -/
theorem Bounded.ready {s : State} {d : DmcId} {ch : ChannelId} {loc : W64} (goes : ¬ (s.dmc[d].isOpen loc = false ∧
    (s.nearFirst d ch (placeBank loc)).stuck d (placeBank loc) = true)) : Bounded d s (s.ready d ch loc) := by
  unfold State.ready
  split
  · exact ⟨id, fun _ _ _ _ => le_max_right _ _, rfl⟩
  · next closed =>
    have free := Bool.eq_false_iff.2 fun stuck => goes ⟨by simpa using closed, stuck⟩
    exact (Bounded.nearFirst s d ch _).trans (.activate (Bool.or_eq_false_iff.1 free).2)

end Sys2Proof.Machine

/-! PROOF. What a channel does with its next request, and the service of the DRAM as a whole (R295–R305). -/

namespace Sys2Proof.Machine

/-! ## Upkeep leaves what a request needs -/

theorem not_mem_upkeepRegs {b : Nat} (d : DmcId) (near : b ≠ 0x800230) (rfm : b ≠ 0x800238) : b + d.val * 0x10000 ∉ upkeepRegs d := by
  simp only [upkeepRegs, List.mem_cons, List.not_mem_nil, or_false, not_or]
  exact ⟨dmcReg_ne near d.val, dmcReg_ne rfm d.val⟩

section Upkeep

variable {d : DmcId} {s v : State} (h : UpkeepOn d (upkeepRegs d) s v)

include h

theorem UpkeepOn.initMark : v.initMark d = s.initMark d :=
  congrArg BitVec.toNat (h.regs _ (not_mem_upkeepRegs (b := 0x800030) d (by decide) (by decide)))

theorem UpkeepOn.kindOf (r : Queued) (o : DramOutcome) : v.kindOf d r o = s.kindOf d r o := by
  rw [State.kindOf, State.kindOf, State.checks, State.checks, State.blockChecked, State.blockChecked,
    h.toOnDmc.queuedBlock (offMap_upkeepRegs d), h.initMark, h.initialised]

/-- The draw of R302 is that of the seed and of the share that is set. -/
theorem UpkeepOn.drawn_iff (c : ChannelId) (k : Nat) : v.drawn d c k = true ↔
    draw24 (s.reg (Reg.dmcNrSeed d.val)) (0xFF00 + 4 * d.val + c.val) k < 2 ^ (24 - s.fld (Reg.dmcCtrl d.val) 23 20) := by
  have seed : v.reg (Reg.dmcNrSeed d.val) = s.reg (Reg.dmcNrSeed d.val) :=
    h.regs _ (not_mem_upkeepRegs (b := 0x800020) d (by decide) (by decide))
  have share : v.fld (Reg.dmcCtrl d.val) 23 20 = s.fld (Reg.dmcCtrl d.val) 23 20 :=
    h.fld (not_mem_upkeepRegs (b := 0x800010) d (by decide) (by decide)) 23 20
  rw [State.drawn, decide_eq_true_iff, seed, share]

theorem UpkeepOn.bankRows : v.bankRows d = s.bankRows d := by
  have cfg : v.fld (Reg.dmcCfg d.val) 11 8 = s.fld (Reg.dmcCfg d.val) 11 8 :=
    h.fld (not_mem_upkeepRegs (b := 0x800000) d (by decide) (by decide)) 11 8
  rw [State.bankRows, State.bankRows, cfg]

end Upkeep

/-! ## A request is served -/

section Service

variable {s : State} {d : DmcId} {ch : ChannelId} {n : Nat} {r : Queued} {o : DramOutcome}

/-- The rows stay as they were when the request was ready, whatever comes of it. -/
theorem rowsKept_serveDram (v : State) (d : DmcId) (ch : ChannelId) (n : Nat) (r : Queued) (o : DramOutcome) :
    RowsKept d v (v.serveDram d ch n r o) := by
  by_cases fails : v.kindOf d r o = 2
  · exact (State.served_of_fails fails).1
  · exact (State.served_of_passes fails).rows

/-- What the service of a request in s leaves that does not fail. -/
def DramAnswered (s : State) (d : DmcId) (ch : ChannelId) (n : Nat) (r : Queued) (o : DramOutcome) (u : State) : Prop :=
  (∃ more, (u.dmc[d]).queues[ch] = removeNth n (passOthers s.dmc[d].queues[ch] n r.req.cls) ++ more ∧
    (s.dmc[d].input = [] → more = [] ∧ u.mem = s.mem)) ∧
  (u.dmc[d]).failing = none ∧
  (r.req.whole = false → ⟨s.gate, Config.dramCommand .read (s.queuedPlace d r)⟩ ∈ (u.dmc[d]).history[ch]) ∧
  (r.req.write = true → r.req.whole = false → s.dmc[d].input = [] → s.initMark d ≤ s.queuedBlock r → s.dmcBytes < 2 ^ 64 →
    s.queuedBlock r < u.initMark d ∨ s.queuedBlock r ∈ (u.dmc[d]).initialised) ∧
  u.reg (Reg.dmcCeCount d) = (if s.kindOf d r o = 1 then BitVec.ofNat 64 (satAdd 64 (s.reg (Reg.dmcCeCount d)).toNat 1)
    else s.reg (Reg.dmcCeCount d)) ∧
  (s.kindOf d r o = 1 → ∃ e, e.cls = 3 ∧ e.detail = o.syndrome ∧ e.addr = BitVec.ofNat 64 r.req.addr ∧
    ∃ z : State, z.reports = s.reports ∧ z.reservedUsed = s.reservedUsed ∧ u.reports = (z.report e).reports) ∧
  u.reg (Reg.dmcScrubPassCount d) = (if r.req.requester = .scrub ∧ s.queuedBlock r + 1 = s.dmcBytes / 64 then
    BitVec.ofNat 64 (satAdd 32 (s.reg (Reg.dmcScrubPassCount d)).toNat 1) else s.reg (Reg.dmcScrubPassCount d)) ∧
  (let lo := 16 * classRank r.req.cls
   u.fld (Reg.dmcMaxWait d) (lo + 15) lo =
     max (min ((s.gate.toNat - r.since.toNat) / 10) 65535) (s.fld (Reg.dmcMaxWait d) (lo + 15) lo))

/-- A request is served behind the channel's upkeep as it would be at once. -/
theorem dramAnswered_of_upkeep {v : State} (upkeep : UpkeepOn d (upkeepRegs d) s v) (quiet : s.dmc[d].failing = none)
    (passes : s.kindOf d r o ≠ 2) : DramAnswered s d ch n r o (v.serveDram d ch n r o) := by
  have kind := upkeep.kindOf r o
  have block := upkeep.toOnDmc.queuedBlock (offMap_upkeepRegs d) r
  have place := upkeep.toOnDmc.queuedPlace (offMap_upkeepRegs d) d r
  have ends := upkeep.toOnDmc.passEnds (offMap_upkeepRegs d) r
  have bytes := (upkeep.toOnDmc.sameMap (offMap_upkeepRegs d)).2
  have ce : v.reg (Reg.dmcCeCount d.val) = s.reg (Reg.dmcCeCount d.val) :=
    upkeep.regs _ (not_mem_upkeepRegs (b := 0x800200) d (by decide) (by decide))
  have passCount : v.reg (Reg.dmcScrubPassCount d.val) = s.reg (Reg.dmcScrubPassCount d.val) :=
    upkeep.regs _ (not_mem_upkeepRegs (b := 0x800240) d (by decide) (by decide))
  have wait := upkeep.fld (not_mem_upkeepRegs (b := 0x800228) d (by decide) (by decide))
    (16 * classRank r.req.cls + 15) (16 * classRank r.req.cls)
  have served : DramServed d ch n r o v (v.serveDram d ch n r o) := State.served_of_passes (by rw [kind]; exact passes)
  refine ⟨?_, ?_, fun reads => ?_, fun write part empty above small => ?_, ?_, fun one => ?_, ?_, ?_⟩
  · obtain ⟨more, queue, idle⟩ := served.queue
    rw [upkeep.queues] at queue
    rw [upkeep.input, upkeep.mem] at idle
    exact ⟨more, queue, idle⟩
  · rw [served.failing, upkeep.failing, quiet]
  · have history := served.history reads
    rwa [upkeep.gate, place] at history
  · have covers := served.covers write part (by rw [upkeep.input]; exact empty)
    rw [block, upkeep.initMark, bytes] at covers
    exact covers above small
  · have corrected := served.corrected
    rwa [kind, ce] at corrected
  · obtain ⟨e, cls, detail, addr, z, reports, used, made⟩ := served.report (by rw [kind]; exact one)
    exact ⟨e, cls, detail, addr, z, reports.trans upkeep.reports, used.trans upkeep.reservedUsed, made⟩
  · by_cases pass : s.passEnds r
    · rw [served.pass (ends.2 pass), passCount]
      exact (if_pos pass).symm
    · rw [served.noPass fun e => pass (ends.1 e), passCount]
      exact (if_neg pass).symm
  · have longest := served.wait
    rw [upkeep.gate] at longest
    exact longest.trans (congrArg (max _) wait)

/-- What a request's activate leaves behind, where its row was closed. -/
def RowOpened (s t1 : State) (d : DmcId) (loc : W64) (u : State) : Prop :=
  let c := placeChannel loc
  let y := t1.dmc[d]
  let k := y.activates[c]
  let row := field loc 48 32
  let chosen := draw24 (s.reg (Reg.dmcNrSeed d)) (0xFF00 + 4 * d.val + c.val) k < 2 ^ (24 - s.fld (Reg.dmcCtrl d) 23 20)
  (u.dmc[d]).activates = y.activates.set c (k + 1) ∧
  (placeBank loc, row) ∈ (u.dmc[d]).openRows ∧ (∀ r', (placeBank loc, r') ∈ (u.dmc[d]).openRows → r' = row) ∧
  (chosen → u.reg (Reg.dmcNrCount d) = BitVec.ofNat 64 (satAdd 64 (t1.reg (Reg.dmcNrCount d)).toNat 1) ∧
    ∀ r', (placeBank loc, r') ∈ (u.dmc[d]).neighbours ↔ (r' + 1 = row ∨ (r' = row + 1 ∧ r' < s.bankRows d))) ∧
  (¬ chosen → u.reg (Reg.dmcNrCount d) = t1.reg (Reg.dmcNrCount d) ∧ ∀ r', (placeBank loc, r') ∉ (u.dmc[d]).neighbours)

theorem rowOpened_activate {t1 : State} {loc : W64} (upkeep : UpkeepOn d (upkeepRegs d) s t1)
    (done : t1.nearDue d (placeBank loc) = false) {u : State} (rows : RowsKept d (t1.activate d loc) u) :
    RowOpened s t1 d loc u := by
  have opened := t1.activate_spec d loc
  have drawn := upkeep.drawn_iff (placeChannel loc) t1.dmc[d].activates[placeChannel loc]
  have alone : ∀ r', (placeBank loc, r') ∈ u.dmc[d].neighbours ↔
      (placeBank loc, r') ∈ t1.nearOf d (placeChannel loc) (placeBank loc) (field loc 48 32) := fun r' => by
    rw [rows.neighbours, opened.neighbours, List.mem_append]
    refine or_iff_left fun left => ?_
    have none := List.any_eq_false.1 done _ left
    simp at none
  refine ⟨rows.activates.trans opened.activates, ?_, fun r' mem => ?_, fun chosen => ⟨?_, fun r' => ?_⟩,
    fun unchosen => ⟨?_, fun r' near => ?_⟩⟩
  · rw [rows.openRows, opened.openRows]
    exact List.mem_append_right _ (List.mem_singleton.2 rfl)
  · rw [rows.openRows, opened.openRows, List.mem_append] at mem
    rcases mem with other | own
    · simp at other
    · exact (Prod.mk.inj (List.mem_singleton.1 own)).2
  · rw [rows.nrCount, opened.count, if_pos (drawn.2 chosen)]
  · rw [alone, State.mem_nearOf, upkeep.bankRows]
    exact and_iff_right (drawn.2 chosen)
  · rw [rows.nrCount, opened.count, if_neg fun chosen => unchosen (drawn.1 chosen)]
  · rw [alone, State.mem_nearOf] at near
    exact unchosen (drawn.1 near.1)

end Service

/-! ## R295, R298, R300–R303 of a channel's next request -/

section Answers

variable {s : State} {d : DmcId} {ch : ChannelId} {o : DramOutcome} (runs : s.dmcRuns d = true)
  (awake : s.dmc[d].selfRefresh[ch] = false)

/-- What is due leaves the requests. -/
theorem issueDue_leaves (s : State) (d : DmcId) (ch : ChannelId) : let x := s.dmc[d]
    let t := s.issueDue d ch
    let limit := x.postponed[ch] ≠ 0 ∧ Config.refreshPostpone ≤ x.postponed[ch]
    (t.dmc[d]).queues = x.queues ∧ (t.dmc[d]).input = x.input ∧ t.mem = s.mem ∧
    (t.dmc[d]).postponed = (if limit then x.postponed.set ch (x.postponed[ch] - 1) else x.postponed) ∧
    (t.reg (Reg.dmcRfmCount d)) = (if (s.rfmBanks d ch).isEmpty = true then s.reg (Reg.dmcRfmCount d) else
      BitVec.ofNat 64 (satAdd 64 (s.reg (Reg.dmcRfmCount d)).toNat (s.rfmBanks d ch).length)) ∧
    (¬ limit → (s.rfmBanks d ch).isEmpty = true → t = s) := by
  have due := s.issueDue_spec d ch
  refine ⟨due.upkeep.queues, due.upkeep.input, due.upkeep.mem, ?_, due.count, due.idle⟩
  by_cases forced : s.refreshForced d ch
  · exact (due.forced forced).trans (if_pos forced).symm
  · exact (due.free forced).trans (if_neg forced).symm

include runs awake

/-- The channel does what is due, and no bank goes beyond the device's maximum. -/
theorem gives_dramRequestServed_bounded : Gives (.dramRequestServed d ch o) s (fun u =>
    (u.dmc[d]).postponed = ((s.issueDue d ch).dmc[d]).postponed ∧
    (canonical 0 s.dmc[d].rolling = true → ∀ m b, s.board.rfm = some m →
      lookupD 0 (u.dmc[d]).rolling b ≤ max m.maximum (lookupD 0 s.dmc[d].rolling b))) := by
  have due : Bounded d s (s.issueDue d ch) := .issueDue s d ch
  have exec_eq := exec_dramRequestServed d ch o s
  cases next : (s.issueDue d ch).nextIssue d s.dmc[d].queues[ch] with
  | none => exact ⟨_, exec_eq.trans (execDramRequestServed_of_none runs awake next), rfl, due.bound⟩
  | some n =>
    obtain ⟨r, at_, -⟩ := (nextIssue_choice (s.issueDue d ch) d s.dmc[d].queues[ch]).2 n next
    by_cases stuck : (s.issueDue d ch).dmc[d].isOpen (s.queuedPlace d r) = false ∧
      ((s.issueDue d ch).nearFirst d ch (placeBank (s.queuedPlace d r))).stuck d (placeBank (s.queuedPlace d r)) = true
    · exact ⟨_, exec_eq.trans (execDramRequestServed_of_stuck runs awake next at_ stuck.1 stuck.2),
        (State.refreshNear_spec ..).postponed, (due.trans (.nearFirst _ d ch _)).bound⟩
    · have rows := rowsKept_serveDram ((s.issueDue d ch).ready d ch (s.queuedPlace d r)) d ch n r o
      refine ⟨_, exec_eq.trans (execDramRequestServed_of_ready runs awake next at_ stuck), ?_, ?_⟩
      · rw [rows.postponed]
        unfold State.ready
        split
        · rfl
        · exact ((State.activate_spec ..).postponed).trans (State.refreshNear_spec ..).postponed
      · rw [rows.rolling]
        exact (due.trans (.ready stuck)).bound

theorem gives_dramRequestServed_none (none : (s.issueDue d ch).nextIssue d s.dmc[d].queues[ch] = none) :
    Gives (.dramRequestServed d ch o) s (fun u => u = s.issueDue d ch) :=
  ⟨_, (exec_dramRequestServed d ch o s).trans (execDramRequestServed_of_none runs awake none), rfl⟩

/-- Before a request: the neighbour refresh that is due in its bank, where its row is closed. -/
def State.beforeRequest (t : State) (d : DmcId) (ch : ChannelId) (loc : W64) : State :=
  if t.dmc[d].isOpen loc then t else t.nearFirst d ch (placeBank loc)

omit runs awake in
theorem State.beforeRequest_leaves (s : State) (d : DmcId) (ch : ChannelId) (loc : W64) : let t := s.issueDue d ch
    let t1 := t.beforeRequest d ch loc
    UpkeepOn d (upkeepRegs d) s t1 ∧
    (t.dmc[d].isOpen loc = false → (∀ b ∈ t.dmc[d].neighbours, b.1 ≠ placeBank loc) → t1 = t) := by
  intro t t1
  refine ⟨(s.issueDue_upkeep d ch).trans ?_, fun closed none => ?_⟩
  · show UpkeepOn d (upkeepRegs d) t (t.beforeRequest d ch loc)
    unfold State.beforeRequest
    split
    · exact .refl d _ t
    · exact t.nearFirst_upkeep d ch _
  · show t.beforeRequest d ch loc = t
    rw [State.beforeRequest, closed, if_neg Bool.false_ne_true]
    exact State.refreshNear_of_none none ch _

section Next

variable {n : Nat} {r : Queued} (next : (s.issueDue d ch).nextIssue d s.dmc[d].queues[ch] = some n)
  (at_ : s.dmc[d].queues[ch][n]? = some r)

/-- The channel's next request can not be served yet. -/
def State.nextStuck (s : State) (d : DmcId) (ch : ChannelId) (r : Queued) : Prop :=
  (s.issueDue d ch).dmc[d].isOpen (s.queuedPlace d r) = false ∧
  (((s.issueDue d ch).beforeRequest d ch (s.queuedPlace d r)).nearDue d (placeBank (s.queuedPlace d r)) ||
    ((s.issueDue d ch).beforeRequest d ch (s.queuedPlace d r)).bankFull d (placeBank (s.queuedPlace d r))) = true

omit runs awake in
theorem State.beforeRequest_of_closed {t : State} {loc : W64} (closed : t.dmc[d].isOpen loc = false) :
    t.beforeRequest d ch loc = t.nearFirst d ch (placeBank loc) := by
  rw [State.beforeRequest, closed, if_neg Bool.false_ne_true]

omit runs awake in
theorem State.nextStuck_iff (s : State) (d : DmcId) (ch : ChannelId) (r : Queued) : s.nextStuck d ch r ↔
    (s.issueDue d ch).dmc[d].isOpen (s.queuedPlace d r) = false ∧
    ((s.issueDue d ch).nearFirst d ch (placeBank (s.queuedPlace d r))).stuck d (placeBank (s.queuedPlace d r)) = true := by
  unfold State.nextStuck
  refine and_congr_right fun closed => ?_
  rw [State.beforeRequest_of_closed closed]
  rfl

include next at_

theorem gives_dramRequestServed_stuck (stuck : s.nextStuck d ch r) : Gives (.dramRequestServed d ch o) s
    (fun u => u = (s.issueDue d ch).beforeRequest d ch (s.queuedPlace d r)) := by
  obtain ⟨closed, left⟩ := (s.nextStuck_iff d ch r).1 stuck
  exact ⟨_, (exec_dramRequestServed d ch o s).trans (execDramRequestServed_of_stuck runs awake next at_ closed left),
    (State.beforeRequest_of_closed closed).symm⟩

/-- What is served, where the request can be. -/
theorem exec_dramRequestServed_of_free (free : ¬ s.nextStuck d ch r) : exec (.dramRequestServed d ch o) s =
    ok (((s.issueDue d ch).ready d ch (s.queuedPlace d r)).serveDram d ch n r o) :=
  (exec_dramRequestServed d ch o s).trans
    (execDramRequestServed_of_ready runs awake next at_ fun stuck => free ((s.nextStuck_iff d ch r).2 stuck))

theorem gives_dramRequestServed_answered (free : ¬ s.nextStuck d ch r) (passes : s.kindOf d r o ≠ 2) :
    Gives (.dramRequestServed d ch o) s (DramAnswered s d ch n r o) :=
  ⟨_, exec_dramRequestServed_of_free runs awake next at_ free,
    dramAnswered_of_upkeep ((s.issueDue_upkeep d ch).trans (State.ready_upkeep _ d ch _)) (State.of_dmcRuns runs).2.2 passes⟩

theorem gives_dramRequestServed_failed (free : ¬ s.nextStuck d ch r) (fails : s.kindOf d r o = 2) :
    Gives (.dramRequestServed d ch o) s (fun u =>
      (u.dmc[d]).failing = some ⟨r.cause, r.req.addr / 64 * 64, s.queuedPlace d r, o.syndrome⟩ ∧
      (u.dmc[d]).queues = s.dmc[d].queues ∧ u.mem = s.mem) := by
  have upkeep := (s.issueDue_upkeep d ch).trans (State.ready_upkeep (s.issueDue d ch) d ch (s.queuedPlace d r))
  obtain ⟨-, failing, queues, mem⟩ := State.served_of_fails (ch := ch) (n := n) ((upkeep.kindOf r o).trans fails)
  rw [upkeep.toOnDmc.queuedPlace (offMap_upkeepRegs d)] at failing
  exact ⟨_, exec_dramRequestServed_of_free runs awake next at_ free, failing, queues.trans upkeep.queues, mem.trans upkeep.mem⟩

theorem gives_dramRequestServed_opened (free : ¬ s.nextStuck d ch r)
    (closed : (s.issueDue d ch).dmc[d].isOpen (s.queuedPlace d r) = false) : Gives (.dramRequestServed d ch o) s
      (RowOpened s ((s.issueDue d ch).beforeRequest d ch (s.queuedPlace d r)) d (s.queuedPlace d r)) := by
  have upkeep := (s.beforeRequest_leaves d ch (s.queuedPlace d r)).1
  have ready : (s.issueDue d ch).ready d ch (s.queuedPlace d r) =
      ((s.issueDue d ch).beforeRequest d ch (s.queuedPlace d r)).activate d (s.queuedPlace d r) := by
    rw [State.ready, closed, if_neg Bool.false_ne_true, State.beforeRequest_of_closed closed]
  have run := exec_dramRequestServed_of_free (o := o) runs awake next at_ free
  rw [ready] at run
  have quiet := Bool.or_eq_false_iff.1 (Bool.eq_false_iff.2 fun left => free ⟨closed, left⟩)
  exact ⟨_, run, rowOpened_activate upkeep quiet.1 (rowsKept_serveDram _ d ch n r o)⟩

end Next

end Answers

end Sys2Proof.Machine

namespace Sys2Proof

open Machine

/-- Settles O51: where an address lies, the requests that come, the choice among them, their service, and the channel's upkeep. -/
theorem dramService : Obligations.DramService := by
  unfold Obligations.DramService
  refine ⟨fun s a => ⟨fun g live size => ?_, State.dramAt_of_dead, fun d l => State.dramAddr_of_dramAt⟩,
    ⟨dramRequest_arrives, fun s d runs => ⟨fun below awake o => ⟨fun due => ?_, gives_scrubRead_early⟩, fun below => ?_,
      fun below small at_ empty room => gives_initBlock_accepted runs below small at_ empty room⟩⟩,
    nextIssue_choice, fun s d ch o runs awake => ⟨issueDue_leaves s d ch, gives_dramRequestServed_bounded runs awake,
      gives_dramRequestServed_none runs awake, fun n r next at_ => ?_⟩, refreshNear_leaves, fun s d ch on => ⟨fun n r => gives_dramAgePromotion on,
      fun n r => gives_dramPortPromotion on, fun state awake => ⟨gives_refreshManagement on state awake,
        gives_refreshDue on state awake⟩, fun runs awake enabled empty input =>
        gives_selfRefreshEntry runs awake enabled empty input, gives_selfRefreshEntry_disabled, gives_selfRefreshExit on,
      gives_modeRegisterCheck, gives_calibrationDue⟩⟩
  · exact ⟨_, State.val_homeOf a live, State.dramAt_of_live live size⟩
  · obtain ⟨u, run, comes, block⟩ := gives_scrubRead runs below awake due
    exact ⟨u, run, comes, block⟩
  · exact ⟨_, exec_initBlock_of_below runs below, comes_enqueueDram runs _ (.inr rfl)⟩
  · obtain ⟨upkeep, same⟩ := s.beforeRequest_leaves d ch (s.queuedPlace d r)
    exact ⟨⟨upkeep.queues, upkeep.mem, same⟩, gives_dramRequestServed_stuck runs awake next at_,
      gives_dramRequestServed_answered runs awake next at_, gives_dramRequestServed_failed runs awake next at_,
      gives_dramRequestServed_opened runs awake next at_⟩

end Sys2Proof
